-- ==== Sys2Proof/Word.lean ====
section
/-! DEFINITION. The word types of the block and the names of its parts that have a fixed count (R8, R18, R21). -/

namespace Sys2Proof

/-- One byte. -/
abbrev Byte := BitVec 8
/-- A 32-bit register or word. -/
abbrev W32 := BitVec 32
/-- A 64-bit register, event word or operation word. -/
abbrev W64 := BitVec 64
/-- The 64 bytes of one beat, byte 0 in bits 7:0 (R11). -/
abbrev Beat := BitVec 512

/-- A half: 0 West, 1 East (R18). Direction d of the Footbridge is named by its transmitting half:
0 West-to-East, 1 East-to-West (13_footbridge_seam.md). -/
abbrev Half := Fin 2
/-- A region, 0-7 (R18). -/
abbrev Region := Fin 8
/-- A logical block of a region, 0-31 (R18). -/
abbrev Blk := Fin 32
/-- An engine port, 0-31 (R21). -/
abbrev EPort := Fin 32
/-- An event ingress or egress port, 0-7 (R21). -/
abbrev EvPort := Fin 8
/-- A Rill port, 0-1 (R21). -/
abbrev RPort := Fin 2
/-- A Footbridge packet class: 0 REQ, 1 RSP, 2 EVT, 3 SIG (R369). -/
abbrev FbClass := Fin 4

/-- The ports that reach the control space: the control port, the management port, and the Gatehouse, whose
accesses have the rights of the management port (R24). -/
inductive RegPort where
  | cp
  | mp
  | gh
  deriving DecidableEq, Repr

/-- The two supply rails that the 0.68 V detectors watch (R412). -/
inductive Rail where
  | vddl
  | vdda
  | vddaon
  deriving DecidableEq, Repr

/-- The eight atomic operations of req_op 0x2-0x9 (R108). -/
inductive AtomOp where
  | addS8
  | addI32
  | addF32
  | minI32
  | maxI32
  | swap64
  | cas64
  | trace
  deriving DecidableEq, Repr

/-- req_op (R108). -/
inductive ReqOp where
  | read
  | write
  | atom (a : AtomOp)
  | sem
  | doorbell
  | reserved (code : BitVec 2)
  deriving DecidableEq, Repr

end Sys2Proof
end

