-- ==== Sys2Proof/Machine/Table.lean ====
section
/-! DEFINITION. Sparse stores: a list of keys and values in one canonical form, keys strictly rising and no value equal
to the one an unlisted key reads as; and fixed-count files of registers. -/

namespace Sys2Proof.Machine

/-- A sparse store. The value of an unlisted key is given where the store is read. -/
abbrev Table (α : Type) := List (Nat × α)

/-- The value at key k, d where k is not listed. -/
def tget {α : Type} (d : α) : Table α → Nat → α
  | [], _ => d
  | (k, v) :: t, n => if k = n then v else tget d t n

/-- Put v at key k. Writing the unlisted value removes the entry, so equal stores are equal lists. -/
def tset {α : Type} [DecidableEq α] (d : α) (t : Table α) (k : Nat) (v : α) : Table α :=
  t.filter (fun e => decide (e.1 < k)) ++ (if v = d then [] else [(k, v)]) ++ t.filter (fun e => decide (k < e.1))

/-- Every key in lo .. hi-1 returns to the unlisted value. -/
def tclear {α : Type} (t : Table α) (lo hi : Nat) : Table α :=
  t.filter (fun e => decide (e.1 < lo) || decide (hi ≤ e.1))

/-- The entries of a run of consecutive values from key k, unlisted values left out. -/
def trun {α : Type} [DecidableEq α] (d : α) : Nat → List α → Table α
  | _, [] => []
  | k, v :: vs => if v = d then trun d (k + 1) vs else (k, v) :: trun d (k + 1) vs

/-- Put a run of consecutive values from key k. -/
def tputs {α : Type} [DecidableEq α] (d : α) (t : Table α) (k : Nat) (vs : List α) : Table α :=
  t.filter (fun e => decide (e.1 < k)) ++ trun d k vs ++ t.filter (fun e => decide (k + vs.length ≤ e.1))

/-- The values of the n keys from k. -/
def tgets {α : Type} (d : α) (t : Table α) (k : Nat) : Nat → List α
  | 0 => []
  | n + 1 => tget d t k :: tgets d t (k + 1) n

/-- Every key is above b and the keys rise strictly, and no value is the unlisted one. -/
def tokFrom {α : Type} [DecidableEq α] (d : α) : Option Nat → Table α → Bool
  | _, [] => true
  | b, (k, v) :: t => (match b with | none => true | some j => decide (j < k)) && decide (v ≠ d) && tokFrom d (some k) t

/-- The canonical form of a store whose unlisted value is d. -/
def tok {α : Type} [DecidableEq α] (d : α) (t : Table α) : Bool := tokFrom d none t

/-- Entry i of a file of registers. -/
def vget {α : Type} {n : Nat} (v : Vector α n) (i : Fin n) : α := v[i]

/-- A file of registers with entry i replaced. -/
def vset {α : Type} {n : Nat} (v : Vector α n) (i : Fin n) (x : α) : Vector α n := v.set i.val x i.isLt

/-- A file of registers with f applied to entry i. -/
def vmod {α : Type} {n : Nat} (v : Vector α n) (i : Fin n) (f : α → α) : Vector α n := vset v i (f (vget v i))

/-- A file of registers with f applied to every entry. -/
def vmap {α β : Type} {n : Nat} (f : Fin n → α → β) (v : Vector α n) : Vector β n := Vector.ofFn (fun i => f i (vget v i))

/-- The numbers below n, as indexes. -/
def idx (n : Nat) : List (Fin n) := List.finRange n

end Sys2Proof.Machine
end

