-- ==== Sys2Proof/Syntax.lean ====
section
/-! DEFINITION. The commands of the block: one constructor per row of spec/opcode_table.json, and the operand types
they carry. -/

namespace Sys2Proof

/-- The fields of an engine request beside its operation (R36): address A[28:0], req_len (beats minus one), req_id,
req_mgrp and req_hp. -/
structure ReqF where
  addr : BitVec 29
  len : BitVec 6
  id : BitVec 6
  mgrp : BitVec 5
  hp : Bool
  deriving DecidableEq, Repr

/-- One beat of the write data channel (R36): wd_data, wd_strb and wd_last. -/
structure WBeat where
  data : Beat
  strb : BitVec 64
  last : Bool
  deriving DecidableEq, Repr

/-- The two response channels of an engine port (R36). -/
inductive Channel where
  | rd
  | wr
  | reg (port : RegPort)
  deriving DecidableEq, Repr

/-- The Sluice registers whose writes wait for a window boundary (R354): a class's BASE, END and CTRL, SLU_URGENCY
and SLU_BUDGET k. -/
inductive SluReg where
  | base (c : Fin 7)
  | limit (c : Fin 7)
  | ctrl (c : Fin 7)
  | urgency
  | budget (k : Fin 128)
  deriving DecidableEq, Repr

/-- What port A of the block's cells presents in the cycle of a port B access (R138): nothing, the weight row of the event unit's
next row-event, or the state row of the sweep unit's next instruction. The rows of the two accesses decide the outcome. -/
inductive Meet where
  | none
  | event
  | sweep
  deriving DecidableEq, Repr

/-- An access of the Gatehouse's core (R422): its address, its size as a power of two of bytes, the data of a write, and whether the
word read fails parity. -/
structure CoreAcc where
  addr : W32
  size : Fin 3
  data : Option W32
  bad : Bool
  deriving DecidableEq, Repr

/-- The checks made when a Rill port issues a request: all good, the echo cache line that a lookup hits fails parity (R275), or the
staging store or Wicket buffer beat of a write does (R269). -/
inductive IssueChk where
  | good
  | echo
  | staging
  deriving DecidableEq, Repr

/-- The checks made on the way of a Rill piece: all good, a staged beat fails parity (R269), the half crossbar flit on the way to its
region does, or the one that comes back to the Rill port (R451). -/
inductive PieceChk where
  | good
  | staging
  | there
  | back
  deriving DecidableEq, Repr

/-- The checks made on the way of a beat at a block: all good, the cell read fails parity (R452), this decay factor of an ATOM_TRACE
fails parity (R222), or the region crossbar flit of this output fails parity (R451). -/
inductive BeatChk where
  | good
  | arrayParity
  | factorParity (word : BitVec 11)
  | xbarParity (output : BitVec 6)
  deriving DecidableEq, Repr

/-- A requester whose starvation counter reached its limit (R151): a region-crossbar source, or a block's requester. -/
inductive StarveSrc where
  | port (i : Fin 4)
  | halfLink
  | eventEntry
  | block (b : Blk)
  deriving DecidableEq, Repr

/-- Where a copy of the event at the head of an ingress buffer is placed (R163, R164). -/
inductive CopyDst where
  | region (r : Region)
  | seam
  deriving DecidableEq, Repr

/-- The parity checks of an expansion (R173): all good, the index entry fails, or entry word number j of the run fails;
or the region crossbar flit of this output fails (R451). -/
inductive ExpandChk where
  | good
  | index
  | entry (j : Nat)
  | xbarParity (output : BitVec 6)
  deriving DecidableEq, Repr

/-- The checks of a row-event (R204, R208): the residue passes, it fails, a weight-row beat of this cell fails parity,
or this 8-byte basin word fails parity. -/
inductive RowChk where
  | good
  | residue
  | arrayParity (cell : Fin 8)
  | basinParity (word : BitVec 11)
  deriving DecidableEq, Repr

/-- The parity checks of a sweep step (R222, R228, R208): all good, the instruction fails, its constant fails, its decay
factor (this WORD) fails, the state row fails in this cell, or this basin word fails. -/
inductive SweepChk where
  | good
  | instr
  | const
  | factor (word : BitVec 11)
  | array (cell : Fin 8)
  | basin (word : BitVec 11)
  deriving DecidableEq, Repr

/-- Who presents a Bandstand operation word (R288): a write of BST_SEM through a register port, or the held SEM
signal of an engine port. -/
inductive BstSrc where
  | reg (port : RegPort)
  | engine (p : EPort)
  deriving DecidableEq, Repr

/-- The two writable registers of a barrier (R323, R325). -/
inductive BarReg where
  | cfg
  | cnt
  deriving DecidableEq, Repr

/-- What the FRAME phase of training finds (R367): the data wires, spares and sideband wires that fail, by group. -/
structure FrameFails where
  wires : List (Fin 4 × Fin 144)
  spares : List (Fin 4 × Fin 8)
  side : List (Fin 4 × Fin 4)
  deriving DecidableEq, Repr

/-- A register access over the management link (R442). -/
inductive LinkAcc where
  | read (addr : BitVec 20) (size64 : Bool)
  | write (addr : BitVec 20) (size64 : Bool) (data : W64)
  deriving DecidableEq, Repr

/-- A performance counter (R477). -/
inductive CntRef where
  | whole (n : Fin 16)
  | region (r : Region) (n : Fin 8)
  | block (r : Region) (b : Blk) (c : Fin 4)
  deriving DecidableEq, Repr

/-- A failing column found by MBIST: region, physical block 0-32, cell, column 0-575 (R465, R508). -/
structure ColFail where
  region : Fin 8
  pblock : Fin 33
  cell : Fin 8
  column : Fin 576
  deriving DecidableEq, Repr

/-- What a self-test finds (R508, R510): the failing columns, the blocks that fail LBIST or a memory that no spare column
repairs, and whether a macro memory failed. -/
structure SelfTestResult where
  columns : List ColFail
  blocks : List (Fin 8 × Fin 33)
  wholeFail : Bool
  deriving DecidableEq, Repr


/-- The commands of the block: one constructor per row of spec/opcode_table.json, with the payload that the spec
gives the step. Where the step makes a physical check (parity, residue, CRC, a meeting of two cell ports), the
outcome of that check is an operand (log entry 4). -/
inductive Instr where
  /-- AON_RESET (R60). aon_rst_n asserted or released; always-on logic, Sundials, boot counter and power controllers are cleared. -/
  | aonReset (asserted : Bool)
  /-- MACRO_RESET_ASSERT (R62). mac_rst_n goes to 0; every valid/ready output and interrupt drops to 0 and every region is placed in Off. -/
  | macroResetAssert
  /-- MACRO_RESET_RELEASE (R425). mac_rst_n released; boot counter increments, measurement slots clear and boot_src is sampled. -/
  | macroResetRelease (bootSrc : Bool)
  /-- WRAPPER_RESET (R60). WRSTN asserted; IEEE 1500 wrapper instruction and data registers are cleared. -/
  | wrapperReset (asserted : Bool)
  /-- TEST_MODE_CHANGE (R54). test_mode changes while mac_rst_n is 0, making wrapper boundary cells transparent or active. -/
  | testModeChange (v : Bool)
  /-- FCLK_OK_RISE (R58). Host asserts fclk_ok for a half; the half's fclk is treated as present and Footbridge training begins. -/
  | fclkOkRise (h : Half)
  /-- FCLK_OK_FALL (R409). Host deasserts fclk_ok; the half's fclk is treated as absent, and a clock fault is recorded if fclk_need was 1. -/
  | fclkOkFall (h : Half)
  /-- RAIL_LOSS (R64). A rail of either half falls; operation of the whole block ends and no state is kept. -/
  | railLoss (h : Half) (rail : Rail)
  /-- RAIL_UNDERVOLT (R412). A VDDL or VDDA rail stays below 0.68 V for 50 ns; a rail fault is recorded and freeze is asserted. -/
  | railUndervolt (h : Half) (rail : Rail)
  /-- READ (R114). Engine READ request transfers; beats are decoded and pass the Sluice stage, the region entry and the crossbars. -/
  | read (p : EPort) (q : ReqF)
  /-- WRITE (R132). Engine WRITE request transfers and is split into pieces that are written byte-granularly. -/
  | write (p : EPort) (q : ReqF)
  /-- WRITE_BIT_SET (R119). WRITE through alias 0b01 sets the enabled memory bits with an indivisible read-modify-write per beat. -/
  | writeBitSet (p : EPort) (q : ReqF)
  /-- WRITE_BIT_CLEAR (R119). WRITE through alias 0b10 clears the enabled memory bits with an indivisible read-modify-write per beat. -/
  | writeBitClear (p : EPort) (q : ReqF)
  /-- ATOM_ADD_S8 (R120). Atomic saturating signed 8-bit add on each enabled element of one beat; the old values are returned. -/
  | atomAddS8 (p : EPort) (q : ReqF) (w : WBeat)
  /-- ATOM_ADD_I32 (R120). Atomic saturating signed 32-bit add on each enabled element of one beat; the old values are returned. -/
  | atomAddI32 (p : EPort) (q : ReqF) (w : WBeat)
  /-- ATOM_ADD_F32 (R120). Atomic binary32 add, rounded to nearest even, on each enabled element; the old values are returned. -/
  | atomAddF32 (p : EPort) (q : ReqF) (w : WBeat)
  /-- ATOM_MIN_I32 (R120). Atomic signed 32-bit minimum on each enabled element; the old values are returned. -/
  | atomMinI32 (p : EPort) (q : ReqF) (w : WBeat)
  /-- ATOM_MAX_I32 (R120). Atomic signed 32-bit maximum on each enabled element; the old values are returned. -/
  | atomMaxI32 (p : EPort) (q : ReqF) (w : WBeat)
  /-- ATOM_SWAP_64 (R120). Atomic 64-bit swap on each enabled element; the old values are returned. -/
  | atomSwap64 (p : EPort) (q : ReqF) (w : WBeat)
  /-- ATOM_CAS_64 (R121). Atomic compare-and-swap of one 64-bit word; returns the old word and a swap flag. -/
  | atomCas64 (p : EPort) (q : ReqF) (w : WBeat)
  /-- ATOM_TRACE (R239). Atomic trace update per element: decay and add DELTA, or set; uses the region's epoch and decay tables. -/
  | atomTrace (p : EPort) (q : ReqF) (w : WBeat)
  /-- SEM (R123). Engine SEM signal carrying a Bandstand operation word, stamped and held until earlier writes in scope retire. -/
  | sem (p : EPort) (q : ReqF) (w : WBeat)
  /-- STREAM_DOORBELL (R336). Engine DOORBELL with A[12] 0; it is held by the Lodge and then forwarded to Rill for the named stream head. -/
  | streamDoorbell (p : EPort) (q : ReqF) (w : WBeat)
  /-- MAILBOX_DOORBELL (R331). Engine DOORBELL with A[12] 1; it is held until its stamp clears, then sent to the named mailbox. -/
  | mailboxDoorbell (p : EPort) (q : ReqF) (w : WBeat)
  /-- RESERVED_OP (R115). Engine request with req_op 0xC–0xF; it is answered DECODE on every beat with no effect. -/
  | reservedOp (p : EPort) (code : BitVec 2) (q : ReqF)
  /-- WRITE_DATA_BEAT (R111). A write data beat transfers; the port checks wd_last against req_len and forwards whole pieces. -/
  | writeDataBeat (p : EPort) (w : WBeat)
  /-- RESPONSE_BEAT_TAKEN (R112). The host takes a read beat or write acknowledgement; the last one ends the request's outstanding life. -/
  | responseBeatTaken (p : EPort) (ch : Channel) (id : BitVec 6)
  /-- MULTICAST_READ (R124). READ with a non-zero req_mgrp opens or joins a gather; the read starts when every member has joined. -/
  | multicastRead (p : EPort) (q : ReqF)
  /-- GATHER_TIMEOUT (R124). GATHER cycles pass after a gather opened; the read starts for the members that have joined. -/
  | gatherTimeout (r : Region) (g : BitVec 5)
  /-- SLUICE_RELEASE (R351). The Sluice stage tests its head request against budget, credit and urgency, then releases, bars or holds it. -/
  | sluiceRelease (p : EPort) (urg : BitVec 2)
  /-- SLUICE_WINDOW_BOUNDARY (R349). A 1,024-cycle Sluice window ends; credits are refilled, SLU_USED is copied and pending configuration writes take effect. -/
  | sluiceWindowBoundary (h : Half)
  /-- SLUICE_CONFIG_WRITE (R354). Write of a Sluice class, budget or urgency register; it is checked and takes effect at the next window boundary. -/
  | sluiceConfigWrite (port : RegPort) (reg : SluReg) (data : W32)
  /-- BLOCK_GRANT (R141). The block arbiter grants the highest-priority unmasked requester and ages the others. -/
  | blockGrant (r : Region) (b : Blk) (m : Meet) (chk : BeatChk)
  /-- TIMETABLE_SLOT (R145). The region's slot counter advances; scheduled beats are issued in owned slots and unscheduled beats are masked. -/
  | timetableSlot (r : Region) (bad : Bool) (m : Meet) (chk : BeatChk)
  /-- SLOT_SLIP_ISSUE (R147). A scheduled beat that waited is issued in the first free cycle and counted as a slot slip. -/
  | slotSlipIssue (r : Region) (b : Blk) (m : Meet) (chk : BeatChk)
  /-- QUOTA_WINDOW_END (R150). A quota window ends and every home master's high-priority count returns to 0. -/
  | quotaWindowEnd (r : Region)
  /-- STARVATION_LIMIT (R151). A starvation counter reaches its limit; a starvation flag is set and the counter restarts. -/
  | starvationLimit (r : Region) (src : StarveSrc)
  /-- EVENT_INGRESS (R163). An event is accepted at an ingress port and matched against the route entries to form its destination mask. -/
  | eventIngress (n : EvPort) (w : W64)
  /-- COPY_PLACED (R164). An event copy is placed at a region entry or the Footbridge queue once there is room; the event leaves its buffer when all copies are placed. -/
  | copyPlaced (n : EvPort) (dst : CopyDst) (bad : Bool)
  /-- COPY_AT_ENTRY (R167). A copy reaches a region entry; it is taken, held, discarded as NOEXPAND or NOWAKE, or raises a wake. -/
  | copyAtEntry (r : Region)
  /-- ENTRY_HOLD (R188). Write of RG_EV_CTRL.HOLD holds or releases the region entry. -/
  | entryHold (port : RegPort) (r : Region) (v : Bool)
  /-- EXPAND_COPY (R172). The expansion stage takes a copy and reads its index entry and entry words, producing groups. -/
  | expandCopy (r : Region) (chk : ExpandChk)
  /-- GROUP_TO_QUEUE (R174). A group is delivered to a block event queue once enough places are free. -/
  | groupToQueue (r : Region)
  /-- ROW_EVENT_ISSUE (R175). The event unit issues a row-event; the lanes read the weight row, accumulate into the basin and check the residue. -/
  | rowEventIssue (r : Region) (b : Blk) (chk : RowChk)
  /-- RING_ROWS_TO_QUEUE (R178). Released delay-ring rows enter the event queue as places free. -/
  | ringRowsToQueue (r : Region) (b : Blk)
  /-- STEP_ENTRY_COMPLETE (R176). Every pre-boundary copy has reached the entry and the other half's STEP packet has arrived (step 2). -/
  | stepEntryComplete (r : Region)
  /-- STEP_DRAINED (R176). The entry and every block queue have drained (step 3); the sweeps start. -/
  | stepDrained (r : Region) (bad : Option Blk := none)
  /-- STEP_SWEEPS_DONE (R221). All sweeps of the region have ended; the epoch advances, the delay-ring bin is released and the entry reopens. -/
  | stepSweepsDone (r : Region)
  /-- EMIT_BUFFER_PASS (R235). The emit buffer passes one event per cycle towards its egress port. -/
  | emitBufferPass (r : Region) (b : Blk) (bad : Bool)
  /-- EGRESS_EVENT_TAKEN (R39). The host takes a presented event at an egress port. -/
  | egressEventTaken (n : EvPort)
  /-- MODEL_SWITCH (R105). Write of RG_MODEL_SEL.DESC holds the entry and starts a switch to the new descriptor. -/
  | modelSwitch (port : RegPort) (r : Region) (data : W32)
  /-- MODEL_SWITCH_COMPLETE (R105). Begun expansions and sweeps have ended; ACTIVE takes DESC and the entry hold ends. -/
  | modelSwitchComplete (r : Region)
  /-- TRELLIS_DATA_WRITE (R181). Write of RG_TR_DATA replaces an entry word or index entry between two expansion reads. -/
  | trellisDataWrite (port : RegPort) (r : Region) (data : W64)
  /-- TRELLIS_DATA_READ (R184). Read of RG_TR_DATA checks parity and returns the selected word, or records a fault. -/
  | trellisDataRead (port : RegPort) (r : Region) (bad : Bool)
  /-- TRELLIS_DELAY_WRITE (R184). Write of RG_TR_DELAY replaces an entry word's DELAY and recomputes its parity. -/
  | trellisDelayWrite (port : RegPort) (r : Region) (data : W32)
  /-- BASIN_CLEAR (R215). Write of RG_BASIN_CLR zeroes the named segments of the named unfenced blocks. -/
  | basinClear (port : RegPort) (r : Region) (data : W32)
  /-- BASIN_DATA_WRITE (R217). Write of RG_BASIN_DATA replaces 8 basin bytes with new parity. -/
  | basinDataWrite (port : RegPort) (r : Region) (data : W64)
  /-- BASIN_DATA_READ (R217). Read of RG_BASIN_DATA checks parity and returns 8 basin bytes, or records a fault. -/
  | basinDataRead (port : RegPort) (r : Region) (bad : Bool)
  /-- SWEEP_GROUP_START (R226). The sweep unit starts a group of 64 neurons with cleared registers and flags. -/
  | sweepGroupStart (r : Region) (b : Blk) (chk : SweepChk)
  /-- END (R230). Sweep instruction END ends the program for the group. -/
  | endProg (r : Region) (b : Blk) (chk : SweepChk)
  /-- RANGE (R230). Sweep instruction RANGE sets GCOUNT as instruction 0. -/
  | range (r : Region) (b : Blk) (chk : SweepChk)
  /-- LDS (R225). Sweep load of a state row through port A into a register pair; the row is held against port B. -/
  | lds (r : Region) (b : Blk) (chk : SweepChk)
  /-- STS (R227). Sweep store of a register pair to a state row; the row hold is released. -/
  | sts (r : Region) (b : Blk) (chk : SweepChk)
  /-- LDB (R232). Sweep load of a basin accumulator in the given format, optionally clearing it. -/
  | ldb (r : Region) (b : Blk) (chk : SweepChk)
  /-- STB (R232). Sweep store of a register to a basin accumulator in the given format. -/
  | stb (r : Region) (b : Blk) (chk : SweepChk)
  /-- LDI (R230). Sweep load of a sign-extended immediate. -/
  | ldi (r : Region) (b : Blk) (chk : SweepChk)
  /-- ADD (R289). Bandstand ADD adds N to a semaphore, refused if the result would exceed 2^31 − 1. -/
  | add (src : BstSrc) (n : BitVec 12) (w : W64)
  /-- SWEEP_ADD (R230). Sweep saturating add of two registers. -/
  | sweepAdd (r : Region) (b : Blk) (chk : SweepChk)
  /-- SWEEP_SUB (R230). Sweep saturating subtract of two registers. -/
  | sweepSub (r : Region) (b : Blk) (chk : SweepChk)
  /-- ADDC (R230). Sweep saturating add of a constant. -/
  | addc (r : Region) (b : Blk) (chk : SweepChk)
  /-- MULC (R230). Sweep multiply by a 16.16 constant with rounding and saturation. -/
  | mulc (r : Region) (b : Blk) (chk : SweepChk)
  /-- SHRI (R230). Sweep rounding right shift by K. -/
  | shri (r : Region) (b : Blk) (chk : SweepChk)
  /-- MAX (R230). Sweep signed maximum of two registers. -/
  | max (r : Region) (b : Blk) (chk : SweepChk)
  /-- MIN (R230). Sweep signed minimum of two registers. -/
  | min (r : Region) (b : Blk) (chk : SweepChk)
  /-- CMP (R230). Sweep compare setting or combining the lane flag. -/
  | cmp (r : Region) (b : Blk) (chk : SweepChk)
  /-- SEL (R230). Sweep select between two registers by the flag. -/
  | sel (r : Region) (b : Blk) (chk : SweepChk)
  /-- RST (R230). Sweep load of a constant where the flag is set. -/
  | rst (r : Region) (b : Blk) (chk : SweepChk)
  /-- EMIT (R234). Sweep emits one event per flagged lane into the emit buffer once all fit, or counts them as suppressed. -/
  | emit (r : Region) (b : Blk) (chk : SweepChk)
  /-- TRC (R238). Sweep trace update: decay by table, add by MODE, and set the STAMP to E. -/
  | trc (r : Region) (b : Blk) (chk : SweepChk)
  /-- INVALID_INSTRUCTION (R233). An invalid sweep instruction ends the program and sets BAD_INSTR. -/
  | invalidInstruction (r : Region) (b : Blk) (chk : SweepChk)
  /-- SWEEP_DATA_READ (R246). Read of RG_SWEEP_DATA checks parity and returns an instruction, constant or factor, or records a fault. -/
  | sweepDataRead (port : RegPort) (r : Region) (bad : Bool)
  /-- RING_BELL (R255). Control-port write of RING_BELL; the stream starts, re-reads a waiting slot, or resumes from HALTED. -/
  | ringBell (port : RegPort) (slot : BitVec 12)
  /-- STREAM_ABORT (R257). Write of ABORT; the stream stops issuing and becomes ABORTED once its responses have returned. -/
  | streamAbort (port : RegPort) (slot : BitVec 12)
  /-- STREAM_SLOT_WRITE (R251). Control-port write of a stream context slot; it is refused on active heads. -/
  | streamSlotWrite (port : RegPort) (slot : BitVec 12) (word : Fin 8) (data : W64)
  /-- ADMIT_DESCRIPTOR (R258). Rill reads and checks the head admission request and admits it once its full reservation is available. -/
  | admitDescriptor (k : RPort)
  /-- RILL_ISSUE (R262). The Rill port issues one external request chosen by Wicket priority, slack or round robin. -/
  | rillIssue (k : RPort) (chk : IssueChk)
  /-- RILL_READ_RESPONSE (R41). The host returns a read response; the data is staged, or the stream halts, or a fault is recorded. -/
  | rillReadResponse (k : RPort) (tag : BitVec 11) (data : Beat) (resp : BitVec 2)
  /-- RILL_WRITE_RESPONSE (R41). The host returns a write response for a drain or Wicket write. -/
  | rillWriteResponse (k : RPort) (tag : BitVec 11) (resp : BitVec 2)
  /-- FILL_PIECE_WRITE (R264). A fill writes a fully staged piece into the data space. -/
  | fillPieceWrite (k : RPort) (chk : PieceChk)
  /-- DRAIN_PIECE_READ (R264). A drain reads a data-space piece into staging for external writes. -/
  | drainPieceRead (k : RPort) (chk : PieceChk := .good)
  /-- TILE_COMPLETE (R265). A tile completes in descriptor order; TILES and the pair advance, and the last tile ends the stream. -/
  | tileComplete (slot : BitVec 12)
  /-- ECHO_INVALIDATE (R285). Write of ECH_INV starts invalidation of a range in the named ports' echo caches. -/
  | echoInvalidate (port : RegPort) (p0 p1 : Bool)
  /-- ECHO_INVALIDATE_DONE (R274). The invalidation ends and BUSY returns to 0. -/
  | echoInvalidateDone (k : RPort)
  /-- ECHO_ENABLE_WRITE (R276). Write of ECH_CTRL; clearing an enable invalidates that port's echo cache. -/
  | echoEnableWrite (port : RegPort) (en0 en1 : Bool)
  /-- SUB (R289). Bandstand SUB subtracts N from a semaphore, refused if the result would be below 0. -/
  | sub (src : BstSrc) (n : BitVec 12) (w : W64)
  /-- WAIT (R289). Bandstand WAIT is acknowledged when VALUE ≥ N, registering a watch if needed. -/
  | wait (src : BstSrc) (n : BitVec 12) (w : W64)
  /-- SET (R289). Bandstand SET sets a semaphore to N. -/
  | set (src : BstSrc) (n : BitVec 12) (w : W64)
  /-- PADD (R289). Bandstand PADD adds N to a pair's P, refused if the pair would become inconsistent. -/
  | padd (src : BstSrc) (n : BitVec 12) (w : W64)
  /-- CADD (R289). Bandstand CADD adds N to a pair's C, refused if the pair would become inconsistent. -/
  | cadd (src : BstSrc) (n : BitVec 12) (w : W64)
  /-- PWAIT_FULL (R289). Acknowledged when the pair's D ≥ N. -/
  | pwaitFull (src : BstSrc) (n : BitVec 12) (w : W64)
  /-- PWAIT_SPACE (R289). Acknowledged when the pair's D ≤ N. -/
  | pwaitSpace (src : BstSrc) (n : BitVec 12) (w : W64)
  /-- ARRIVE (R302). One barrier arrival is counted at its node and acknowledged. -/
  | arrive (src : BstSrc) (n : BitVec 12) (w : W64)
  /-- SYNC (R298). One barrier arrival, acknowledged when its generation is released. -/
  | sync (src : BstSrc) (n : BitVec 12) (w : W64)
  /-- BWAIT (R289). Acknowledged when the barrier's GEN reaches N. -/
  | bwait (src : BstSrc) (n : BitVec 12) (w : W64)
  /-- SWAIT (R289). Acknowledged when the barrier's SGEN reaches N. -/
  | swait (src : BstSrc) (n : BitVec 12) (w : W64)
  /-- BST_RESERVED_OP (R290). An operation word with reserved OP 0xC–0xF is refused and counted. -/
  | bstReservedOp (src : BstSrc) (n : BitVec 12) (w : W64)
  /-- SIGNAL_HOLD_RELEASE (R294). The retire count reaches a held signal's stamp; the signal takes effect and the scope is checked. -/
  | signalHoldRelease (p : EPort)
  /-- WATCH_TIMEOUT (R301). A watch's tick count reaches BST_WTMO; it is refused, messaged or restarted according to its holder. -/
  | watchTimeout (w : BitVec 10)
  /-- WATCH_REGISTER (R299). Write of BST_WREG registers a control-side watch. -/
  | watchRegister (port : RegPort) (data : W64)
  /-- WATCH_CANCEL (R299). Write of BST_WCANCEL frees the non-pending control-side watches with the given COOKIE. -/
  | watchCancel (port : RegPort) (cookie : BitVec 16)
  /-- CONTROL_MESSAGE_TAKE (R300). Read of BST_MSG removes and returns the oldest control message. -/
  | controlMessageTake (port : RegPort)
  /-- BARRIER_CONFIG_WRITE (R305). Write of BST_BAR_CFG or BST_BAR_CNT arms or disarms a barrier; disarming refuses held SYNCs. -/
  | barrierConfigWrite (port : RegPort) (b : Fin 64) (reg : BarReg) (data : W64)
  /-- PAIR_WRITE (R322). Write of BST_PAIR sets both P and C in one operation. -/
  | pairWrite (port : RegPort) (n : BitVec 8) (data : W64)
  /-- ROLE_WRITE (R315). Write of BST_ROLE sets the chip role, refused while a CHIP barrier is armed. -/
  | roleWrite (port : RegPort) (data : W32)
  /-- SYNC_MESSAGE_SEND (R308). A queued sync message transfers on the sync port when tx_ready allows. -/
  | syncMessageSend
  /-- SYNC_ARRIVE_RECEIVED (R309). The manager receives an ARRIVE message and counts it, releasing the barrier at CHIPS arrivals. -/
  | syncArriveReceived (w : W64)
  /-- SYNC_RELEASE_RECEIVED (R309). A worker receives a RELEASE message with matching GEN and releases the barrier. -/
  | syncReleaseReceived (w : W64)
  /-- MAILBOX_SEND (R330). Write of MB_DATA sends a word to a mailbox: held, deposited, or rejected if full. -/
  | mailboxSend (port : RegPort) (n : Fin 64) (data : W64)
  /-- DEPOSIT_ANNOUNCE (R334). After the deposit beat and earlier beats take effect, the Lodge performs PADD 1 and completes the send. -/
  | depositAnnounce (n : Fin 64)
  /-- MAILBOX_TAKE (R332). Read of MB_TAKE returns the held word and clears the full flag. -/
  | mailboxTake (port : RegPort) (n : Fin 64)
  /-- MAILBOX_CONFIG_WRITE (R345). Write of MB_CFG, refused while the mailbox holds a word or has deposits in flight. -/
  | mailboxConfigWrite (port : RegPort) (n : Fin 64) (data : W64)
  /-- MEASURE (R436). Gatehouse request MEASURE snapshots the slots and boot counter into GH_REPORT. -/
  | measure
  /-- BOOT_STATUS (R337). Gatehouse request BOOT_STATUS returns the boot status word. -/
  | bootStatus
  /-- FUSE_REREAD (R467). Gatehouse request FUSE_REREAD reads and reapplies the fuse image, only while frozen. -/
  | fuseReread
  /-- SIGNED_MEASURE (R437). Gatehouse request SIGNED_MEASURE snapshots the report and sends its digest for signing. -/
  | signedMeasure (skPresent : Bool)
  /-- UNKNOWN_REQUEST (R337). A Gatehouse request with an unknown CODE is answered UNKNOWN. -/
  | unknownRequest
  /-- GATEHOUSE_REPLY (R337). The Gatehouse sends its reply word once the reply mailbox can take it. -/
  | gatehouseReply
  /-- SIGNING_RESPONSE (R437). The signing response ends; the signature is stored and the reply is sent. -/
  | signingResponse (words : List W32) (err : Bool)
  /-- SIGNING_TIMEOUT (R437). 100,000 ticks pass without a signing response; the reply is NOT_AVAILABLE. -/
  | signingTimeout
  /-- LINK_RETRAIN (R392). Write of FB_CTRL.RETRAIN trains both directions, keeping sequence numbers, replay buffers and credits. -/
  | linkRetrain (port : RegPort) (data : W32)
  /-- TRAIN_CLOCK_DONE (R366). The CLOCK phase ends and the strobes are locked; DESKEW begins. -/
  | trainClockDone (d : Half) (unlocked : List (Fin 4 × Fin 2))
  /-- TRAIN_DESKEW_DONE (R366). The DESKEW phase ends with the wires aligned; FRAME begins. -/
  | trainDeskewDone (d : Half)
  /-- TRAIN_FRAME_DONE (R367). The FRAME phase ends; failing wires are placed on spares, or training fails. -/
  | trainFrameDone (d : Half) (fails : FrameFails)
  /-- LINK_UP (R366). A valid side word with state UP arrives in both directions and the direction enters UP. -/
  | linkUp (d : Half)
  /-- PACKET_START (R377). The seam endpoint starts sending a packet once its class has credit for all its flits. -/
  | packetStart (d : Half) (c : FbClass)
  /-- FLIT_RECEIVE (R373). A receiver checks a flit's CRC and SEQ and accepts it or discards it, setting NAK. -/
  | flitReceive (d : Half) (noise : BitVec 304)
  /-- SIDE_WORD_RECEIVE (R372). A side word arrives, carrying ACK, NAK, freed credit and link state. -/
  | sideWordReceive (d : Half) (c : FbClass) (noise : W32)
  /-- NAK_REPEAT_REPLAY (R374). NAK is still set 32 cycles after a replay began; the same replay is started again. -/
  | nakRepeatReplay (d : Half)
  /-- ACK_STALL_REPLAY (R374). ACK makes no progress for 64 cycles; the transmitter replays from the oldest unacknowledged flit. -/
  | ackStallReplay (d : Half)
  /-- SIDE_WORD_TIMEOUT (R375). No valid side word arrives for 256 cycles while UP; a link fault is recorded and the direction enters FAULT. -/
  | sideWordTimeout (d : Half)
  /-- RETIRE_REQ (R380). The transmitter receives RETIRE_REQ, drives the spare like the wire and sends RETIRE_DUP. -/
  | retireReq (d : Half) (noise : BitVec 304 := 0)
  /-- RETIRE_DUP (R380). The receiver samples the spare in place of the wire, records the spare map and sends RETIRE_DONE. -/
  | retireDup (d : Half) (noise : BitVec 304 := 0)
  /-- RETIRE_DONE (R380). The transmitter drives the retired wire at 0 and sets FB_IRQ.RETIRED. -/
  | retireDone (d : Half) (noise : BitVec 304 := 0)
  /-- RETIRE_REQ_REPEAT (R380). 256 cycles pass without retirement completing; RETIRE_REQ is sent again. -/
  | retireReqRepeat (d : Half)
  /-- SPARE_ERROR_WINDOW (R379). The FB_SPARE_CFG window elapses and every wire error count returns to 0. -/
  | spareErrorWindow
  /-- FB_PKT_READ (R384). A READ packet for one piece arrives at the far half. -/
  | fbPktRead (d : Half)
  /-- FB_PKT_WRITE (R384). A WRITE packet for one piece arrives at the far half. -/
  | fbPktWrite (d : Half)
  /-- FB_PKT_ATOMIC (R384). An ATOMIC packet arrives at the far half. -/
  | fbPktAtomic (d : Half)
  /-- FB_PKT_READ_DATA (R384). A READ_DATA packet returns read beats to the issuing port. -/
  | fbPktReadData (d : Half)
  /-- FB_PKT_WRITE_ACK (R388). A WRITE_ACK crosses back; the write is counted retired at the issuing port. -/
  | fbPktWriteAck (d : Half)
  /-- FB_PKT_ATOMIC_DATA (R384). An ATOMIC_DATA packet returns an atomic result. -/
  | fbPktAtomicData (d : Half)
  /-- FB_PKT_SIGNAL (R388). A SIGNAL packet brings an East engine SEM or DOORBELL to be held. -/
  | fbPktSignal (d : Half)
  /-- FB_PKT_SIGNAL_ACK (R384). A SIGNAL_ACK returns the acknowledgement of a signal or waiting operation. -/
  | fbPktSignalAck (d : Half)
  /-- FB_PKT_RETIRE (R388). A RETIRE packet updates an East port's retire counts, releasing held signals. -/
  | fbPktRetire (d : Half)
  /-- FB_PKT_CONTROL (R384). A CONTROL packet carries arrivals, completions, doorbells, pair values or wake requests. -/
  | fbPktControl (d : Half)
  /-- FB_PKT_STEP (R389). A STEP packet arrives, marking the end of the other half's pre-boundary copies. -/
  | fbPktStep (d : Half)
  /-- FB_PKT_EVENTS (R385). An EVENTS flit delivers event copies or output events, holding EVT for a closing region. -/
  | fbPktEvents (d : Half)
  /-- IDLE_TIMEOUT (R400). IDLE_AFTER cycles pass without work; the region moves from Run to Idle. -/
  | idleTimeout (r : Region)
  /-- RETAIN_TIMEOUT (R400). RETAIN_AFTER ticks pass in Idle; the region moves to Retain. -/
  | retainTimeout (r : Region)
  /-- OFF_TIMEOUT (R400). OFF_AFTER ticks pass in Retain; the region moves to Off and loses its Plan. -/
  | offTimeout (r : Region)
  /-- STAGER_EDGE (R404). At an sclk edge the stager grants wakes and books their steps, sets the reserve and grants downward steps. -/
  | stagerEdge
  /-- STAGED_STEP_START (R402). A booked step of a wake or downward move starts and changes the region's current. -/
  | stagedStepStart (r : Region)
  /-- STAGED_STEP_END (R402). A staged step ends; the next step falls due, or the region reaches its new state. -/
  | stagedStepEnd (r : Region)
  /-- GOVERNOR_INTERVAL (R406). A 128-cycle governor interval sets duty limits on row-event issue and sweep group starts. -/
  | governorInterval (h : Half)
  /-- PWR_WAKE_REQ (R417). Write of PWR_WAKE.REQ raises wake requests for the named regions. -/
  | pwrWakeReq (port : RegPort) (req hold : BitVec 8)
  /-- PWR_WAKE_HOLD (R417). Write of PWR_WAKE.HOLD holds regions in Run, waking those that are not. -/
  | pwrWakeHold (port : RegPort) (hold req : BitVec 8)
  /-- PWR_FCLK_WRITE (R408). Write of PWR_FCLK_W or PWR_FCLK_E, refused while that half's fclk_ok is 1. -/
  | pwrFclkWrite (port : RegPort) (h : Half) (data : W32)
  /-- POLICY_WRITE (R400). Write of a power policy register; a shallower DEEPEST raises a wake request. -/
  | policyWrite (port : RegPort) (r : Region) (which : Fin 4) (data : W32)
  /-- FUSE_READ_START (R425). 16 mclk cycles after reset release, ROM begins the fuse read. -/
  | fuseReadStart
  /-- FUSE_ACK (R52). The host answers a fuse request; the next request is issued or the image is applied. -/
  | fuseAck (data : W32)
  /-- FUSE_TIMEOUT (R52). 1,000 ticks pass without fu_ack; boot fails with FUSE_TIMEOUT. -/
  | fuseTimeout
  /-- MGMT_PORT_READY (R62). 64 mclk cycles after reset release the management port raises req_ready. -/
  | mgmtPortReady
  /-- FW_START (R426). Write of GH_CTRL.FW_START begins a firmware image load. -/
  | fwStart (port : RegPort) (cpOpen : Bool)
  /-- FW_ABORT (R426). Write of GH_CTRL.FW_ABORT ends a firmware load with ABORTED. -/
  | fwAbort (port : RegPort) (cpOpen : Bool)
  /-- FW_DATA_WORD (R426). Write of GH_FW_DATA supplies 4 image bytes, checked and measured as they arrive. -/
  | fwDataWord (port : RegPort) (w : W32)
  /-- FW_IMAGE_END (R428). The image ends; slot 0 is extended, RAM is zeroed and ROM jumps to the entry point. -/
  | fwImageEnd
  /-- CP_OPEN (R430). Write of GH_CTRL.CP_OPEN opens or closes the control port to new requests. -/
  | cpOpen (port : RegPort) (v : Bool)
  /-- GATEHOUSE_SLEEP (R424). Firmware executes WFI with no interrupt pending; the Gatehouse sleeps. -/
  | gatehouseSleep (accs : List CoreAcc := [])
  /-- GATEHOUSE_WAKE (R423). A machine external interrupt wakes the Gatehouse. -/
  | gatehouseWake (accs : List CoreAcc)
  /-- TIMER_INTERRUPT (R423). mtime reaches mtimecmp and raises the machine timer interrupt. -/
  | timerInterrupt
  /-- MEASURE_EXTEND (R449). Write of GH_EXT_CTRL.GO extends slot 4–7 with GH_EXT_DATA. -/
  | measureExtend (port : RegPort) (slot : Fin 8)
  /-- MGMT_LINK_ACCESS (R442). A register access to an East-half unit crosses the management link. -/
  | mgmtLinkAccess (port : RegPort) (acc : LinkAcc) (bad : Bool)
  /-- PLAN_START (R95). Write of PLN_CTRL.START begins a Plan load from PLN_DATA or PLN_ADDR. -/
  | planStart (port : RegPort) (source abort : Bool)
  /-- PLAN_ABORT (R88). Write of PLN_CTRL.ABORT ends the load in progress with ABORTED. -/
  | planAbort (port : RegPort) (source : Bool)
  /-- PLAN_DATA_WORD (R91). Write of PLN_DATA supplies the next 4 Plan bytes. -/
  | planDataWord (port : RegPort) (w : W32)
  /-- PLAN_HEADER (R513). The 32 header bytes have been taken; slot 2 is extended, the header is tested and defaults are applied. -/
  | planHeader
  /-- PLAN_SECTION (R514). A whole section has been taken; slot 3 is extended, the section is checked and applied. -/
  | planSection
  /-- STOP (R439). GH_CMD STOP closes intake in both halves and lets accepted work drain. -/
  | stop (port : RegPort)
  /-- FREEZE (R439). GH_CMD FREEZE asserts freeze at once with CAUSE COMMAND. -/
  | freeze (port : RegPort) (stopToo : Bool)
  /-- STOP_QUIESCENT (R439). Both halves are quiescent in one mclk cycle; freeze is asserted with CAUSE STOP. -/
  | stopQuiescent
  /-- EAST_FAULT_RAISE (R453). An East-half fault reaches the aggregator on the fault-raise wires. -/
  | eastFaultRaise
  /-- FREEZE_REACH_HALF (R27). Freeze reaches a half's regions and takes effect at every unit of that half. -/
  | freezeReachHalf (h : Half)
  /-- INJECTED (R471). Write of FLT_INJECT records an INJECTED fault. -/
  | injected (port : RegPort) (v : W32)
  /-- JOB_RESTART_GO (R457). Write of RS_CTRL.GO under freeze clears fault records, queues, sweeps, basins, epochs and unit state. -/
  | jobRestartGo (port : RegPort) (keepData release : Bool)
  /-- RESTART_CLEARS_DONE (R460). Every restart clear has ended and the FAULT directions are UP; STATE becomes DONE. -/
  | restartClearsDone
  /-- JOB_RESTART_RELEASE (R461). Write of RS_CTRL.RELEASE releases freeze in both halves. -/
  | jobRestartRelease (port : RegPort) (keepData : Bool)
  /-- FENCE_SET (R464). Write that sets an FN_FENCE bit withdraws a block and answers or discards its queued work. -/
  | fenceSet (port : RegPort) (r : Region) (w : W32)
  /-- FENCE_CLEAR (R464). Write that clears an FN_FENCE bit, allowed only while frozen with STATE IDLE or FAILED. -/
  | fenceClear (port : RegPort) (r : Region) (w : W32)
  /-- COUNTER_SAMPLE (R484). DUMP_PERIOD ticks elapse; every counter is copied into its shadow. -/
  | counterSample
  /-- DUMP_NOW (R484). Write of CNT_CTRL.DUMP_NOW takes a sample at the next tick edge. -/
  | dumpNow (port : RegPort)
  /-- DUMP_BODY_WRITE (R485). The header beat with WRITING 1 is acknowledged; dump body beats 1–138 are written. -/
  | dumpBodyWrite
  /-- DUMP_HEADER_CLOSE (R485). The body writes are acknowledged; the header is rewritten with WRITING 0. -/
  | dumpHeaderClose
  /-- DUMP_COMPLETE (R485). The final header write is acknowledged; CNT_DUMP_SEQ updates, DUMP_DONE is set and SEM is posted. -/
  | dumpComplete
  /-- TAGGING_ENABLE (R488). Write of CNT_TAG_CTRL.EN starts or stops tagging, seeding the LFSR. -/
  | taggingEnable (port : RegPort) (en kind : Bool) (k : BitVec 4)
  /-- TAG_CLEAR (R496). Write of CNT_TAG_CTRL.CLEAR empties the tag buffer. -/
  | tagClear (port : RegPort) (en kind : Bool) (k : BitVec 4)
  /-- COUNTER_WRITE (R482). Write of a count register; the increments of the same cycle are added to the written value. -/
  | counterWrite (port : RegPort) (c : CntRef) (data : W64)
  /-- WS_BYPASS (R505). Wrapper instruction WS_BYPASS selects the 1-bit bypass register. -/
  | wsBypass (bit : Bool)
  /-- WS_EXTEST (R505). Wrapper instruction WS_EXTEST selects the boundary register for interconnect test. -/
  | wsExtest (cells : List Bool)
  /-- PL_ID (R505). Wrapper instruction PL_ID captures ID_VERSION. -/
  | plId
  /-- PL_TCTRL (R506). Wrapper instruction PL_TCTRL selects the test control register. -/
  | plTctrl (w : W32)
  /-- PL_TSTAT (R507). Wrapper instruction PL_TSTAT captures test progress and outcome. -/
  | plTstat
  /-- PL_TRESULT (R505). Wrapper instruction PL_TRESULT selects the per-block failure results. -/
  | plTresult
  /-- PL_REPAIR (R505). Wrapper instruction PL_REPAIR selects the repair image register. -/
  | plRepair
  /-- SELF_TEST_START (R508). PL_TCTRL START at UpdateWR isolates the ports and runs MBIST or LBIST. -/
  | selfTestStart
  /-- SELF_TEST_DONE (R510). The self-test ends; results, pass status and the RAW repair image are formed. -/
  | selfTestDone (res : SelfTestResult)
  /-- RC_READ (R12). Read of a read-clear counter returns its value and clears it. -/
  | rcRead (port : RegPort) (addr : BitVec 20) (size64 : Bool)
  /-- REGISTER_WRITE (R12). A write to a register without a row of its own, performed under the access codes or refused with a bus error. -/
  | registerWrite (port : RegPort) (addr : BitVec 20) (size64 : Bool) (data : W64)
  /-- SLOT_EXTEND_COMPLETE (R432). The measurement hardware finishes hashing an extend at one 128-byte block per 80 mclk cycles; the slot takes its new value and GH_MEAS_CNT increments, so that a waiting MEASURE, a boot stage change, or a held GH_FW_DATA or PLN_DATA response can proceed. -/
  | slotExtendComplete
  deriving DecidableEq, Repr

end Sys2Proof
end

