-- ==== Sys2Proof/Machine/Types.lean ====
section
/-! DEFINITION. The records of the state of each unit, as plain data. -/

namespace Sys2Proof.Machine

/-! ## Engine ports and the data path -/

/-- What a piece does to a beat at the cell: read, write, bit-set, bit-clear (R119) or an atomic (R120). -/
inductive CellOp where
  | read
  | write
  | setBits
  | clrBits
  | atom (a : AtomOp)
  deriving DecidableEq, Repr

/-- Who issued a piece: request seq of an engine port, the gather inst of a region (R124), the tile uid of a Rill port
(R264), deposit uid of a mailbox (R334), or the dump engine (R485). -/
inductive BSrc where
  | engine (p : EPort) (seq : Nat)
  | mcast (r : Region) (inst : Nat)
  | rill (k : RPort) (uid : Nat)
  | lodge (n : Fin 64) (uid : Nat)
  | dump
  deriving DecidableEq, Repr

/-- A beat's place and data: cell, row and byte offset in the beat (R21, R72), write data and byte enables. -/
structure PBeat where
  cell : Fin 8
  row : BitVec 10
  off : BitVec 6
  data : Beat
  strb : BitVec 64
  deriving DecidableEq, Repr

/-- A piece (R132): a run of consecutive beats in one block, with the number of its first beat in the request. -/
structure Piece where
  src : BSrc
  first : Nat
  op : CellOp
  hp : Bool
  region : Region
  block : Blk
  beats : List PBeat
  deriving DecidableEq, Repr

/-- The answer to one beat: response code (R109) and data. -/
structure BeatRes where
  code : BitVec 3
  data : Beat
  deriving DecidableEq, Repr

/-- A source of a half crossbar (R153): 0-3 the links of the half's regions, 4-7 its event ingress ports, 8 its Rill port, 9 its seam
endpoint, 10 the macro units of the West half, which are sources of their own there (log entry 87). -/
abbrev HSrc := Fin 11

/-- A piece inside a region: its number there, the crossbar source it came by (0-3 attached port, 4 half link), for a piece of the
half link the half-crossbar source and the beats that have crossed it, the beats not yet at the stop, whether a beat was granted,
and the answers given so far. -/
structure RPiece where
  uid : Nat
  via : Fin 5
  hsrc : HSrc
  came : Nat
  piece : Piece
  left : List (Nat × PBeat)
  granted : Bool
  res : List (Option BeatRes)
  deriving DecidableEq, Repr

/-- A beat at a block's stop: the piece it belongs to, its index, whether it ends the piece, and its order of arrival. -/
structure BReq where
  uid : Nat
  i : Nat
  last : Bool
  src : BSrc
  op : CellOp
  beat : PBeat
  ord : Nat
  slipped : Bool
  deriving DecidableEq, Repr

/-- Where an engine request stands: at the Sluice stage, in an open gather, on its way as pieces, a signal on its way or
held, or fully answered. -/
inductive EStage where
  | sluice
  | gather
  | sent
  | signal
  | answered
  deriving DecidableEq, Repr

/-- An outstanding engine request (R112): the write beats taken, the beat that its row brought and that waits for its turn on the
write data channel (R111), whether they broke R111, whether a piece was granted at a block (R28), the beats forwarded, the answers,
the beats the host has taken, for a signal its stamps (R294, R295), and for a tagged request the last of the stages 1 to 4 of R489 that
its beats have reached. -/
structure EReq where
  seq : Nat
  op : ReqOp
  q : ReqF
  stage : EStage
  got : List WBeat
  carry : List WBeat
  broke : Bool
  begun : Bool
  fwd : Nat
  res : List (Option BeatRes)
  taken : Nat
  detached : Bool
  gather : Option (Region × Nat)
  stamp : W32
  stampAll : W32
  tagged : Bool
  mark : Nat
  deriving DecidableEq, Repr

/-- A signal held at the Bandstand or the Lodge (R23, R294): port, request, operation, address, word, scope and stamps. -/
structure Held where
  seq : Nat
  bell : Bool
  addr : BitVec 29
  word : W64
  scope : BitVec 2
  stamp : W32
  stampAll : W32
  deriving DecidableEq, Repr

/-- The issue and retire counts of a port for the scopes region, half and whole block, and the writes not yet retired
in each scope, in issue order, with whether each has taken effect (R294). -/
structure Retire where
  issue : Vector W32 3
  retired : Vector W32 3
  order : Vector (List (Nat × Bool)) 3
  deriving DecidableEq, Repr

/-- An engine port: its outstanding requests in transfer order, the read response in progress (its seq), retire counts,
the counts the Bandstand knows, and the signals held for it. -/
structure PortSt where
  reqs : List EReq
  nextSeq : Nat
  cur : Option Nat
  ret : Retire
  seen : Vector W32 3
  held : List Held
  deriving DecidableEq, Repr

/-! ## Counters -/

/-- A 48-bit performance counter and its WRAP bit (R491), its shadow (R484) and its select. -/
structure Counter where
  sel : BitVec 16
  val : BitVec 48
  wrap : Bool
  shadow : W64
  deriving DecidableEq, Repr

/-! ## Region -/

/-- The power state of a region (R398), in the encoding order of PWR_STATE (R416). -/
inductive PState where
  | run
  | idle
  | retain
  | off
  deriving DecidableEq, Repr

/-- The staged steps (R402); basin is the 64-cycle basin, entry and queue clear of R459. -/
inductive StepKind where
  | arrayOn
  | periphOn
  | periphInit
  | clear
  | settle
  | clockOn
  | basin
  | clockOff
  | periphOff
  | arrayOff
  deriving DecidableEq, Repr

/-- A booked step: start and end in ns since the tick count was 0, and whether it has started (R404). A step larger than
the ledger is booked as eight segments; seg is the number of segments still to come. -/
structure Booked where
  kind : StepKind
  start : Nat
  stop : Nat
  begun : Bool
  dataClear : Bool
  deriving DecidableEq, Repr

/-- The power controller of a region: state, wake request pending (R401), steps of a wake or a downward move and
whether freeze was asserted when they were granted (R456), ticks in the state (R400) and the policy (R421). -/
structure RPower where
  st : PState
  pend : Bool
  waking : Bool
  down : Bool
  downWait : Bool
  again : Bool
  steps : List Booked
  late : Bool
  ticks : Nat
  loadHold : Bool
  idleAfter : BitVec 16
  retainAfter : W32
  offAfter : W32
  deepest : BitVec 2
  rank : BitVec 3
  deriving DecidableEq, Repr

/-- A model descriptor (R85). -/
structure Desc where
  tag : BitVec 16
  valid : Bool
  srcBase : BitVec 24
  indexBase : BitVec 16
  indexCount : BitVec 17
  tt : Fin 4
  prog : Fin 8
  deriving DecidableEq, Repr

/-- Model selection (R103, R104): DESC as last written, the descriptor of the switch in progress (R107), ACTIVE; the timetable in force and the slot counter (R161), whether the current slot's entry failed its
parity and is treated as open (R148), and whether slot 0 has still to have its cycle since the region entered Run (R145). -/
structure Model where
  sel : BitVec 6
  target : BitVec 6
  active : BitVec 6
  switching : Bool
  hold : Bool
  invalid : Bool
  again : Bool
  tt : Fin 4
  ttPending : Bool
  slot : Fin 1024
  slotBad : Bool
  fresh : Bool
  deriving DecidableEq, Repr

/-- The Plan tables a region holds (R82, R84, R85, R169, R170). -/
structure PlanTabs where
  index : Table W32
  entry : Table W64
  slots : Table W64
  decay : Table (BitVec 16)
  descs : Vector Desc 64
  deriving DecidableEq, Repr

/-- An open or running gather (R124). -/
structure Gather where
  inst : Nat
  g : BitVec 5
  addr : BitVec 29
  len : BitVec 6
  hp : Bool
  members : W32
  joined : List (EPort × Nat)
  started : Bool
  deriving DecidableEq, Repr

/-- Multicast registers and gathers (R126-R128). -/
structure Mcast where
  masks : Vector W32 32
  gatherCycles : Byte
  det : W32
  gathers : List Gather
  next : Nat
  deriving DecidableEq, Repr

/-- The registers of RG_ARB_CTRL, RG_QUOTA and RG_BURST (R154-R156). -/
structure ArbRegs where
  mode : Bool
  starveIe : Bool
  limit : Byte
  quota : BitVec 10
  window : BitVec 10
  burst : Vector (BitVec 6) 4
  deriving DecidableEq, Repr

/-- Arbitration of a region: the registers as written and as in effect, the flags and counts (R150-R161), the starvation counters of the
six crossbar sources (R151), and the source that the half crossbar's output to the region served last (R153). -/
structure Arb where
  regs : ArbRegs
  eff : ArbRegs
  freeze : W32
  starvePort : BitVec 4
  starveHalf : Bool
  starveEntry : Bool
  starveBlk : W32
  quotaUsed : Vector Nat 32
  starve : Vector Nat 6
  hlast : HSrc
  deriving DecidableEq, Repr

/-- An event copy: the event word, and the number of its tag when it is followed (R488). -/
structure Copy where
  ev : W64
  tag : Option Nat
  deriving DecidableEq, Repr

/-- A row-event (R172, R175): everything it was expanded with, which of its group's rows it is, and whether it has failed its
residue check once (R205). -/
structure RowEv where
  rowBase : BitVec 10
  i : Nat
  seg : BitVec 4
  wfmt : BitVec 3
  shift : BitVec 5
  mag : Byte
  neg : Bool
  tried : Bool
  tag : Option Nat
  deriving DecidableEq, Repr

/-- A group on its way to a block queue: block and rows (R174). -/
structure Group where
  block : Blk
  rows : List RowEv
  deriving DecidableEq, Repr

/-- The step close in progress (R176): the barriers that started it, and the step it has reached. -/
inductive CloseStep where
  | entry
  | drain
  | sweep
  deriving DecidableEq, Repr

/-- A step close of a region: the barrier whose release started it, the number of that release, and its place (R176). -/
structure Close where
  bar : Fin 64
  uid : Nat
  at_ : CloseStep
  deriving DecidableEq, Repr

/-- The event side of a region (R166, R176, R183-R190). stepsSeen numbers the releases whose STEP packet of the other half has
arrived and whose close has not ended (R389). -/
structure REvents where
  epoch : W32
  stepTime : W64
  hold : Bool
  arriving : List Copy
  entry : List Copy
  groups : List Group
  closes : List Close
  stepsSeen : List Nat
  epochWrap : Bool
  ringFull : Bool
  countWrap : BitVec 5
  counts : Vector W32 5
  trEntry : BitVec 17
  trInc : Bool
  trSpace : Bool
  deriving DecidableEq, Repr

/-- Lane and basin access registers (R213-R216). -/
structure RLanes where
  intSat : Bool
  fpInf : Bool
  fpNan : Bool
  replayed : Bool
  replayWrap : Bool
  replays : W32
  clrBlk : W32
  word : BitVec 11
  block : Blk
  inc : Bool
  deriving DecidableEq, Repr

/-- Sweep registers of a region (R241-R245). -/
structure RSweep where
  badProg : Bool
  badInstr : Bool
  emitStall : Bool
  arithSat : Bool
  traceSat : Bool
  emittedWrap : Bool
  suppressedWrap : Bool
  lastProg : Fin 8
  cycles : BitVec 24
  emitted : W32
  suppressed : W32
  word : BitVec 11
  space : BitVec 2
  block : Blk
  inc : Bool
  deriving DecidableEq, Repr

/-- A running sweep of a block (R223): program, epoch, group count (0 until RANGE is performed), the group in progress with its
next instruction, the 64 x 8 registers (lane k register j at 8k + j), the flags and the rows held under R227. -/
structure Sweep where
  prog : Fin 8
  epoch : W32
  gcount : Nat
  group : Nat
  pc : Option (Fin 33)
  regs : Vector W32 512
  flags : BitVec 64
  rows : List (BitVec 10)
  ended : Bool
  deriving DecidableEq, Repr

/-- The four requesters of a block arbiter (R141), in tie order. -/
inductive Requester where
  | event
  | atomics
  | fills
  | xbar
  deriving DecidableEq, Repr

/-- A block (05_arbitration.md, 06_event_path.md, 08_sweep_and_traces.md): rrLast is the crossbar source its output served last
(R149), evIssued tells that the event unit has issued in this cycle of its grant, stalled names the cell whose port B was stalled
last (R139), and starve holds the requesters' starvation counters (R151). -/
structure Block where
  xq : List BReq
  aq : List BReq
  fq : List BReq
  sched : List BReq
  grant : Option (Requester × Nat)
  prio : Vector (Fin 8) 4
  rrLast : Fin 6
  evIssued : Bool
  stalled : Option (Fin 8)
  starve : Vector Nat 4
  evq : List RowEv
  ring : Vector (List RowEv) 16
  released : List RowEv
  halted : Bool
  sweep : Option Sweep
  emits : List W64
  store : Table W32
  consts : Table W32
  counters : Vector Counter 4
  deriving DecidableEq, Repr

/-- A region. -/
structure RegionSt where
  power : RPower
  model : Model
  plan : PlanTabs
  mcast : Mcast
  arb : Arb
  ev : REvents
  lanes : RLanes
  sweep : RSweep
  counters : Vector Counter 8
  fence : W32
  inq : List RPiece
  nextUid : Nat
  nextOrd : Nat
  blocks : Vector Block 32
  deriving DecidableEq, Repr

/-! ## Events outside the regions -/

/-- An accepted event at an ingress port: the word, the destinations still to be placed (regions of this half, and the mask of
the far half's), and the releases known to its half at acceptance, whose step boundary it is post (R164, R176). -/
structure InEvent where
  ev : W64
  near : Byte
  far : Byte
  post : List Nat
  tag : Option Nat
  tagRegion : Region
  deriving DecidableEq, Repr

/-- An egress port (R185): its output buffer, the head being the presented event, with whether it is presented, and the number of
the block served last (R153). -/
structure EgressSt where
  buf : List W64
  presented : Bool
  last : Fin 256
  deriving DecidableEq, Repr

/-! ## Footbridge -/

/-- A CONTROL message (R384): what it tells the other half. -/
inductive CtlMsg where
  | stepRelease (regions : Byte) (bar : Fin 64) (uid : Nat)
  | sweepDone (r : Region) (bar : Fin 64) (uid : Nat)
  | rillArrive (b : BitVec 12) (k : RPort)
  | rillSem (n : BitVec 12)
  | pairAdd (n : BitVec 8) (producer : Bool)
  | bell (slot : BitVec 12) (stop : Bool)
  | pairValue (n : BitVec 8) (v : W64) (posted : Option Bool)
  | depWatch (ctx : BitVec 12) (sem : BitVec 12) (n : W32)
  | depMet (ctx : BitVec 12)
  | depFull (ctx : BitVec 12)
  | wake (r : Region)
  deriving DecidableEq, Repr

/-- A packet (R383-R386): the header fields, strobes, beats and event entries that its flits spell, and, beside them, the
bookkeeping of the piece and the CONTROL message, which the flits carry in an encoding that no register or port shows. -/
structure Packet where
  kind : BitVec 4
  src : BitVec 6
  tag : BitVec 12
  op : BitVec 4
  addr : BitVec 29
  beats : BitVec 3
  strb : Bool
  scope : BitVec 2
  bresp : BitVec 24
  word : W64
  stamp : W32
  strbs : List (BitVec 64)
  data : List Beat
  events : List (BitVec 80)
  ref : Option BSrc
  first : Nat
  hp : Bool
  ctl : Option CtlMsg
  via : HSrc
  deriving DecidableEq, Repr

/-- A flit on the wires: its 288 bits (R369) and the bookkeeping of its packet. -/
structure Flit where
  bits : BitVec 288
  side : Option Packet
  deriving DecidableEq, Repr

/-- Link state of a direction (R365) and the phase of its training (R366). -/
inductive LinkState where
  | down
  | training (phase : Fin 4)
  | up
  | fault
  deriving DecidableEq, Repr

/-- One direction of the Footbridge. txq holds the packets that wait at the half crossbar's seam output; plast, clast and elast are
the source served last in each class, the class served last, and the block whose output event was served last (R153, R371, R387).
link holds the link flits on the wires with their groups, and sawUp tells that a valid side word with state UP has arrived in this
direction since its training began (R366). -/
structure FbDir where
  st : LinkState
  noSpare : BitVec 4
  crcErr : W32
  crcWrap : Bool
  replays : W32
  replayWrap : Bool
  map : Vector W64 4
  txq : Vector (List Packet) 4
  plast : Vector HSrc 4
  clast : FbClass
  elast : Fin 256
  sent : Vector Byte 4
  freedSeen : Vector Byte 4
  nextSeq : BitVec 7
  replay : List Flit
  replayOf : Option (BitVec 7)
  replayTimes : Nat
  wire : List Flit
  link : List (Fin 4 × BitVec 288)
  sawUp : Bool
  rxNext : BitVec 7
  nak : Bool
  bad : Option (BitVec 288)
  asm : List Flit
  rxq : Vector (List Packet) 4
  freed : Vector Byte 4
  errs : Table Nat
  retiring : List (Fin 4 × Fin 144 × Fin 8)
  txDrive : List (Fin 4 × Fin 144 × Fin 8)
  deriving DecidableEq, Repr

/-- The Footbridge registers (R392-R395), the STEP packets each half's routing stage has still to place (R389), and the
directions. -/
structure Footbridge where
  spareEn : Bool
  replayLimit : BitVec 5
  retired : Bool
  trained : Bool
  trainFailed : Bool
  retiredIe : Bool
  trainedIe : Bool
  failedIe : Bool
  thresh : Byte
  window : BitVec 24
  winTicks : Nat
  winEff : BitVec 24
  threshEff : Byte
  msgs : Nat
  steps : Vector (List (Nat × Byte)) 2
  dirs : Vector FbDir 2
  deriving DecidableEq, Repr

/-! ## Rill -/

/-- The state of a stream head (R250). -/
inductive StreamState where
  | idle
  | queued
  | running
  | halted
  | done
  | aborted
  deriving DecidableEq, Repr

/-- The status of a stream head, and where Rill stands in its chain: the slot of the next descriptor to request (none after
LAST), whether a request is queued, whether it waits at a free slot (R261), and whether it is being aborted. -/
structure StreamSt where
  st : StreamState
  fencedSeen : Bool
  posSlot : BitVec 12
  posBeat : BitVec 10
  xaddr : BitVec 58
  tiles : W32
  next : Option (BitVec 12)
  asked : Bool
  waitSlot : Bool
  aborting : Bool
  xkey : Option (Nat × Nat)
  depMet : Bool
  depAsked : Bool
  deriving DecidableEq, Repr

/-- Where one beat of an admitted tile stands: not issued, outstanding under a tag, merged with another read of its line
(R273), staged, on its way in the data space, or complete. -/
inductive BeatSt where
  | idle
  | out (tag : BitVec 11)
  | merged
  | staged (d : Beat)
  | moving
  | done
  deriving DecidableEq, Repr

/-- An admitted descriptor (R258): its number, stream head, slot, shape and the beats' places. -/
structure Tile where
  uid : Nat
  ctx : BitVec 12
  slot : BitVec 12
  drain : Bool
  wtag : Option (BitVec 11)
  share : Bool
  last : Bool
  rowBeats : Nat
  ext : List (BitVec 58)
  ds : List (BitVec 21)
  beats : List BeatSt
  deriving DecidableEq, Repr

/-- A line of an echo cache: its external address [63:6] and data; the most recently used line comes first (R272). -/
structure EchoLine where
  addr : BitVec 58
  data : Beat
  deriving DecidableEq, Repr

/-- What an external transfer is for: a beat of a tile; a beat that the resumed stream issues again (R268); the Plan loader or the
firmware load (R102, R426). -/
inductive OutKind where
  | tile
  | old
  | plan
  | firmware
  deriving DecidableEq, Repr

/-- An outstanding external transfer: tag, the tile and beat it serves or the Gatehouse (none), and its address. alloc tells that the
echo cache takes the line (R273, R274), or, of a Gatehouse transfer, that the load it was made for still runs. -/
structure ROut where
  tag : BitVec 11
  kind : OutKind
  write : Bool
  who : Option (Nat × Nat)
  addr : BitVec 58
  alloc : Bool
  deriving DecidableEq, Repr

/-- A Rill port (R247). -/
structure RillPort where
  tiles : List Tile
  queue : List (BitVec 12)
  outs : List ROut
  echo : List EchoLine
  echoEn : Bool
  invBusy : Bool
  invLo : BitVec 58
  invLen : W32
  parDrop : Bool
  wicketRun : Fin 4
  rr : BitVec 12
  pieceRun : Fin 4
  pieceRr : BitVec 12
  req : Option ROut
  wdata : Beat
  deriving DecidableEq, Repr

/-- Rill. wicketQ holds the users that wait for a Wicket tag, in request order: a port, or the Gatehouse (none) (R271). pairSeen is what port 1 was last told of the pairs by CONTROL, pairPosted its own completions that no such value counts yet
(R259, R263, R265, R384). -/
structure Rill where
  slots : Table W64
  streams : Table StreamSt
  ports : Vector RillPort 2
  nextUid : Nat
  wickets : List (BitVec 11)
  wicketQ : List (Option RPort)
  xlate : Bool
  xlateIe : Bool
  invAddr : BitVec 58
  invLen : W32
  pairSeen : Table W64
  pairPosted : List (Byte × Bool)
  deriving DecidableEq, Repr

/-! ## Bandstand and Lodge -/

/-- The holder of a watch (R297). -/
inductive WOwner where
  | engine (p : EPort) (seq : Nat)
  | control (cookie : BitVec 16)
  | rill (ctx : BitVec 12)
  deriving DecidableEq, Repr

/-- A watch (R296): number, owner, kind, target, N, ticks since registration, timeout in force at registration, PENDING
message, and for a SYNC the barrier generation it was counted in. -/
structure Watch where
  w : BitVec 10
  owner : WOwner
  kind : BitVec 3
  target : BitVec 12
  n : W32
  ticks : Nat
  timeout : BitVec 24
  pending : Option W64
  sync : Bool
  deriving DecidableEq, Repr

/-- A barrier (R302, R323-R325): configuration, the counts of the current generation, generations, the chips counted by the
manager, and the regions whose close has not ended step 4, by release. -/
structure Barrier where
  armed : Bool
  chip : Bool
  step : Byte
  rillW : BitVec 4
  rillE : BitVec 4
  ctrl : Byte
  cnt : W64
  inReg : Vector Byte 8
  inW : BitVec 4
  inE : BitVec 4
  inCtrl : Byte
  sent : Bool
  selfIn : Bool
  chips : List (BitVec 6)
  gen : W32
  sgen : W32
  closing : List (Nat × Byte)
  deriving DecidableEq, Repr

/-- The Bandstand. -/
structure Bandstand where
  sem : Table (BitVec 31)
  pairs : Table W64
  bars : Vector Barrier 64
  watches : List Watch
  pendOrder : List (BitVec 10)
  msgs : List W64
  nextClose : Nat
  timeout : Bool
  semErr : Bool
  barErr : Bool
  syncErr : Bool
  watchFull : Bool
  errWrap : Bool
  warnWrap : Bool
  msgIe : Bool
  tmoIe : Bool
  errIe : Bool
  role : BitVec 2
  chipId : BitVec 6
  managerId : BitVec 6
  chips : BitVec 7
  wtmo : BitVec 24
  errCount : W32
  scopeWarn : W32
  txq : List W64
  txWait : List W64
  rxq : List W64
  deriving DecidableEq, Repr

/-- The sender of a mailbox word (R334): an engine's doorbell, a register write, or a Gatehouse reply. -/
inductive Sender where
  | engine (p : EPort) (seq : Nat)
  | port (p : RegPort)
  | gatehouse
  deriving DecidableEq, Repr

/-- A deposit in flight (R334): its sender and whether its beat has taken effect or was fenced. -/
structure Deposit where
  uid : Nat
  sender : Sender
  landed : Bool
  deriving DecidableEq, Repr

/-- A mailbox: MB_CFG (R345), the held word with whether the Gatehouse sent it, deposits in flight, and suspension (R335). -/
structure Mailbox where
  recv : BitVec 2
  wake : Byte
  pair : Byte
  ring : Byte
  depAddr : BitVec 21
  word : Option (W64 × Bool)
  deps : List Deposit
  suspended : Bool
  deriving DecidableEq, Repr

/-- The Lodge. -/
structure Lodge where
  boxes : Vector Mailbox 64
  ie : W64
  rejected : Bool
  depFenced : Bool
  rejectWrap : Bool
  rejects : W32
  nextUid : Nat
  deriving DecidableEq, Repr

/-! ## Sluice -/

/-- A Sluice class 0-6 (R356). -/
structure SluClass where
  base : BitVec 11
  limit : BitVec 12
  en : Bool
  deriving DecidableEq, Repr

/-- The class table, the budgets and SLU_URGENCY, as written or as in effect in a half (R354). -/
structure SluTab where
  cls : Vector SluClass 7
  budget : Vector (BitVec 16) 256
  extra1 : BitVec 10
  extra2 : BitVec 10
  extra3 : BitVec 10
  deriving DecidableEq, Repr

/-- The Sluice (12_sluice_regulation.md); pos is the window position of each half as it stood when its clock last stopped (R348). -/
structure Sluice where
  regs : SluTab
  eff : Vector SluTab 2
  credit : Vector Int 256
  acc : Vector Nat 256
  pos : Vector (BitVec 10) 2
  used : Vector (BitVec 16) 256
  beats : Vector W32 8
  heldCnt : Vector W32 8
  heldNow : W32
  beatsWrap : Byte
  heldWrap : Byte
  urgent : Bool
  deriving DecidableEq, Repr

/-! ## Power -/

/-- The governor of a half (R406, R407), in units of 1.25 mA / 1024: the activity of each of its regions in this interval, that of the
last interval of the previous tick and of the interval before this one, the rise that the tick's ledger allows, the intervals of the
tick that have ended, the shares that the interval before left unused, whether this interval has been limited, by the ledger or by
the ceiling, and the largest estimate of the half in the tick, in units of 1.25 mA. -/
structure Governor where
  act : Vector Nat 4
  base : Nat
  prev : Nat
  rest : Nat
  ended : Nat
  spare : Nat
  limited : Bool
  byCeil : Bool
  peak : Nat
  deriving DecidableEq, Repr

/-- The stager of a half (R403): the limit in force, the rise and fall ledgers of the current tick and the 15 after it in
units of 1.25 mA, the reserve left, the governor and its report. -/
structure Stager where
  s : BitVec 7
  rise : Vector Nat 16
  fall : Vector Nat 16
  reserve : Nat
  gov : Governor
  ceilActive : Bool
  est : BitVec 16
  ceilEff : Byte
  deriving DecidableEq, Repr

/-- The power and clock registers (R413-R420). -/
structure Power where
  stepW : BitVec 7
  stepE : BitVec 7
  reserve : Byte
  ceilW : Byte
  ceilE : Byte
  mhz : Vector (BitVec 10) 2
  hold : Byte
  wakeDone : Byte
  ceiling : Bool
  fclkReq : Bool
  wakeIe : Bool
  ceilIe : Bool
  fclkIe : Bool
  stagers : Vector Stager 2
  deriving DecidableEq, Repr

/-! ## Gatehouse, measurement, Plan loader, fuses -/

/-- GH_BOOT_STAT.STAGE (R445). -/
inductive Stage where
  | reset
  | fuses
  | waitImage
  | loading
  | running
  | failed
  deriving DecidableEq, Repr

/-- The Gatehouse request being served (R337): its word, what it waits for, and the reply's STATUS and RESULT. -/
inductive GhReq where
  | measure (w : W64) (sign present : Bool)
  | signing (w : W64) (digest : BitVec 384) (ticks : Nat)
  | fuses (w : W64)
  | reply (w : W64) (status : Byte) (result : W32)
  deriving DecidableEq, Repr

/-- The Gatehouse (15_gatehouse_boot_measurement.md). entry and regs are where ROM jumped and with which registers (R427); accFault is the
address of the access that raised the core's last access-fault exception (R422). -/
structure Gatehouse where
  cpOpen : Bool
  mpReady : Bool
  stage : Stage
  src : Bool
  error : Byte
  fwAddr : BitVec 58
  fwLen : BitVec 18
  fwGot : List Byte
  fwEnded : Bool
  code : Table Byte
  data : Table Byte
  entry : W32
  regs : Vector W32 32
  accFault : Option W32
  mtimecmp : W64
  asleep : Bool
  extIrq : Bool
  req : Option GhReq
  deriving DecidableEq, Repr

/-- A pending extend of the measurement hardware (R432): the slot and the 48-byte digest of its data. -/
structure Extend where
  slot : Fin 8
  digest : BitVec 384
  deriving DecidableEq, Repr

/-- Measurement registers (R448-R450); byte k of a slot lies in bits 8k+7 to 8k. -/
structure Meas where
  slots : Vector (BitVec 384) 8
  cnt : Vector (BitVec 16) 8
  wrap : Vector Bool 8
  extData : Vector W64 6
  queue : List Extend
  report : Vector W64 54
  sig : Vector W64 16
  sigLen : Byte
  deriving DecidableEq, Repr

/-- PLN_STATUS.STATE (R89). -/
inductive LoadState where
  | idle
  | loading
  | done
  | rejected
  deriving DecidableEq, Repr

/-- What the loader keeps of a Plan header (R67). -/
structure PlanHdr where
  length : Nat
  count : Nat
  part : Bool
  mask : Byte
  planId : W32
  deriving DecidableEq, Repr

/-- The Plan loader (R88-R93): buf holds the bytes of the header or section being read, taken the bytes before it. -/
structure Loader where
  source : Bool
  st : LoadState
  error : Byte
  section_ : BitVec 16
  addr : BitVec 58
  regions : Byte
  whole : Bool
  planId : W32
  buf : List Byte
  taken : Nat
  hdr : Option PlanHdr
  secIdx : Nat
  seen : List (Nat × Nat)
  measured : Bool
  everDone : Bool
  deriving DecidableEq, Repr

/-- A column steering in force (R466). -/
structure Steer where
  region : Fin 8
  pblock : Nat
  cell : Fin 8
  column : Nat
  spare : Fin 8
  deriving DecidableEq, Repr

/-- Fuse reading and repair (R51, R52, R465-R467, R475, R476). -/
structure Fuse where
  words : List W32
  req : Option (BitVec 10)
  ticks : Nat
  reread : Bool
  done : Bool
  badHdr : Bool
  timedOut : Bool
  blank : Bool
  cols : BitVec 10
  badEntry : BitVec 10
  conflict : BitVec 10
  sel : W64
  steers : List Steer
  deriving DecidableEq, Repr

/-! ## Faults, restart, address map, counters, wrapper -/

/-- GH_STATUS.CAUSE (R444). -/
inductive Cause where
  | none
  | fault
  | command
  | stop
  deriving DecidableEq, Repr

/-- Freeze and stop (R27-R30, R439-R441): asserted is pl_frozen, reached the halves it has reached; stopped tells that a stop has
closed the intake since the last release (R30, R441). -/
structure Freeze where
  asserted : Bool
  reached : Vector Bool 2
  cause : Cause
  stopping : Bool
  stopped : Bool
  quiescent : Vector Bool 2
  east : List W64
  deriving DecidableEq, Repr

/-- The fault registers (R468-R471). -/
structure Faults where
  first : W64
  firstTime : W64
  firstValid : Bool
  log : List W64
  more : W32
  moreWrap : Bool
  irq : Bool
  irqIe : Bool
  deriving DecidableEq, Repr

/-- RS_STAT.STATE (R472). -/
inductive RsState where
  | idle
  | clearing
  | done
  | failed
  deriving DecidableEq, Repr

/-- Job restart (R456-R460): the regions whose CLEAR step this GO waits for, those with outstanding clears of data and of the
basin (R459), those that were waking at GO and clear their basin when they reach Run (R458), and the directions that were in
FAULT. -/
structure Restart where
  keep : Bool
  st : RsState
  clearing : Byte
  pendData : Byte
  pendBasin : Byte
  wakeBasin : Byte
  train : Vector Bool 2
  deriving DecidableEq, Repr

/-- An address window (R71). -/
structure Window where
  base : Nat
  size : Nat
  gran : Fin 3
  rowMajor : Bool
  regions : Byte
  en : Bool
  blocks : W32
  pbase : Nat
  deriving DecidableEq, Repr

/-- A route entry (R75). -/
structure Route where
  lo : BitVec 24
  hi : BitVec 24
  en : Bool
  regions : Byte
  deriving DecidableEq, Repr

/-- The macro-scope structure of the Plan: windows, home masters, routes and egress map (R71-R76). -/
structure AddrMap where
  windows : Vector Window 16
  home : Vector W32 8
  routes : Vector Route 64
  egress : Vector Byte 256
  deriving DecidableEq, Repr

/-- How far a dump has gone (R485). -/
inductive DumpPhase where
  | headerOut
  | bodyOut
  | closing
  deriving DecidableEq, Repr

/-- A dump in progress: its header fields, base address at the sample, phase and writes not yet acknowledged. -/
structure Dump where
  seq : W32
  skipped : Bool
  offMask : Byte
  time : W64
  addr : BitVec 21
  phase : DumpPhase
  outstanding : Nat
  deriving DecidableEq, Repr

/-- The macro counters, dump and tagging registers (R491-R496). -/
structure Counters where
  counters : Vector Counter 16
  dumpNow : Bool
  dumpDue : Bool
  dumpDone : Bool
  dumpSkip : Bool
  dumpFenced : Bool
  wrap : Bool
  dumpIe : Bool
  wrapIe : Bool
  cpRead : Bool
  period : W32
  ticks : Nat
  addr : BitVec 21
  sem : BitVec 12
  semEn : Bool
  seq : W32
  skipNext : Bool
  dump : Option Dump
  tagEn : Bool
  tagKind : Bool
  tagK : BitVec 4
  tagPorts : W32
  seed : BitVec 16
  lfsr : BitVec 16
  tagFull : Bool
  tagSel : Byte
  tagHigh : Nat
  tags : List (BitVec 128)
  nextTag : Nat
  open_ : List (Nat × EvPort × Region × Option Blk × Nat)
  deriving DecidableEq, Repr

/-- The wrapper instruction register's instructions (R505). -/
inductive WsInstr where
  | bypass
  | extest
  | id
  | tctrl
  | tstat
  | tresult
  | repair
  deriving DecidableEq, Repr

/-- The IEEE 1500 wrapper and the self-test (R505-R510): the instruction, the data registers, the mode and regions of the test
that runs, and the identity or status word captured last. -/
structure Wrapper where
  rst : Bool
  instr : WsInstr
  bypass : Bool
  boundary : List Bool
  sampled : List Bool
  captured : W32
  mode : BitVec 2
  regions : Byte
  wholeMem : Bool
  startReq : Bool
  runMode : BitVec 2
  runRegions : Byte
  runWhole : Bool
  busy : Bool
  done : Bool
  pass : Bool
  abort : Bool
  startErr : Bool
  regionFail : Byte
  wholeFail : Bool
  imageFull : Bool
  result : BitVec 264
  image : List W32
  deriving DecidableEq, Repr

/-- Always-on logic (R60, R434, R462): aon_rst_n asserted, the tick count of every Sundial, the boot counter, FLT_STAT.RAIL,
and whether a rail is lost (R64). -/
structure Aon where
  rst : Bool
  sundial : W64
  bootCount : W32
  bootWrap : Bool
  rail : Bool
  lost : Bool
  bleed : List (Half × Rail)
  deriving DecidableEq, Repr

/-- Reset, test and clock pins (R50, R54, R58, R60). -/
structure Pins where
  rst : Bool
  testMode : Bool
  fclkOk : Vector Bool 2
  fclkNeed : Vector Bool 2
  deriving DecidableEq, Repr

/-- A register access that waits (R44): for its region to wake, for a step close to end, for the loader or the measurement
hardware to take a word, or for a deposit to complete. -/
inductive HeldAcc where
  | trRead (r : Region) (bad : Bool)
  | trWrite (r : Region) (d : W64)
  | trDelay (r : Region) (d : W32)
  | basinClr (r : Region) (d : W32)
  | basinWr (r : Region) (d : W64)
  | basinRd (r : Region) (bad : Bool)
  | basinClrRd (r : Region)
  | sweepRd (r : Region) (bad : Bool)
  | plnData (w : W32)
  | fwData (w : W32)
  | deposit
  deriving DecidableEq, Repr

/-- The response of a register access: read data and bus error (R43). -/
structure RegRsp where
  data : W64
  err : Bool
  deriving DecidableEq, Repr

/-- How the data of the access in progress reach the port: whole; as the upper register of a 64-bit access whose lower register
read lo (R44); or as the lower half of a 64-bit register whose upper half goes to the holding register (R46). -/
inductive RspShape where
  | whole
  | upper (lo : W32)
  | lower
  deriving DecidableEq, Repr

/-- An access that a register port has accepted and not begun: its offset, its size, its write data, and for an access over the
management link the outcome of the link's check (R44, R442). -/
structure PortAcc where
  addr : BitVec 20
  size64 : Bool
  wr : Option W64
  link : Option Bool
  deriving DecidableEq, Repr

/-- A register port: the responses that the host has not taken, oldest first (R33, R43), the access that waits, how its data
arrive, the accesses accepted behind it (R44), and the port's holding register (R46). -/
structure RegPortSt where
  rsps : List RegRsp
  held : Option HeldAcc
  shape : RspShape
  queue : List PortAcc
  hold : W32
  deriving DecidableEq, Repr

end Sys2Proof.Machine
end

