-- ==== Sys2Proof/Machine/State.lean ====
section
/-! DEFINITION. The state of the block as plain data, and its value at power-up with both resets asserted (R16, R60, R61,
R499, R500). -/

namespace Sys2Proof.Machine

/-- Why the model's machine stops. No command of the block faults: the faults of R451 are effects, recorded in State. -/
inductive Fault where
  /-- Raised by nothing: no meaning answers with it. Safe. -/
  | unused
  deriving DecidableEq, Repr

/-- Why a command has no outcome. -/
inductive Refusal where
  /-- Raised by an arm of exec whose meaning is not written. Safe. -/
  | notModelled (mnemonic : String)
  deriving DecidableEq, Repr

/-- The whole block: the queue of waiting commands, the number of the next free value (the model's own field, log entry 5),
and the state of each unit. mem holds the data space by physical address (region, block, cell, row, byte as in R21),
basin the basins: byte j of the basin of block b of region r at 16384 * (32 r + b) + j. -/
structure State where
  pending : List Instr
  free : Nat
  aon : Aon
  pins : Pins
  frz : Freeze
  flt : Faults
  rs : Restart
  gh : Gatehouse
  meas : Meas
  pln : Loader
  pwr : Power
  map : AddrMap
  slu : Sluice
  fb : Footbridge
  rill : Rill
  cnt : Counters
  bst : Bandstand
  lod : Lodge
  fuse : Fuse
  wrp : Wrapper
  mem : Table Byte
  basin : Table Byte
  regions : Vector RegionSt 8
  ports : Vector PortSt 32
  ingress : Vector (List InEvent) 8
  egress : Vector EgressSt 8
  cp : RegPortSt
  mp : RegPortSt
  ghp : RegPortSt
  deriving DecidableEq, Repr

/-! ## Reset values, unit by unit (R499, R500, R98) -/

/-- A counter after macro reset (R491, R492; the select is Plan, log entry 6). -/
def counter0 : Counter := ⟨0, 0, false, 0⟩

/-- RG_ARB_CTRL, RG_QUOTA and RG_BURST after macro reset (R154-R156). -/
def arbRegs0 : ArbRegs := ⟨true, true, 16, 16, 64, Vector.replicate 4 7⟩

/-- The power policy of R98, also the Reset column of R421, in a region that is Off (R62). -/
def power0 : RPower :=
  { st := .off, pend := false, waking := false, down := false, downWait := false, again := false, steps := [], late := false, ticks := 0,
    loadHold := false, idleAfter := 64, retainAfter := 0, offAfter := 0, deepest := 1, rank := 0 }

/-- An invalid descriptor (R85, R98). Before any Plan, where R16 leaves a Plan value undefined, every descriptor is this one, so
RG_MODEL_STAT.MODEL_TAG reads 0 (log entry 6). -/
def desc0 : Desc := ⟨0, false, 0, 0, 0, 0, 0⟩

/-- The Plan tables of R98. -/
def plan0 : PlanTabs := ⟨[], [], [], [], Vector.replicate 64 desc0⟩

/-- A block with nothing in it. -/
def block0 : Block :=
  { xq := [], aq := [], fq := [], sched := [], grant := none, prio := Vector.replicate 4 0, rrLast := 5,
    evIssued := false, stalled := none, starve := Vector.replicate 4 0,
    evq := [], ring := Vector.replicate 16 [], released := [], halted := false, sweep := none, emits := [], store := [],
    consts := [], counters := Vector.replicate 4 counter0 }

/-- Event registers of a region after macro reset (R186-R190). -/
def revents0 : REvents :=
  { epoch := 0, stepTime := 0, hold := false, arriving := [], entry := [], groups := [], closes := [], stepsSeen := [], epochWrap := false,
    ringFull := false, countWrap := 0, counts := Vector.replicate 5 0, trEntry := 0, trInc := false, trSpace := false }

/-- Lane registers after macro reset (R213-R216). -/
def rlanes0 : RLanes := ⟨false, false, false, false, false, 0, 0, 0, 0, false⟩

/-- Sweep registers after macro reset (R241-R245). -/
def rsweep0 : RSweep := ⟨false, false, false, false, false, false, false, 0, 0, 0, 0, 0, 0, 0, false⟩

/-- A region after macro reset: Off, with every register at its Reset value. -/
def region0 : RegionSt :=
  { power := power0
    model := ⟨0, 0, 0, false, false, false, false, 0, false, 0, false, false⟩
    plan := plan0
    mcast := ⟨Vector.replicate 32 0, 32, 0, [], 0⟩
    arb := ⟨arbRegs0, arbRegs0, 0, 0, false, false, 0, Vector.replicate 32 0, Vector.replicate 6 0, 10⟩
    ev := revents0
    lanes := rlanes0
    sweep := rsweep0
    counters := Vector.replicate 8 counter0
    fence := 0
    inq := []
    nextUid := 0
    nextOrd := 0
    blocks := Vector.replicate 32 block0 }

/-- An engine port after macro reset. -/
def port0 : PortSt :=
  { reqs := [], nextSeq := 0, cur := none, ret := ⟨Vector.replicate 3 0, Vector.replicate 3 0, Vector.replicate 3 []⟩,
    seen := Vector.replicate 3 0, held := [] }

/-- A Footbridge direction after macro reset (R393, R396, R397). -/
def fbDir0 : FbDir :=
  { st := .down, noSpare := 0, crcErr := 0, crcWrap := false, replays := 0, replayWrap := false,
    map := Vector.replicate 4 (BitVec.allOnes 64), txq := Vector.replicate 4 [], plast := Vector.replicate 4 10, clast := 3, elast := 255, sent := Vector.replicate 4 0,
    freedSeen := Vector.replicate 4 0, nextSeq := 0, replay := [], replayOf := none, replayTimes := 0, wire := [], link := [],
    sawUp := false, rxNext := 0, nak := false, bad := none, asm := [], rxq := Vector.replicate 4 [], freed := Vector.replicate 4 0, errs := [],
    retiring := [], txDrive := [] }

/-- The Footbridge after macro reset (R392-R395). -/
def footbridge0 : Footbridge :=
  { spareEn := true, replayLimit := 16, retired := false, trained := false, trainFailed := false, retiredIe := true,
    trainedIe := true, failedIe := true, thresh := 4, window := 1000000, winTicks := 0, winEff := 1000000, threshEff := 4,
    msgs := 0, steps := Vector.replicate 2 [], dirs := Vector.replicate 2 fbDir0 }

/-- A stream head's status after macro reset (R250). -/
def stream0 : StreamSt :=
  { st := .idle, fencedSeen := false, posSlot := 0, posBeat := 0, xaddr := 0, tiles := 0, next := none, asked := false,
    waitSlot := false, aborting := false, xkey := none, depMet := false, depAsked := false }

/-- A Rill port after macro reset (R276, R278, R282). -/
def rillPort0 : RillPort :=
  { tiles := [], queue := [], outs := [], echo := [], echoEn := true, invBusy := false, invLo := 0, invLen := 0,
    parDrop := false, wicketRun := 0, rr := 0, pieceRun := 0, pieceRr := 0, req := none, wdata := 0 }

/-- Rill after macro reset (R281-R286). -/
def rill0 : Rill :=
  { slots := [], streams := [], ports := Vector.replicate 2 rillPort0, nextUid := 0, wickets := [], wicketQ := [], xlate := false,
    xlateIe := true, invAddr := 0, invLen := 0, pairSeen := [], pairPosted := [] }

/-- A barrier after macro reset (R323-R325). -/
def barrier0 : Barrier :=
  { armed := false, chip := false, step := 0, rillW := 0, rillE := 0, ctrl := 0, cnt := 0, inReg := Vector.replicate 8 0,
    inW := 0, inE := 0, inCtrl := 0, sent := false, selfIn := false, chips := [], gen := 0, sgen := 0, closing := [] }

/-- The Bandstand after macro reset (R312-R326). -/
def bandstand0 : Bandstand :=
  { sem := [], pairs := [], bars := Vector.replicate 64 barrier0, watches := [], pendOrder := [], msgs := [], nextClose := 0, timeout := false, semErr := false,
    barErr := false, syncErr := false, watchFull := false, errWrap := false, warnWrap := false, msgIe := true, tmoIe := true,
    errIe := true, role := 0, chipId := 0, managerId := 0, chips := 1, wtmo := 0xF4240, errCount := 0, scopeWarn := 0,
    txq := [], txWait := [], rxq := [] }

/-- A mailbox after macro reset (R345), with this receiver. -/
def mailbox0 (recv : BitVec 2) : Mailbox := ⟨recv, 0, 0, 0, 0, none, [], false⟩

/-- The Lodge after macro reset: mailbox 0 has RECV 1 (R328, R342-R345). -/
def lodge0 : Lodge :=
  { boxes := vset (Vector.replicate 64 (mailbox0 0)) 0 (mailbox0 1), ie := BitVec.allOnes 64, rejected := false,
    depFenced := false, rejectWrap := false, rejects := 0, nextUid := 0 }

/-- The class table and budgets of R98 and R350; SLU_URGENCY at its Reset values (R357). -/
def sluTab0 : SluTab := ⟨Vector.replicate 7 ⟨0, 0, false⟩, Vector.replicate 256 0xFFFF, 32, 64, 128⟩

/-- The Sluice after macro reset (R349, R350, R359-R362). -/
def sluice0 : Sluice :=
  { regs := sluTab0, eff := Vector.replicate 2 sluTab0, credit := Vector.replicate 256 0, acc := Vector.replicate 256 0, pos := Vector.replicate 2 0,
    used := Vector.replicate 256 0, beats := Vector.replicate 8 0, heldCnt := Vector.replicate 8 0, heldNow := 0,
    beatsWrap := 0, heldWrap := 0, urgent := false }

/-- A governor with no activity. -/
def governor0 : Governor := ⟨Vector.replicate 4 0, 0, 0, 0, 0, 0, false, false, 0⟩

/-- A stager with empty ledgers, at the step limit of the Reset column (R413). -/
def stager0 : Stager :=
  { s := 30, rise := Vector.replicate 16 0, fall := Vector.replicate 16 0, reserve := 0, gov := governor0, ceilActive := false, est := 0,
    ceilEff := 0 }

/-- Power registers after macro reset (R413-R420). -/
def pwr0 : Power :=
  { stepW := 30, stepE := 30, reserve := 22, ceilW := 0, ceilE := 0, mhz := Vector.replicate 2 1000, hold := 0, wakeDone := 0,
    ceiling := false, fclkReq := false, wakeIe := false, ceilIe := true, fclkIe := true, stagers := Vector.replicate 2 stager0 }

/-- The Gatehouse after macro reset (R443-R447). SRC reads X until the first release (log entry 6). -/
def gatehouse0 : Gatehouse :=
  { cpOpen := false, mpReady := false, stage := .reset, src := false, error := 0, fwAddr := 0, fwLen := 0, fwGot := [],
    fwEnded := false, code := [], data := [], entry := 0, mtimecmp := BitVec.allOnes 64,
    regs := Vector.replicate 32 0, accFault := none, asleep := false, extIrq := false, req := none }

/-- The measurement registers after macro reset (R432, R448-R450). -/
def meas0 : Meas :=
  { slots := Vector.replicate 8 0, cnt := Vector.replicate 8 0, wrap := Vector.replicate 8 false,
    extData := Vector.replicate 6 0, queue := [], report := Vector.replicate 54 0, sig := Vector.replicate 16 0, sigLen := 0 }

/-- The Plan loader after macro reset (R88-R93). -/
def loader0 : Loader :=
  { source := false, st := .idle, error := 0, section_ := 0, addr := 0, regions := 0, whole := false, planId := 0, buf := [],
    taken := 0, hdr := none, secIdx := 0, seen := [], measured := false, everDone := false }

/-- Fuses before the read (R475, R476). -/
def fuse0 : Fuse :=
  { words := [], req := none, ticks := 0, reread := false, done := false, badHdr := false, timedOut := false, blank := false,
    cols := 0, badEntry := 0, conflict := 0, sel := 0, steers := [] }

/-- No freeze and no stop (R441, R444). -/
def freeze0 : Freeze := ⟨false, Vector.replicate 2 false, .none, false, false, Vector.replicate 2 false, []⟩

/-- The fault registers after macro reset (R468-R473). -/
def faults0 : Faults := ⟨0, 0, false, [], 0, false, false, true⟩

/-- Job restart after macro reset (R472). -/
def restart0 : Restart := ⟨false, .idle, 0, 0, 0, 0, Vector.replicate 2 false⟩

/-- The macro-scope structure of R98. -/
def map0 : AddrMap :=
  { windows := Vector.replicate 16 ⟨0, 0, 0, false, 0, false, 0, 0⟩, home := Vector.replicate 8 0,
    routes := Vector.replicate 64 ⟨0, 0, false, 0⟩, egress := Vector.replicate 256 0 }

/-- The macro counter block after macro reset (R494-R496). -/
def counters0 : Counters :=
  { counters := Vector.replicate 16 counter0, dumpNow := false, dumpDue := false, dumpDone := false, dumpSkip := false, dumpFenced := false,
    wrap := false, dumpIe := false, wrapIe := true, cpRead := false, period := 0, ticks := 0, addr := 0, sem := 0, semEn := false,
    seq := 0, skipNext := false, dump := none, tagEn := false, tagKind := false, tagK := 10, tagPorts := 0, seed := 0xACE1,
    lfsr := 0xACE1, tagFull := false, tagSel := 0, tagHigh := 0, tags := [], nextTag := 0, open_ := [] }

/-- The wrapper after WRSTN (R60, R506, R507). -/
def wrapper0 : Wrapper :=
  { rst := true, instr := .bypass, bypass := false, boundary := [], sampled := [], captured := 0, mode := 0, regions := 0xFF, wholeMem := true,
    startReq := false, runMode := 0, runRegions := 0, runWhole := false, busy := false, done := false, pass := false,
    abort := false, startErr := false, regionFail := 0, wholeFail := false, imageFull := false, result := 0, image := [] }

/-- Always-on logic with aon_rst_n asserted (R60, R434). -/
def aon0 : Aon := ⟨true, 0, 0, false, false, false, []⟩

/-- A register port with nothing outstanding. -/
def regPort0 : RegPortSt := ⟨[], none, .whole, [], 0⟩

/-- The block as power-up leaves it: aon_rst_n, mac_rst_n and WRSTN asserted (R61), both fclk_ok 0, every register at its
Reset value, every region Off, no command waiting (log entry 6). -/
def State.reset : State :=
  { pending := []
    free := 0
    aon := aon0
    pins := ⟨true, false, Vector.replicate 2 false, Vector.replicate 2 false⟩
    frz := freeze0
    flt := faults0
    rs := restart0
    gh := gatehouse0
    meas := meas0
    pln := loader0
    pwr := pwr0
    map := map0
    slu := sluice0
    fb := footbridge0
    rill := rill0
    cnt := counters0
    bst := bandstand0
    lod := lodge0
    fuse := fuse0
    wrp := wrapper0
    mem := []
    basin := []
    regions := Vector.replicate 8 region0
    ports := Vector.replicate 32 port0
    ingress := Vector.replicate 8 []
    egress := Vector.replicate 8 ⟨[], false, 255⟩
    cp := regPort0
    mp := regPort0
    ghp := regPort0 }

end Sys2Proof.Machine
end

