-- ==== Sys2Proof/Decode.lean ====
section
/-! DEFINITION. What words mean. The rows of spec/opcode_table.json give no bits, so no word spells a command; the words the
spec does lay out are the sweep instructions (R229, R230), the Trellis words (R169, R170), the event word (R162) and the
Bandstand operation word (R287), read here once. -/

namespace Sys2Proof

/-- No row of the table has bits: no word spells a command. -/
def decodeTableWord (_nbits _w : Nat) : Option Instr := none

/-- The opcodes of a sweep instruction (R230); invalid covers R233. -/
inductive SweepOp where
  | endProg
  | range
  | lds
  | sts
  | ldb
  | stb
  | ldi
  | add
  | sub
  | addc
  | mulc
  | shri
  | max
  | min
  | cmp
  | sel
  | rst
  | emit
  | trc
  | invalid
  deriving DecidableEq, Repr

/-- Field RD of a sweep instruction (R229). -/
def sweepRd (w : W32) : Nat := (w.extractLsb' 24 3).toNat
/-- Field RA (R229). -/
def sweepRa (w : W32) : Nat := (w.extractLsb' 21 3).toNat
/-- Field RB (R229). -/
def sweepRb (w : W32) : Nat := (w.extractLsb' 18 3).toNat
/-- Field CIDX (R229). -/
def sweepCidx (w : W32) : Nat := (w.extractLsb' 12 6).toNat
/-- Field X (R229). -/
def sweepX (w : W32) : BitVec 12 := w.extractLsb' 0 12
/-- Field FMT of LDB and STB (R230). -/
def sweepFmt (w : W32) : Nat := (w.extractLsb' 7 2).toNat
/-- Field FSCALE, -8 to 7 (R232). -/
def sweepFscale (w : W32) : Int := (w.extractLsb' 12 4).toInt
/-- Field ABASE (R230). -/
def sweepAbase (w : W32) : Nat := (w.extractLsb' 0 7).toNat
/-- Field BASE (R230). -/
def sweepBase (w : W32) : Nat := (w.extractLsb' 0 10).toNat

/-- The opcode of the instruction w at place i of a program (R218, R229, R230, R233). -/
def sweepOp (i : Nat) (w : W32) : SweepOp :=
  if w = 0 then .endProg
  else
    match (w.extractLsb' 27 5).toNat with
    | 0x00 => .endProg
    | 0x01 => if i = 0 then .range else .invalid
    | 0x02 => .lds
    | 0x03 => .sts
    | 0x04 => if sweepFmt w = 3 then .invalid else .ldb
    | 0x05 => if sweepFmt w = 3 then .invalid else .stb
    | 0x06 => .ldi
    | 0x07 => .add
    | 0x08 => .sub
    | 0x09 => .addc
    | 0x0A => .mulc
    | 0x0B => .shri
    | 0x0C => .max
    | 0x0D => .min
    | 0x0E => if (w.extractLsb' 3 2) = 3 then .invalid else .cmp
    | 0x0F => .sel
    | 0x10 => .rst
    | 0x11 => .emit
    | 0x12 => if (w.extractLsb' 3 2) = 3 then .invalid else .trc
    | _ => .invalid

/-- FIRST of an index entry (R169). -/
def indexFirst (w : W32) : Nat := (w.extractLsb' 0 17).toNat
/-- COUNT of an index entry (R169). -/
def indexCount (w : W32) : Nat := (w.extractLsb' 17 15).toNat

/-- The fields of a Trellis entry word (R170). -/
structure EntryWord where
  block : Blk
  rowBase : BitVec 10
  rowCount : Nat
  seg : BitVec 4
  delay : Nat
  wfmt : BitVec 3
  shift : BitVec 5
  deriving DecidableEq, Repr

/-- The fields of entry word w (R170); ROW_COUNT holds the number of rows minus one. -/
def entryFields (w : W64) : EntryWord :=
  { block := ⟨(w.extractLsb' 0 5).toNat, (w.extractLsb' 0 5).isLt⟩, rowBase := w.extractLsb' 5 10,
    rowCount := (w.extractLsb' 15 6).toNat + 1, seg := w.extractLsb' 21 4, delay := (w.extractLsb' 25 4).toNat,
    wfmt := w.extractLsb' 29 3, shift := w.extractLsb' 32 5 }

/-- The number of ones of a word. -/
def ones {n : Nat} (w : BitVec n) : Nat := (List.range n).foldl (fun a i => if w.getLsbD i then a + 1 else a) 0

/-- A word whose number of ones is even passes the parity of R82, R170 and R465. -/
def evenParity {n : Nat} (w : BitVec n) : Bool := ones w % 2 == 0

/-- A Trellis entry word that the loader and RG_TR_DATA accept: reserved bits 0 and WFMT not reserved (R171, R180). -/
def entryFieldsOk (w : W64) : Bool := w.extractLsb' 37 26 == 0 && decide ((w.extractLsb' 29 3).toNat < 6)

/-- SRC of an event word (R162). -/
def evSrc (w : W64) : BitVec 24 := w.extractLsb' 0 24
/-- MAG of an event word (R162). -/
def evMag (w : W64) : Byte := w.extractLsb' 24 8
/-- NEG of an event word (R162). -/
def evNeg (w : W64) : Bool := w.getLsbD 32
/-- NODELAY of an event word (R162). -/
def evNoDelay (w : W64) : Bool := w.getLsbD 33
/-- NOWAKE of an event word (R162). -/
def evNoWake (w : W64) : Bool := w.getLsbD 34

/-- N of a Bandstand operation word (R287). -/
def bstN (w : W64) : W32 := w.extractLsb' 0 32
/-- PB of a Bandstand operation word (R287). -/
def bstPb (w : W64) : Byte := w.extractLsb' 36 8

end Sys2Proof
end

