-- ==== Sys2Proof/Config.lean ====
section
/-! DEFINITION. The free values of the model: constants without a body, so that nothing can be proved of a value
the spec leaves open (log entry 5). Each is applied to State.free, a counter that the step advances. -/

namespace Sys2Proof.Config

/-- A value of w bits that the spec leaves open: the data of a BUSY beat (R109, R118), contents after a reread or a self-test (R467,
R509), fields that show a moment in cycles (R358, R242, R489) and the others that log entry 5 lists. The first argument is the draw's
number. -/
opaque freeBits (draw : Nat) (w : Nat) : BitVec w

/-- The estimated activity current of one row-event issued in a governor interval, and of one sweep group started, in units of
1.25 mA / 1024: the weights are Torvem's (R405, R406). -/
opaque rowAmp : Fin 65536

/-- See rowAmp. -/
opaque groupAmp : Fin 65536

/-- The packing of a CONTROL packet's WORD field, an internal encoding that no register or port shows (R384):
the word that carries the message of this number. The receiver takes the message itself (log entry 12). -/
opaque controlWord (message : Nat) : BitVec 64

end Sys2Proof.Config
end

