-- ==== Sys2Proof/Machine/Ops.lean ====
section
/-! DEFINITION. The named operations over registers, memory, counters and faults that every unit uses. -/

namespace Sys2Proof.Machine

/-! ## Numbers, halves and free values -/

/-- The half of a region (R18). -/
def halfOf (r : Region) : Half := if r.val < 4 then 0 else 1
/-- The half of an engine port (R21). -/
def portHalf (p : EPort) : Half := if p.val < 16 then 0 else 1
/-- The half of an event port (R21). -/
def evHalf (n : EvPort) : Half := if n.val < 4 then 0 else 1
/-- The region an engine port is attached to (R21). -/
def portRegion (p : EPort) : Region := ⟨p.val / 4, by omega⟩
/-- The other half. -/
def other (h : Half) : Half := if h = 0 then 1 else 0
/-- An index, taken modulo the count. -/
def fin (n : Nat) [NeZero n] (k : Nat) : Fin n := Fin.ofNat n k

/-- Free value k of this step, w bits (log entry 5). -/
def fv (s : State) (k w : Nat) : BitVec w := Config.freeBits (s.free * 4096 + k) w

/-- Bit r of an 8-bit region mask. -/
def bit8 (m : Byte) (r : Region) : Bool := m.getLsbD r.val
/-- A region mask with one bit. -/
def mask8 (r : Region) : Byte := BitVec.ofNat 8 (2 ^ r.val)
/-- A 32-bit mask with one bit. -/
def mask32 (b : Fin 32) : W32 := BitVec.ofNat 32 (2 ^ b.val)
/-- Bit b of a 32-bit mask. -/
def bit32 (m : W32) (b : Fin 32) : Bool := m.getLsbD b.val
/-- A Bool as a bit. -/
def b1 (b : Bool) : BitVec 1 := if b then 1 else 0
/-- Put value v of width w into a word at bit lo. -/
def field {w : Nat} (lo : Nat) (v : BitVec w) : W64 := (v.setWidth 64) <<< lo
/-- A 32-bit word from a 64-bit one. -/
def lo32 (d : W64) : W32 := d.setWidth 32

/-! ## State access -/

/-- Region r. -/
def rg (s : State) (r : Region) : RegionSt := vget s.regions r
/-- Region r changed by f. -/
def modRg (s : State) (r : Region) (f : RegionSt → RegionSt) : State := { s with regions := vmod s.regions r f }
/-- Block b of region r. -/
def blk (s : State) (r : Region) (b : Blk) : Block := vget (rg s r).blocks b
/-- Block b of region r changed by f. -/
def modBlk (s : State) (r : Region) (b : Blk) (f : Block → Block) : State :=
  modRg s r (fun g => { g with blocks := vmod g.blocks b f })
/-- Engine port p. -/
def ep (s : State) (p : EPort) : PortSt := vget s.ports p
/-- Engine port p changed by f. -/
def modEp (s : State) (p : EPort) (f : PortSt → PortSt) : State := { s with ports := vmod s.ports p f }
/-- Event side of region r changed by f. -/
def modEv (s : State) (r : Region) (f : REvents → REvents) : State := modRg s r (fun g => { g with ev := f g.ev })
/-- Power controller of region r changed by f. -/
def modPw (s : State) (r : Region) (f : RPower → RPower) : State := modRg s r (fun g => { g with power := f g.power })
/-- Direction d of the Footbridge changed by f. -/
def modDir (s : State) (d : Half) (f : FbDir → FbDir) : State := { s with fb := { s.fb with dirs := vmod s.fb.dirs d f } }
/-- Direction d of the Footbridge. -/
def dir (s : State) (d : Half) : FbDir := vget s.fb.dirs d
/-- Rill port k changed by f. -/
def modRp (s : State) (k : RPort) (f : RillPort → RillPort) : State :=
  { s with rill := { s.rill with ports := vmod s.rill.ports k f } }
/-- Rill port k. -/
def rp (s : State) (k : RPort) : RillPort := vget s.rill.ports k
/-- The status of stream head ctx. -/
def stream (s : State) (ctx : BitVec 12) : StreamSt := tget stream0 s.rill.streams ctx.toNat
/-- The status of stream head ctx changed by f. -/
def modStream (s : State) (ctx : BitVec 12) (f : StreamSt → StreamSt) : State :=
  { s with rill := { s.rill with streams := tset stream0 s.rill.streams ctx.toNat (f (stream s ctx)) } }
/-- Barrier b changed by f. -/
def modBar (s : State) (b : Fin 64) (f : Barrier → Barrier) : State := { s with bst := { s.bst with bars := vmod s.bst.bars b f } }
/-- Barrier b. -/
def bar (s : State) (b : Fin 64) : Barrier := vget s.bst.bars b
/-- Mailbox n changed by f. -/
def modBox (s : State) (n : Fin 64) (f : Mailbox → Mailbox) : State := { s with lod := { s.lod with boxes := vmod s.lod.boxes n f } }
/-- Mailbox n. -/
def box (s : State) (n : Fin 64) : Mailbox := vget s.lod.boxes n

/-- Functional operation is possible: no reset asserted, no rail lost (R62, R64), and no self-test isolates the ports (R508). -/
def live (s : State) : Bool := !s.pins.rst && !s.aon.rst && !s.aon.lost && !s.wrp.busy
/-- The half is live and its fclk runs (R58). -/
def clocked (s : State) (h : Half) : Bool := live s && vget s.pins.fclkOk h
/-- Freeze has reached the half (R27). -/
def frozen (s : State) (h : Half) : Bool := s.frz.asserted && vget s.frz.reached h
/-- Freeze or stop closes the half's intake (R28, R30). -/
def closed (s : State) (h : Half) : Bool := frozen s h || s.frz.stopping || s.frz.stopped
/-- Block b of region r is fenced (R463). -/
def fenced (s : State) (r : Region) (b : Blk) : Bool := bit32 (rg s r).fence b
/-- The region is in Run and neither waking nor moving down. -/
def inRun (s : State) (r : Region) : Bool := (rg s r).power.st == .run && !(rg s r).power.down
/-- A load whose scope includes region r is in progress (R99): its header has passed the checks. -/
def loadingR (s : State) (r : Region) : Bool :=
  s.pln.st == .loading && (match s.pln.hdr with | some h => bit8 h.mask r | none => false)
/-- PLN_LOADED bit of region r (R92). -/
def planned (s : State) (r : Region) : Bool := bit8 s.pln.regions r

/-- End of a command: the next free-value number. -/
def step1 (s : State) : State := { s with free := s.free + 1 }

/-! ## Counters (R477-R482) -/

/-- A counter plus n, with whether it carried out of 48 bits (R482). -/
def cntAdd (c : Counter) (n : Nat) : Counter × Nat :=
  let t := c.val.toNat + n
  ({ c with val := BitVec.ofNat 48 t }, t / 2 ^ 48)

/-- The select of EVENT e and ARG a (R478). -/
def selOf (e a : Nat) : BitVec 16 := BitVec.ofNat 16 (e + 128 * a)

/-- Counter i of a set whose select is one of sels advances by n; an odd neighbour above it whose select is CHAIN takes the
carry, and otherwise the carry sets WRAP (R481, R482). The Bool tells that a WRAP rose. -/
def cntBump {k : Nat} (v : Vector Counter k) (i : Fin k) (n : Nat) : Vector Counter k × Bool :=
  let (c, carry) := cntAdd (vget v i) n
  let v := vset v i c
  if carry = 0 then (v, false)
  else if h : i.val % 2 = 0 ∧ i.val + 1 < k then
    let j : Fin k := ⟨i.val + 1, h.2⟩
    if (vget v j).sel = selOf 0x7F 0 then
      let (c2, carry2) := cntAdd (vget v j) carry
      if carry2 = 0 then (vset v j c2, false) else (vset v j { c2 with wrap := true }, !(vget v j).wrap)
    else (vset v i { c with wrap := true }, !c.wrap)
  else (vset v i { c with wrap := true }, !c.wrap)

/-- Every counter of a set whose select is in sels advances by n. -/
def cntAll {k : Nat} (v : Vector Counter k) (sels : List (BitVec 16)) (n : Nat) : Vector Counter k × Bool :=
  (idx k).foldl (fun (acc : Vector Counter k × Bool) i =>
    if sels.contains (vget acc.1 i).sel then
      let (v', w) := cntBump acc.1 i n
      (v', acc.2 || w)
    else acc) (v, false)

/-- A WRAP that rose sets CNT_STAT.WRAP (R482). -/
def wrapFlag (s : State) (w : Bool) : State := if w then { s with cnt := { s.cnt with wrap := true } } else s

/-- n events of a macro counter event, with its ARG (R479). -/
def countM (s : State) (e a n : Nat) : State :=
  let (v, w) := cntAll s.cnt.counters [selOf e a] n
  wrapFlag { s with cnt := { s.cnt with counters := v } } w

/-- n events of a macro counter event that several ARGs count (R479). -/
def countMs (s : State) (sels : List (BitVec 16)) (n : Nat) : State :=
  let (v, w) := cntAll s.cnt.counters sels n
  wrapFlag { s with cnt := { s.cnt with counters := v } } w

/-- n events of a region counter event. Counters advance only in a region in Run (R477). -/
def countR (s : State) (r : Region) (e a n : Nat) : State :=
  if (rg s r).power.st = .run then
    let (v, w) := cntAll (rg s r).counters [selOf e a] n
    wrapFlag (modRg s r (fun g => { g with counters := v })) w
  else s

/-- n events of a block event, counted by the block's counters and summed by the region's; a fenced block's counters stop
(R463, R477, R479). sels are the selects that count it. -/
def countBs (s : State) (r : Region) (b : Blk) (sels : List (BitVec 16)) (n : Nat) : State :=
  if (rg s r).power.st = .run && !fenced s r b then
    let (v, w) := cntAll (blk s r b).counters sels n
    let (v2, w2) := cntAll (rg s r).counters sels n
    wrapFlag (modRg s r (fun g => { g with counters := v2, blocks := vmod g.blocks b (fun x => { x with counters := v }) })) (w || w2)
  else s

/-- n events of a block event with this ARG. -/
def countB (s : State) (r : Region) (b : Blk) (e a n : Nat) : State := countBs s r b [selOf e a] n

/-! ## Freeze and faults (R451-R455, R439, R440) -/

/-- Assert freeze with a cause; CAUSE keeps the first (R440). The Gatehouse's external interrupt is raised (R423). -/
def assertFreeze (s : State) (c : Cause) : State :=
  if s.frz.asserted then s
  else
    { s with
      frz := { s.frz with asserted := true, reached := Vector.replicate 2 false, cause := c, stopping := false }
      gh := { s.gh with extIrq := true } }

/-- A fault record (R455). -/
def faultRec (code level half unit cell : Nat) (detail : W32) : W64 :=
  field 0 (BitVec.ofNat 8 code) ||| field 8 (BitVec.ofNat 3 level) ||| field 11 (BitVec.ofNat 1 half) |||
    field 16 (BitVec.ofNat 8 unit) ||| field 24 (BitVec.ofNat 3 cell) ||| field 32 detail

/-- The fault registers after this record reaches the aggregator (R453, R454). -/
def logFault (f : Faults) (now rec : W64) : Faults :=
  if !f.firstValid then { f with first := rec, firstTime := now, firstValid := true, irq := true }
  else
    let more := f.more + 1
    { f with
      log := if (f.first :: f.log).contains rec || decide (16 ≤ f.log.length) then f.log else f.log ++ [rec]
      more := more
      moreWrap := f.moreWrap || more == 0
      irq := true }

/-- The aggregator records a fault: the record, freeze with CAUSE FAULT, and a restart in CLEARING fails (R451, R454, R460). -/
def recordFault (s : State) (rec : W64) : State :=
  let s := { s with flt := logFault s.flt s.aon.sundial rec
                    rs := { s.rs with st := if s.rs.st = .clearing then .failed else s.rs.st } }
  assertFreeze s .fault

/-- A unit of a half raises a fault: West faults reach the aggregator at once, East faults over the raise wires (R453). -/
def raise (s : State) (half : Half) (rec : W64) : State :=
  if half = 0 then recordFault s rec else { s with frz := { s.frz with east := s.frz.east ++ [rec] } }

/-- A fault of a block of region r (levels Cell 0 and Block 1). -/
def blockFault (s : State) (r : Region) (b : Blk) (code level cell : Nat) (detail : W32) : State :=
  raise s (halfOf r) (faultRec code level (halfOf r).val (32 * r.val + b.val) cell detail)

/-- A fault of region r (level Region 2). -/
def regionFault (s : State) (r : Region) (code : Nat) (detail : W32) : State :=
  raise s (halfOf r) (faultRec code 2 (halfOf r).val r.val 0 detail)

/-- A fault of a unit of half h (level Half 3). -/
def halfFault (s : State) (h : Half) (code unit : Nat) (detail : W32) : State :=
  raise s h (faultRec code 3 h.val unit 0 detail)

/-- A fault of a unit that exists once (level Macro 4). -/
def wholeFault (s : State) (code : Nat) (detail : W32) : State := recordFault s (faultRec code 4 0 0 0 detail)

/-! ## Bytes, beats and the data space (R11, R21, R72) -/

/-- The n bytes of a word, byte 0 first (R11). -/
def bytesOf {w : Nat} (v : BitVec w) (n : Nat) : List Byte := (List.range n).map (fun i => v.extractLsb' (8 * i) 8)
/-- The word of a list of bytes, byte 0 first (R11). -/
def wordOf (w : Nat) (bs : List Byte) : BitVec w := bs.foldr (fun b acc => (acc <<< 8) ||| b.setWidth w) 0

/-- The first byte of row `row` of a cell in the data space, by the default decomposition (R21). -/
def rowAddr (r : Region) (b : Blk) (cell : Fin 8) (row : BitVec 10) : Nat :=
  (((r.val * 32 + b.val) * 8 + cell.val) * 1024 + row.toNat) * 64

/-- Arrays are no longer written after a RAIL fault (R412). -/
def canWrite (s : State) : Bool := !s.aon.rail

/-- The 64 bytes of a beat as stored. -/
def readBytes (s : State) (r : Region) (b : Blk) (cell : Fin 8) (row : BitVec 10) : List Byte :=
  tgets 0 s.mem (rowAddr r b cell row) 64

/-- A beat of a cell. -/
def readBeat (s : State) (r : Region) (b : Blk) (cell : Fin 8) (row : BitVec 10) : Beat :=
  wordOf 512 (readBytes s r b cell row)

/-- The old bytes with those that the strobe enables taken from data (R133). -/
def mergeBytes (old : List Byte) (data : Beat) (strb : BitVec 64) : List Byte :=
  old.mapIdx (fun i o => if strb.getLsbD i then data.extractLsb' (8 * i) 8 else o)

/-- Write a beat byte-granularly (R133). -/
def writeBeat (s : State) (r : Region) (b : Blk) (cell : Fin 8) (row : BitVec 10) (data : Beat) (strb : BitVec 64) : State :=
  if canWrite s then
    { s with mem := tputs 0 s.mem (rowAddr r b cell row) (mergeBytes (readBytes s r b cell row) data strb) }
  else s

/-- The number of ones of a word below bit n, and the k-th set bit from bit 0 (R72). -/
def nthBit {w : Nat} (m : BitVec w) (k : Nat) : Nat :=
  ((List.range w).filter (fun i => m.getLsbD i)).getD k 0

/-- Granule sizes in bytes (R71). -/
def granBytes (g : Fin 3) : Nat := if g = 0 then 64 else if g = 1 then 512 else 4096

/-- A place in the data space. -/
structure Place where
  region : Region
  block : Blk
  cell : Fin 8
  row : BitVec 10
  off : BitVec 6
  deriving DecidableEq, Repr

/-- The default decomposition of a logical byte address (R21). -/
def placeDefault (a : Nat) : Place :=
  ⟨fin 8 (a / 2 ^ 24), fin 32 (a / 2 ^ 19), fin 8 (a / 2 ^ 16), BitVec.ofNat 10 (a / 64), BitVec.ofNat 6 a⟩

/-- The place of logical address a in window w (R72). -/
def placeWindow (w : Window) (a : Nat) : Place :=
  let g0 := granBytes w.gran
  let nr := ones w.regions
  let n := nr * ones w.blocks
  let o := a - w.base
  let g := o / g0
  let k := g % n
  let l := w.pbase + (g / n) * g0 + o % g0
  { region := fin 8 (nthBit w.regions (k % nr)), block := fin 32 (nthBit w.blocks (k / nr)),
    cell := if w.rowMajor then fin 8 (l / 64) else fin 8 (l / 2 ^ 16),
    row := if w.rowMajor then BitVec.ofNat 10 (l / 512) else BitVec.ofNat 10 (l / 64), off := BitVec.ofNat 6 l }

/-- Where logical address a lives: the enabled window that contains it, else the default decomposition (R72, R114). -/
def place (s : State) (a : Nat) : Place :=
  match s.map.windows.toList.find? (fun w => w.en && decide (w.base ≤ a) && decide (a < w.base + w.size)) with
  | some w => placeWindow w a
  | none => placeDefault a

/-! ## Basins (R199) -/

/-- The first byte of a block's basin. -/
def basinAddr (r : Region) (b : Blk) : Nat := 16384 * (32 * r.val + b.val)

/-- n bytes of a basin from byte j. -/
def basinGet (s : State) (r : Region) (b : Blk) (j n : Nat) : List Byte :=
  tgets 0 s.basin (basinAddr r b + j) n

/-- Bytes put into a basin from byte j. -/
def basinPut (s : State) (r : Region) (b : Blk) (j : Nat) (bs : List Byte) : State :=
  if canWrite s then { s with basin := tputs 0 s.basin (basinAddr r b + j) bs } else s

/-- Bytes j .. j+n-1 of a basin set to zero. -/
def basinZero (s : State) (r : Region) (b : Blk) (j n : Nat) : State :=
  if canWrite s then { s with basin := tclear s.basin (basinAddr r b + j) (basinAddr r b + j + n) } else s

/-- Every basin of a region set to zero. -/
def basinZeroRegion (s : State) (r : Region) : State :=
  if canWrite s then { s with basin := tclear s.basin (basinAddr r 0) (basinAddr r 0 + 32 * 16384) } else s

/-- The data space of a region set to zero (R401, R458). -/
def memZeroRegion (s : State) (r : Region) : State :=
  if canWrite s then { s with mem := tclear s.mem (r.val * 2 ^ 24) ((r.val + 1) * 2 ^ 24) } else s

/-! ## Register ports (R43, R44) -/

/-- Register port state. -/
def rport (s : State) : RegPort → RegPortSt
  | .cp => s.cp
  | .mp => s.mp
  | .gh => s.ghp

/-- Register port state changed. -/
def modRport (s : State) (p : RegPort) (f : RegPortSt → RegPortSt) : State :=
  match p with
  | .cp => { s with cp := f s.cp }
  | .mp => { s with mp := f s.mp }
  | .gh => { s with ghp := f s.ghp }

/-- The accesses that a port may have outstanding (R44, R423). -/
def portDepth : RegPort → Nat
  | .cp => 4
  | .mp => 1
  | .gh => 1

/-- Accesses outstanding at a port: responses not taken, the access that waits, and those behind it (R44). -/
def unanswered (x : RegPortSt) : Nat := x.rsps.length + (if x.held.isSome then 1 else 0) + x.queue.length

/-- Responses that leave room for one access more: a request transfers only where the port has room, so the host has taken the
oldest responses before it (R33, R44, log entry 8). -/
def roomFor (n : Nat) (x : RegPortSt) : RegPortSt :=
  { x with rsps := x.rsps.drop (unanswered x + 1 - n) }

/-- The access in progress is answered: its response stands behind those that the host has not taken. -/
def respond (n : Nat) (x : RegPortSt) (r : RegRsp) : RegPortSt :=
  let y := roomFor n { x with held := none, shape := .whole }
  { y with rsps := y.rsps ++ [r] }

/-- A port answered with data d: whole, over the lower register's word (R44), or with its upper half held (R46). -/
def answered (n : Nat) (x : RegPortSt) (d : W64) : RegPortSt :=
  match x.shape with
  | .whole => respond n x ⟨d, false⟩
  | .upper lo => respond n x ⟨(lo32 d) ++ lo, false⟩
  | .lower => { respond n x ⟨(lo32 d).setWidth 64, false⟩ with hold := d.extractLsb' 32 32 }

/-- Answer an access with read data. -/
def reply (s : State) (p : RegPort) (d : W64) : State := modRport s p (fun x => answered (portDepth p) x d)
/-- Answer a write: the response returns 0 (R43). -/
def ack (s : State) (p : RegPort) : State := reply s p 0
/-- Refuse an access with a bus error; it has no effect (R44). -/
def busErr (s : State) (p : RegPort) : State := modRport s p (fun x => respond (portDepth p) x ⟨0, true⟩)
/-- The access waits. -/
def holdAcc (s : State) (p : RegPort) (a : HeldAcc) : State := modRport s p (fun x => { roomFor (portDepth p) { x with held := none } with held := some a })

/-- The port is open (R62, R430). -/
def portUp (s : State) : RegPort → Bool
  | .cp => s.gh.cpOpen
  | .mp => s.gh.mpReady
  | .gh => true

/-- The port performs an access: it is open, and no earlier access waits (R43, R44). -/
def portReady (s : State) (p : RegPort) : Bool :=
  live s && (rport s p).held.isNone && (rport s p).queue.isEmpty && portUp s p

/-- The port accepts a request: fewer accesses than its depth are unanswered (R44). -/
def portTakes (s : State) (p : RegPort) : Bool :=
  live s && portUp s p && decide ((rport s p).queue.length + (if (rport s p).held.isSome then 1 else 0) < portDepth p)

/-- The upper word of a 64-bit write that came as two 32-bit accesses stays in the port's holding register (R46). -/
def wideWrite (s : State) (p : RegPort) (d : W64) : State :=
  if p = .cp then s else modRport s p (fun x => { x with hold := d.extractLsb' 32 32 })

/-- A read of a 64-bit register by two 32-bit accesses: the upper half goes to the holding register (R46). -/
def wideRead (s : State) (p : RegPort) : State :=
  if p = .cp then s else modRport s p (fun x => { x with shape := .lower })

/-- The management port and the Gatehouse have the rights of the management port (R24). -/
def isMgmt : RegPort → Bool
  | .cp => false
  | .mp => true
  | .gh => true

/-! ## Fused saturation -/

/-- An integer saturated to lo .. hi, and whether it saturated. -/
def sat (lo hi v : Int) : Int × Bool := if v < lo then (lo, true) else if hi < v then (hi, true) else (v, false)
/-- Saturation to signed 32 bits (R230, R237). -/
def sat32 (v : Int) : W32 × Bool := let (x, f) := sat (-(2 ^ 31)) (2 ^ 31 - 1) v; (BitVec.ofInt 32 x, f)

end Sys2Proof.Machine
end

