-- ==== Sys2Proof/Machine/Operands.lean ====
section
/-! DEFINITION. The operand formats and the arithmetic on them: binary32 and FP8 (R120, R194, R198, R202, R232), weights
and products (R193-R197), the atomics (R119-R121), traces (R237-R239), the CRCs (R69, R370, R372) and SHA-384 (R432). -/

namespace Sys2Proof.Machine

/-! ## binary32 (log entry 14) -/

/-- The stored NaN (R120, R202). -/
def f32Nan : W32 := 0x7FC00000
/-- Infinity with this sign. -/
def f32Inf (neg : Bool) : W32 := if neg then 0xFF800000 else 0x7F800000
/-- Zero with this sign. -/
def f32Zero (neg : Bool) : W32 := if neg then 0x80000000 else 0
/-- Exponent field. -/
def f32Exp (w : W32) : Nat := (w.extractLsb' 23 8).toNat
/-- Fraction field. -/
def f32Frac (w : W32) : Nat := (w.extractLsb' 0 23).toNat
/-- Sign. -/
def f32Neg (w : W32) : Bool := w.getLsbD 31
/-- NaN. -/
def f32IsNan (w : W32) : Bool := f32Exp w == 255 && f32Frac w != 0
/-- Infinity. -/
def f32IsInf (w : W32) : Bool := f32Exp w == 255 && f32Frac w == 0
/-- A finite word's significand: its magnitude is significand x 2^(scale - 149). -/
def f32Sig (w : W32) : Nat := if f32Exp w = 0 then f32Frac w else 2 ^ 23 + f32Frac w
/-- A finite word's scale. -/
def f32Scale (w : W32) : Nat := f32Exp w - 1

/-- n shifted right by k, to nearest, ties to even. -/
def rneShift (n k : Nat) : Nat :=
  let q := n / 2 ^ k
  let r := n % 2 ^ k
  if 2 * r < 2 ^ k then q else if 2 ^ k < 2 * r then q + 1 else q + q % 2

/-- The binary32 word nearest to (neg) n x 2^(k - 400), ties to even; the Bool tells that a finite value became infinite.
n is not 0. -/
def f32Round (neg : Bool) (n k : Nat) : W32 × Bool :=
  let u := max (Nat.log2 n + k - 23) 251
  let m := if u ≤ k then n * 2 ^ (k - u) else rneShift n (u - k)
  let (m, u) := if m = 2 ^ 24 then (2 ^ 23, u + 1) else (m, u)
  let e := if m < 2 ^ 23 then 0 else u - 250
  if 255 ≤ e then (f32Inf neg, true)
  else (BitVec.ofNat 32 ((if neg then 2 ^ 31 else 0) + e * 2 ^ 23 + m % 2 ^ 23), false)

/-- The exact signed value of a finite word, in units of 2^-149. -/
def f32Int (w : W32) : Int := (if f32Neg w then -1 else 1) * Int.ofNat (f32Sig w * 2 ^ f32Scale w)

/-- binary32 addition, to nearest, ties to even; subnormals kept; a NaN result is 0x7FC0_0000 (R120, R202). The flags tell
that a finite sum became infinite and that the result is NaN. -/
def f32Add (a b : W32) : W32 × Bool × Bool :=
  if f32IsNan a || f32IsNan b then (f32Nan, false, true)
  else if f32IsInf a then
    if f32IsInf b && f32Neg a != f32Neg b then (f32Nan, false, true) else (a, false, false)
  else if f32IsInf b then (b, false, false)
  else
    let v : Int := f32Int a + f32Int b
    if v = 0 then (f32Zero (f32Neg a && f32Neg b), false, false)
    else
      let (w, o) := f32Round (decide (v < 0)) (Int.natAbs v) 251
      (w, o, false)

/-! ## Weights and products -/

/-- An FP8 weight times m times 2^s as binary32 (R194, R198). e5 selects E5M2. -/
def fp8Product (e5 : Bool) (b : Byte) (m s : Int) : W32 :=
  let neg := b.getLsbD 7
  let pneg := neg != decide (m < 0)
  let x := b.toNat % 128
  let fb : Nat := if e5 then 2 else 3
  let bias : Int := if e5 then 15 else 7
  let e : Nat := x / 2 ^ fb
  let f : Nat := x % 2 ^ fb
  let special := if e5 then decide (e = 31) else decide (x = 127)
  if special then
    if e5 && f == 0 then f32Inf pneg else f32Nan
  else
    let sig := if e = 0 then f else 2 ^ fb + f
    let sc : Int := (if e = 0 then 1 else (e : Int)) - bias - fb
    if sig = 0 then f32Zero pneg
    else (f32Round pneg (sig * Int.natAbs m) (Int.toNat (sc + s + 400))).1

/-- The multiplier m of a row-event (R195). -/
def multiplier (mag : Byte) (neg : Bool) : Int :=
  let m : Int := if mag = 0 then 1 else mag.toNat
  if neg then -m else m

/-- floor((v + 2^(k-1)) / 2^k): to nearest, ties towards +infinity (R197, R230). -/
def rndShift (v : Int) (k : Nat) : Int := if k = 0 then v else (v + 2 ^ (k - 1)) / 2 ^ k

/-- The scaled integer product (R197). -/
def intScale (w m s : Int) : Int := if 0 ≤ s then w * m * 2 ^ s.toNat else rndShift (w * m) (-s).toNat

/-- Weights per row of a format (R171). -/
def rowWeights (f : Nat) : Nat := if f = 2 || f = 3 then 1024 else 512
/-- Accumulator width in bytes (R171, R199). -/
def accWidth (f : Nat) : Nat := if f = 1 || f = 3 then 2 else 4
/-- Segments a row covers (R171). -/
def rowSpan (f : Nat) : Nat := rowWeights f * accWidth f / 1024

/-- Weight j of a row of integer format f (R193). -/
def intWeight (f : Nat) (row : List Byte) (j : Nat) : Int :=
  if f = 2 || f = 3 then
    let b := row.getD (j / 2) 0
    if j % 2 = 0 then (b.extractLsb' 0 4).toInt else (b.extractLsb' 4 4).toInt
  else (row.getD j 0).toInt

/-- What an accumulation did (R201, R202). -/
structure AccFlags where
  sat : Bool
  inf : Bool
  nan : Bool
  deriving DecidableEq, Repr

/-- One accumulator of format f with weight j of the row added (R201, R202). -/
def accumulate (f : Nat) (row : List Byte) (m s : Int) (j : Nat) (acc : List Byte) : List Byte × AccFlags :=
  if f = 4 || f = 5 then
    let (w, o, n) := f32Add (wordOf 32 acc) (fp8Product (f == 5) (row.getD j 0) m s)
    (bytesOf w 4, ⟨false, o, n⟩)
  else
    let q := intScale (intWeight f row j) m s
    if accWidth f = 4 then
      let (w, t) := sat32 ((wordOf 32 acc).toInt + q)
      (bytesOf w 4, ⟨t, false, false⟩)
    else
      let (v, t) := sat (-32768) 32767 ((wordOf 16 acc).toInt + q)
      (bytesOf (BitVec.ofInt 16 v) 2, ⟨t, false, false⟩)

/-- The accumulators of a whole row, weight by weight from j, taken from and returned to consecutive bytes. -/
def accumulateRow (f : Nat) (row : List Byte) (m s : Int) : Nat → Nat → List Byte → List Byte × AccFlags
  | 0, _, _ => ([], ⟨false, false, false⟩)
  | n + 1, j, accs =>
    let w := accWidth f
    let (x, fl) := accumulate f row m s j (accs.take w)
    let (xs, fl2) := accumulateRow f row m s n (j + 1) (accs.drop w)
    (x ++ xs, ⟨fl.sat || fl2.sat, fl.inf || fl2.inf, fl.nan || fl2.nan⟩)

/-! ## Traces and atomics -/

/-- A trace word decayed with factor F at epoch now (R237): the new VALUE, and whether it saturated. -/
def decayValue (value : W32) (factor : BitVec 16) : W32 × Bool :=
  sat32 (rndShift (value.toInt * (factor.toNat : Int)) 15)

/-- The index of the decay factor for a trace stamped so (R237, R84). -/
def decayIndex (now stamp : W32) : Nat := min (now - stamp).toNat 255

/-- Element width in bytes of an atomic (R120). -/
def atomWidth : AtomOp → Nat
  | .addS8 => 1
  | .addI32 => 4
  | .addF32 => 4
  | .minI32 => 4
  | .maxI32 => 4
  | .swap64 => 8
  | .cas64 => 8
  | .trace => 8

/-- Every byte of element e of width w is enabled (R120). -/
def elemOn (strb : BitVec 64) (w e : Nat) : Bool := (List.range w).all (fun i => strb.getLsbD (w * e + i))
/-- Some byte of element e is enabled and some is not (R115). -/
def elemPart (strb : BitVec 64) (w e : Nat) : Bool := (List.range w).any (fun i => strb.getLsbD (w * e + i)) && !elemOn strb w e

/-- One element of a 32-bit or 8-bit atomic, a two's complement or binary32 word of w bytes (R120). -/
def atomElem (a : AtomOp) (old opd : List Byte) : List Byte :=
  match a with
  | .addS8 => bytesOf (BitVec.ofInt 8 (sat (-128) 127 ((wordOf 8 old).toInt + (wordOf 8 opd).toInt)).1) 1
  | .addI32 => bytesOf (sat32 ((wordOf 32 old).toInt + (wordOf 32 opd).toInt)).1 4
  | .addF32 => bytesOf (f32Add (wordOf 32 old) (wordOf 32 opd)).1 4
  | .minI32 => if (wordOf 32 opd).toInt < (wordOf 32 old).toInt then opd else old
  | .maxI32 => if (wordOf 32 old).toInt < (wordOf 32 opd).toInt then opd else old
  | .swap64 => opd
  | .cas64 => old
  | .trace => old

/-- A trace element of ATOM_TRACE (R239): the new word and whether a VALUE saturated. -/
def traceElem (now : W32) (decay : Nat → BitVec 16) (old opd : W64) : W64 × Bool :=
  let delta : W32 := opd.setWidth 32
  if opd.getLsbD 35 then (field 0 delta ||| field 32 now, false)
  else
    let (v, f) := decayValue (old.setWidth 32) (decay (256 * (opd.extractLsb' 32 3).toNat + decayIndex now (old.extractLsb' 32 32)))
    let (v2, f2) := sat32 (v.toInt + delta.toInt)
    (field 0 v2 ||| field 32 now, f || f2)

/-- The bytes i .. i+n-1 of a beat. -/
def beatBytes (d : Beat) (i n : Nat) : List Byte := (List.range n).map (fun k => d.extractLsb' (8 * (i + k)) 8)

/-- What an atomic makes of a beat: the new bytes, the result beat and whether a trace VALUE saturated (R120, R121, R239). -/
def atomBeat (a : AtomOp) (now : W32) (decay : Nat → BitVec 16) (off : BitVec 6) (old data : Beat) (strb : BitVec 64) :
    List Byte × Beat × Bool :=
  match a with
  | .cas64 =>
    let e := off.toNat / 8
    let o : W64 := old.extractLsb' (64 * e) 64
    let hit := o == data.extractLsb' 0 64
    let new : W64 := if hit then data.extractLsb' 64 64 else o
    (beatBytes old 0 (8 * e) ++ bytesOf new 8 ++ beatBytes old (8 * e + 8) (56 - 8 * e),
     o.setWidth 512 ||| ((b1 hit).setWidth 512 <<< 64), false)
  | .trace =>
    let es := (List.range 8).map (fun e =>
      let o : W64 := old.extractLsb' (64 * e) 64
      if elemOn strb 8 e then
        let (n, f) := traceElem now decay o (data.extractLsb' (64 * e) 64)
        (bytesOf n 8, bytesOf o 8, f)
      else (bytesOf o 8, List.replicate 8 0, false))
    (es.flatMap (fun x => x.1), wordOf 512 (es.flatMap (fun x => x.2.1)), es.any (fun x => x.2.2))
  | _ =>
    let w := atomWidth a
    let es := (List.range (64 / w)).map (fun e =>
      let o := beatBytes old (w * e) w
      if elemOn strb w e then (atomElem a o (beatBytes data (w * e) w), o) else (o, List.replicate w 0))
    (es.flatMap (fun x => x.1), wordOf 512 (es.flatMap (fun x => x.2)), false)

/-! ## CRCs -/

/-- One bit of a reflected CRC-32C (R69). -/
def crc32cBit (c : W32) : W32 := if c.getLsbD 0 then (c >>> 1) ^^^ 0x82F63B78 else c >>> 1
/-- One byte of a CRC-32C. -/
def crc32cByte (c : W32) (b : Byte) : W32 := Nat.iterate crc32cBit 8 (c ^^^ b.setWidth 32)
/-- CRC-32C of bytes (R69). -/
def crc32c (bs : List Byte) : W32 := bs.foldl crc32cByte 0xFFFFFFFF ^^^ 0xFFFFFFFF

/-- One bit of CRC-16 with polynomial 0x1021 (R370). -/
def crc16Bit (c : BitVec 16) : BitVec 16 := if c.getLsbD 15 then (c <<< 1) ^^^ 0x1021 else c <<< 1
/-- CRC-16 of bytes, each most significant bit first, initial value 0xFFFF (R370). -/
def crc16 (bs : List Byte) : BitVec 16 :=
  bs.foldl (fun (c : BitVec 16) b => Nat.iterate crc16Bit 8 (c ^^^ BitVec.shiftLeft (b.setWidth 16) 8)) 0xFFFF

/-- One bit of CRC-8 with polynomial 0x07 (R372). -/
def crc8Bit (c : Byte) : Byte := if c.getLsbD 7 then (c <<< 1) ^^^ 0x07 else c <<< 1
/-- CRC-8 of bytes, initial value 0 (R372). -/
def crc8 (bs : List Byte) : Byte := bs.foldl (fun (c : Byte) b => Nat.iterate crc8Bit 8 (c ^^^ b)) 0

/-! ## SHA-384 (R432; FIPS 180-4, log entry 14) -/

/-- The largest x with x^k at most n, one bit at a time from bit b - 1 downwards, above the bits r already found. -/
def rootBits (k n : Nat) : Nat → Nat → Nat
  | 0, r => r
  | b + 1, r => rootBits k n b (if (r + 2 ^ b) ^ k ≤ n then r + 2 ^ b else r)

/-- The first 64 bits after the point of the k-th root of p, p below 512. -/
def rootFraction (k p : Nat) : W64 := BitVec.ofNat 64 (rootBits k (p * 2 ^ (64 * k)) 69 0)

/-- The primes below n, in order, by trial division. -/
def primesBelow (n : Nat) : List Nat :=
  ((List.range n).drop 2).filter (fun p => ((List.range 21).drop 2).all (fun d => p ≤ d || p % d != 0))

/-- The initial hash value of SHA-384: the square roots of the ninth to the sixteenth prime (FIPS 180-4; log entry 14). -/
def shaStart : List W64 := ((primesBelow 54).drop 8).map (rootFraction 2)

/-- The round constants: the cube roots of the first 80 primes (FIPS 180-4; log entry 14). -/
def shaK : List W64 := (primesBelow 410).map (rootFraction 3)

/-- Rotate right. -/
def shaRot (x : W64) (n : Nat) : W64 := (x >>> n) ||| (x <<< (64 - n))

/-- The message schedule, newest word first: one more word (FIPS 180-4). -/
def shaNext (w : List W64) : W64 :=
  let s0 := let x := w.getD 14 0; shaRot x 1 ^^^ shaRot x 8 ^^^ (x >>> 7)
  let s1 := let x := w.getD 1 0; shaRot x 19 ^^^ shaRot x 61 ^^^ (x >>> 6)
  s1 + w.getD 6 0 + s0 + w.getD 15 0

/-- The schedule of 80 words from the 16 of a block, in order. -/
def shaSchedule (block : List W64) : List W64 :=
  (Nat.iterate (fun w => shaNext w :: w) 64 block.reverse).reverse

/-- One round on the working variables a .. h. -/
def shaRound (v : List W64) (kw : W64 × W64) : List W64 :=
  let a := v.getD 0 0; let b := v.getD 1 0; let c := v.getD 2 0; let d := v.getD 3 0
  let e := v.getD 4 0; let f := v.getD 5 0; let g := v.getD 6 0; let h := v.getD 7 0
  let t1 := h + (shaRot e 14 ^^^ shaRot e 18 ^^^ shaRot e 41) + ((e &&& f) ^^^ (~~~e &&& g)) + kw.1 + kw.2
  let t2 := (shaRot a 28 ^^^ shaRot a 34 ^^^ shaRot a 39) + ((a &&& b) ^^^ (a &&& c) ^^^ (b &&& c))
  [t1 + t2, a, b, c, d + t1, e, f, g]

/-- One block of 16 words. -/
def shaBlock (h : List W64) (block : List W64) : List W64 :=
  List.zipWith (· + ·) h ((shaK.zip (shaSchedule block)).foldl shaRound h)

/-- Bytes as big-endian 64-bit words. -/
def shaWords : Nat → List Byte → List W64
  | 0, _ => []
  | n + 1, bs => wordOf 64 (bs.take 8).reverse :: shaWords n (bs.drop 8)

/-- The padded message. -/
def shaPad (bs : List Byte) : List Byte :=
  let n := bs.length
  let z := (128 - (n + 17) % 128) % 128
  bs ++ [0x80] ++ List.replicate z 0 ++ (bytesOf (BitVec.ofNat 128 (8 * n)) 16).reverse

/-- The hash over nb blocks of words. -/
def shaRun : Nat → List W64 → List W64 → List W64
  | 0, h, _ => h
  | n + 1, h, ws => shaRun n (shaBlock h (ws.take 16)) (ws.drop 16)

/-- SHA-384 of bytes: 48 bytes, digest byte 0 in bits 7:0. -/
def sha384 (bs : List Byte) : BitVec 384 :=
  let p := shaPad bs
  let nb := p.length / 128
  wordOf 384 (((shaRun nb shaStart (shaWords (16 * nb) p)).take 6).flatMap (fun w => (bytesOf w 8).reverse))

end Sys2Proof.Machine
end

