-- ==== Sys2Proof/Machine/Seam.lean ====
section
/-! DEFINITION. Packets, flits and side words of the Footbridge (R363-R386). -/

namespace Sys2Proof.Machine

/-! ## Packets and their flits (R383-R386) -/

/-- A packet of this kind with every other field 0. -/
def packet0 (kind : BitVec 4) : Packet :=
  { kind := kind, src := 0, tag := 0, op := 0, addr := 0, beats := 0, strb := false, scope := 0, bresp := 0, word := 0,
    stamp := 0, strbs := [], data := [], events := [], ref := none, first := 0, hp := false, ctl := none, via := 10 }

/-- The class that carries a kind (R384). -/
def kindClass (k : BitVec 4) : FbClass :=
  match k.toNat with
  | 0 => 0
  | 1 => 0
  | 2 => 0
  | 3 => 1
  | 4 => 1
  | 5 => 1
  | 6 => 3
  | 7 => 1
  | 8 => 3
  | 9 => 3
  | _ => 2

/-- The header flit's payload (R383). -/
def header (p : Packet) : BitVec 256 :=
  0#32 ++ p.stamp ++ p.word ++ 0#40 ++ p.bresp ++ 0#3 ++ p.scope ++ b1 p.strb ++ p.beats ++ p.addr ++ p.op ++ p.tag ++ p.src ++ p.kind

/-- A strobe flit: the strobes of up to four beats (R384). -/
def strobeFlit (l : List (BitVec 64)) : BitVec 256 := l.getD 3 0 ++ l.getD 2 0 ++ l.getD 1 0 ++ l.getD 0 0

/-- The strobe flits of n groups of four beats. -/
def strobeFlits : Nat → List (BitVec 64) → List (BitVec 256)
  | 0, _ => []
  | n + 1, l => strobeFlit l :: strobeFlits n (l.drop 4)

/-- Two flits per beat, bytes 0-31 first (R384). -/
def dataFlits : List Beat → List (BitVec 256)
  | [] => []
  | d :: ds => d.extractLsb' 0 256 :: d.extractLsb' 256 256 :: dataFlits ds

/-- The EVENTS flit (R385). -/
def eventsFlit (p : Packet) : BitVec 256 :=
  p.events.getD 2 0 ++ p.events.getD 1 0 ++ p.events.getD 0 0 ++ 0#10 ++ BitVec.ofNat 2 p.events.length ++ p.kind

/-- Strobe flits and data beats that a header announces (R384). -/
def announced (kind : BitVec 4) (beats : BitVec 3) (strb : Bool) : Nat × Nat :=
  let l := beats.toNat + 1
  match kind.toNat with
  | 1 => (if strb then l else 0, l)
  | 2 => (1, 1)
  | 3 => (0, l)
  | 5 => (0, 1)
  | _ => (0, 0)

/-- The payloads of a packet's flits (R384, R385). -/
def payloads (p : Packet) : List (BitVec 256) :=
  if p.kind = 0xB then [eventsFlit p]
  else header p :: (strobeFlits ((p.strbs.length + 3) / 4) p.strbs ++ dataFlits p.data)

/-- The strobes of n beats from their flits, and the flits left. -/
def readStrobes : Nat → List (BitVec 256) → List (BitVec 64)
  | 0, _ => []
  | 1, fs => [(fs.getD 0 0).extractLsb' 0 64]
  | 2, fs => [(fs.getD 0 0).extractLsb' 0 64, (fs.getD 0 0).extractLsb' 64 64]
  | 3, fs => [(fs.getD 0 0).extractLsb' 0 64, (fs.getD 0 0).extractLsb' 64 64, (fs.getD 0 0).extractLsb' 128 64]
  | n + 4, fs =>
    (fs.getD 0 0).extractLsb' 0 64 :: (fs.getD 0 0).extractLsb' 64 64 :: (fs.getD 0 0).extractLsb' 128 64 ::
      (fs.getD 0 0).extractLsb' 192 64 :: readStrobes n (fs.drop 1)

/-- The beats of n pairs of flits. -/
def readBeats : Nat → List (BitVec 256) → List Beat
  | 0, _ => []
  | n + 1, fs => ((fs.getD 1 0) ++ (fs.getD 0 0)) :: readBeats n (fs.drop 2)

/-- An entry of an EVENTS flit has its unused bits at 0 (R385). -/
def entryOk (e : BitVec 80) : Bool := e.extractLsb' 69 11 == 0 && !(e.getLsbD 64 && e.getLsbD 68)

/-- A packet read from the payloads of its flits, by R383 to R385; none where they break those formats. -/
def readPacket (fs : List (BitVec 256)) : Option Packet :=
  match fs with
  | [] => none
  | h :: rest =>
    let kind : BitVec 4 := h.extractLsb' 0 4
    if kind = 0xB then
      let n := (h.extractLsb' 4 2).toNat
      let es := [h.extractLsb' 16 80, h.extractLsb' 96 80, h.extractLsb' 176 80].take n
      if n = 0 || h.extractLsb' 6 10 != 0 || !rest.isEmpty || !es.all entryOk then none
      else some { packet0 kind with events := es }
    else if 0xB < kind.toNat then none
    else
      let beats : BitVec 3 := h.extractLsb' 55 3
      let strb := h.getLsbD 58
      let (ns, nd) := announced kind beats strb
      let nf := (ns + 3) / 4
      if h.extractLsb' 61 3 != 0 || h.extractLsb' 88 40 != 0 || h.extractLsb' 224 32 != 0 || rest.length != nf + 2 * nd then none
      else
        some
          { packet0 kind with
            src := h.extractLsb' 4 6, tag := h.extractLsb' 10 12, op := h.extractLsb' 22 4, addr := h.extractLsb' 26 29,
            beats := beats, strb := strb, scope := h.extractLsb' 59 2, bresp := h.extractLsb' 64 24,
            word := h.extractLsb' 128 64, stamp := h.extractLsb' 192 32, strbs := readStrobes ns rest,
            data := readBeats nd (rest.drop nf) }

/-- A packet whose parts are those its header announces, with no bookkeeping beside them (R384, R385). -/
def packetOk (p : Packet) : Bool :=
  p.ref == none && p.first == 0 && !p.hp && p.ctl == none && p.via == 10 &&
  (if p.kind = 0xB then
     decide (1 ≤ p.events.length) && decide (p.events.length ≤ 3) && p.events.all entryOk && decide (p = { packet0 0xB with events := p.events })
   else
     decide (p.kind.toNat < 0xB) && p.events.isEmpty &&
       decide ((p.strbs.length, p.data.length) = announced p.kind p.beats p.strb))

/-- The number of flits of a packet (R384). -/
def flitCount (p : Packet) : Nat := (payloads p).length

/-! ## Flits and side words (R369, R370, R372) -/

/-- TAG of a sequenced flit (R369). -/
def seqTag (q : BitVec 7) (c : FbClass) (sop eop : Bool) : BitVec 16 :=
  0#4 ++ b1 eop ++ b1 sop ++ BitVec.ofNat 2 c.val ++ 0#1 ++ q

/-- A flit with its CRC (R369, R370). -/
def mkFlit (tag : BitVec 16) (payload : BitVec 256) : BitVec 288 :=
  crc16 (bytesOf (tag ++ payload) 34) ++ tag ++ payload

/-- The CRC of a flit is good (R370). -/
def flitCrcOk (f : BitVec 288) : Bool := f.extractLsb' 272 16 == crc16 (bytesOf (f.extractLsb' 0 272) 34)

/-- SEQ of a flit (R369). -/
def flitSeq (f : BitVec 288) : BitVec 7 := f.extractLsb' 256 7
/-- LINK of a flit. -/
def flitLink (f : BitVec 288) : Bool := f.getLsbD 263
/-- CLASS of a flit. -/
def flitClass (f : BitVec 288) : FbClass := ⟨(f.extractLsb' 264 2).toNat, (f.extractLsb' 264 2).isLt⟩
/-- SOP of a flit. -/
def flitSop (f : BitVec 288) : Bool := f.getLsbD 266
/-- EOP of a flit. -/
def flitEop (f : BitVec 288) : Bool := f.getLsbD 267
/-- PAYLOAD of a flit. -/
def flitPayload (f : BitVec 288) : BitVec 256 := f.extractLsb' 0 256

/-- The sequenced flits of the payloads of a packet, from SEQ q; first tells that the next is the packet's first flit. -/
def seqFlits (p : Packet) (c : FbClass) : BitVec 7 → Bool → List (BitVec 256) → List Flit
  | _, _, [] => []
  | q, first, x :: xs => ⟨mkFlit (seqTag q c first xs.isEmpty) x, some p⟩ :: seqFlits p c (q + 1) false xs

/-- STATE of a side word and FB_STAT (R372, R393). -/
def linkCode : LinkState → BitVec 2
  | .down => 0
  | .training _ => 1
  | .up => 2
  | .fault => 3

/-- The side word that reports on direction x for class c (R372): st is the state that the sending end shows. -/
def sideWord (x : FbDir) (st : LinkState) (c : FbClass) : W32 :=
  let low : BitVec 24 := 0#4 ++ linkCode st ++ vget x.freed c ++ BitVec.ofNat 2 c.val ++ b1 x.nak ++ (x.rxNext - 1)
  crc8 (bytesOf low 3) ++ low

/-- CHECK of a side word is right (R372). -/
def sideOk (w : W32) : Bool := w.extractLsb' 24 8 == crc8 (bytesOf w 3)

/-- A link flit's payload (R382). -/
def linkFlit (ty : BitVec 4) (g : Fin 4) (w : Fin 144) (sp : Fin 8) : BitVec 256 :=
  (0#237 ++ BitVec.ofNat 3 sp.val ++ BitVec.ofNat 8 w.val ++ 0#2 ++ BitVec.ofNat 2 g.val ++ ty).setWidth 256

/-- The wire a link flit names: group, data wire, spare (R382). -/
def linkArgs (f : BitVec 256) : Fin 4 × Fin 144 × Fin 8 :=
  (fin 4 (f.extractLsb' 4 2).toNat, fin 144 (f.extractLsb' 8 8).toNat, fin 8 (f.extractLsb' 16 3).toNat)

/-- TAG of a link flit: LINK 1, with SEQ, CLASS, SOP and EOP 0 (R369). -/
def linkTag : BitVec 16 := 0x0080

/-- The link flit that a group without a sequenced flit sends (R371, R382): TYPE IDLE. -/
def idleFlit : BitVec 288 := mkFlit linkTag 0

/-- A link flit with this payload sent on group g of the direction transmitted by half h (R369, R371). -/
def sendLink (s : State) (h : Half) (g : Fin 4) (f : BitVec 256) : State :=
  modDir s h (fun x => { x with link := x.link ++ [(g, mkFlit linkTag f)] })

/-! ## Wires (R363, R364, R366) -/

/-- The data wire of flit bit b, and whether it is driven at the falling edge (R364). -/
def wireOf (b : Nat) : Nat × Bool := (b % 144, decide (144 ≤ b))

/-- The sideband wire of bit k of a side word: its group, its wire, and whether it is driven at the falling edge (R364, R372). -/
def sideWireOf (k : Fin 32) : Fin 4 × Fin 4 × Bool := (⟨k.val / 8, by omega⟩, ⟨k.val % 4, by omega⟩, decide (4 ≤ k.val % 8))

/-- A step of the PRBS-7 sequence x^7 + x^6 + 1 (R366). -/
def prbsNext (x : BitVec 7) : BitVec 7 := (x <<< 1) ||| (b1 (x.getLsbD 6 != x.getLsbD 5)).setWidth 7

/-- The bit that wire w of a group carries t bit times after DESKEW begins (R366): the sequence started w mod 127 steps after the
all-ones state; the spares are wires 144 to 151. -/
def deskewBit (w t : Nat) : Bool := (Nat.iterate prbsNext (w % 127 + t) 0x7F).getLsbD 6

/-- The flit of the FRAME phase: 0x5A in every byte, with its CRC (R366, R370). -/
def frameFlit : BitVec 288 :=
  let body : BitVec 272 := wordOf 272 (List.replicate 34 0x5A)
  crc16 (bytesOf body 34) ++ body

/-- What wire w of a group, a data wire or a spare from 144, carries in a phase of training at bit time t (R366): nothing in CLOCK, the
sequence in DESKEW, the frame flit in FRAME. -/
def trainingBit (phase : Fin 4) (w t : Nat) : Bool :=
  if phase = 0 then false
  else if phase = 1 then deskewBit w t
  else if phase = 2 then decide (w < 144) && frameFlit.getLsbD (w + 144 * (t % 2))
  else false

/-! ## Queues and credit (R376, R377) -/

/-- Class buffer sizes in flits (R376). -/
def classSize (c : FbClass) : Nat := if c = 0 || c = 1 then 128 else 32

/-- Credit of a class (R377). -/
def credit (x : FbDir) (c : FbClass) : Nat := classSize c - (vget x.sent c - vget x.freedSeen c).toNat

/-- A packet joins its class queue at the transmitting endpoint of half h (R387). -/
def sendPkt (s : State) (h : Half) (p : Packet) : State :=
  let c := kindClass p.kind
  modDir s h (fun x => { x with txq := vmod x.txq c (· ++ [p]) })

/-- SRC of a CONTROL packet (R383): the unit that sends the message. A wake request has the number of the Lodge, whatever asked for it
(log entry 12). -/
def ctlSrc : CtlMsg → BitVec 6
  | .stepRelease _ _ _ => 35
  | .sweepDone r _ _ => BitVec.ofNat 6 (36 + r.val % 4)
  | .rillArrive _ k => BitVec.ofNat 6 (32 + k.val)
  | .rillSem _ => 33
  | .pairAdd _ _ => 33
  | .bell _ _ => 34
  | .pairValue _ _ _ => 35
  | .depWatch _ _ _ => 33
  | .depMet _ => 35
  | .depFull _ => 35
  | .wake _ => 34

/-- The half-crossbar source of a CONTROL packet: its region's link, Rill, or a macro unit (R153). -/
def ctlVia : CtlMsg → HSrc
  | .stepRelease _ _ _ => 10
  | .sweepDone r _ _ => ⟨r.val % 4, by omega⟩
  | .rillArrive _ _ => 8
  | .rillSem _ => 8
  | .pairAdd _ _ => 8
  | .bell _ _ => 10
  | .pairValue _ _ _ => 10
  | .depWatch _ _ _ => 8
  | .depMet _ => 10
  | .depFull _ => 10
  | .wake _ => 10

/-- A CONTROL packet from half h (R384). -/
def sendCtl (s : State) (h : Half) (m : CtlMsg) : State :=
  let n := s.fb.msgs
  sendPkt { s with fb := { s.fb with msgs := n + 1 } } h { packet0 9 with via := ctlVia m, src := ctlSrc m, word := Config.controlWord n, ctl := some m }

/-- The packet at the head of a receive buffer of direction d, with this kind. -/
def rxHead (s : State) (d : Half) (kind : BitVec 4) : Option Packet :=
  match vget (dir s d).rxq (kindClass kind) with
  | p :: _ => if p.kind = kind then some p else none
  | [] => none

/-- That packet leaves its buffer, and its flits are freed (R372, R377). -/
def rxPop (s : State) (d : Half) (p : Packet) : State :=
  let c := kindClass p.kind
  modDir s d (fun x => { x with rxq := vmod x.rxq c (List.drop 1),
                                freed := vmod x.freed c (· + BitVec.ofNat 8 (flitCount p)) })

/-- Data and spare wires of one half of a group share a strobe: half 0 has wires 0-71 and spares 0-3 (R363). -/
def spareIn (w : Fin 144) (i : Fin 8) : Bool := decide (w.val < 72) == decide (i.val < 4)

/-- Byte i of a spare map (R397). -/
def spareByte (m : W64) (i : Fin 8) : Byte := m.extractLsb' (8 * i.val) 8
/-- Byte i of a spare map set. -/
def setSpare (m : W64) (i : Fin 8) (v : Byte) : W64 :=
  (m &&& ~~~((0xFF : W64) <<< (8 * i.val))) ||| ((v.setWidth 64) <<< (8 * i.val))

/-- The lowest free spare of a wire's strobe half (R380). -/
def freeSpare (m : W64) (w : Fin 144) : Option (Fin 8) := (idx 8).find? (fun i => spareIn w i && spareByte m i == 0xFF)

/-- NOSPARE (R393): the groups with a strobe half that has no free spare. -/
def noSpares (m : Vector W64 4) : BitVec 4 :=
  let g := fun (k : Fin 4) => (freeSpare (vget m k) 0).isNone || (freeSpare (vget m k) 100).isNone
  b1 (g 3) ++ b1 (g 2) ++ b1 (g 1) ++ b1 (g 0)

/-- The spare that carries data wire w by a spare map (R397). -/
def spareOf (m : W64) (w : Nat) : Option (Fin 8) := (idx 8).find? (fun i => spareByte m i == BitVec.ofNat 8 w)

/-- The flips that a flit shows, by the flips on the wires of its group (R364): bits 287:0 of the noise lie on the data wires, bits 295:288
on the spares at the rising edge and bits 303:296 at the falling edge. The bits of a replaced wire travel on its spare. -/
def flips (m : W64) (noise : BitVec 304) : BitVec 288 :=
  (List.range 8).foldl (fun (v : BitVec 288) i =>
    let w := (spareByte m (fin 8 i)).toNat
    if w < 144 then
      let clean := v &&& ~~~(BitVec.ofNat 288 (2 ^ w + 2 ^ (w + 144)))
      clean ||| (if noise.getLsbD (288 + i) then BitVec.ofNat 288 (2 ^ w) else 0) |||
        (if noise.getLsbD (296 + i) then BitVec.ofNat 288 (2 ^ (w + 144)) else 0)
    else v) (noise.setWidth 288)

/-- A spare map entry of direction d recorded, and NOSPARE with it. -/
def recordSpare (s : State) (d : Half) (g : Fin 4) (i : Fin 8) (v : Byte) : State :=
  modDir s d (fun x =>
    let m := vmod x.map g (fun w => setSpare w i v)
    { x with map := m, noSpare := noSpares m })

/-- A Footbridge fault of direction d, recorded by its receiving half (R451). -/
def fbFault (s : State) (d : Half) (code : Nat) (detail : W32) : State := halfFault s (other d) code d.val detail

/-- A link fault of kind k on SEQ q and group g: the direction enters FAULT (R367, R375, R451). -/
def linkFault (s : State) (d : Half) (q : BitVec 7) (g : BitVec 2) (k : Nat) : State :=
  fbFault (modDir s d (fun x => { x with st := .fault })) d 0x11 (0#20 ++ BitVec.ofNat 2 k ++ g ++ 0#1 ++ q)

/-- A replay of direction d from its oldest flit not acknowledged (R374), or the link fault of R375 when that flit has been
replayed REPLAY_LIMIT times. -/
def startReplay (s : State) (d : Half) : State :=
  let x := dir s d
  match x.replay with
  | [] => s
  | f :: _ =>
    if s.fb.replayLimit.toNat ≤ x.replayTimes then linkFault s d (flitSeq f.bits) ((flitSeq f.bits).extractLsb' 0 2) 0
    else
      countM (modDir s d (fun x =>
        { x with wire := x.wire ++ x.replay, replayOf := some (flitSeq f.bits - 1), replayTimes := x.replayTimes + 1,
                 replays := x.replays + 1, replayWrap := x.replayWrap || x.replays + 1 == 0 })) 0x6B d.val 1

/-- Both halves' clocks are present, so direction d can train or carry traffic (R365). -/
def bothClocks (s : State) : Bool := vget s.pins.fclkOk 0 && vget s.pins.fclkOk 1

/-- Direction d starts training: the flits on the wires are lost to the training patterns (R365, R366). -/
def train (s : State) (d : Half) : State :=
  modDir s d (fun x => { x with st := if bothClocks s then .training 0 else .down, wire := [], link := [], sawUp := false })

end Sys2Proof.Machine
end

