-- ==== Sys2Proof/Machine/Tags.lean ====
section
/-! DEFINITION. Tagging (R488, R489). -/

namespace Sys2Proof.Machine

/-- One step of the generator with polynomial x^16 + x^14 + x^13 + x^11 + 1 (R488, log entry 21). -/
def lfsrNext (x : BitVec 16) : BitVec 16 :=
  b1 (((x.getLsbD 0 ^^ x.getLsbD 2) ^^ x.getLsbD 3) ^^ x.getLsbD 5) ++ x.extractLsb' 1 15

/-- A candidate: the generator advances, and the Bool tells whether the candidate is tagged (R488). -/
def candidate (s : State) : State × Bool :=
  let x := lfsrNext s.cnt.lfsr
  let hit := x.toNat % 2 ^ s.cnt.tagK.toNat == 0
  let full := decide (256 ≤ s.cnt.tags.length)
  ({ s with cnt := { s.cnt with lfsr := x, tagFull := s.cnt.tagFull || (hit && full) } }, hit && !full)

/-- A request transferring at engine port p, or an event at ingress port p, is a candidate (R488). -/
def isCandidate (s : State) (kind : Bool) (p : Nat) : Bool := s.cnt.tagEn && s.cnt.tagKind == kind && s.cnt.tagPorts.getLsbD p

/-- An entry joins the tag buffer; with no place it is dropped and FULL is set (log entry 21). -/
def putTag (s : State) (e : BitVec 128) : State :=
  if s.cnt.tags.length < 256 then { s with cnt := { s.cnt with tags := s.cnt.tags ++ [e], tagHigh := max s.cnt.tagHigh (s.cnt.tags.length + 1) } }
  else { s with cnt := { s.cnt with tagFull := true } }

/-- A followed event has reached stage k (R489). -/
def markTag (s : State) (tag : Option Nat) (k : Nat) : State :=
  match tag with
  | none => s
  | some n => { s with cnt := { s.cnt with open_ := s.cnt.open_.map (fun x =>
      if x.1 = n then (x.1, x.2.1, x.2.2.1, x.2.2.2.1, max x.2.2.2.2 k) else x) } }

/-- Row-events enter an event queue: stage T3 (R489). -/
def markRows (s : State) (rows : List RowEv) : State := rows.foldl (fun s x => markTag s x.tag 3) s

/-- A stage time: a free value (log entry 7), or 1,023 where the stage was not reached (R489). -/
def stageTime (s : State) (i : Nat) (got : Bool) : BitVec 10 := if got then fv s (20 + i) 10 else 1023

/-- A tag entry (R489); got tells which of the stages 1 to 6 were reached. -/
def tagEntry (s : State) (kind : Bool) (port : BitVec 5) (region : Region) (block : BitVec 5) (id : BitVec 6) (op : BitVec 4)
    (resp : BitVec 3) (got : Nat → Bool) : BitVec 128 :=
  0#4 ++ stageTime s 6 (got 6) ++ stageTime s 5 (got 5) ++ stageTime s 4 (got 4) ++ stageTime s 3 (got 3) ++ stageTime s 2 (got 2) ++
    stageTime s 1 (got 1) ++
    fv s 30 32 ++ 0#4 ++ resp ++ op ++ id ++ block ++ BitVec.ofNat 3 region.val ++ port ++ b1 kind ++ 1#1

end Sys2Proof.Machine
end

