-- ==== Sys2Proof/Machine/Wake.lean ====
section
/-! DEFINITION. Wake requests, the ledgers of the stager and the clock handshake (R58, R398-R405, R409, R459).
Currents are in units of 1.25 mA, so that an eighth of every step is a whole number; times are in ns. -/

namespace Sys2Proof.Machine

/-! ## Begun bursts (R28) -/

/-- Request seq of port p. -/
def findReq (s : State) (p : EPort) (seq : Nat) : Option EReq := (ep s p).reqs.find? (fun e => e.seq == seq)

/-- A gather instance of a region. -/
def findGather (s : State) (r : Region) (inst : Nat) : Option Gather := (rg s r).mcast.gathers.find? (fun g => g.inst == inst)

/-- The burst is begun, and is one that R28 carries to completion: a request that broke R111 is not (R111). -/
def isBegun (s : State) (src : BSrc) : Bool :=
  match src with
  | .engine p seq => match findReq s p seq with | some e => e.begun && !e.broke | none => false
  | .mcast r inst =>
    match findGather s r inst with
    | some g => g.joined.any (fun m => match findReq s m.1 m.2 with | some e => e.begun | none => false)
    | none => false
  | .rill _ _ => false
  | .lodge _ _ => false
  | .dump => false

/-- A piece of a begun burst waits at region r (R28, R410). -/
def begunPiece (s : State) (r : Region) : Bool := (rg s r).inq.any (fun p => isBegun s p.piece.src)

/-! ## Steps and ledgers -/

/-- The current change of a step (R402); a CLEAR changes by the smaller of 2.40 A and L. -/
def stepAmp (l : Nat) : StepKind → Nat
  | .arrayOn => 160
  | .periphOn => 544
  | .periphInit => 0
  | .clear => min 1920 l
  | .settle => 0
  | .clockOn => 280
  | .basin => 0
  | .clockOff => 280
  | .periphOff => 544
  | .arrayOff => 160

/-- The duration of a step in ns (R402, R459). -/
def stepNs (l mhz : Nat) : StepKind → Nat
  | .arrayOn => 550
  | .periphOn => 550
  | .periphInit => 300
  | .clear => 1050 * 1920 / min 1920 l
  | .settle => 110
  | .clockOn => 40
  | .basin => 64000 / mhz
  | .clockOff => 40
  | .periphOff => 550
  | .arrayOff => 550

/-- The step adds current, and is charged to a rise ledger (R403). -/
def stepRises : StepKind → Bool
  | .arrayOn => true
  | .periphOn => true
  | .clear => true
  | .clockOn => true
  | .periphInit => false
  | .settle => false
  | .basin => false
  | .clockOff => false
  | .periphOff => false
  | .arrayOff => false

/-- L of a stager (R403): S in 0.1 A per us times 1 us. -/
def ledgerL (st : Stager) : Nat := 80 * st.s.toNat

/-- PWR_STEP's limit of a half (R413). -/
def stepReg (s : State) (h : Half) : BitVec 7 := if h = 0 then s.pwr.stepW else s.pwr.stepE

/-- The stager of a half. -/
def stager (s : State) (h : Half) : Stager := vget s.pwr.stagers h
/-- The stager of a half changed. -/
def modStager (s : State) (h : Half) (f : Stager → Stager) : State :=
  { s with pwr := { s.pwr with stagers := vmod s.pwr.stagers h f } }

/-- The start of the current tick in ns. -/
def tickNs (s : State) : Nat := s.aon.sundial.toNat * 1000

/-- What the ledgers hold for the tick at offset i. -/
def ledAt (v : Vector Nat 16) (i : Nat) : Nat := if h : i < 16 then vget v ⟨i, h⟩ else 0
/-- Charge an amount to the tick at offset i. -/
def ledAdd (v : Vector Nat 16) (i a : Nat) : Vector Nat 16 := if h : i < 16 then vmod v ⟨i, h⟩ (· + a) else v

/-- The moments a step falling due at t may start, earliest first among those that fit: t, the starts of later ticks, and
for a CLEAR the moments that end it at the start of a tick (R404). -/
def startTimes (now t dur : Nat) (isClear : Bool) : List Nat :=
  t :: (List.range 16).flatMap (fun i =>
    let e := now + 1000 * (i + 1)
    (if isClear && decide (t < e - dur) then [e - dur] else []) ++ (if t < e then [e] else []))

/-- The smallest of a list. -/
def least : List Nat → Option Nat
  | [] => none
  | x :: xs => match least xs with | none => some x | some y => some (min x y)

/-- One booking (R404 step 2): the start, and the stager charged. A CLEAR books its rise and its fall together. -/
def bookAt (st : Stager) (now t amt dur : Nat) (rises isClear : Bool) : Option (Nat × Stager) :=
  let l := ledgerL st
  let off := fun x => (x - now) / 1000
  let ok := fun x =>
    decide (off x < 16) &&
    (if isClear then decide (ledAt st.rise (off x) + amt ≤ l) && decide (off (x + dur) < 16) &&
        decide (ledAt st.fall (off (x + dur)) + amt ≤ l)
     else if rises then decide (ledAt st.rise (off x) + amt ≤ l)
     else decide (ledAt st.fall (off x) + amt ≤ l))
  match least ((startTimes now t dur isClear).filter ok) with
  | none => none
  | some x =>
    some (x,
      if isClear then { st with rise := ledAdd st.rise (off x) amt, fall := ledAdd st.fall (off (x + dur)) amt }
      else if rises then { st with rise := ledAdd st.rise (off x) amt }
      else { st with fall := ledAdd st.fall (off x) amt })

/-- The length of a segment of a step of dur ns, when n segments follow it: eighths in whole ns, the last with what remains, so that
the segments last dur together (R404 step 6). -/
def segNs (dur n : Nat) : Nat := if n = 0 then dur - 7 * (dur / 8) else dur / 8

/-- Segments of a step larger than L, booked one after another (R404 step 6): the start of the first, the end of the last. -/
def bookSegs : Nat → Stager → Nat → Nat → Nat → Nat → Bool → Option (Nat × Stager)
  | 0, st, _, t, _, _, _ => some (t, st)
  | n + 1, st, now, t, amt, dur, rises =>
    match bookAt st now t amt (segNs dur n) rises false with
    | none => none
    | some (x, st') => bookSegs n st' now (x + segNs dur n) amt dur rises

/-- Book one step falling due at t: its record, its end, and the stager. -/
def bookStep (st : Stager) (now mhz t : Nat) (k : StepKind) (dc : Bool) : Option (Booked × Stager) :=
  let l := ledgerL st
  let amt := stepAmp l k
  let dur := stepNs l mhz k
  if amt = 0 then some (⟨k, t, t + dur, false, dc⟩, st)
  else if l < amt then
    match bookAt st now t (amt / 8) (segNs dur 7) (stepRises k) false with
    | none => none
    | some (x, st') =>
      match bookSegs 7 st' now (x + segNs dur 7) (amt / 8) dur (stepRises k) with
      | none => none
      | some (e, st'') => some (⟨k, x, e, false, dc⟩, st'')
  else
    match bookAt st now t amt dur (stepRises k) (k = .clear) with
    | none => none
    | some (x, st') => some (⟨k, x, x + dur, false, dc⟩, st')

/-- Book a list of steps, each falling due when the one before it ends. -/
def bookSteps (now mhz : Nat) : List (StepKind × Bool) → Stager → Nat → Option (List Booked × Stager)
  | [], st, _ => some ([], st)
  | (k, dc) :: ks, st, t =>
    match bookStep st now mhz t k dc with
    | none => none
    | some (b, st') =>
      match bookSteps now mhz ks st' b.stop with
      | none => none
      | some (bs, st'') => some (b :: bs, st'')

/-- The steps of a wake of region r (R402, R459): a CLEAR with the data flag clears the data space only. -/
def wakeSteps (s : State) (r : Region) : List (StepKind × Bool) :=
  let dc := if bit8 s.rs.pendData r then [(StepKind.clear, true)] else []
  let bc := if bit8 s.rs.pendBasin r then [(StepKind.basin, false)] else []
  match (rg s r).power.st with
  | .run => []
  | .idle => dc ++ [(.clockOn, false)] ++ bc
  | .retain => [(.periphOn, false)] ++ dc ++ [(.settle, false), (.clockOn, false)] ++ bc
  | .off => [(.arrayOn, false), (.periphOn, false), (.periphInit, false), (.clear, false), (.settle, false), (.clockOn, false)]

/-- MHz of a half's fclk (R415). -/
def mhzOf (s : State) (h : Half) : Nat := (vget s.pwr.mhz h).toNat

/-! ## The ceiling (R407) -/

/-- The current of a state, in units of 1.25 mA (R398). -/
def stateAmp : PState → Nat
  | .run => 984
  | .idle => 704
  | .retain => 160
  | .off => 0

/-- What a region draws without activity (R398, R402, R407). -/
def regionAmp (s : State) (r : Region) : Nat :=
  let p := (rg s r).power
  let l := ledgerL (stager s (halfOf r))
  let left := (p.steps.filter (fun b => !b.begun && stepRises b.kind && b.kind != .clear)).foldl (fun n b => n + stepAmp l b.kind) 0
  let clr := if p.steps.any (fun b => b.begun && b.kind == .clear) then stepAmp l .clear else 0
  let fall := if p.down && p.steps.any (fun b => b.begun) then p.steps.foldl (fun n b => n + stepAmp l b.kind) 0 else 0
  if p.waking then 984 - left + clr else stateAmp p.st - fall + clr

/-- What half h draws without activity (R407). -/
def halfAmp (s : State) (h : Half) : Nat :=
  (idx 8).foldl (fun n r => if halfOf r = h then n + regionAmp s r else n) 232

/-- What region r will draw without activity at time t in ns, by its booked steps (R402, R407). -/
def regionAmpAt (s : State) (r : Region) (t : Nat) : Nat :=
  let p := (rg s r).power
  let l := ledgerL (stager s (halfOf r))
  let left := (p.steps.filter (fun b => decide (t < b.start) && stepRises b.kind && b.kind != .clear)).foldl (fun n b => n + stepAmp l b.kind) 0
  let clr := if p.steps.any (fun b => b.kind == .clear && decide (b.start ≤ t) && decide (t < b.stop)) then stepAmp l .clear else 0
  let fall := if p.down then (p.steps.filter (fun b => decide (b.start ≤ t))).foldl (fun n b => n + stepAmp l b.kind) 0 else 0
  if p.waking then 984 - left + clr else stateAmp p.st - fall + clr

/-- What half h will draw without activity at time t (R407). -/
def halfAmpAt (s : State) (h : Half) (t : Nat) : Nat :=
  (idx 8).foldl (fun n r => if halfOf r = h then n + regionAmpAt s r t else n) 232

/-- The ceiling in force of a half, in units of 1.25 mA; 0 is none (R414). -/
def ceilAmp (s : State) (h : Half) : Nat := 200 * (stager s h).ceilEff.toNat

/-- Every staged rise of region r, booked as s has it, keeps half h within its ceiling with activity at zero (R407). -/
def risesFit (s : State) (h : Half) (r : Region) : Bool :=
  ceilAmp s h == 0 ||
    (rg s r).power.steps.all (fun b => !stepRises b.kind || decide (halfAmpAt s h b.start ≤ ceilAmp s h))

/-- Grant the wake of region r with its first step falling due at t, when that step can start in the current tick. -/
def grantWake (s : State) (r : Region) (t : Nat) : Option State :=
  let h := halfOf r
  match bookSteps (tickNs s) (mhzOf s h) (wakeSteps s r) (stager s h) t with
  | some (b :: bs, st') =>
    if b.start / 1000 = s.aon.sundial.toNat then
      some (modPw (modStager s h (fun _ => st')) r
        (fun p => { p with pend := false, waking := true, steps := b :: bs, ticks := 0, late := s.frz.asserted }))
    else none
  | _ => none

/-- The rise that a wake charged to the current tick. -/
def riseNow (a b : Stager) : Nat := ledAt b.rise 0 - ledAt a.rise 0

/-- Some region of half h has a wake pending. -/
def anyPending (s : State) (h : Half) : Bool := (idx 8).any (fun r => halfOf r == h && (rg s r).power.pend)

/-- Every step that falls due within this tick starts when it falls due: none had to move to a later tick (R404 step 4). -/
def prompt (tick : Nat) : Nat → List Booked → Bool
  | _, [] => true
  | t, b :: bs => (decide (t / 1000 ≠ tick) || b.start == t) && prompt tick b.stop bs

/-- A granted wake between edges (R404 step 4): at once, when no wake of the half is pending, what falls due in the current tick fits
the unspent reserve, and its rises keep the ceiling (R407). The moment within the tick is a free value (log entry 7). -/
def grantBetween (s : State) (r : Region) : Option State :=
  let h := halfOf r
  let t := tickNs s + (fv s 3 10).toNat % 1000
  match grantWake s r t with
  | none => none
  | some s' =>
    let d := riseNow (stager s h) (stager s' h)
    if d ≤ (stager s h).reserve && prompt s.aon.sundial.toNat t (rg s' r).power.steps && risesFit s' h r then
      some (countM (modStager s' h (fun st => { st with reserve := st.reserve - d })) 0x72 h.val 1)
    else none

/-- Region r has a wake pending that may be granted: under freeze only that of a Plan load or of a piece of a begun burst (R410). -/
def mayWake (s : State) (r : Region) : Bool :=
  (rg s r).power.pend && (!frozen s (halfOf r) || (rg s r).power.loadHold || begunPiece s r)

/-- Raise the wake request of region r (R401): it cancels a downward step not yet granted, waits for one in progress, and
may be granted from the reserve. -/
def wakeReq (s : State) (r : Region) : State :=
  let p := (rg s r).power
  let s := if p.downWait then modPw s r (fun p => { p with downWait := false, ticks := 0 }) else s
  if p.down then modPw s r (fun p => { p with again := true })
  else if p.st = .run || p.pend || p.waking then s
  else
    let s' := modPw s r (fun p => { p with pend := true })
    if !anyPending s (halfOf r) && mayWake s' r then
      match grantBetween s' r with
      | some s'' => s''
      | none => s'
    else s'

/-! ## fclk_need (R58, R409) -/

/-- A packet is queued, or not yet acknowledged, at the transmitting endpoint of a direction (R58). -/
def txBusy (x : FbDir) : Bool := (idx 4).any (fun c => !(vget x.txq c).isEmpty) || !x.replay.isEmpty
/-- A packet is queued at the receiving endpoint of a direction (R58). -/
def rxBusy (x : FbDir) : Bool := (idx 4).any (fun c => !(vget x.rxq c).isEmpty) || !x.asm.isEmpty
/-- A packet of a direction waits at its transmitting endpoint to cross (R58, R368). -/
def crossWaits (x : FbDir) : Bool := (idx 4).any (fun c => !(vget x.txq c).isEmpty) || !x.wire.isEmpty

/-- A direction trains. -/
def isTraining : LinkState → Bool
  | .down => false
  | .training _ => true
  | .up => false
  | .fault => false

/-- fclk_need of half h (R58). -/
def fclkNeed (s : State) (h : Half) : Bool :=
  (idx 8).any (fun r => halfOf r == h &&
    ((rg s r).power.st == .run || (rg s r).power.st == .idle || (rg s r).power.waking || (rg s r).power.pend || (rg s r).power.again ||
      (idx 32).any (fun b => !(blk s r b).emits.isEmpty))) ||
  s.frz.asserted || s.frz.stopping ||
  (idx 32).any (fun p => portHalf p == h && !(ep s p).reqs.isEmpty) ||
  (idx 8).any (fun n => evHalf n == h && (!(vget s.ingress n).isEmpty || !(vget s.egress n).buf.isEmpty)) ||
  (!(rp s h).outs.isEmpty || !(rp s h).tiles.isEmpty) ||
  txBusy (dir s h) || rxBusy (dir s (other h)) || crossWaits (dir s (other h)) || isTraining (dir s 0).st || isTraining (dir s 1).st ||
  (h == 0 && s.gh.stage == .loading && s.gh.src)

/-- The clock handshake follows the state: FCLK_REQ is set when fclk_need rises while fclk_ok is 0 (R409). -/
def settle (s : State) : State :=
  if s.pins.rst || s.aon.rst || s.aon.lost then s
  else
    let n0 := fclkNeed s 0
    let n1 := fclkNeed s 1
    let rose := (n0 && !vget s.pins.fclkNeed 0 && !vget s.pins.fclkOk 0) || (n1 && !vget s.pins.fclkNeed 1 && !vget s.pins.fclkOk 1)
    { s with pins := { s.pins with fclkNeed := vset (vset s.pins.fclkNeed 0 n0) 1 n1 }
             pwr := { s.pwr with fclkReq := s.pwr.fclkReq || rose } }

/-- The end of every meaning: the handshake, and the next free-value number. -/
def finish (s : State) : Host.Outcome State Fault Refusal := .next (settle (step1 s))

/-- A command that its row's conditions do not enable changes nothing (log entry 1). -/
def skip (s : State) : Host.Outcome State Fault Refusal := .next s

end Sys2Proof.Machine
end

