-- ==== Sys2Proof/Machine/Path.lean ====
section
/-! DEFINITION. The way of a data-space access: pieces, region entry, crossbar, block arbiter, cell, answer (R114, R118-R121,
R129-R150, R384-R388). -/

namespace Sys2Proof.Machine

/-! ## Response codes (R109) -/

/-- The response codes of R109. -/
def okay : BitVec 3 := 0
/-- BUSY. -/
def busyC : BitVec 3 := 1
/-- FROZEN. -/
def frozenC : BitVec 3 := 2
/-- FENCED. -/
def fencedC : BitVec 3 := 3
/-- DECODE. -/
def decodeC : BitVec 3 := 4
/-- BARRED. -/
def barredC : BitVec 3 := 5
/-- REFUSED. -/
def refusedC : BitVec 3 := 6
/-- DETACHED. -/
def detachedC : BitVec 3 := 7

/-! ## Requests of engine ports -/

/-- req_op as a number (R108). -/
def atomCode : AtomOp → BitVec 4
  | .addS8 => 2
  | .addI32 => 3
  | .addF32 => 4
  | .minI32 => 5
  | .maxI32 => 6
  | .swap64 => 7
  | .cas64 => 8
  | .trace => 9
/-- req_op as a number (R108). -/
def opCode : ReqOp → BitVec 4
  | .read => 0
  | .write => 1
  | .atom a => atomCode a
  | .sem => 10
  | .doorbell => 11
  | .reserved c => 12 + c.setWidth 4
/-- The atomic of a req_op number. -/
def atomOf (n : BitVec 4) : AtomOp :=
  match n.toNat with
  | 2 => .addS8
  | 3 => .addI32
  | 4 => .addF32
  | 5 => .minI32
  | 6 => .maxI32
  | 7 => .swap64
  | 8 => .cas64
  | _ => .trace

/-- L of a request (R108). -/
def beatsOf (q : ReqF) : Nat := q.len.toNat + 1
/-- Read data beats, or 1 for the acknowledgement on the write channel (R108, R113). -/
def answerBeats : ReqOp → ReqF → Nat
  | .read, q => beatsOf q
  | .reserved _, q => beatsOf q
  | .write, q => beatsOf q
  | .atom _, _ => 1
  | .sem, _ => 1
  | .doorbell, _ => 1
/-- The channel that answers (R108). -/
def channelOf : ReqOp → Channel
  | .write => .wr
  | .sem => .wr
  | .doorbell => .wr
  | .read => .rd
  | .atom _ => .rd
  | .reserved _ => .rd
/-- Write data beats a request carries (R108). -/
def wdBeats : ReqOp → ReqF → Nat
  | .write, q => beatsOf q
  | .atom _, _ => 1
  | .sem, _ => 1
  | .doorbell, _ => 1
  | .read, _ => 0
  | .reserved _, _ => 0
/-- The request writes the data space (R294). -/
def writes : ReqOp → Bool
  | .write => true
  | .atom _ => true
  | .read => false
  | .sem => false
  | .doorbell => false
  | .reserved _ => false

/-- Request seq of port p changed by f. -/
def modReq (s : State) (p : EPort) (seq : Nat) (f : EReq → EReq) : State :=
  modEp s p (fun x => { x with reqs := x.reqs.map (fun e => if e.seq = seq then f e else e) })

/-- The logical address of beat i (R114). -/
def beatAddr (q : ReqF) (i : Nat) : Nat := (q.addr.toNat + 64 * i) % 2 ^ 27
/-- The places of the beats of a request (R114). -/
def reqPlaces (s : State) (q : ReqF) (n : Nat) : List Place := (List.range n).map (fun i => place s (beatAddr q i))

/-! ## Issue and retire counts (R294, R388) -/

/-- The scope indexes 0 region, 1 half, 2 whole block that contain one of these regions. -/
def scopesOf (p : EPort) (rs : List Region) : List (Fin 3) :=
  (if rs.any (fun r => r == portRegion p) then [0] else []) ++
    (if rs.any (fun r => halfOf r == portHalf p) then [1] else []) ++ (if rs.isEmpty then [] else [2])

/-- A write of port p is issued in these scopes (R294). -/
def issueWrite (s : State) (p : EPort) (seq : Nat) (sc : List (Fin 3)) : State :=
  modEp s p (fun x =>
    { x with ret := sc.foldl (fun t i =>
        { t with issue := vmod t.issue i (· + 1), order := vmod t.order i (· ++ [(seq, false)]) }) x.ret })

/-- The oldest writes that have taken effect leave the order, and the count advances by their number. -/
def popDone : List (Nat × Bool) → Nat × List (Nat × Bool)
  | [] => (0, [])
  | (q, d) :: t => if d then let (n, r) := popDone t; (n + 1, r) else (0, (q, d) :: t)

/-- Retire counts after write seq has taken effect (R294). -/
def retireOne (t : Retire) (seq : Nat) : Retire :=
  (idx 3).foldl (fun t i =>
    let marked := (vget t.order i).map (fun e => if e.1 = seq then (e.1, true) else e)
    let (n, rest) := popDone marked
    { t with order := vset t.order i rest, retired := vmod t.retired i (· + BitVec.ofNat 32 n) }) t

/-- The half-crossbar source that is the link of region r (R153). -/
def linkSrc (r : Region) : HSrc := ⟨r.val % 4, by omega⟩

/-- A RETIRE packet of East port p with its counts (R384, R388). -/
def retirePkt (p : EPort) (t : Retire) : Packet :=
  { packet0 8 with via := linkSrc (portRegion p), src := BitVec.ofNat 6 p.val, word := vget t.retired 1 ++ vget t.retired 0, stamp := vget t.retired 2 }

/-- The write seq of port p has taken effect: its counts advance; the Bandstand sees a West port's at once, and an East
port's through a RETIRE packet, which replaces one still waiting (R294, R388). -/
def retireWrite (s : State) (p : EPort) (seq : Nat) : State :=
  let old := (ep s p).ret.retired
  let s := modEp s p (fun x => { x with ret := retireOne x.ret seq })
  let t := (ep s p).ret
  if portHalf p = 0 then modEp s p (fun x => { x with seen := x.ret.retired })
  else if t.retired = old then s
  else
    let pk := retirePkt p t
    let q := vget (dir s 1).txq 3
    if q.any (fun z => z.kind == 8 && z.src == pk.src) then
      modDir s 1 (fun x => { x with txq := vset x.txq 3 (q.map (fun z => if z.kind = 8 ∧ z.src = pk.src then pk else z)) })
    else sendPkt s 1 pk

/-- The tile of a port with this number. -/
def findTile (s : State) (k : RPort) (uid : Nat) : Option Tile := (rp s k).tiles.find? (fun t => t.uid == uid)
/-- A tile changed by f. -/
def modTile (s : State) (k : RPort) (uid : Nat) (f : Tile → Tile) : State :=
  modRp s k (fun x => { x with tiles := x.tiles.map (fun t => if t.uid = uid then f t else t) })

/-- The half whose unit issued a piece (R20, R247, R334, R485). -/
def srcHalf : BSrc → Half
  | .engine p _ => portHalf p
  | .mcast r _ => halfOf r
  | .rill k _ => k
  | .lodge _ _ => 0
  | .dump => 0

/-- The operation of a piece is a read. -/
def isRead : CellOp → Bool
  | .read => true
  | .write => false
  | .setBits => false
  | .clrBits => false
  | .atom _ => false

/-- Freeze keeps the endpoint from taking this packet (R391). -/
def packetHeld (s : State) (d : Half) (c : FbClass) (p : Packet) : Bool :=
  frozen s d && (c == 2 || (c == 0 && !(match p.ref with | some src => isBegun s src | none => false)))

/-- Wake requests from a unit of the West half (R384): at once for its own regions, in CONTROL packets for the East half's. -/
def wakeAll (s : State) (m : Byte) : State :=
  (idx 8).foldl (fun s r => if !bit8 m r then s else if halfOf r = 0 then wakeReq s r else sendCtl s 0 (.wake r)) s

/-! ## Pieces on their way -/

/-- A beat with its place and number, before it is gathered into a piece. -/
structure NBeat where
  i : Nat
  addr : BitVec 29
  at_ : Place
  data : Beat
  strb : BitVec 64
  deriving DecidableEq, Repr

/-- The place in its cell of a numbered beat. -/
def NBeat.beat (n : NBeat) : PBeat := ⟨n.at_.cell, n.at_.row, n.at_.off, n.data, n.strb⟩

/-- Beats divided into runs in one block, cut every 8 beats counted from beat 0 (R132, R264). -/
def cutRuns : List NBeat → List (List NBeat)
  | [] => []
  | b :: bs =>
    match cutRuns bs with
    | [] => [[b]]
    | run :: more =>
      match run with
      | [] => [b] :: more
      | c :: _ =>
        if c.i % 8 = 0 ∨ c.at_.region ≠ b.at_.region ∨ c.at_.block ≠ b.at_.block ∨ c.i ≠ b.i + 1 then [b] :: run :: more
        else (b :: run) :: more

/-- The piece of a run, and the address of its first beat. -/
def runPiece (src : BSrc) (op : CellOp) (hp : Bool) (run : List NBeat) : Option (Piece × BitVec 29) :=
  match run with
  | [] => none
  | b :: _ => some (⟨src, b.i, op, hp, b.at_.region, b.at_.block, run.map NBeat.beat⟩, b.addr)

/-- A piece reaches the entry of its region by crossbar source via, from half-crossbar source src where that is the half link; a
region that is not in Run gets a wake request (R31, R137). The beats of the half link have still to cross it (R153). -/
def enterRegion (s : State) (via : Fin 5) (src : HSrc) (pc : Piece) : State :=
  let s := modRg s pc.region (fun g =>
    { g with inq := g.inq ++ [{ uid := g.nextUid, via := via, hsrc := src, came := if via = 4 then 0 else pc.beats.length, piece := pc,
                                left := pc.beats.mapIdx (fun i b => (i, b)), granted := false, res := pc.beats.map (fun _ => none) }],
             nextUid := g.nextUid + 1 })
  wakeReq s pc.region

/-- The half-crossbar source by which a unit's beats come (R153). -/
def hsrcOf : BSrc → HSrc
  | .engine p _ => linkSrc (portRegion p)
  | .mcast r _ => linkSrc r
  | .rill _ _ => 8
  | .lodge _ _ => 10
  | .dump => 10

/-- SRC of a packet (R383); the dump engine sends as the Lodge does (log entry 12). -/
def srcCode : BSrc → BitVec 6
  | .engine p _ => BitVec.ofNat 6 p.val
  | .mcast r _ => BitVec.ofNat 6 (4 * r.val)
  | .rill k _ => BitVec.ofNat 6 (32 + k.val)
  | .lodge _ _ => 34
  | .dump => 34

/-- TAG of a packet (R383, log entry 12). -/
def srcTag (s : State) : BSrc → BitVec 12
  | .engine p seq => match findReq s p seq with | some e => e.q.id.setWidth 12 | none => 0
  | .mcast _ _ => 0
  | .rill k uid => match findTile s k uid with | some t => t.slot | none => 0
  | .lodge n _ => BitVec.ofNat 12 n.val
  | .dump => 0x800

/-- The request packet of a piece (R383, R384, R386). -/
def requestPkt (s : State) (pc : Piece) (addr : BitVec 29) : Packet :=
  let base : BitVec 4 → Packet := fun k =>
    { packet0 k with via := hsrcOf pc.src, src := srcCode pc.src, tag := srcTag s pc.src, addr := addr, beats := BitVec.ofNat 3 (pc.beats.length - 1),
                     ref := some pc.src, first := pc.first, hp := pc.hp }
  let wr : BitVec 2 → Packet := fun al =>
    let full := pc.beats.all (fun b => b.strb == BitVec.allOnes 64)
    { base 1 with op := 1, addr := al ++ (addr.setWidth 27), strb := !full,
                  strbs := if full then [] else pc.beats.map (·.strb), data := pc.beats.map (·.data) }
  match pc.op with
  | .read => base 0
  | .write => wr 0
  | .setBits => wr 1
  | .clrBits => wr 2
  | .atom a => { base 2 with op := atomCode a, beats := 0, strb := true, strbs := (pc.beats.map (·.strb)).take 1, data := (pc.beats.map (·.data)).take 1 }

/-- The crossbar source by which a piece of this half reaches region r (R149). The beats of a multicast read, which serves several
ports, come by the half link (log entry 88). -/
def viaOf (src : BSrc) (r : Region) : Fin 5 :=
  match src with
  | .engine p _ => if portRegion p = r then ⟨p.val % 4, by omega⟩ else 4
  | .mcast _ _ => 4
  | .rill _ _ => 4
  | .lodge _ _ => 4
  | .dump => 4

/-- A piece leaves its unit: to its region's entry in the same half, or as a REQ packet (R137, R386). -/
def routePiece (s : State) (pc : Piece) (addr : BitVec 29) : State :=
  if halfOf pc.region = srcHalf pc.src then enterRegion s (viaOf pc.src pc.region) (hsrcOf pc.src) pc
  else sendPkt s (srcHalf pc.src) (requestPkt s pc addr)

/-- All the pieces of these beats leave their unit. -/
def routeBeats (s : State) (src : BSrc) (op : CellOp) (hp : Bool) (bs : List NBeat) : State :=
  (cutRuns bs).foldl (fun s run =>
    match runPiece src op hp run with
    | some (pc, a) => routePiece s pc a
    | none => s) s

/-- One beat written by the Lodge or the dump engine at a logical address (R334, R485). -/
def routeOne (s : State) (src : BSrc) (a : Nat) (data : Beat) (strb : BitVec 64) : State :=
  let a := a % 2 ^ 27
  routeBeats s src .write false [⟨0, BitVec.ofNat 29 a, place s a, data, strb⟩]

/-- What the alias of a WRITE does to a beat (R119). -/
def aliasOp (q : ReqF) : CellOp := 
  if q.addr.extractLsb' 27 2 = 1 then .setBits else if q.addr.extractLsb' 27 2 = 2 then .clrBits else .write

/-- The numbered beats of an engine request, of which the write beats in got have been taken. -/
def reqBeats (s : State) (e : EReq) : List NBeat :=
  let n := match e.op with | .read => beatsOf e.q | .write => beatsOf e.q | _ => 1
  (List.range n).map (fun i =>
    let w := e.got.getD i ⟨0, 0, false⟩
    let a := beatAddr e.q i
    ⟨i, e.q.addr.extractLsb' 27 2 ++ BitVec.ofNat 27 a, place s a, w.data, w.strb⟩)

/-- The operation at the cell of an engine request. -/
def reqCellOp (e : EReq) : CellOp :=
  match e.op with
  | .write => aliasOp e.q
  | .atom a => .atom a
  | _ => .read

/-- Two numbered beats lie at the same place of the data space. -/
def sameSpot (a b : NBeat) : Bool :=
  a.at_.region == b.at_.region && a.at_.block == b.at_.block && a.at_.cell == b.at_.cell && a.at_.row == b.at_.row

/-- A request that has left its Sluice stage and is not answered. -/
def underway (o : EReq) : Bool :=
  match o.stage with
  | .sent => true
  | .gather => true
  | .sluice => false
  | .signal => false
  | .answered => false

/-- Beat i of a request has still to leave its port or, for a member of a gather, to be answered. -/
def beatOpen (o : EReq) (i : Nat) : Bool := if o.gather.isSome then (o.res.getD i none).isNone else decide (o.fwd ≤ i)

/-- An earlier request of the port covers one of these beats and has still to leave the port with it (R130, log entry 33). -/
def orderWaits (s : State) (p : EPort) (seq : Nat) (run : List NBeat) : Bool :=
  (ep s p).reqs.any (fun o => decide (o.seq < seq) && underway o && !o.broke &&
    (reqBeats s o).any (fun b => beatOpen o b.i && run.any (sameSpot b)))

/-- The next pieces of a released request are forwarded: those whose beats have all been taken and checked, and that wait for no
earlier request of the port (R111, R130, R132). The read of a gather serves its members instead (R124). -/
def forwardReq (s : State) (p : EPort) (seq : Nat) : State :=
  match findReq s p seq with
  | none => s
  | some e =>
    if e.stage = .sent && e.gather.isNone && !e.broke then
      let runs := ((cutRuns (reqBeats s e)).filter (fun run => run.all (fun b => decide (e.fwd ≤ b.i)))).takeWhile (fun run =>
        run.all (fun b => !writes e.op || decide (b.i < e.got.length)) && !orderWaits s p seq run)
      let s := runs.foldl (fun s run =>
        match runPiece (.engine p seq) (reqCellOp e) e.q.hp run with
        | some (pc, a) => routePiece s pc a
        | none => s) s
      modReq s p seq (fun x => { x with fwd := runs.foldl (fun n run => n + run.length) x.fwd })
    else s

/-- The beats of a gather's read (R124). -/
def gatherBeats (s : State) (g : Gather) : List NBeat :=
  let q : ReqF := ⟨g.addr, g.len, 0, g.g, g.hp⟩
  (List.range (beatsOf q)).map (fun i => ⟨i, q.addr.extractLsb' 27 2 ++ BitVec.ofNat 27 (beatAddr q i), place s (beatAddr q i), 0, 0⟩)

/-- An earlier request of a member covers a beat of the gather and is not answered on it (R130, log entry 33). -/
def gatherWaits (s : State) (g : Gather) (bs : List NBeat) : Bool :=
  g.joined.any (fun m => (ep s m.1).reqs.any (fun o => decide (o.seq < m.2) && underway o && o.gather.isNone &&
    (reqBeats s o).any (fun b => (o.res.getD b.i none).isNone && bs.any (sameSpot b))))

/-- The read of a started gather goes on its way (R124), once the earlier requests of its members allow it (R130). -/
def launchGather (s : State) (r : Region) (g : Gather) : State :=
  if gatherWaits s g (gatherBeats s g) then s
  else
    let s := g.joined.foldl (fun s m => modReq s m.1 m.2 (fun e => if e.stage = .gather then { e with stage := .sent } else e)) s
    routeBeats s (.mcast r g.inst) .read g.hp (gatherBeats s g)

/-- A released request of port p goes on as far as it may (R111, R124, R130); under freeze only a begun one does (R28). -/
def pumpReq (s : State) (p : EPort) (seq : Nat) : State :=
  match findReq s p seq with
  | none => s
  | some e =>
    if frozen s (portHalf p) && !e.begun then s
    else
      match e.stage, e.gather with
      | .gather, some (r, inst) =>
        match findGather s r inst with
        | some g => if g.started then launchGather s r g else s
        | none => s
      | _, _ => forwardReq s p seq

/-- The released requests of port p go on, in transfer order. -/
def pumpPort (s : State) (p : EPort) : State := (ep s p).reqs.foldl (fun s e => pumpReq s p e.seq) s

/-! ## Answers -/

/-- A request is answered: its stage, and its write retires (R294). -/
def closeReq (s : State) (p : EPort) (e : EReq) : State :=
  let s := modReq s p e.seq (fun x => { x with stage := .answered })
  if writes e.op then retireWrite s p e.seq else s

/-- Answers to beats first .. of a request; the request is answered when every beat is. -/
def setRes (s : State) (p : EPort) (seq first : Nat) (rs : List BeatRes) : State :=
  match findReq s p seq with
  | none => s
  | some e =>
    if e.stage = .answered || e.broke then s
    else
      let res := e.res.mapIdx (fun i o => if first ≤ i ∧ i < first + rs.length then rs[i - first]? else o)
      let s := modReq s p seq (fun x => { x with res := res })
      if res.all Option.isSome then closeReq s p e else s

/-- No head of port p is held any longer at its Sluice stage when request e leaves it (R359). -/
def unhold (s : State) (p : EPort) (e : EReq) : State :=
  if e.stage = .sluice then { s with slu := { s.slu with heldNow := s.slu.heldNow &&& ~~~mask32 p } } else s

/-- The tag entry of a request (R488, R489): at the end of its last stage, or when it is answered with an error. -/
def tagRequest (s : State) (p : EPort) (e : EReq) (ended : Bool) : State :=
  if !e.tagged then s
  else
    let at_ := place s (beatAddr e.q 0)
    let code := match e.res.head? with | some (some x) => x.code | _ => okay
    putTag s (tagEntry s false (BitVec.ofNat 5 p.val) at_.region (BitVec.ofNat 5 at_.block.val) e.q.id (opCode e.op) code
      (fun i => if i ≤ 4 then decide (i ≤ e.mark) else ended || (i == 5 && decide (0 < e.taken))))

/-- A tagged request that is answered whole with an error is entered at once (R488, R490). -/
def tagError (s : State) (p : EPort) (seq : Nat) (code : BitVec 3) : State :=
  match findReq s p seq with
  | none => s
  | some e => if code = okay then s else modReq (tagRequest s p e false) p seq (fun x => { x with tagged := false })

/-- Every beat of a request answered with one code and no data (R109, R116). -/
def answerAll (s : State) (p : EPort) (seq : Nat) (code : BitVec 3) : State :=
  match findReq s p seq with
  | none => s
  | some e =>
    if e.stage = .answered then s
    else
      let s := unhold s p e
      closeReq (tagError (modReq s p seq (fun x => { x with res := x.res.map (fun _ => some ⟨code, 0⟩) })) p e.seq code) p e

/-- The answer of a signal: at once for a West port, in a SIGNAL_ACK for an East one (R384). -/
def answerSignal (s : State) (p : EPort) (seq : Nat) (code : BitVec 3) : State :=
  if portHalf p = 0 then answerAll s p seq code
  else
    let tag := match findReq s p seq with | some e => e.q.id.setWidth 12 | none => 0
    sendPkt s 0 { packet0 7 with src := BitVec.ofNat 6 p.val, tag := tag, bresp := code.setWidth 24, ref := some (.engine p seq) }

/-- A data-space beat of a tile is answered (R264): a drain beat is staged, a fill beat is complete, a fenced one is complete
without effect. A beat that is to be issued again takes no answer to an earlier piece (R268). -/
def tileBeat (t : Tile) (i : Nat) (x : BeatRes) : Tile :=
  let st : BeatSt := if x.code = fencedC || !t.drain then .done else .staged x.data
  { t with beats := t.beats.mapIdx (fun j o => if j = i && o == .moving && x.code != frozenC then st else o) }

/-- The packet by which region r returns the answers of a piece (R383, R384, R386): SRC and TAG name the unit that issued it. -/
def answerPkt (s : State) (r : Region) (src : BSrc) (op : CellOp) (first : Nat) (rs : List BeatRes) : Packet :=
  let resp := rs.foldr (fun (x : BeatRes) (acc : BitVec 24) => (acc <<< 3) ||| x.code.setWidth 24) 0
  let n : BitVec 3 := BitVec.ofNat 3 (rs.length - 1)
  let base : BitVec 4 → Packet := fun k =>
    { packet0 k with via := linkSrc r, src := srcCode src, tag := srcTag s src, bresp := resp, ref := some src, first := first }
  match op with
  | .read => { base 3 with beats := n, data := rs.map (·.data) }
  | .atom _ => { base 5 with data := (rs.map (·.data)).take 1 }
  | .write => { base 4 with beats := n }
  | .setBits => { base 4 with beats := n }
  | .clrBits => { base 4 with beats := n }

/-- The answers of a piece reach the unit that issued it. A multicast member of the other half has its copy sent across
(R125). -/
def pieceBack (s : State) (src : BSrc) (op : CellOp) (first : Nat) (rs : List BeatRes) : State :=
  match src with
  | .engine p seq => setRes s p seq first rs
  | .mcast r inst =>
    match findGather s r inst with
    | none => s
    | some g =>
      g.joined.foldl (fun s (m : EPort × Nat) =>
        if portHalf m.1 = halfOf r then setRes s m.1 m.2 first rs
        else sendPkt s (halfOf r) (answerPkt s r (.engine m.1 m.2) op first rs)) s
  | .rill k uid =>
    match findTile s k uid with
    | none => s
    | some t =>
      let s := modTile s k uid (fun t => (rs.zipIdx).foldl (fun t (x : BeatRes × Nat) => tileBeat t (first + x.2) x.1) t)
      if rs.any (fun x => x.code == fencedC) then modStream s t.ctx (fun x => { x with fencedSeen := true }) else s
  | .lodge n uid =>
    let s := modBox s n (fun x => { x with deps := x.deps.map (fun d => if d.uid = uid then { d with landed := true } else d) })
    if rs.any (fun x => x.code == fencedC) then { s with lod := { s.lod with depFenced := true } } else s
  | .dump =>
    let s := { s with cnt := { s.cnt with dump := s.cnt.dump.map (fun d => { d with outstanding := d.outstanding - 1 }) } }
    if rs.any (fun x => x.code == fencedC) then { s with cnt := { s.cnt with dumpFenced := true } } else s

/-- A piece of region r is answered: the answers go back on its path. -/
def pieceDone (s : State) (r : Region) (p : RPiece) : State :=
  let rs := p.res.map (fun o => o.getD ⟨okay, 0⟩)
  let s := modRg s r (fun g => { g with inq := g.inq.filter (fun x => x.uid != p.uid) })
  if srcHalf p.piece.src = halfOf r then pieceBack s p.piece.src p.piece.op p.piece.first rs
  else sendPkt s (halfOf r) (answerPkt s r p.piece.src p.piece.op p.piece.first rs)

/-- The answer to beat i of piece uid of region r; performed tells that a block performed the beat. -/
def beatDone (s : State) (r : Region) (uid i : Nat) (performed : Bool) (x : BeatRes) : State :=
  let s := modRg s r (fun g => { g with inq := g.inq.map (fun p =>
    if p.uid = uid then { p with granted := p.granted || performed, res := p.res.mapIdx (fun j o => if j = i then some x else o) } else p) })
  match (rg s r).inq.find? (fun p => p.uid == uid) with
  | none => s
  | some p => if p.res.all Option.isSome then pieceDone s r p else s

/-! ## The cell (R118-R121, R133) -/

/-- Put whole new bytes into a beat. -/
def putRow (s : State) (r : Region) (b : Blk) (cell : Fin 8) (row : BitVec 10) (bs : List Byte) : State :=
  if canWrite s then { s with mem := tputs 0 s.mem (rowAddr r b cell row) bs } else s

/-- Bits of the enabled bytes (R119). -/
def strbMask (strb : BitVec 64) : Beat := wordOf 512 ((List.range 64).map (fun i => if strb.getLsbD i then 0xFF else 0))

/-- Decay factor i of a region: 0 where no Plan is loaded (R84, R237). -/
def factorOf (s : State) (r : Region) (i : Nat) : BitVec 16 := if planned s r then tget 0 (rg s r).plan.decay i else 0

/-- The cell performs one beat: the state after it, and its answer (R118-R121, R129, R133, R239, R240). -/
def cellAccess (s : State) (r : Region) (b : Blk) (op : CellOp) (q : PBeat) : State × BeatRes :=
  match op with
  | .read => (s, ⟨okay, readBeat s r b q.cell q.row⟩)
  | .write => (writeBeat s r b q.cell q.row q.data q.strb, ⟨okay, 0⟩)
  | .setBits => (writeBeat s r b q.cell q.row (readBeat s r b q.cell q.row ||| (q.data &&& strbMask q.strb)) q.strb, ⟨okay, 0⟩)
  | .clrBits => (writeBeat s r b q.cell q.row (readBeat s r b q.cell q.row &&& ~~~(q.data &&& strbMask q.strb)) q.strb, ⟨okay, 0⟩)
  | .atom a =>
    let (bs, old, t) := atomBeat a (rg s r).ev.epoch (factorOf s r) q.off (readBeat s r b q.cell q.row) q.data q.strb
    let s := putRow s r b q.cell q.row bs
    (if t then modRg s r (fun g => { g with sweep := { g.sweep with traceSat := true } }) else s, ⟨okay, old⟩)

/-- Who may be answered BUSY: reads from engine ports (R118). -/
def fromEngine : BSrc → Bool
  | .engine _ _ => true
  | .mcast _ _ => true
  | .rill _ _ => false
  | .lodge _ _ => false
  | .dump => false

/-- The weight row of a row-event (R172). -/
def weightRow (x : RowEv) : BitVec 10 := x.rowBase + BitVec.ofNat 10 x.i

/-- The access that port A of the block's cells makes in this cycle (R138): whether it writes, and its row, which it accesses whole
(R193, R225). The event unit reads the weight row of its next row-event; the sweep unit's next instruction is an LDS or an STS. -/
def portA (x : Block) : Meet → Option (Bool × BitVec 10)
  | .none => none
  | .event => x.evq.head?.map (fun e => (false, weightRow e))
  | .sweep =>
    match x.sweep with
    | none => none
    | some w =>
      match w.pc with
      | none => none
      | some i =>
        let iw : W32 := if i.val < 32 then tget 0 x.store (32 * w.prog.val + i.val) else 0
        let row : BitVec 10 := BitVec.ofNat 10 (sweepBase iw + w.group)
        match sweepOp i.val iw with
        | .lds => some (false, row)
        | .sts => some (true, row)
        | _ => none

/-- Port A's access falls on the row of this beat, and does not yield to a beat that was stalled in the cycle before (R138, R139). -/
def meets (x : Block) (q : BReq) (m : Meet) : Option Bool :=
  match portA x m with
  | none => none
  | some (wr, row) => if row = q.beat.row && x.stalled ≠ some q.beat.cell then some wr else none

/-- Port A's access stalls the beat for one cycle (R138, R139): it falls on the same row, and the beat writes. An atomic or alias
write is stalled in its second cycle at the latest. -/
def stalls (x : Block) (q : BReq) (m : Meet) : Bool := (meets x q m).isSome && !isRead q.op

/-- The lane side writes the row that this read beat of an engine port reads (R118, R138). -/
def busyBeat (x : Block) (q : BReq) (m : Meet) : Bool := meets x q m == some true && isRead q.op && fromEngine q.src

/-- The beat has been stalled in the cycle before, and port A's access on its row stalls in its place (R139). -/
def stallsA (x : Block) (q : BReq) (m : Meet) : Bool :=
  x.stalled == some q.beat.cell && !isRead q.op && (match portA x m with | some (_, row) => row == q.beat.row | none => false)

/-- Slots of port B of one cell in a class of R480. -/
def countPB (s : State) (r : Region) (b : Blk) (cell : Fin 8) (e : Nat) : State := countBs s r b [selOf e 0, selOf e (8 + cell.val)] 1

/-- A beat of port B is stalled (R138, R139, R480): it is performed in the next cycle, before port A. Its burst is begun (R28). -/
def stallBeat (s : State) (r : Region) (b : Blk) (q : BReq) : State :=
  countPB (modBlk s r b (fun x => { x with stalled := some q.beat.cell })) r b q.beat.cell 0x0D

/-- The decay factors that an ATOM_TRACE beat reads (R237, R239). -/
def factorsRead (s : State) (r : Region) (b : Blk) (q : PBeat) (word : BitVec 11) : Bool :=
  planned s r && (List.range 8).any (fun e =>
    let o : W64 := (readBeat s r b q.cell q.row).extractLsb' (64 * e) 64
    let d : W64 := q.data.extractLsb' (64 * e) 64
    elemOn q.strb 8 e && !d.getLsbD 35 &&
      256 * (d.extractLsb' 32 3).toNat + decayIndex (rg s r).ev.epoch (o.extractLsb' 32 32) == word.toNat)

/-- The check that a beat fails, with its fault (R222, R451, R452); none where it passes, or where the beat makes no such read. -/
def beatFault (s : State) (r : Region) (b : Blk) (q : BReq) : BeatChk → Option State
  | .good => none
  | .xbarParity _ => none
  | .arrayParity =>
    if q.op = .write then none
    else some (blockFault s r b 1 0 q.beat.cell.val ((1 : W32) <<< 16 ||| q.beat.row.setWidth 32))
  | .factorParity d =>
    if q.op = .atom .trace && factorsRead s r b q.beat d then some (blockFault s r b 4 1 0 ((2 : W32) <<< 16 ||| d.setWidth 32)) else none

/-- One beat of a stop performed at port B (R118, R138, R139, R452). A beat that fails a check is answered FROZEN (log entry 89). -/
def portB (s : State) (r : Region) (b : Blk) (q : BReq) (m : Meet) (chk : BeatChk) : State × BeatRes :=
  let c := q.beat.cell
  let x := blk s r b
  let s := modBlk s r b (fun z => { z with stalled := if z.stalled = some c then none else z.stalled })
  let s := if stallsA x q m then countB s r b 0x09 0 1 else s
  match beatFault s r b q chk with
  | some s' => (countPB s' r b c 0x0C, ⟨frozenC, 0⟩)
  | none =>
    if busyBeat x q m then (countPB (countB s r b 0x13 0 1) r b c 0x0D, ⟨busyC, fv s 1 512⟩)
    else
      let (s', y) := cellAccess s r b q.op q.beat
      (countPB (if isRead q.op || q.op = .write then s' else countPB s' r b c 0x0C) r b c 0x0C, y)

/-- The burst that a beat belongs to is begun (R28). -/
def markBegun (s : State) (src : BSrc) : State :=
  match src with
  | .engine p seq => modReq s p seq (fun e => { e with begun := true })
  | .mcast r inst =>
    match findGather s r inst with
    | some g => g.joined.foldl (fun s (m : EPort × Nat) => modReq s m.1 m.2 (fun e => { e with begun := true })) s
    | none => s
  | .rill _ _ => s
  | .lodge _ _ => s
  | .dump => s

/-- A beat of this burst has reached stage k of R489. -/
def markStage (s : State) (src : BSrc) (k : Nat) : State :=
  match src with
  | .engine p seq => modReq s p seq (fun e => { e with mark := max e.mark k })
  | .mcast r inst =>
    match findGather s r inst with
    | some g => g.joined.foldl (fun s (m : EPort × Nat) => modReq s m.1 m.2 (fun e => { e with mark := max e.mark k })) s
    | none => s
  | .rill _ _ => s
  | .lodge _ _ => s
  | .dump => s

/-- A source whose beats move at region r: any outside freeze, a begun burst under it (R28). -/
def srcMoves (s : State) (r : Region) (src : BSrc) : Bool := !frozen s (halfOf r) || isBegun s src

/-! ## The crossbar and the block arbiter (R140-R150) -/

/-- A timetable entry that names block b and cell c as owned (R82). -/
def slotOwns (w : W64) (b : Blk) (c : Fin 8) : Bool := w.getLsbD 47 && w.getLsbD b.val && w.getLsbD (32 + c.val)
/-- OWNER of a timetable entry (R82). -/
def slotOwner (w : W64) : EPort := ⟨(w.extractLsb' 40 5).toNat, (w.extractLsb' 40 5).isLt⟩
/-- The entry of slot k of the timetable in force (R105, R145). -/
def slotEntry (g : RegionSt) (k : Nat) : W64 := tget 0 g.plan.slots (1024 * g.model.tt.val + k)
/-- The entry of the current slot; an entry that failed its parity leaves the slot open (R148). -/
def slotNow (g : RegionSt) : W64 := if g.model.slotBad then 0 else slotEntry g g.model.slot.val
/-- The current slot owns cell c of block b for some port (R146). -/
def slotOwned (g : RegionSt) (b : Blk) (c : Fin 8) : Bool := slotOwns (slotNow g) b c
/-- Port p owns some slot of the timetable in force for this cell (R145). -/
def ownsSlot (g : RegionSt) (p : EPort) (b : Blk) (c : Fin 8) : Bool :=
  g.plan.slots.any (fun e => e.1 / 1024 == g.model.tt.val && slotOwns e.2 b c && slotOwner e.2 == p)
/-- A beat is scheduled (R145). A beat of a multicast read serves several issuing ports, and is not (log entry 88). -/
def isScheduled (g : RegionSt) (src : BSrc) (b : Blk) (c : Fin 8) : Bool :=
  match src with
  | .engine p _ => ownsSlot g p b c
  | _ => false

/-- The queue of the stop that a beat joins (R141, R248). -/
def queueOf (src : BSrc) (op : CellOp) : Requester :=
  match op with
  | .atom _ => .atomics
  | .setBits => .atomics
  | .clrBits => .atomics
  | .read => match src with | .rill _ _ => .fills | _ => .xbar
  | .write => match src with | .rill _ _ => .fills | _ => .xbar

/-- A queue of the stop. -/
def stopQ (x : Block) : Requester → List BReq
  | .event => []
  | .atomics => x.aq
  | .fills => x.fq
  | .xbar => x.xq
/-- A queue of the stop changed. -/
def modQ (x : Block) (k : Requester) (f : List BReq → List BReq) : Block :=
  match k with
  | .event => x
  | .atomics => { x with aq := f x.aq }
  | .fills => { x with fq := f x.fq }
  | .xbar => { x with xq := f x.xq }

/-- A beat that a crossbar source presents for a block's stop. -/
structure XCand where
  via : Fin 5
  p : RPiece
  i : Nat
  beat : PBeat
  deriving DecidableEq, Repr

/-- The next beat of a piece is at the region crossbar: it has crossed the half link where it comes by that (R137, R153). -/
def atCrossbar (p : RPiece) : Bool := match p.left with | (i, _) :: _ => decide (i < p.came) | [] => false

/-- The oldest beat that source via presents for block b (R149); under freeze only beats of begun bursts (R28). -/
def presented (s : State) (r : Region) (b : Blk) (via : Fin 5) : Option XCand :=
  match (rg s r).inq.find? (fun p => p.via == via && p.piece.block == b && atCrossbar p && srcMoves s r p.piece.src) with
  | some p => match p.left with | (i, q) :: _ => some ⟨via, p, i, q⟩ | [] => none
  | none => none

/-- The half-crossbar sources from the one after the last served (R153). -/
def hOrder (last : HSrc) : List HSrc := (List.range 11).map (fun i => fin 11 (last.val + 1 + i))

/-- The oldest piece of half-crossbar source k with a beat that has still to cross to region r; under freeze one of a begun burst. -/
def hWaiting (s : State) (r : Region) (k : HSrc) : Option RPiece :=
  (rg s r).inq.find? (fun p => p.via == 4 && p.hsrc == k && decide (p.came < p.piece.beats.length) && srcMoves s r p.piece.src)

/-- The postponed and placeable copy of the event at the head of an ingress port for region r, as COPY_PLACED may place it (R164,
R166, R176). -/
def postFor (s : State) (r : Region) (e : InEvent) : Bool := (rg s r).ev.closes.any (fun c => e.post.contains c.uid)

/-- A copy of the event may be placed at region r now (R164, R166, R176). -/
def mayPlace (s : State) (r : Region) (e : InEvent) : Bool :=
  bit8 e.near r && !postFor s r e && decide ((rg s r).ev.entry.length + (rg s r).ev.arriving.length < 512)

/-- The ingress port that is half-crossbar source k of half h (R153). -/
def ingressOf (h : Half) (k : HSrc) : EvPort := fin 8 (4 * h.val + (k.val - 4))

/-- Half-crossbar source k has a copy for region r that can be placed now (R28, R164). -/
def copyWaits (s : State) (r : Region) (k : HSrc) : Bool :=
  decide (4 ≤ k.val) && decide (k.val < 8) && !frozen s (halfOf r) &&
    (match vget s.ingress (ingressOf (halfOf r) k) with | e :: _ => mayPlace s r e | [] => false)

/-- The region's data path works: clock, Run, no load (R31, R99). -/
def pathOpen (s : State) (r : Region) : Bool := clocked s (halfOf r) && inRun s r && !loadingR s r

/-- The half-crossbar source that the output to region r serves next (R153): one with a beat, where the region takes beats, or with a
copy. -/
def hTurn (s : State) (r : Region) : Option HSrc :=
  (hOrder (rg s r).arb.hlast).find? (fun k => (pathOpen s r && (hWaiting s r k).isSome) || copyWaits s r k)

/-- One cycle of the half crossbar's output to region r: the next beat of the source whose turn it is enters the half link (R153). A
copy whose turn it is is placed by COPY_PLACED. -/
def halfCycle (s : State) (r : Region) : State :=
  match hTurn s r with
  | none => s
  | some k =>
    match hWaiting s r k with
    | none => s
    | some p =>
      modRg (markStage s p.piece.src 2) r (fun g =>
        { g with inq := g.inq.map (fun x => if x.uid = p.uid then { x with came := x.came + 1 } else x), arb := { g.arb with hlast := k } })

/-- The beat is scheduled. -/
def candSched (s : State) (r : Region) (b : Blk) (c : XCand) : Bool := isScheduled (rg s r) c.p.piece.src b c.beat.cell
/-- Another piece has beats in the queue that the beat goes to and has not been delivered whole (R132, R143, log entry 86). -/
def deliveryHeld (s : State) (r : Region) (b : Blk) (c : XCand) : Bool :=
  (rg s r).inq.any (fun p => p.uid != c.p.uid && p.piece.block == b && !p.left.isEmpty && decide (p.left.length < p.piece.beats.length) &&
    queueOf p.piece.src p.piece.op == queueOf c.p.piece.src c.p.piece.op && srcMoves s r p.piece.src)
/-- The stop takes the beat: it has room, which a begun burst needs not under freeze (R28). -/
def candFits (s : State) (r : Region) (b : Blk) (c : XCand) : Bool :=
  candSched s r b c || fenced s r b ||
    (!deliveryHeld s r b c && (frozen s (halfOf r) || decide ((stopQ (blk s r b) (queueOf c.p.piece.src c.p.piece.op)).length < 16)))
/-- The port that issued the beat with req_hp 1, when it is a home master of the region (R149). A multicast read's beat has several
issuing ports and is not high-priority (log entry 88). -/
def candHp (s : State) (r : Region) (c : XCand) : Option EPort :=
  match c.p.piece.src with
  | .engine p _ => if c.p.piece.hp && (vget s.map.home r).getLsbD p.val then some p else none
  | _ => none
/-- A high-priority beat within its quota, or any in RECOVERY (R149-R151). -/
def candFirst (s : State) (r : Region) (c : XCand) : Bool :=
  match candHp s r c with
  | some p => (rg s r).arb.eff.mode || decide (vget (rg s r).arb.quotaUsed p < (rg s r).arb.eff.quota.toNat)
  | none => false

/-- Round robin: the six crossbar sources from the one after the last served (R149); 5 is the event entry. -/
def rrOrder (last : Fin 6) : List (Fin 6) := (List.range 6).map (fun i => fin 6 (last.val + 1 + i))

/-- Row-events of a group find places in the event queue of block b: room for all of them, and no released row waits; a fenced block
discards them (R172, R174, R178). -/
def groupFits (s : State) (r : Region) (b : Blk) (n : Nat) : Bool :=
  fenced s r b || ((blk s r b).released.isEmpty && decide ((blk s r b).evq.length + n ≤ 256))

/-- The event entry presents a group for block b that finds its places (R149, R174). -/
def entryPresents (s : State) (r : Region) (b : Blk) : Bool :=
  match (rg s r).ev.groups with
  | [] => false
  | g :: _ => g.block == b && groupFits s r b g.rows.length && !frozen s (halfOf r)

/-- The beat that source k of the crossbar presents for block b and that its stop takes. -/
def candOf (s : State) (r : Region) (b : Blk) (k : Fin 6) : Option XCand :=
  if h : k.val < 5 then (presented s r b ⟨k.val, h⟩).filter (candFits s r b) else none

/-- The source that the crossbar's output to block b serves in this cycle (R149): a scheduled beat, else a high-priority beat within
its quota, else the next in round robin, the event entry among them. -/
def xbarTurn (s : State) (r : Region) (b : Blk) : Option (Fin 6) :=
  let ks := rrOrder (blk s r b).rrLast
  match ks.find? (fun k => (candOf s r b k).any (candSched s r b)) with
  | some k => some k
  | none =>
    match ks.find? (fun k => (candOf s r b k).any (candFirst s r)) with
    | some k => some k
    | none => ks.find? (fun k => (candOf s r b k).isSome || (k == 5 && entryPresents s r b))

/-- The beat the region crossbar delivers to block b in this cycle (R149). -/
def xbarPick (s : State) (r : Region) (b : Blk) : Option XCand := (xbarTurn s r b).bind (candOf s r b)

/-- Deliver one beat to the stop of block b; a beat to a fenced block is answered FENCED (R116, R463). -/
def deliver (s : State) (r : Region) (b : Blk) : State :=
  match xbarPick s r b with
  | none => s
  | some c =>
    let sched := candSched s r b c
    let ord := (rg s r).nextOrd
    let q : BReq := ⟨c.p.uid, c.i, (c.p.left.drop 1).isEmpty, c.p.piece.src, c.p.piece.op, c.beat, ord, false⟩
    let s := modRg s r (fun g =>
      { g with inq := g.inq.map (fun p => if p.uid = c.p.uid then { p with left := p.left.drop 1 } else p), nextOrd := ord + 1 })
    let s := match candHp s r c with
      | some p =>
        if !sched && !(rg s r).arb.eff.mode && candFirst s r c then
          modRg s r (fun g => { g with arb := { g.arb with quotaUsed := vmod g.arb.quotaUsed p (· + 1) } })
        else s
      | none => s
    let s := markStage (modBlk s r b (fun x => { x with rrLast := ⟨c.via.val, by omega⟩ })) q.src (if fenced s r b then 2 else 3)
    if fenced s r b then beatDone s r c.p.uid c.i false ⟨fencedC, 0⟩
    else if sched then
      modBlk s r b (fun x => { x with sched := x.sched ++ [{ q with slipped := x.sched.any (fun o => o.uid == q.uid && o.slipped) }] })
    else modBlk s r b (fun x => modQ x (queueOf q.src q.op) (· ++ [q]))

/-- Two beats cover the same 64 bytes. -/
def sameBeat (a b : PBeat) : Bool := a.cell == b.cell && a.row == b.row

/-- The beats of the piece that a beat at a stop belongs to. -/
def pieceBeats (g : RegionSt) (q : BReq) : List PBeat :=
  match g.inq.find? (fun p => p.uid == q.uid) with
  | some p => p.piece.beats
  | none => [q.beat]

/-- The piece of the beat is in progress: one of its beats has been performed (R147). -/
def inProgress (g : RegionSt) (q : BReq) : Bool := g.inq.any (fun p => p.uid == q.uid && p.granted)

/-- Another piece in progress at block b covers a beat of this beat's piece (R147, log entry 86). -/
def pieceBlocks (s : State) (r : Region) (b : Blk) (q : BReq) : Bool :=
  (rg s r).inq.any (fun p => p.uid != q.uid && p.piece.block == b && p.granted && srcMoves s r p.piece.src &&
    (pieceBeats (rg s r) q).any (fun x => p.piece.beats.any (sameBeat x)))

/-- The port of a source, for R140. -/
def samePort (a b : BSrc) : Bool :=
  match a, b with
  | .engine p _, .engine q _ => p == q
  | _, _ => false

/-- An earlier request of the same port at the stop covers a beat of this beat's piece (R140, log entry 86). -/
def earlierBlocks (s : State) (r : Region) (b : Blk) (q : BReq) : Bool :=
  let x := blk s r b
  (x.xq ++ x.aq ++ x.fq ++ x.sched).any (fun o => o.uid != q.uid && decide (o.ord < q.ord) && samePort o.src q.src && srcMoves s r o.src &&
    (pieceBeats (rg s r) q).any (sameBeat o.beat))

/-- The sweep holds the row (R227). -/
def rowHeld (x : Block) (row : BitVec 10) : Bool := match x.sweep with | some w => w.rows.contains row | none => false

/-- A slipped beat masks the unscheduled beats to its cell (R147), but not those that it waits for itself: the beats of a piece in
progress, and the queues that hold an earlier request of its port (log entry 86). -/
def slipMasks (s : State) (r : Region) (b : Blk) (q : BReq) : Bool :=
  (blk s r b).sched.any (fun o => o.slipped && o.beat.cell == q.beat.cell && srcMoves s r o.src &&
    !inProgress (rg s r) q && !earlierBlocks s r b o)

/-- Port B of this beat's cell is free of other pieces in progress (R147). -/
def cellFree (s : State) (r : Region) (b : Blk) (q : BReq) : Bool :=
  !(rg s r).inq.any (fun p => p.uid != q.uid && p.piece.block == b && p.granted && srcMoves s r p.piece.src &&
    p.piece.beats.any (fun x => x.cell == q.beat.cell))

/-- A beat in its place by order of arrival. -/
def putOrd (q : BReq) : List BReq → List BReq
  | [] => [q]
  | o :: os => if q.ord < o.ord then q :: o :: os else o :: putOrd q os

/-- The beats waiting at block b's stop sorted anew when a timetable takes effect: scheduled ones to the slots, others to their queues
(R145). -/
def resortBlock (g : RegionSt) (b : Blk) (x : Block) : Block :=
  let sch := fun (q : BReq) => isScheduled g q.src b q.beat.cell
  let come := (x.xq ++ x.aq ++ x.fq).filter sch
  let go := x.sched.filter (fun q => !sch q)
  let x := { x with xq := x.xq.filter (fun q => !sch q), aq := x.aq.filter (fun q => !sch q), fq := x.fq.filter (fun q => !sch q),
                    sched := come.foldl (fun l q => putOrd q l) (x.sched.filter sch) }
  go.foldl (fun x q => modQ x (queueOf q.src q.op) (putOrd { q with slipped := false })) x

/-- The per-block summaries of the region follow the timetable in force (R145). -/
def resort (g : RegionSt) : RegionSt := { g with blocks := vmap (fun b x => resortBlock g b x) g.blocks }

/-- An unscheduled beat at the head of a queue is masked (R146, R147, R227). -/
def maskedBeat (s : State) (r : Region) (b : Blk) (q : BReq) : Bool :=
  slotOwned (rg s r) b q.beat.cell || slipMasks s r b q || rowHeld (blk s r b) q.beat.row

/-- A beat waits for another access, and its requester does not ask for the block meanwhile (R140, R147). -/
def beatWaits (s : State) (r : Region) (b : Blk) (q : BReq) : Bool := pieceBlocks s r b q || earlierBlocks s r b q

/-- The head beat of a requester's queue; under freeze the first beat of a begun burst (R28). -/
def headBeat (s : State) (r : Region) (b : Blk) (k : Requester) : Option BReq := (stopQ (blk s r b) k).find? (fun q => srcMoves s r q.src)

/-- The head of a queue is ready for issue. -/
def headReady (s : State) (r : Region) (b : Blk) (k : Requester) : Bool :=
  match headBeat s r b k with
  | none => false
  | some q => !beatWaits s r b q

/-- A requester asks for the block (R141): the head of its queue, or a row-event ready for issue. -/
def asks (s : State) (r : Region) (b : Blk) (k : Requester) : Bool :=
  match k with
  | .event => !(blk s r b).evq.isEmpty && !(blk s r b).halted && !frozen s (halfOf r)
  | .atomics => headReady s r b .atomics
  | .fills => headReady s r b .fills
  | .xbar => headReady s r b .xbar

/-- The requester is masked in this cycle. -/
def maskedReq (s : State) (r : Region) (b : Blk) (k : Requester) : Bool :=
  match headBeat s r b k with
  | none => false
  | some q => maskedBeat s r b q

/-- The requesters in tie order (R141). -/
def requesters : List Requester := [.event, .atomics, .fills, .xbar]
/-- The number of a requester. -/
def reqNo : Requester → Fin 4
  | .event => 0
  | .atomics => 1
  | .fills => 2
  | .xbar => 3
/-- The burst limit of a requester (R143, R156). -/
def burstOf (g : RegionSt) (k : Requester) : Nat := (vget g.arb.eff.burst (reqNo k)).toNat + 1

/-- Higher priority first; ties in the order of the list (R141). -/
def bestReq (x : Block) : List Requester → Option Requester
  | [] => none
  | k :: ks =>
    match bestReq x ks with
    | none => some k
    | some j => if (vget x.prio (reqNo k)).val < (vget x.prio (reqNo j)).val then some j else some k

/-- The grant decision of a cycle in which no grant is held (R141, R144, R28): under freeze only begun bursts, which come ahead
of every other requester. The arbiter freeze bit acts independently of freeze (R144). -/
def decideGrant (s : State) (r : Region) (b : Blk) : Option Requester :=
  if bit32 (rg s r).arb.freeze b then none
  else bestReq (blk s r b) (requesters.filter (fun k => asks s r b k && !maskedReq s r b k))

/-- Aging (R142): the granted requester returns to 0, the others that ask unmasked gain a step. -/
def age (s : State) (r : Region) (b : Blk) (owner : Requester) (fresh : Bool) : State :=
  let up := requesters.filter (fun k => k ≠ owner && asks s r b k && !maskedReq s r b k)
  modBlk s r b (fun x =>
    let pr := up.foldl (fun (v : Vector (Fin 8) 4) k => vmod v (reqNo k) (fun p => if p.val < 7 then p + 1 else p)) x.prio
    { x with prio := if fresh then vset pr (reqNo owner) 0 else pr })

/-- A held grant that has reached its end: the owner asks no longer, or its burst limit is used outside a piece (R143). -/
def grantOver (s : State) (r : Region) (b : Blk) (k : Requester) (used : Nat) : Bool :=
  !asks s r b k ||
    (decide (burstOf (rg s r) k ≤ used) &&
      (match headBeat s r b k with
       | some q => k == .atomics || !(rg s r).inq.any (fun p => p.uid == q.uid && p.granted)
       | none => true))

/-- The requester that holds the grant in this cycle, with the beats it has used: a grant still held, or a new one. -/
def grantCycle (s : State) (r : Region) (b : Blk) : State × Option (Requester × Nat) :=
  let fresh := fun (s : State) =>
    let s := modRg s r (fun g => { g with arb := { g.arb with eff := { g.arb.regs with quota := g.arb.eff.quota, window := g.arb.eff.window } } })
    match decideGrant s r b with
    | none => (modBlk s r b (fun x => { x with grant := none }), none)
    | some k => (countB (modBlk (age s r b k true) r b (fun x => { x with grant := some (k, 0) })) r b 0x10 (reqNo k).val 1, some (k, 0))
  match (blk s r b).grant with
  | some (k, used) => if grantOver s r b k used then fresh s else (age s r b k false, some (k, used))
  | none => fresh s

/-- The block issues the head beat of the granted queue (R141-R143). A stalled beat stays, and its burst is begun (R28, R138). An
atomic's second cycle ages the others once more (R139, R142). -/
def issueHead (s : State) (r : Region) (b : Blk) (k : Requester) (used : Nat) (m : Meet) (chk : BeatChk) : State :=
  match headBeat s r b k with
  | none => s
  | some q =>
    if maskedReq s r b k then countB s r b 0x11 0 1
    else if stalls (blk s r b) q m then markBegun (stallBeat s r b q) q.src
    else
      let (s, x) := portB s r b q m chk
      let s := modBlk s r b (fun z => modQ { z with grant := some (k, used + 1) } k (List.erase · q))
      let s := if k = .atomics then age s r b k false else s
      beatDone (markStage (markBegun s q.src) q.src 4) r q.uid q.i true x

/-- Cycles at which a starvation counter of the region has reached its limit (R151, R154). -/
def starveLimit (g : RegionSt) : Nat := 64 * g.arb.eff.limit.toNat

/-- A starvation counter after one cycle (R151): it counts up to its limit, and returns to 0 in a cycle that serves its requester or
in which it has nothing to be served. -/
def starved (limit n : Nat) (waits : Bool) : Nat := if waits then min (n + 1) limit else 0

/-- The block of the oldest beat or group that source k of the crossbar presents. -/
def sourceBlock (s : State) (r : Region) (k : Fin 6) : Option Blk :=
  if h : k.val < 5 then
    ((rg s r).inq.find? (fun p => p.via == ⟨k.val, h⟩ && atCrossbar p && srcMoves s r p.piece.src)).map (·.piece.block)
  else (rg s r).ev.groups.head?.map (·.block)

/-- The starvation counters of the sources that present their oldest beat for block b (R151), in a cycle that serves source `turn`. -/
def starveSources (s : State) (r : Region) (b : Blk) (turn : Option (Fin 6)) : State :=
  if !(rg s r).arb.eff.mode then s
  else
    let count := fun (g : RegionSt) => vmap (fun k n => if sourceBlock s r k = some b then starved (starveLimit g) n (turn != some k) else n) g.arb.starve
    modRg s r (fun g => { g with arb := { g.arb with starve := count g } })

/-- The starvation counters of block b's requesters (R151): each that asks is counted, but the owner that issues in this cycle. -/
def starveBlock (s : State) (r : Region) (b : Blk) (served : Option Requester) : State :=
  if !(rg s r).arb.eff.mode then s
  else
    let count := fun (v : Vector Nat 4) k =>
      vmod v (reqNo k) (fun n => starved (starveLimit (rg s r)) n (asks s r b k && served != some k))
    modBlk s r b (fun x => { x with starve := requesters.foldl count x.starve })

/-- The requester that is served in this cycle: the owner of the grant, unless its beat is masked or stalled. -/
def servedNow (s : State) (r : Region) (b : Blk) (k : Requester) (m : Meet) : Option Requester :=
  match headBeat s r b k with
  | none => if k = .event then some k else none
  | some q => if maskedReq s r b k || stalls (blk s r b) q m then none else some k

/-- One cycle of block b: the half link and the crossbar deliver, the arbiter grants, one beat is issued (log entry 11). -/
def blockCycle (s : State) (r : Region) (b : Blk) (m : Meet) (chk : BeatChk) : State :=
  let s := halfCycle s r
  let s := starveSources s r b (xbarTurn s r b)
  let s := modBlk (deliver s r b) r b (fun x => { x with evIssued := false })
  let (s, g) := grantCycle s r b
  match g with
  | some (k, used) => issueHead (starveBlock s r b (servedNow s r b k m)) r b k used m chk
  | none => starveBlock s r b none

/-! ## Arrival at the far half (R384, R386) -/

/-- The piece that a READ, WRITE or ATOMIC packet carries, decoded at the far half (R114, R386). -/
def packetBeats (s : State) (p : Packet) : List NBeat :=
  let n := p.beats.toNat + 1
  (List.range n).map (fun i =>
    let a := (p.addr.toNat + 64 * i) % 2 ^ 27
    ⟨p.first + i, p.addr.extractLsb' 27 2 ++ BitVec.ofNat 27 a, place s a, p.data.getD i 0,
      if p.kind = 1 && !p.strb then BitVec.allOnes 64 else p.strbs.getD i 0⟩)

/-- The operation of a REQ packet (R384, R119). -/
def packetOp (p : Packet) : CellOp :=
  if p.kind = 0 then .read
  else if p.kind = 2 then .atom (atomOf p.op)
  else if p.addr.extractLsb' 27 2 = 1 then .setBits
  else if p.addr.extractLsb' 27 2 = 2 then .clrBits
  else .write

/-- A REQ packet enters its region (R386): it is one piece. -/
def packetPiece (s : State) (p : Packet) : State :=
  match p.ref, packetBeats s p with
  | some src, b :: bs => enterRegion s 4 9 ⟨src, p.first, packetOp p, p.hp, b.at_.region, b.at_.block, (b :: bs).map NBeat.beat⟩
  | _, _ => s

/-- The answers an RSP packet carries. -/
def packetRes (p : Packet) : List BeatRes :=
  let n := if p.kind = 5 then 1 else p.beats.toNat + 1
  (List.range n).map (fun i => ⟨p.bresp.extractLsb' (3 * i) 3, p.data.getD i 0⟩)

/-- An RSP packet reaches the unit that issued the piece. -/
def packetBack (s : State) (p : Packet) : State :=
  match p.ref with
  | some src => pieceBack s src (if p.kind = 3 then .read else if p.kind = 5 then .atom .swap64 else .write) p.first (packetRes p)
  | none => s

end Sys2Proof.Machine
end

