-- ==== Sys2Proof/Machine/Arbiter.lean ====
section
/-! DEFINITION. The commands of arbitration (R137-R161). -/

namespace Sys2Proof.Machine

/-- BLOCK_GRANT: one cycle of block b's stop and arbiter (R138-R144, log entry 11). A crossbar flit that fails parity is not used
(R451, R452). -/
def execBlockGrant (r : Region) (b : Blk) (m : Meet) (chk : BeatChk) (s : State) : Host.Outcome State Fault Refusal :=
  if !pathOpen s r then skip s
  else
    match chk with
    | .xbarParity out => finish (regionFault s r 0x0A (out.setWidth 32))
    | .good => finish (blockCycle s r b m chk)
    | .arrayParity => finish (blockCycle s r b m chk)
    | .factorParity _ => finish (blockCycle s r b m chk)

/-- A scheduled beat must wait, and slips: its row is held, another piece in progress covers it, or an earlier request of its port does
(R140, R147, R227). -/
def schedWaits (s : State) (r : Region) (b : Blk) (q : BReq) : Bool := beatWaits s r b q || rowHeld (blk s r b) q.beat.row

/-- Neither freeze nor the arbiter freeze bit keeps the block from issuing a scheduled beat (R28, R144). -/
def schedOpen (s : State) (r : Region) (b : Blk) (q : BReq) : Bool :=
  srcMoves s r q.src && (!bit32 (rg s r).arb.freeze b || inProgress (rg s r) q)

/-- A scheduled beat may be issued now. -/
def schedFree (s : State) (r : Region) (b : Blk) (q : BReq) : Bool := !schedWaits s r b q && schedOpen s r b q

/-- The first beat of the list that a scheduled source owns this slot for (R145). -/
def ownedBeat (g : RegionSt) (w : W64) (b : Blk) (l : List BReq) : Option BReq :=
  l.find? (fun q => slotOwns w b q.beat.cell && (match q.src with | .engine p _ => slotOwner w == p | _ => false) && g.power.st == .run)

/-- A scheduled beat that must wait slips, and the later beats of its piece behind it (R147). -/
def slip (s : State) (r : Region) (b : Blk) (q : BReq) : State :=
  modBlk s r b (fun x => { x with sched := x.sched.map (fun o => if o.uid = q.uid then { o with slipped := true } else o) })

/-- A scheduled beat is issued, and counted where it has slipped: the cell performs it, unless port A's access stalls it (R138, R139,
R147). -/
def issueSched (s : State) (r : Region) (b : Blk) (q : BReq) (m : Meet) (chk : BeatChk) : State :=
  if stalls (blk s r b) q m then markBegun (slip (stallBeat s r b q) r b q) q.src
  else
    let (s, x) := portB (if q.slipped then countB s r b 0x12 0 1 else s) r b q m chk
    let s := modBlk s r b (fun z => { z with sched := z.sched.filter (fun o => o.ord != q.ord) })
    beatDone (markStage (markBegun s q.src) q.src 4) r q.uid q.i true x

/-- The beats of the slot's owner that wait at the blocks the slot names (R145). -/
def slotBeats (g : RegionSt) (w : W64) : List (Blk × BReq) :=
  (idx 32).filterMap (fun b => (ownedBeat g w b (vget g.blocks b).sched).map (fun q => (b, q)))

/-- The oldest of these beats. -/
def oldestBeat : List (Blk × BReq) → Option (Blk × BReq)
  | [] => none
  | x :: xs => match oldestBeat xs with | none => some x | some y => if y.2.ord < x.2.ord then some y else some x

/-- The cells that the slot owns and for which its owner has no beat ready stay idle: they are starved at the front (R146, R480). -/
def idleCells (s : State) (r : Region) (w : W64) : State :=
  (idx 32).foldl (fun s b => (idx 8).foldl (fun s c =>
    if slotOwns w b c && !(blk s r b).sched.any (fun q => q.beat.cell == c && (match q.src with | .engine p _ => slotOwner w == p | _ => false))
    then countPB s r b c 0x0F else s) s) s

/-- An owned slot: its owner's oldest beat is issued, one beat in the slot; a beat that must wait slips (R145-R147). -/
def serveSlot (s : State) (r : Region) (w : W64) (m : Meet) (chk : BeatChk) : State :=
  let s := idleCells s r w
  match oldestBeat (slotBeats (rg s r) w) with
  | none => s
  | some (b, q) =>
    if schedFree s r b q then issueSched s r b q m chk
    else if schedWaits s r b q then slip s r b q
    else s

/-- The slot counter advances; the first slot after the region entered Run is slot 0 (R145). A pending timetable takes effect when the
counter wraps to 0, which ends the switch, and a held write of DESC starts the next one (R105, R107). -/
def advanceSlot (g : RegionSt) : RegionSt :=
  let k := if h : g.model.slot.val + 1 < 1024 then (⟨g.model.slot.val + 1, h⟩ : Fin 1024) else 0
  let m := g.model
  if m.fresh then { g with model := { m with fresh := false } }
  else if k = 0 ∧ m.ttPending then
    resort { g with model := { m with slot := 0, slotBad := false, ttPending := false, tt := (vget g.plan.descs (fin 64 m.active.toNat)).tt,
                                      switching := m.again, hold := m.again, target := m.sel, again := false } }
  else { g with model := { m with slot := k, slotBad := false } }

/-- TIMETABLE_SLOT: the slot counter advances, and in an owned slot the owner's beats are issued at the blocks it holds (R145-R148).
An entry that fails parity is a fault and its slot is open. -/
def execTimetableSlot (r : Region) (bad : Bool) (m : Meet) (chk : BeatChk) (s : State) : Host.Outcome State Fault Refusal :=
  if !clocked s (halfOf r) || !inRun s r then skip s
  else
    let s := modRg s r advanceSlot
    let k := (rg s r).model.slot.val
    if bad then finish (regionFault (modRg s r (fun g => { g with model := { g.model with slotBad := true } })) r 9 (((BitVec.ofNat 2 (rg s r).model.tt.val).setWidth 32 <<< 16) ||| BitVec.ofNat 32 k))
    else
      let w := slotEntry (rg s r) k
      if !w.getLsbD 47 || loadingR s r then finish s
      else
        match chk with
        | .xbarParity out => finish (regionFault s r 0x0A (out.setWidth 32))
        | .good => finish (serveSlot s r w m chk)
        | .arrayParity => finish (serveSlot s r w m chk)
        | .factorParity _ => finish (serveSlot s r w m chk)

/-- Port B of the cell is owned by another port in the current slot (R147). -/
def otherOwns (g : RegionSt) (b : Blk) (q : BReq) : Bool :=
  let w := slotNow g
  slotOwns w b q.beat.cell && (match q.src with | .engine p _ => slotOwner w != p | _ => true)

/-- SLOT_SLIP_ISSUE: the first slipped beat of block b that is free to go, with port B of its cell free of a piece in progress and not
owned by another port, is issued and counted (R147). -/
def execSlotSlipIssue (r : Region) (b : Blk) (m : Meet) (chk : BeatChk) (s : State) : Host.Outcome State Fault Refusal :=
  if !pathOpen s r then skip s
  else
    match (blk s r b).sched.find? (fun q => q.slipped && schedFree s r b q && cellFree s r b q && !otherOwns (rg s r) b q) with
    | none => skip s
    | some q =>
      match chk with
      | .xbarParity out => finish (regionFault s r 0x0A (out.setWidth 32))
      | .good => finish (issueSched s r b q m chk)
      | .arrayParity => finish (issueSched s r b q m chk)
      | .factorParity _ => finish (issueSched s r b q m chk)

/-- QUOTA_WINDOW_END: every count returns to 0, and RG_QUOTA takes effect (R150, R154, log entry 3). -/
def execQuotaWindowEnd (r : Region) (s : State) : Host.Outcome State Fault Refusal :=
  if !clocked s (halfOf r) || !inRun s r then skip s
  else
    finish (modRg s r (fun g => { g with arb := { g.arb with quotaUsed := Vector.replicate 32 0, eff := g.arb.regs } }))

/-- The starvation counter of a crossbar source, and its flag set with the counter restarted (R151, R159). -/
def starveSource (a : Arb) (k : Fin 6) : Arb :=
  let a := { a with starve := vset a.starve k 0 }
  if k.val < 4 then { a with starvePort := a.starvePort ||| BitVec.ofNat 4 (2 ^ k.val) }
  else if k = 4 then { a with starveHalf := true }
  else { a with starveEntry := true }

/-- The crossbar source that a starvation names; none for a requester of a block. -/
def starveIdx : StarveSrc → Option (Fin 6)
  | .port i => some ⟨i.val, by omega⟩
  | .halfLink => some 4
  | .eventEntry => some 5
  | .block _ => none

/-- The requesters of block b whose counters have reached the limit start again, and the block's flag is set (R151, R160). -/
def starveRequesters (g : RegionSt) (b : Blk) : RegionSt :=
  { g with arb := { g.arb with starveBlk := g.arb.starveBlk ||| mask32 b }
           blocks := vmod g.blocks b (fun x => { x with starve := vmap (fun _ n => if starveLimit g ≤ n then 0 else n) x.starve }) }

/-- The counter named has reached the limit (R151). -/
def atLimit (g : RegionSt) (src : StarveSrc) : Bool :=
  match src, starveIdx src with
  | _, some k => decide (starveLimit g ≤ vget g.arb.starve k)
  | .block b, none => (vget g.blocks b).starve.toList.any (fun n => decide (starveLimit g ≤ n))
  | _, none => false

/-- STARVATION_LIMIT: a starvation counter of the region has reached STARVE_LIMIT x 64 cycles: its flag is set and the counter
restarts (R151, R159, R160). Counters advance in RECOVERY only, at the cycles of BLOCK_GRANT. -/
def execStarvationLimit (r : Region) (src : StarveSrc) (s : State) : Host.Outcome State Fault Refusal :=
  if !clocked s (halfOf r) || !inRun s r || !(rg s r).arb.eff.mode || !atLimit (rg s r) src then skip s
  else
    match src with
    | .port i => finish (modRg s r (fun g => { g with arb := starveSource g.arb ⟨i.val, by omega⟩ }))
    | .halfLink => finish (modRg s r (fun g => { g with arb := starveSource g.arb 4 }))
    | .eventEntry => finish (modRg s r (fun g => { g with arb := starveSource g.arb 5 }))
    | .block b => finish (modRg s r (fun g => starveRequesters g b))

end Sys2Proof.Machine
end

