-- ==== Sys2Proof/WellFormed.lean ====
section
/-! DEFINITION. Which terms of Instr are the row their constructor names: where several rows share one payload, the bits of
the payload that tell them apart. -/

namespace Sys2Proof

/-- A[28:27] of a request: the alias of R119, or the scope of a signal (R123). -/
def ReqF.top (q : ReqF) : BitVec 2 := q.addr.extractLsb' 27 2

/-- The OP field of a Bandstand operation word (R287). -/
def bstOp (w : W64) : BitVec 4 := w.extractLsb' 32 4

/-- The checks a sweep step can fail (R222, R228, R208): only LDS reads a state row, only LDB a basin word, only TRC a decay
factor, and the constant users a constant. -/
def SweepChk.ok (array basin const factor : Bool) : SweepChk → Bool
  | .good => true
  | .instr => true
  | .array _ => array
  | .basin _ => basin
  | .const => const
  | .factor _ => factor

/-- The command is the row its constructor names. -/
def Instr.wf : Instr → Bool
  | .read _ q => q.mgrp == 0
  | .multicastRead _ q => q.mgrp != 0
  | .write _ q => q.top == 0 || q.top == 3
  | .writeBitSet _ q => q.top == 1
  | .writeBitClear _ q => q.top == 2
  | .streamDoorbell _ q _ => !q.addr.getLsbD 12
  | .mailboxDoorbell _ q _ => q.addr.getLsbD 12
  | .gatherTimeout _ g => g != 0
  | .railUndervolt _ rail => rail != .vddaon
  | .add _ _ w => bstOp w == 0
  | .sub _ _ w => bstOp w == 1
  | .wait _ _ w => bstOp w == 2
  | .set _ _ w => bstOp w == 3
  | .padd _ _ w => bstOp w == 4
  | .cadd _ _ w => bstOp w == 5
  | .pwaitFull _ _ w => bstOp w == 6
  | .pwaitSpace _ _ w => bstOp w == 7
  | .arrive _ _ w => bstOp w == 8
  | .sync _ _ w => bstOp w == 9
  | .bwait _ _ w => bstOp w == 10
  | .swait _ _ w => bstOp w == 11
  | .bstReservedOp _ _ w => decide (12 ≤ (bstOp w).toNat)
  | .syncArriveReceived w => w.extractLsb' 0 4 != 2
  | .syncReleaseReceived w => w.extractLsb' 0 4 == 2
  | .sweepGroupStart _ _ c => c.ok false false false false
  | .endProg _ _ c => c.ok false false false false
  | .range _ _ c => c.ok false false false false
  | .lds _ _ c => c.ok true false false false
  | .sts _ _ c => c.ok false false false false
  | .ldb _ _ c => c.ok false true false false
  | .stb _ _ c => c.ok false false false false
  | .ldi _ _ c => c.ok false false false false
  | .sweepAdd _ _ c => c.ok false false false false
  | .sweepSub _ _ c => c.ok false false false false
  | .addc _ _ c => c.ok false false true false
  | .mulc _ _ c => c.ok false false true false
  | .shri _ _ c => c.ok false false false false
  | .max _ _ c => c.ok false false false false
  | .min _ _ c => c.ok false false false false
  | .cmp _ _ c => c.ok false false true false
  | .sel _ _ c => c.ok false false false false
  | .rst _ _ c => c.ok false false true false
  | .emit _ _ c => c.ok false false true false
  | .trc _ _ c => c.ok false false false true
  | .invalidInstruction _ _ c => c.ok false false false false
  | .signingResponse ws _ => decide (0 < ws.length)
  | _ => true

end Sys2Proof
end

