-- ==== Sys2Proof/Machine/Sync.lean ====
section
/-! DEFINITION. The Bandstand's counts, watches and barriers (R287-R306, R309), the step markers of R389, and the admission
requests of Rill that follow its counts (R258, R259). -/

namespace Sys2Proof.Machine

/-! ## Values -/

/-- VALUE of a semaphore (R292). -/
def semVal (s : State) (n : BitVec 12) : BitVec 31 := tget 0 s.bst.sem n.toNat
/-- P and C of a pair: P in [31:0] (R322). -/
def pairVal (s : State) (n : Byte) : W64 := tget 0 s.bst.pairs n.toNat
/-- P of a pair word. -/
def pairP (w : W64) : W32 := w.extractLsb' 0 32
/-- C of a pair word. -/
def pairC (w : W64) : W32 := w.extractLsb' 32 32
/-- D of a pair word (R289). -/
def pairD (w : W64) : W32 := pairP w - pairC w
/-- A pair word of P and C. -/
def mkPair (p c : W32) : W64 := c ++ p
/-- Set VALUE of a semaphore. -/
def setSem (s : State) (n : BitVec 12) (v : BitVec 31) : State :=
  { s with bst := { s.bst with sem := tset 0 s.bst.sem n.toNat v } }

/-! ## Watches (R296-R301) -/

/-- The value a watch looks at: VALUE, D, GEN or SGEN. -/
def watchVal (s : State) (kind : BitVec 3) (target : BitVec 12) : W32 :=
  match kind.toNat with
  | 0 => (semVal s target).setWidth 32
  | 1 => pairD (pairVal s (target.setWidth 8))
  | 2 => pairD (pairVal s (target.setWidth 8))
  | 3 => (bar s (fin 64 target.toNat)).gen
  | _ => (bar s (fin 64 target.toNat)).sgen

/-- The condition of a watch (R296). -/
def watchMet (s : State) (kind : BitVec 3) (target : BitVec 12) (n : W32) : Bool :=
  let v := watchVal s kind target
  match kind.toNat with
  | 0 => decide (n.toNat ≤ v.toNat)
  | 1 => decide (n.toNat ≤ v.toNat)
  | 2 => decide (v.toNat ≤ n.toNat)
  | _ => !(v - n).getLsbD 31

/-- A control message (R300). -/
def msgWord (cookie : BitVec 16) (target : BitVec 12) (kind : BitVec 3) (value : BitVec 31) (tmo : Bool) : W64 :=
  b1 tmo ++ value ++ 1#1 ++ kind ++ target ++ cookie

/-- The lowest free watch number (log entry 19). -/
def freeWatch (b : Bandstand) : Option (BitVec 10) :=
  ((List.range 1024).find? (fun i => !b.watches.any (fun w => w.w.toNat == i))).map (BitVec.ofNat 10)

/-- A watch added in order of number. -/
def addWatch (l : List Watch) (w : Watch) : List Watch :=
  l.filter (fun x => decide (x.w.toNat < w.w.toNat)) ++ [w] ++ l.filter (fun x => decide (w.w.toNat < x.w.toNat))

/-- Register a watch, when one is free (R298, R299). -/
def regWatch (s : State) (o : WOwner) (kind : BitVec 3) (target : BitVec 12) (n : W32) (sync : Bool) : Option State :=
  match freeWatch s.bst with
  | none => none
  | some i => some { s with bst := { s.bst with watches := addWatch s.bst.watches ⟨i, o, kind, target, n, 0, s.bst.wtmo, none, sync⟩ } }

/-- A watch is freed. -/
def dropWatch (s : State) (i : BitVec 10) : State :=
  { s with bst := { s.bst with watches := s.bst.watches.filter (fun w => w.w != i) } }

/-- A control-side watch's message enters the queue and frees the watch, or waits for a place (R299). -/
def queueMsg (s : State) (w : Watch) (m : W64) : State :=
  if s.bst.msgs.length < 64 ∧ s.bst.pendOrder = [] then
    dropWatch { s with bst := { s.bst with msgs := s.bst.msgs ++ [m] } } w.w
  else
    { s with bst := { s.bst with
        watches := s.bst.watches.map (fun x => if x.w = w.w then { x with pending := some m } else x)
        pendOrder := s.bst.pendOrder ++ [w.w] } }

/-- The message of a pending watch enters the queue when a place is free (R299); under freeze none is delivered (R310). -/
def drainPending (s : State) : State :=
  match s.bst.pendOrder with
  | [] => s
  | i :: rest =>
    if s.bst.msgs.length < 64 ∧ frozen s 0 = false then
      match s.bst.watches.find? (fun w => w.w == i) with
      | some w => dropWatch { s with bst := { s.bst with msgs := s.bst.msgs ++ [w.pending.getD 0], pendOrder := rest } } i
      | none => { s with bst := { s.bst with pendOrder := rest } }
    else s

/-- Rill's dependence is met: for port 0 at once, for port 1 through CONTROL (R384). -/
def tellRill (s : State) (ctx : BitVec 12) : State :=
  if (tget 0 s.rill.slots (8 * ctx.toNat)).getLsbD 3 then sendCtl s 0 (.depMet ctx)
  else modStream s ctx (fun x => { x with depMet := true })

/-- A met watch is delivered to its holder (R298, R299). -/
def meetWatch (s : State) (w : Watch) : State :=
  match w.owner with
  | .engine p seq => answerSignal (dropWatch s w.w) p seq okay
  | .control cookie => queueMsg s w (msgWord cookie w.target w.kind ((watchVal s w.kind w.target).setWidth 31) false)
  | .rill ctx => tellRill (dropWatch s w.w) ctx

/-- Every watch on a target that is met is delivered, in order of number (R291, R299); under freeze none is (R310). -/
def testWatches (s : State) (kinds : List (BitVec 3)) (target : BitVec 12) : State :=
  if frozen s 0 then s
  else
  (s.bst.watches.filter (fun w => kinds.contains w.kind && w.target == target && w.pending.isNone)).foldl
    (fun s w => if watchMet s w.kind w.target w.n then meetWatch s w else s) s

/-! ## Refusal (R290) -/

/-- What an operation is answered. -/
inductive BstRes where
  | ok
  | refused
  | full
  | waits
  deriving DecidableEq, Repr

/-- BST_ERR_COUNT advances (R317). -/
def countErr (s : State) : State :=
  let n := s.bst.errCount + 1
  { s with bst := { s.bst with errCount := n, errWrap := s.bst.errWrap || n == 0 } }

/-- A refused operation sets its flag and is counted (R290). -/
def refuseOp (s : State) (op : BitVec 4) : State :=
  let barOp := decide (8 ≤ op.toNat) && decide (op.toNat < 12)
  let s := { s with bst := { s.bst with barErr := s.bst.barErr || barOp, semErr := s.bst.semErr || !barOp } }
  let s := countErr s
  if op.toNat < 12 then countM s 0x61 op.toNat 1 else s

/-- The word is one that R287 allows (R290). -/
def bstWordOk (w : W64) : Bool :=
  let op := (bstOp w).toNat
  let n := bstN w
  let pb := bstPb w
  decide (op < 12) && w.extractLsb' 44 20 == 0 &&
    (if op < 4 then !n.getLsbD 31 && pb == 0
     else if op < 8 then !n.getLsbD 31
     else decide (pb.toNat < 64) && (if op < 10 then n == 0 else true))

/-! ## Step markers (R176, R389) -/

/-- An event waits to be placed at the far half from before release uid. -/
def preFar (s : State) (h : Half) (uid : Nat) : Bool :=
  (idx 8).any (fun n => evHalf n == h && (vget s.ingress n).any (fun e => e.far != 0 && !e.post.contains uid))

/-- A STEP packet (R384, R389): the closing regions in WORD, the release as bookkeeping. -/
def stepPkt (m : Byte) (uid : Nat) : Packet :=
  { packet0 0xA with src := 36, word := m.setWidth 64, ref := none, first := uid }

/-- The oldest STEP packet of half h leaves, once every pre-boundary copy for the other half is placed (R389). -/
def flushStep (s : State) (h : Half) : State :=
  match vget s.fb.steps h with
  | (uid, m) :: rest =>
    if preFar s h uid then s
    else sendPkt { s with fb := { s.fb with steps := vset s.fb.steps h rest } } h (stepPkt m uid)
  | [] => s

/-- Every STEP packet of half h that may leave does, oldest first (R389). -/
def flushSteps (s : State) (h : Half) : State := Nat.iterate (fun s => flushStep s h) (vget s.fb.steps h).length s

/-- The routing stage of half h receives a release: its regions' closes start, and its STEP packet is due (R176, R389). -/
def startCloses (s : State) (h : Half) (m : Byte) (b : Fin 64) (uid : Nat) : State :=
  let s := (idx 8).foldl (fun s r =>
    if bit8 m r && halfOf r == h then
      wakeReq (modEv s r (fun e => { e with closes := e.closes ++ [⟨b, uid, .entry⟩] })) r
    else s) s
  flushSteps { s with fb := { s.fb with steps := vmod s.fb.steps h (· ++ [(uid, m)]) } } h

/-! ## Barriers (R302-R306, R309) -/

/-- Arrivals configured at region node r (R325). -/
def cntByte (b : Barrier) (r : Region) : Byte := b.cnt.extractLsb' (8 * r.val) 8
/-- Region node r is complete (R302). -/
def nodeR (b : Barrier) (r : Region) : Bool := decide ((cntByte b r).toNat ≤ (vget b.inReg r).toNat)
/-- The West or East node is complete (R302). -/
def nodeH (b : Barrier) (h : Half) : Bool :=
  (idx 8).all (fun r => halfOf r != h || nodeR b r) &&
    (if h = 0 then decide (b.rillW.toNat ≤ b.inW.toNat) else decide (b.rillE.toNat ≤ b.inE.toNat))
/-- The whole tree of this chip is complete (R302). -/
def nodeM (b : Barrier) : Bool := nodeH b 0 && nodeH b 1 && decide (b.ctrl.toNat ≤ b.inCtrl.toNat)

/-- A sync message (R308). -/
def syncWord (ty : BitVec 4) (src dst : BitVec 6) (b : Fin 64) (gen : W32) : W64 :=
  gen ++ 0#2 ++ BitVec.ofNat 6 b.val ++ 0#4 ++ dst ++ src ++ 0#4 ++ ty

/-- The 64 chip numbers in order. -/
def chipIds : List (BitVec 6) := (List.range 64).map (BitVec.ofNat 6)

/-- Sync messages are sent: the transmit queue takes 16 words, the rest waits for a place (R308, log entry 54). -/
def syncSend (s : State) (ws : List W64) : State :=
  let l := s.bst.txq ++ s.bst.txWait ++ ws
  { s with bst := { s.bst with txq := l.take 16, txWait := l.drop 16 } }

/-- Release of barrier b (R303, R304, R309): GEN advances, the counts return to 0, the watches met are delivered, the closes
start, and a manager tells the workers. -/
def releaseBar (s : State) (b : Fin 64) : State :=
  let x := bar s b
  let s := modBar s b (fun x =>
    { x with gen := x.gen + 1, inReg := Vector.replicate 8 0, inW := 0, inE := 0, inCtrl := 0, sent := false, selfIn := false, chips := [] })
  let s := testWatches s [3] (BitVec.ofNat 12 b.val)
  let s :=
    if x.step = 0 then s
    else
      let uid := s.bst.nextClose
      let s := modBar { s with bst := { s.bst with nextClose := uid + 1 } } b (fun x => { x with closing := x.closing ++ [(uid, x.step)] })
      let s := startCloses s 0 x.step b uid
      sendCtl s 0 (.stepRelease x.step b uid)
  if x.chip && s.bst.role = 1 then
    syncSend s ((chipIds.filter (fun c => x.chips.contains c)).map (fun c => syncWord 2 s.bst.chipId c b x.gen))
  else s

/-- The macro node of a barrier that spans chips is looked at: when it is complete, a manager counts it as an arrival and a worker sends
one ARRIVE (R302, R309). -/
def macroDone (s : State) (b : Fin 64) : State :=
  let x := bar s b
  if !nodeM x then s
  else if s.bst.role = 1 then modBar s b (fun x => { x with selfIn := true })
  else if s.bst.role = 2 && !x.sent then
    modBar (syncSend s [syncWord 1 s.bst.chipId s.bst.managerId b x.gen]) b (fun x => { x with sent := true })
  else s

/-- The arrivals that the chip node of a manager has counted (R302). -/
def chipCount (x : Barrier) : Nat := x.chips.length + (if x.selfIn then 1 else 0)

/-- A release of a barrier that spans chips; a tree without counts completes again at once (R303, R305). -/
def releaseChip (s : State) (b : Fin 64) : State := macroDone (releaseBar s b) b

/-- The chip node of a manager is looked at: at CHIPS arrivals it releases (R303, R309). -/
def lookChip (s : State) (b : Fin 64) : State :=
  if s.bst.role = 1 && decide (s.bst.chips.toNat ≤ chipCount (bar s b)) then releaseChip s b else s

/-- The tree of barrier b is looked at after an arrival (R303, R309): release, or the messages of a barrier that spans chips. One look
releases once (log entry 55). -/
def lookBar (s : State) (b : Fin 64) : State :=
  let x := bar s b
  if !x.armed then s
  else if !x.chip then (if nodeM x then releaseBar s b else s)
  else lookChip (macroDone s b) b

/-- Where an arrival is counted (R302). -/
inductive Arrival where
  | engine (p : EPort)
  | rill (k : RPort)
  | ctrl
  deriving DecidableEq, Repr

/-- The arrival is a barrier arrival error (R306). -/
def arriveErr (x : Barrier) : Arrival → Bool
  | .engine p => !x.armed || nodeR x (portRegion p)
  | .rill k => !x.armed || (if k = 0 then decide (x.rillW.toNat ≤ x.inW.toNat) else decide (x.rillE.toNat ≤ x.inE.toNat))
  | .ctrl => !x.armed || decide (x.ctrl.toNat ≤ x.inCtrl.toNat)

/-- The arrival is counted (R302). -/
def countArr (x : Barrier) : Arrival → Barrier
  | .engine p => { x with inReg := vmod x.inReg (portRegion p) (· + 1) }
  | .rill k => if k = 0 then { x with inW := x.inW + 1 } else { x with inE := x.inE + 1 }
  | .ctrl => { x with inCtrl := x.inCtrl + 1 }

/-! ## Operations (R289) -/

/-- Rill on port 1 is told a pair value it may use (R384), and which of its own completions that value has just counted. -/
def tellPair (s : State) (n : Byte) (posted : Option Bool) : State :=
  if posted.isSome || s.rill.streams.any (fun e =>
      let h := tget 0 s.rill.slots (8 * e.1)
      h.extractLsb' 0 2 == 1 && h.getLsbD 3 && h.getLsbD 8 && h.extractLsb' 16 8 == n &&
        (e.2.st == .queued || e.2.st == .running || e.2.st == .halted)) then
    sendCtl s 0 (.pairValue n (pairVal s n) posted)
  else s

/-- A pair takes new counts; its watches are tested (R291). -/
def setPair (s : State) (n : Byte) (w : W64) (posted : Option Bool) : State :=
  let s := { s with bst := { s.bst with pairs := tset 0 s.bst.pairs n.toNat w } }
  tellPair (testWatches s [1, 2] (n.setWidth 12)) n posted

/-- Add to P or C of a pair; none when the pair would become inconsistent (R289). -/
def pairAdd (s : State) (n : Byte) (producer : Bool) (k : W32) (posted : Option Bool) : Option State :=
  let w := pairVal s n
  let w' := if producer then mkPair (pairP w + k) (pairC w) else mkPair (pairP w) (pairC w + k)
  if (pairD w').getLsbD 31 then none else some (setPair s n w' posted)

/-- A semaphore takes VALUE v; its watches are tested (R291). -/
def putSem (s : State) (n : BitVec 12) (v : BitVec 31) : State := testWatches (setSem s n v) [0] n

/-- Wait for a condition: met at once, a watch, or no watch free (R298). -/
def waitOp (s : State) (o : Option WOwner) (kind : BitVec 3) (target : BitVec 12) (n : W32) : State × BstRes :=
  if watchMet s kind target n then (s, .ok)
  else
    match o with
    | none => (s, .full)
    | some o =>
      match regWatch s o kind target n false with
      | some s' => (s', .waits)
      | none => ({ s with bst := { s.bst with watchFull := true } }, .full)

/-- Perform an operation word for semaphore n (R288-R291, R298, R302). The arrival and the owner of a watch come from the
requester. -/
def bstPerform (s : State) (arr : Arrival) (o : Option WOwner) (n : BitVec 12) (w : W64) : State × BstRes :=
  let op := bstOp w
  let v := bstN w
  let pb := bstPb w
  let b : Fin 64 := fin 64 pb.toNat
  let t : BitVec 12 := pb.setWidth 12
  let bad := (refuseOp s op, BstRes.refused)
  if !bstWordOk w then bad
  else
    match op.toNat with
    | 0 => if 2 ^ 31 ≤ (semVal s n).toNat + v.toNat then bad else (putSem s n (semVal s n + v.setWidth 31), .ok)
    | 1 => if (semVal s n).toNat < v.toNat then bad else (putSem s n (semVal s n - v.setWidth 31), .ok)
    | 2 => waitOp s o 0 n v
    | 3 => (putSem s n (v.setWidth 31), .ok)
    | 4 => match pairAdd s pb true v none with | some s' => (s', .ok) | none => bad
    | 5 => match pairAdd s pb false v none with | some s' => (s', .ok) | none => bad
    | 6 => waitOp s o 1 t v
    | 7 => waitOp s o 2 t v
    | 8 => if arriveErr (bar s b) arr then bad else (lookBar (modBar s b (fun x => countArr x arr)) b, .ok)
    | 9 =>
      if arriveErr (bar s b) arr then bad
      else
        let g := (bar s b).gen
        let s' := lookBar (modBar s b (fun x => countArr x arr)) b
        if (bar s' b).gen != g then (s', .ok)
        else
          match o with
          | none => bad
          | some o =>
            match regWatch s' o 3 t (g + 1) true with
            | some s'' => (s'', .waits)
            | none => ({ s with bst := { s.bst with watchFull := true } }, .full)
    | 10 => waitOp s o 3 t v
    | _ => waitOp s o 4 t v

/-- Perform an operation word and count it (R479). -/
def bstDo (s : State) (arr : Arrival) (o : Option WOwner) (n : BitVec 12) (w : W64) : State × BstRes :=
  let (s', x) := bstPerform s arr o n w
  if x = .ok ∨ x = .waits then (countM s' 0x60 (bstOp w).toNat 1, x) else (s', x)

/-- A stream's end arrives at a barrier: an arrival error is discarded and counted (R302, R306). -/
def rillArrive (s : State) (b : BitVec 12) (k : RPort) : State :=
  let i : Fin 64 := fin 64 b.toNat
  if 64 ≤ b.toNat || arriveErr (bar s i) (.rill k) then countErr { s with bst := { s.bst with barErr := true } }
  else lookBar (modBar s i (fun x => countArr x (.rill k))) i

/-- A region ended step 4 of the close of release uid of barrier b (R304). -/
def sweepReport (s : State) (b : Fin 64) (uid : Nat) (r : Region) : State :=
  let s := modBar s b (fun x => { x with closing := x.closing.map (fun e => if e.1 = uid then (e.1, e.2 &&& ~~~mask8 r) else e) })
  if (bar s b).closing.any (fun e => e.1 == uid && e.2 == 0) then
    testWatches (modBar s b (fun x => { x with sgen := x.sgen + 1, closing := x.closing.filter (fun e => e.1 != uid) })) [4]
      (BitVec.ofNat 12 b.val)
  else s

/-! ## Stream heads and admission requests (R250, R252, R258, R259) -/

/-- Word j of context slot n (R249). -/
def slotWord (s : State) (n : BitVec 12) (j : Nat) : W64 := tget 0 s.rill.slots (8 * n.toNat + j)
/-- KIND of a slot. -/
def slotKind (s : State) (n : BitVec 12) : BitVec 2 := (slotWord s n 0).extractLsb' 0 2
/-- The bits of a stream head's word that hold fields (R250). -/
def headBits : Nat → W64
  | 0 => 0x00000FFF00FF07FF
  | 1 => 0x000000FF00FFFFFF
  | 2 => 0x00000FFF00000FFF
  | 3 => 0x0000FF0F00000003
  | 4 => 0x0000000003FF0FFF
  | 5 => 0xFFFFFFFFFFFFFFC0
  | 6 => 0x00000000FFFFFFFF
  | _ => 0
/-- The bits of a descriptor's word that hold fields (R252). -/
def descBits : Nat → W64
  | 0 => 0x00000FFF003FFFDF
  | 1 => 0xFFFFFFFFFFFFFFC0
  | 2 => 0x00000000FFFFFFFF
  | 3 => 0x0000FFFF07FFFFC0
  | 4 => 0x7FFFFFFF00000FFF
  | _ => 0
/-- Every reserved bit of slot n, of these fields, is 0 (R250, R252). -/
def reservedZero (s : State) (n : BitVec 12) (bits : Nat → W64) : Bool :=
  (List.range 8).all (fun j => slotWord s n j &&& ~~~bits j == 0)
/-- The Rill port of a stream head (R250). -/
def streamPort (s : State) (ctx : BitVec 12) : RPort := if (slotWord s ctx 0).getLsbD 3 then 1 else 0
/-- The stream drains (R250). -/
def streamDrain (s : State) (ctx : BitVec 12) : Bool := (slotWord s ctx 0).getLsbD 2
/-- Descriptors of a stream admitted and not complete. -/
def admitted (s : State) (ctx : BitVec 12) : Nat := ((rp s (streamPort s ctx)).tiles.filter (fun t => t.ctx == ctx)).length
/-- A pair as port 1 knows it: what CONTROL told it last, and its own completions since (R265, R384; log entry 59). -/
def pairEast (s : State) (n : Byte) : W64 :=
  let w : W64 := tget 0 s.rill.pairSeen n.toNat
  mkPair (pairP w + BitVec.ofNat 32 (s.rill.pairPosted.count (n, true))) (pairC w + BitVec.ofNat 32 (s.rill.pairPosted.count (n, false)))

/-- The pair value that a stream's port sees (R259, R263). -/
def pairFor (s : State) (ctx : BitVec 12) : W64 :=
  let n : Byte := (slotWord s ctx 0).extractLsb' 16 8
  if streamPort s ctx = 0 then pairVal s n else pairEast s n

/-- The slot holds a descriptor with the dependence mark (R252). -/
def isDep (s : State) (slot : BitVec 12) : Bool := (slotWord s slot 0).getLsbD 3 && slotKind s slot == 2

/-- The conditions of R259, apart from the semaphore of a DEP descriptor. -/
def mayRequest (s : State) (ctx slot : BitVec 12) : Bool :=
  let h := slotWord s ctx 0
  let a := admitted s ctx
  let ahead := (h.extractLsb' 4 4).toNat
  let ring := ((slotWord s ctx 1).extractLsb' 32 8).toNat
  let d := (pairD (pairFor s ctx)).toNat
  decide (a < (if ahead = 0 then 255 else ahead)) && (!isDep s slot || a == 0) &&
    (if h.getLsbD 8 then (if h.getLsbD 2 then decide (1 + a ≤ d) else decide (d + a < ring)) else true)

/-- DEP_SEM and DEP_COUNT of a DEP descriptor that waits for a semaphore (R252). -/
def depWait (s : State) (slot : BitVec 12) : Option (BitVec 12 × W32) :=
  let d := slotWord s slot 4
  if isDep s slot && d.extractLsb' 32 31 != 0 then some (d.extractLsb' 0 12, (d.extractLsb' 32 31).setWidth 32)
  else none

/-- One stream's next admission request, when R259 allows it; a dependence not met registers a watch (R259, R298). -/
def pollStream (s : State) (ctx : BitVec 12) : State :=
  let x := stream s ctx
  let k := streamPort s ctx
  match x.next with
  | none => s
  | some slot =>
    if x.asked || x.waitSlot || x.aborting || !(x.st == .queued || x.st == .running) || closed s k then s
    else if !mayRequest s ctx slot then s
    else
      let ask := fun (met : Bool) (s : State) =>
        modStream (modRp s k (fun p => { p with queue := p.queue ++ [ctx] })) ctx (fun x => { x with asked := true, depMet := met, depAsked := false })
      match depWait s slot with
      | none => ask false s
      | some (sem, n) =>
        if x.depMet then ask true s
        else if k = 1 then
          if x.depAsked then s else modStream (sendCtl s 1 (.depWatch ctx sem n)) ctx (fun x => { x with depAsked := true })
        else if watchMet s 0 sem n then ask true s
        else if x.depAsked then s
        else
          match regWatch s (.rill ctx) 0 sem n false with
          | some s' => modStream s' ctx (fun x => { x with depAsked := true })
          | none => { s with bst := { s.bst with watchFull := true } }

/-- The dependence of the descriptor in a stream's next slot holds when the slot is read for admission (R259). -/
def depHolds (s : State) (ctx slot : BitVec 12) : Bool :=
  (!isDep s slot || admitted s ctx == 0) && ((depWait s slot).isNone || (stream s ctx).depMet)

/-- Every stream's admission request that R259 allows, in order of context number (log entry 20). -/
def rillPoll (s : State) : State := (s.rill.streams.map (fun e => e.1)).foldl (fun s c => pollStream s (BitVec.ofNat 12 c)) s

/-- The end of a meaning that may have changed a count that Rill or a control-side watch waits for. -/
def finishSync (s : State) : Host.Outcome State Fault Refusal := finish (rillPoll (drainPending s))

end Sys2Proof.Machine
end

