-- ==== Sys2Proof/Machine/Bells.lean ====
section
/-! DEFINITION. Doorbells and mailbox sends (R255-R257, R268, R327-R336), and the release of held signals (R294, R295). -/

namespace Sys2Proof.Machine

/-! ## Stream doorbells (R255, R256, R268) -/

/-- The head is a stream head whose reserved bits are 0 and whose RING fits PAIR_EN (R250, R256). -/
def headOk (s : State) (ctx : BitVec 12) : Bool :=
  slotKind s ctx == 1 && reservedZero s ctx headBits &&
    (!(slotWord s ctx 0).getLsbD 8 || (slotWord s ctx 1).extractLsb' 32 8 != 0)

/-- FIRST of a stream head (R250). -/
def headFirst (s : State) (ctx : BitVec 12) : BitVec 12 := (slotWord s ctx 0).extractLsb' 32 12

/-- The first beat of a tile that is not complete. -/
def firstOpen (t : Tile) : Option Nat := t.beats.findIdx? (fun b => b != .done)

/-- The tiles of a resumed stream: every beat from POS_SLOT and POS_BEAT onwards is issued again (R268). -/
def resumeTiles (ctx : BitVec 12) : Bool → List Tile → List Tile
  | _, [] => []
  | seen, t :: ts =>
    if t.ctx ≠ ctx then t :: resumeTiles ctx seen ts
    else if seen then { t with beats := t.beats.map (fun _ => .idle) } :: resumeTiles ctx true ts
    else
      match firstOpen t with
      | none => t :: resumeTiles ctx false ts
      | some k => { t with beats := t.beats.mapIdx (fun i o => if k ≤ i then .idle else o) } :: resumeTiles ctx true ts

/-- The transfers that a resumed stream still has outstanding: their beats are issued again, whatever they bring (R268). -/
def oldOuts (p : RillPort) (ctx : BitVec 12) : List ROut :=
  p.outs.map (fun o => if p.tiles.any (fun t => t.ctx == ctx && (o.who.map Prod.fst) == some t.uid) then { o with kind := .old } else o)

/-- What a doorbell does to the stream head it names (R255). -/
def bellAct (s : State) (ctx : BitVec 12) : State :=
  let x := stream s ctx
  match x.st with
  | .queued => s
  | .running => modStream s ctx (fun x => { x with waitSlot := false })
  | .halted =>
    let s := modRp s (streamPort s ctx) (fun p => { p with tiles := resumeTiles ctx false p.tiles, outs := oldOuts p ctx })
    modStream s ctx (fun x => { x with st := .running, xkey := none })
  | _ =>
    let first := headFirst s ctx
    modStream s ctx (fun x =>
      { stream0 with st := .queued, xaddr := x.xaddr, posSlot := first, next := some first })

/-- A stream doorbell: none where it is refused (R256). A stream of Rill port 1 gets it through CONTROL (R384). -/
def ringStream (s : State) (ctx : BitVec 12) : Option State :=
  if !headOk s ctx || closed s 0 then none
  else if streamPort s ctx = 0 then some (bellAct s ctx)
  else
    let n : Byte := (slotWord s ctx 0).extractLsb' 16 8
    let s := if (slotWord s ctx 0).getLsbD 8 then sendCtl s 0 (.pairValue n (pairVal s n) none) else s
    some (sendCtl s 0 (.bell ctx false))

/-! ## Mailboxes (R327-R335) -/

/-- What a send is answered: done, rejected, or held until its deposit is announced. -/
inductive SendRes where
  | ok
  | rejected
  | waits
  deriving DecidableEq, Repr

/-- A send is rejected (R330). -/
def rejectSend (s : State) : State :=
  let n := s.lod.rejects + 1
  { s with lod := { s.lod with rejected := true, rejects := n, rejectWrap := s.lod.rejectWrap || n == 0 } }

/-- D of the pair of a deposit mailbox. -/
def boxD (s : State) (x : Mailbox) : W32 := pairD (pairVal s x.pair)

/-- The mailbox is full (R327, R334), or its deposits are suspended (R335). -/
def boxFull (s : State) (x : Mailbox) : Bool :=
  if x.recv = 2 then
    x.ring == 0 || (x.suspended && (boxD s x).getLsbD 31) || decide (x.ring.toNat ≤ (boxD s x).toNat + x.deps.length)
  else x.word.isSome

/-- MB_FULL's bit (R342, R327). -/
def boxFullBit (s : State) (x : Mailbox) : Bool :=
  if x.recv = 2 then decide (x.ring.toNat ≤ (boxD s x).toNat + x.deps.length) else x.word.isSome

/-- Bytes 8-9 of a deposit beat (R334). -/
def senderCode : Sender → BitVec 16
  | .engine p _ => BitVec.ofNat 16 p.val
  | .port .cp => 0x00FE
  | .port .mp => 0x00FF
  | .port .gh => 0x00FF
  | .gatehouse => 0x00FF

/-- Send a word to mailbox n (R330, R333, R334). -/
def sendBox (s : State) (n : Fin 64) (word : W64) (from_ : Sender) : State × SendRes :=
  let x := box s n
  if boxFull s x then (rejectSend s, .rejected)
  else if x.recv = 2 then
    let e := ((pairP (pairVal s x.pair)).toNat + x.deps.length) % x.ring.toNat
    let uid := s.lod.nextUid
    let s := modBox { s with lod := { s.lod with nextUid := uid + 1 } } n
      (fun x => { x with deps := x.deps ++ [⟨uid, from_, false⟩], suspended := false })
    let s := routeOne s (.lodge n uid) (64 * (x.depAddr.toNat + e)) ((0#432 ++ senderCode from_ ++ word)) (BitVec.allOnes 64)
    (wakeAll s x.wake, .waits)
  else
    let s := modBox s n (fun x => { x with word := some (word, from_ == .port .gh) })
    let s := if x.recv = 1 then { s with gh := { s.gh with extIrq := true } } else s
    (wakeAll s x.wake, .ok)

/-! ## Held signals (R294, R295) -/

/-- The index of a signal's scope (R123): region 0, half 1, whole block 2. -/
def scopeIdx (sc : BitVec 2) : Fin 3 := if sc = 2 then 0 else if sc = 1 then 1 else 2

/-- A count has reached a stamp, compared modulo 2^32 (R294). -/
def reached (count stamp : W32) : Bool := !(count - stamp).getLsbD 31

/-- The oldest signal held for port p whose hold ends (R294). -/
def readySignal (s : State) (p : EPort) : Option Held :=
  match (ep s p).held with
  | h :: _ => if reached (vget (ep s p).seen (scopeIdx h.scope)) h.stamp then some h else none
  | [] => none

/-- BST_SCOPE_WARN advances when an earlier write outside the scope has not taken effect (R136, R295). -/
def scopeCheck (s : State) (p : EPort) (h : Held) : State :=
  if scopeIdx h.scope = 2 || reached (vget (ep s p).seen 2) h.stampAll then s
  else
    let n := s.bst.scopeWarn + 1
    { s with bst := { s.bst with scopeWarn := n, warnWrap := s.bst.warnWrap || n == 0 } }

/-- Waiting engine operations are answered FROZEN, and their watches freed (R310). -/
def freezeWatches (s : State) : State :=
  s.bst.watches.foldl (fun s w =>
    match w.owner with
    | .engine p seq => answerSignal (dropWatch s w.w) p seq frozenC
    | .control _ => s
    | .rill _ => s) s

/-- The signal takes effect: at the Bandstand, at Rill, or at a mailbox (R123, R331, R336). An operation that would wait under stop is
answered FROZEN at once (R310). -/
def signalEffect (s : State) (p : EPort) (h : Held) : State :=
  if !h.bell then
    let (s, x) := bstDo s (.engine p) (some (.engine p h.seq)) (h.addr.extractLsb' 0 12) h.word
    match x with
    | .ok => answerSignal s p h.seq okay
    | .refused => answerSignal s p h.seq refusedC
    | .full => answerSignal s p h.seq refusedC
    | .waits => if s.frz.stopping then freezeWatches s else s
  else if !h.addr.getLsbD 12 then
    match ringStream s (h.addr.extractLsb' 0 12) with
    | some s => answerSignal s p h.seq okay
    | none => answerSignal s p h.seq refusedC
  else
    let (s, x) := sendBox s (fin 64 (h.addr.extractLsb' 0 6).toNat) h.word (.engine p h.seq)
    match x with
    | .ok => answerSignal s p h.seq okay
    | .rejected => answerSignal s p h.seq refusedC
    | .waits => s

/-- The hold of port p's oldest signal ends and it takes effect (R294, R295). -/
def releaseSignal (s : State) (p : EPort) : State :=
  match readySignal s p with
  | none => s
  | some h => signalEffect (scopeCheck (modEp s p (fun x => { x with held := x.held.drop 1 })) p h) p h

end Sys2Proof.Machine
end

