-- ==== Sys2Proof/Machine/Bandstand.lean ====
section
/-! DEFINITION. The Bandstand's commands (R287-R326). -/

namespace Sys2Proof.Machine

/-- OP codes that wait for a condition (R288). -/
def blocking (w : W64) : Bool := [2, 6, 7, 9, 10, 11].contains (bstOp w).toNat

/-- An operation word presented at BST_SEM n through a register port, or carried by the oldest SEM held for an engine port whose
hold ends (R288, R294, R310). -/
def presentOp (src : BstSrc) (n : BitVec 12) (w : W64) (s : State) : Host.Outcome State Fault Refusal :=
  match src with
  | .reg port =>
    if !portReady s port then skip s
    else
      let s := wideWrite s port w
      if frozen s 0 then finish (busErr s port)
      else if blocking w && bstWordOk w then finish (busErr s port)
      else
        let (s', x) := bstDo s .ctrl none n w
        if x = .ok then finishSync (ack s' port) else finishSync (busErr s' port)
  | .engine p =>
    if !live s || frozen s 0 then skip s
    else
      match readySignal s p with
      | some h => if !h.bell ∧ h.word = w ∧ h.addr.extractLsb' 0 12 = n then finishSync (releaseSignal s p) else skip s
      | none => skip s

/-- ADD (R289). -/
def execAdd (src : BstSrc) (n : BitVec 12) (w : W64) (s : State) : Host.Outcome State Fault Refusal :=
  if bstOp w = 0 then presentOp src n w s else skip s
/-- SUB (R289). -/
def execSub (src : BstSrc) (n : BitVec 12) (w : W64) (s : State) : Host.Outcome State Fault Refusal :=
  if bstOp w = 1 then presentOp src n w s else skip s
/-- WAIT (R289, R298). -/
def execWait (src : BstSrc) (n : BitVec 12) (w : W64) (s : State) : Host.Outcome State Fault Refusal :=
  if bstOp w = 2 then presentOp src n w s else skip s
/-- SET (R289). -/
def execSet (src : BstSrc) (n : BitVec 12) (w : W64) (s : State) : Host.Outcome State Fault Refusal :=
  if bstOp w = 3 then presentOp src n w s else skip s
/-- PADD (R289). -/
def execPadd (src : BstSrc) (n : BitVec 12) (w : W64) (s : State) : Host.Outcome State Fault Refusal :=
  if bstOp w = 4 then presentOp src n w s else skip s
/-- CADD (R289). -/
def execCadd (src : BstSrc) (n : BitVec 12) (w : W64) (s : State) : Host.Outcome State Fault Refusal :=
  if bstOp w = 5 then presentOp src n w s else skip s
/-- PWAIT_FULL (R289, R298). -/
def execPwaitFull (src : BstSrc) (n : BitVec 12) (w : W64) (s : State) : Host.Outcome State Fault Refusal :=
  if bstOp w = 6 then presentOp src n w s else skip s
/-- PWAIT_SPACE (R289, R298). -/
def execPwaitSpace (src : BstSrc) (n : BitVec 12) (w : W64) (s : State) : Host.Outcome State Fault Refusal :=
  if bstOp w = 7 then presentOp src n w s else skip s
/-- ARRIVE (R289, R302). -/
def execArrive (src : BstSrc) (n : BitVec 12) (w : W64) (s : State) : Host.Outcome State Fault Refusal :=
  if bstOp w = 8 then presentOp src n w s else skip s
/-- SYNC (R289, R298). -/
def execSync (src : BstSrc) (n : BitVec 12) (w : W64) (s : State) : Host.Outcome State Fault Refusal :=
  if bstOp w = 9 then presentOp src n w s else skip s
/-- BWAIT (R289, R298). -/
def execBwait (src : BstSrc) (n : BitVec 12) (w : W64) (s : State) : Host.Outcome State Fault Refusal :=
  if bstOp w = 10 then presentOp src n w s else skip s
/-- SWAIT (R289, R298). -/
def execSwait (src : BstSrc) (n : BitVec 12) (w : W64) (s : State) : Host.Outcome State Fault Refusal :=
  if bstOp w = 11 then presentOp src n w s else skip s
/-- BST_RESERVED_OP: an operation word with OP 12-15 is refused and counted (R290). -/
def execBstReservedOp (src : BstSrc) (n : BitVec 12) (w : W64) (s : State) : Host.Outcome State Fault Refusal :=
  if 12 ≤ (bstOp w).toNat then presentOp src n w s else skip s

/-- SIGNAL_HOLD_RELEASE: port p's oldest held signal takes effect (R294, R295). -/
def execSignalHoldRelease (p : EPort) (s : State) : Host.Outcome State Fault Refusal :=
  if !live s || frozen s 0 then skip s
  else
    match readySignal s p with
    | some _ => finishSync (releaseSignal s p)
    | none => skip s

/-- WATCH_TIMEOUT: the count of watch w has reached the timeout in force at its registration (R301, R310). -/
def execWatchTimeout (w : BitVec 10) (s : State) : Host.Outcome State Fault Refusal :=
  if !live s || frozen s 0 then skip s
  else
    match s.bst.watches.find? (fun x => x.w == w && x.pending.isNone) with
    | none => skip s
    | some x =>
      if x.timeout = 0 ∨ x.ticks < x.timeout.toNat then skip s
      else
        let s := { s with bst := { s.bst with timeout := true } }
        match x.owner with
        | .engine p seq => finishSync (answerSignal (dropWatch s w) p seq refusedC)
        | .control cookie => finishSync (queueMsg s x (msgWord cookie x.target x.kind 0 true))
        | .rill _ => finishSync { s with bst := { s.bst with
            watches := s.bst.watches.map (fun y => if y.w = w then { y with ticks := 0 } else y) } }

/-- The fields of BST_WREG are ones that R299 allows. -/
def wregOk (d : W64) : Bool :=
  let target := (d.extractLsb' 0 12).toNat
  let kind := (d.extractLsb' 12 3).toNat
  let n : W32 := d.extractLsb' 16 32
  !d.getLsbD 15 && decide (kind < 5) && (if kind = 0 then true else if kind < 3 then decide (target < 256) else decide (target < 64)) &&
    (if kind < 3 then !n.getLsbD 31 else true)

/-- WATCH_REGISTER: a write of BST_WREG (R299, R310, R319). -/
def execWatchRegister (port : RegPort) (data : W64) (s : State) : Host.Outcome State Fault Refusal :=
  if !portReady s port then skip s
  else if frozen s 0 || !wregOk data then finish (busErr (wideWrite s port data) port)
  else
    let s := wideWrite s port data
    let kind : BitVec 3 := data.extractLsb' 12 3
    let target : BitVec 12 := data.extractLsb' 0 12
    let n : W32 := data.extractLsb' 16 32
    match regWatch s (.control (data.extractLsb' 48 16)) kind target n false with
    | none => finish (busErr { s with bst := { s.bst with watchFull := true } } port)
    | some s' =>
      let s' := match freeWatch s.bst with
        | some i =>
          if watchMet s kind target n then
            match s'.bst.watches.find? (fun x => x.w == i) with
            | some x => meetWatch s' x
            | none => s'
          else s'
        | none => s'
      finishSync (ack s' port)

/-- WATCH_CANCEL: a write of BST_WCANCEL (R299, R310, R318). -/
def execWatchCancel (port : RegPort) (cookie : BitVec 16) (s : State) : Host.Outcome State Fault Refusal :=
  if !portReady s port then skip s
  else if frozen s 0 then finish (busErr s port)
  else
    finishSync (ack { s with bst := { s.bst with
      watches := s.bst.watches.filter (fun x => !(x.owner == .control cookie && x.pending.isNone)) } } port)

/-- CONTROL_MESSAGE_TAKE: a read of BST_MSG (R300, R320). -/
def execControlMessageTake (port : RegPort) (s : State) : Host.Outcome State Fault Refusal :=
  if !portReady s port then skip s
  else
    let s := wideRead s port
    match s.bst.msgs with
    | [] => finish (reply s port 0)
    | m :: ms => finishSync (reply { s with bst := { s.bst with msgs := ms } } port m)

/-- Every count of a configuration is 0 (R305). -/
def countsZero (x : Barrier) : Bool := x.rillW == 0 && x.rillE == 0 && x.ctrl == 0 && x.cnt == 0

/-- Disarm: the arrivals of the current generation are discarded and every SYNC held on them is answered REFUSED (R305). -/
def disarm (s : State) (b : Fin 64) : State :=
  let syncs := s.bst.watches.filter (fun w => w.sync && w.target.toNat == b.val)
  let s := syncs.foldl (fun s w =>
    match w.owner with
    | .engine p seq => answerSignal (dropWatch s w.w) p seq refusedC
    | _ => dropWatch s w.w) s
  modBar s b (fun x => { x with inReg := Vector.replicate 8 0, inW := 0, inE := 0, inCtrl := 0, sent := false, selfIn := false, chips := [] })

/-- The fields of BST_BAR_CFG in a barrier (R323). -/
def withCfg (x : Barrier) (d : W32) : Barrier :=
  { x with armed := d.getLsbD 0, chip := d.getLsbD 1, step := d.extractLsb' 8 8, rillW := d.extractLsb' 16 4,
           rillE := d.extractLsb' 20 4, ctrl := d.extractLsb' 24 8 }

/-- A write of BST_BAR_CFG or BST_BAR_CNT (R305, R323, R325): none where it is refused. -/
def writeBar (s : State) (b : Fin 64) (reg : BarReg) (d : W64) : Option State :=
  let x := bar s b
  let y := match reg with | .cfg => withCfg x (lo32 d) | .cnt => { x with cnt := d }
  if y.armed && (x.armed || (countsZero y && !y.chip) || (y.chip && s.bst.role == 0)) then none
  else
    let s := if x.armed && !y.armed then disarm s b else s
    let s := modBar s b (fun z => match reg with | .cfg => withCfg z (lo32 d) | .cnt => { z with cnt := d })
    some (if y.armed then lookBar s b else s)

/-- BARRIER_CONFIG_WRITE (R305, R310). -/
def execBarrierConfigWrite (port : RegPort) (b : Fin 64) (reg : BarReg) (data : W64) (s : State) : Host.Outcome State Fault Refusal :=
  if !portReady s port then skip s
  else
    let s := match reg with | .cfg => s | .cnt => wideWrite s port data
    match writeBar s b reg data with
    | none => finish (busErr s port)
    | some s' => finishSync (ack s' port)

/-- PAIR_WRITE: a write of BST_PAIR sets both counters in one operation (R322, R310). -/
def execPairWrite (port : RegPort) (n : BitVec 8) (data : W64) (s : State) : Host.Outcome State Fault Refusal :=
  if !portReady s port then skip s
  else
    let s := wideWrite s port data
    if frozen s 0 then finish (busErr s port) else finishSync (ack (setPair s n data none) port)

/-- BST_ROLE after a write; reserved encodings keep the old field (R15, R315). -/
def withRole (b : Bandstand) (d : W32) : Bandstand :=
  let chips : BitVec 7 := d.extractLsb' 24 7
  { b with
    role := if d.extractLsb' 0 2 = 3 then b.role else d.extractLsb' 0 2
    chipId := d.extractLsb' 8 6, managerId := d.extractLsb' 16 6
    chips := if chips = 0 ∨ 64 < chips.toNat then b.chips else chips }

/-- A barrier that spans chips is armed (R315). -/
def chipArmed (s : State) : Bool := s.bst.bars.toList.any (fun x => x.armed && x.chip)

/-- ROLE_WRITE (R315). -/
def execRoleWrite (port : RegPort) (data : W32) (s : State) : Host.Outcome State Fault Refusal :=
  if !portReady s port then skip s
  else if chipArmed s then finish (busErr s port)
  else finish (ack { s with bst := withRole s.bst data } port)

/-- A received message is discarded (R309). -/
def syncError (s : State) : State := countErr { s with bst := { s.bst with syncErr := true } }

/-- The checks of R309 that both roles make: reserved bits, addressee, barrier armed with CHIP 1, and GEN. -/
def syncOk (s : State) (w : W64) : Bool :=
  let b : Fin 64 := fin 64 (w.extractLsb' 24 6).toNat
  w.extractLsb' 4 4 == 0 && w.extractLsb' 20 4 == 0 && w.extractLsb' 30 2 == 0 && w.extractLsb' 14 6 == s.bst.chipId &&
    (bar s b).armed && (bar s b).chip && w.extractLsb' 32 32 == (bar s b).gen

/-- A message is taken from the receive queue: the manager counts an ARRIVE, a worker releases on a RELEASE of its own GEN, and
every other message is discarded (R307, R309). -/
def takeSync (s : State) (w : W64) : State :=
  let b : Fin 64 := fin 64 (w.extractLsb' 24 6).toNat
  let src : BitVec 6 := w.extractLsb' 8 6
  if s.bst.role = 1 && w.extractLsb' 0 4 == 1 && syncOk s w && !(bar s b).chips.contains src then
    lookChip (modBar s b (fun x => { x with chips := src :: x.chips })) b
  else if s.bst.role = 2 && w.extractLsb' 0 4 == 2 && syncOk s w then releaseChip s b
  else syncError s

/-- Messages are taken while none of the Bandstand's own waits for a place in the transmit queue (log entry 54). -/
def drainSync : Nat → State → State
  | 0, s => s
  | n + 1, s =>
    match s.bst.txWait, s.bst.rxq with
    | [], w :: ws => drainSync n (takeSync { s with bst := { s.bst with rxq := ws } } w)
    | _, _ => s

/-- SYNC_MESSAGE_SEND: the oldest queued message transfers on the sync port (R308, R310); in SINGLE nothing is sent (R307). -/
def execSyncMessageSend (s : State) : Host.Outcome State Fault Refusal :=
  if !live s || frozen s 0 || s.bst.role == 0 then skip s
  else
    match s.bst.txq with
    | [] => skip s
    | _ :: ms => finishSync (drainSync 16 (syncSend { s with bst := { s.bst with txq := ms } } []))

/-- A message arrives on the sync port: rx_ready is 0 while the receive queue is full (R308); under freeze it is discarded (R310). -/
def receiveSync (s : State) (w : W64) : Host.Outcome State Fault Refusal :=
  if !live s || decide (16 ≤ s.bst.rxq.length) then skip s
  else if frozen s 0 then finish s
  else finishSync (drainSync 16 { s with bst := { s.bst with rxq := s.bst.rxq ++ [w] } })

/-- SYNC_ARRIVE_RECEIVED: a message that is not a RELEASE is received (R309). -/
def execSyncArriveReceived (w : W64) (s : State) : Host.Outcome State Fault Refusal :=
  if w.extractLsb' 0 4 = 2 then skip s else receiveSync s w

/-- SYNC_RELEASE_RECEIVED: a RELEASE is received (R309). -/
def execSyncReleaseReceived (w : W64) (s : State) : Host.Outcome State Fault Refusal :=
  if w.extractLsb' 0 4 ≠ 2 then skip s else receiveSync s w

end Sys2Proof.Machine
end

