-- ==== Sys2Proof/Machine/Access.lean ====
section
/-! DEFINITION. Register accesses that a region performs and that may wait: the Trellis registers (R180-R184), the basins (R210,
R215-R217) and the sweep store (R246); and the retry of an access that waits. -/

namespace Sys2Proof.Machine

/-- A write of a register of region r that takes effect at once (R44); like every access to the region it is a wake request (R401). -/
def writeReg (s : State) (port : RegPort) (r : Region) (f : State → State) : Host.Outcome State Fault Refusal :=
  if !portReady s port then skip s else finish (ack (f (wakeReq s r)) port)

/-! ## The Trellis registers (R180-R184) -/

/-- RG_TR_SEL names a word of its space (R180). -/
def trSelOk (e : REvents) : Bool := !e.trSpace || decide (e.trEntry.toNat < 65536)

/-- ENTRY after an accepted access (R183). -/
def trStep (e : REvents) : REvents :=
  if e.trInc then { e with trEntry := if e.trSpace then BitVec.ofNat 17 ((e.trEntry.toNat + 1) % 65536) else e.trEntry + 1 } else e

/-- An access to the Trellis registers of region r is refused (R180). -/
def trRefused (s : State) (r : Region) (write : Bool) : Bool :=
  loadingR s r || !planned s r || (write && frozen s (halfOf r)) || !trSelOk (rg s r).ev

/-- An access waits for its region to wake (R180). -/
def waitWake (s : State) (port : RegPort) (r : Region) (a : HeldAcc) : State := wakeReq (holdAcc s port a) r

/-- A write of RG_TR_DATA (R180, R181, R184). Like every access to a word of the region it is a wake request, which cancels a downward
step that waits (R401). -/
def trWrite (s : State) (port : RegPort) (r : Region) (d : W64) : State :=
  let e := (rg s r).ev
  if trRefused s r true || (if e.trSpace then d.extractLsb' 32 32 != 0 else !evenParity d || !entryFieldsOk d) then busErr s port
  else if !inRun s r then waitWake s port r (.trWrite r d)
  else
    let s := modRg (wakeReq s r) r (fun g => { g with plan :=
      if e.trSpace then { g.plan with index := tset 0 g.plan.index e.trEntry.toNat (lo32 d) }
      else { g.plan with entry := tset 0 g.plan.entry e.trEntry.toNat d } })
    ack (modEv s r trStep) port

/-- A read of RG_TR_DATA (R180, R184). -/
def trRead (s : State) (port : RegPort) (r : Region) (bad : Bool) : State :=
  let e := (rg s r).ev
  if trRefused s r false then busErr s port
  else if !inRun s r then waitWake s port r (.trRead r bad)
  else if bad then busErr (regionFault (wakeReq s r) r 8 ((b1 e.trSpace).setWidth 32 <<< 31 ||| e.trEntry.setWidth 32)) port
  else
    let w : W64 := if e.trSpace then (tget 0 (rg s r).plan.index e.trEntry.toNat).setWidth 64 else tget 0 (rg s r).plan.entry e.trEntry.toNat
    reply (modEv (wakeReq s r) r trStep) port w

/-- An entry word with its DELAY replaced and its PARITY recomputed (R170, R180). -/
def withDelay (w : W64) (d : BitVec 4) : W64 :=
  let v := (w &&& ~~~(0x800000001E000000 : W64)) ||| field 25 d
  if evenParity v then v else v ||| 0x8000000000000000

/-- A write of RG_TR_DELAY (R180, R184). -/
def trDelay (s : State) (port : RegPort) (r : Region) (d : W32) : State :=
  let e := (rg s r).ev
  if trRefused s r true || e.trSpace then busErr s port
  else if !inRun s r then waitWake s port r (.trDelay r d)
  else
    let s := modRg (wakeReq s r) r (fun g => { g with plan := { g.plan with
      entry := tset 0 g.plan.entry e.trEntry.toNat (withDelay (tget 0 g.plan.entry e.trEntry.toNat) (d.extractLsb' 0 4)) } })
    ack (modEv s r trStep) port

/-! ## The basins (R209-R211, R215-R217) -/

/-- A step close of the region is in progress: RG_EV_STAT.STEP_CLOSE (R187). -/
def closing (s : State) (r : Region) : Bool := !(rg s r).ev.closes.isEmpty

/-- Segments of every unfenced named block set to zero (R215). -/
def basinClearSegs (s : State) (r : Region) (segs : BitVec 16) : State :=
  (idx 32).foldl (fun s b =>
    if bit32 (rg s r).lanes.clrBlk b && !fenced s r b then
      (idx 16).foldl (fun s n => if segs.getLsbD n.val then basinZero s r b (1024 * n.val) 1024 else s) s
    else s) s

/-- WORD after an accepted access to RG_BASIN_DATA (R216). -/
def basinStep (s : State) (r : Region) : State :=
  modRg s r (fun g => { g with lanes := if g.lanes.inc then { g.lanes with word := g.lanes.word + 1 } else g.lanes })

/-- A write of RG_BASIN_CLR (R210, R215). -/
def basinClr (s : State) (port : RegPort) (r : Region) (d : W32) : State :=
  if loadingR s r || frozen s (halfOf r) then busErr s port
  else if !inRun s r then waitWake s port r (.basinClr r d)
  else if closing s r then holdAcc s port (.basinClr r d)
  else ack (basinClearSegs (wakeReq s r) r (d.extractLsb' 0 16)) port

/-- A read of RG_BASIN_CLR, a write-only register (R12, R210). -/
def basinClrRd (s : State) (port : RegPort) (r : Region) : State :=
  if loadingR s r then busErr s port
  else if !inRun s r then waitWake s port r (.basinClrRd r)
  else if closing s r then holdAcc s port (.basinClrRd r)
  else reply (wakeReq s r) port 0

/-- A write of RG_BASIN_DATA (R210, R217). -/
def basinWr (s : State) (port : RegPort) (r : Region) (d : W64) : State :=
  let l := (rg s r).lanes
  if loadingR s r || frozen s (halfOf r) || fenced s r l.block then busErr s port
  else if !inRun s r then waitWake s port r (.basinWr r d)
  else if closing s r then holdAcc s port (.basinWr r d)
  else ack (basinStep (basinPut (wakeReq s r) r l.block (8 * l.word.toNat) (bytesOf d 8)) r) port

/-- A read of RG_BASIN_DATA (R208, R210, R217). -/
def basinRd (s : State) (port : RegPort) (r : Region) (bad : Bool) : State :=
  let l := (rg s r).lanes
  if loadingR s r || fenced s r l.block then busErr s port
  else if !inRun s r then waitWake s port r (.basinRd r bad)
  else if closing s r then holdAcc s port (.basinRd r bad)
  else if bad then busErr (blockFault (wakeReq s r) r l.block 2 1 0 (l.word.setWidth 32)) port
  else reply (basinStep (wakeReq s r) r) port (wordOf 64 (basinGet s r l.block (8 * l.word.toNat) 8))

/-! ## The sweep store (R245, R246) -/

/-- Words of a space of RG_SWEEP_SEL; none in the reserved one (R245). -/
def sweepWords (space : BitVec 2) : Nat := if space = 0 then 256 else if space = 1 then 64 else if space = 2 then 2048 else 0

/-- WORD after an accepted read of RG_SWEEP_DATA (R245). -/
def sweepStep (s : State) (r : Region) : State :=
  modRg s r (fun g =>
    { g with sweep := if g.sweep.inc then { g.sweep with word := BitVec.ofNat 11 ((g.sweep.word.toNat + 1) % sweepWords g.sweep.space) } else g.sweep })

/-- The word that RG_SWEEP_SEL selects (R245, R246). -/
def sweepStored (s : State) (r : Region) : W32 :=
  let g := rg s r
  let x := vget g.blocks g.sweep.block
  if g.sweep.space = 0 then tget 0 x.store g.sweep.word.toNat
  else if g.sweep.space = 1 then tget 0 x.consts g.sweep.word.toNat
  else (tget 0 g.plan.decay g.sweep.word.toNat).setWidth 32

/-- A read of RG_SWEEP_DATA (R222, R246). -/
def sweepRdAcc (s : State) (port : RegPort) (r : Region) (bad : Bool) : State :=
  let w := (rg s r).sweep
  if loadingR s r || !planned s r || (w.space != 2 && fenced s r w.block) || decide (sweepWords w.space ≤ w.word.toNat) then busErr s port
  else if !inRun s r then waitWake s port r (.sweepRd r bad)
  else if bad then busErr (blockFault (wakeReq s r) r w.block 4 1 0 ((w.space.setWidth 32) <<< 16 ||| w.word.setWidth 32)) port
  else reply (sweepStep (wakeReq s r) r) port ((sweepStored s r).setWidth 64)

/-! ## Retry -/

/-- An access that waits for region r is tried again, with the outcome of its check (log entry 4). -/
def retryAcc (s : State) (r : Region) (port : RegPort) : State :=
  match (rport s port).held with
  | some (.trRead q bad) => if q = r then trRead s port r bad else s
  | some (.trWrite q d) => if q = r then trWrite s port r d else s
  | some (.trDelay q d) => if q = r then trDelay s port r d else s
  | some (.basinClr q d) => if q = r then basinClr s port r d else s
  | some (.basinWr q d) => if q = r then basinWr s port r d else s
  | some (.basinRd q bad) => if q = r then basinRd s port r bad else s
  | some (.basinClrRd q) => if q = r then basinClrRd s port r else s
  | some (.sweepRd q bad) => if q = r then sweepRdAcc s port r bad else s
  | some (.plnData _) => s
  | some (.fwData _) => s
  | some .deposit => s
  | none => s

/-- Every access that waits for region r is tried again. -/
def retryRegion (s : State) (r : Region) : State := retryAcc (retryAcc (retryAcc s r .cp) r .mp) r .gh

end Sys2Proof.Machine
end

