-- ==== Sys2Proof/Machine/Flags.lean ====
section
/-! DEFINITION. The interrupt and status outputs, each a function of its unit's flags and enables (R48-R50). -/

namespace Sys2Proof.Machine

/-- irq[0]: a fault recorded, while enabled (R470). -/
def irqFault (s : State) : Bool := s.flt.irq && s.flt.irqIe
/-- irq[1]: the Bandstand (R313). -/
def irqBandstand (s : State) : Bool :=
  (!s.bst.msgs.isEmpty && s.bst.msgIe) || (s.bst.timeout && s.bst.tmoIe) ||
    ((s.bst.semErr || s.bst.barErr || s.bst.syncErr) && s.bst.errIe)
/-- irq[2]: a full mailbox with RECV 0 whose enable bit is set (R333). -/
def irqLodge (s : State) : Bool :=
  (idx 64).any (fun n => (box s n).recv == 0 && (box s n).word.isSome && s.lod.ie.getLsbD n.val)
/-- irq[3]: a stream entered HALTED (R281). -/
def irqRill (s : State) : Bool := s.rill.xlate && s.rill.xlateIe
/-- irq[4]: a starvation flag of a region whose STARVE_IE is 1 (R151). -/
def irqArb (s : State) : Bool :=
  (idx 8).any (fun r =>
    let a := (rg s r).arb
    a.regs.starveIe && (a.starvePort != 0 || a.starveHalf || a.starveEntry || a.starveBlk != 0))
/-- irq[5]: the power unit (R419). -/
def irqPower (s : State) : Bool :=
  (s.pwr.wakeDone != 0 && s.pwr.wakeIe) || (s.pwr.ceiling && s.pwr.ceilIe) || (s.pwr.fclkReq && s.pwr.fclkIe)
/-- irq[6]: the counters (R494). -/
def irqCounters (s : State) : Bool := (s.cnt.dumpDone && s.cnt.dumpIe) || (s.cnt.wrap && s.cnt.wrapIe)
/-- irq[7]: the Footbridge (R394). -/
def irqSeam (s : State) : Bool :=
  (s.fb.retired && s.fb.retiredIe) || (s.fb.trained && s.fb.trainedIe) || (s.fb.trainFailed && s.fb.failedIe)

/-- The boundary cells drive the functional outputs: WS_EXTEST while test_mode is 1 (R53, R54). -/
def cellsDrive (s : State) : Bool := s.pins.testMode && s.wrp.instr == .extest

/-- The interrupt outputs irq[7:0]; every output is 0 under reset and while a self-test isolates the ports (R48, R62, R508). Where the
boundary cells drive them, they are cells whose places the spec does not give: a free value (R53, log entry 5). -/
def irq (s : State) : Byte :=
  if !live s then 0
  else if cellsDrive s then fv s 9 8
  else
    b1 (irqSeam s) ++ b1 (irqCounters s) ++ b1 (irqPower s) ++ b1 (irqArb s) ++ b1 (irqRill s) ++ b1 (irqLodge s) ++
      b1 (irqBandstand s) ++ b1 (irqFault s)

/-- pl_frozen (R50). -/
def plFrozen (s : State) : Bool := s.frz.asserted
/-- pl_stopping (R50). -/
def plStopping (s : State) : Bool := s.frz.stopping
/-- req_ready of engine port p (R36, R117). -/
def engineReady (s : State) (p : EPort) : Bool := clocked s (portHalf p) && decide ((ep s p).reqs.length < 64)
/-- ev_in_ready of ingress port n (R38). -/
def ingressReady (s : State) (n : EvPort) : Bool :=
  clocked s (evHalf n) && !closed s (evHalf n) && decide ((vget s.ingress n).length < 8)
/-- The event that egress port n presents (R39, R185). -/
def egressEvent (s : State) (n : EvPort) : Option W64 :=
  if live s && (vget s.egress n).presented then (vget s.egress n).buf.head? else none

end Sys2Proof.Machine
end

