-- ==== Sys2Proof/Machine/Engine.lean ====
section
/-! DEFINITION. The engine ports: requests, write data, responses, multicast (R36, R108-R128). -/

namespace Sys2Proof.Machine

/-! ## R115 and R123 -/

/-- An operand beat that enables some but not all bytes of an element (R115). -/
def partialElems (a : AtomOp) (strb : BitVec 64) : Bool :=
  match a with
  | .cas64 => false
  | .trace => false
  | _ => (List.range (64 / atomWidth a)).any (elemPart strb (atomWidth a))

/-- The address of a SEM or DOORBELL breaks R123. -/
def signalBad (bell : Bool) (q : ReqF) : Bool :=
  q.addr.extractLsb' 13 14 != 0 || (!bell && q.addr.getLsbD 12) || (bell && q.addr.getLsbD 12 && q.addr.extractLsb' 6 6 != 0)

/-- The request breaks R115, apart from the membership of a multicast read. -/
def requestBad (op : ReqOp) (q : ReqF) (w : Option WBeat) : Bool :=
  q.addr.extractLsb' 27 2 == 3 || (q.mgrp != 0 && op != .read) ||
    (match op with
     | .reserved _ => true
     | .read => q.addr.extractLsb' 0 6 != 0 || decide (63 < (q.addr.extractLsb' 6 6).toNat + q.len.toNat)
     | .write => q.addr.extractLsb' 0 6 != 0 || decide (63 < (q.addr.extractLsb' 6 6).toNat + q.len.toNat)
     | .atom a =>
       q.len != 0 || q.addr.extractLsb' 27 2 != 0 ||
         (if a = .cas64 then q.addr.extractLsb' 0 3 != 0 else q.addr.extractLsb' 0 6 != 0) ||
         (match w with | some b => partialElems a b.strb | none => false)
     | .sem => q.len != 0 || signalBad false q
     | .doorbell => q.len != 0 || signalBad true q)

/-! ## Request and data channels -/

/-- The protocol fault of a wd_last that disagrees with req_len (R111, R451). -/
def engineProtocol (s : State) (p : EPort) (id : BitVec 6) : State :=
  raise s (portHalf p) (faultRec 0x18 2 (portHalf p).val p.val 0 (id.setWidth 32))

/-- The signal operations. -/
def isSignal : ReqOp → Bool
  | .sem => true
  | .doorbell => true
  | .read => false
  | .write => false
  | .atom _ => false
  | .reserved _ => false

/-- Answer every beat of a request that broke R111 FROZEN, whatever it was answered before (R110, R111): its acknowledgement is there
to be taken only when its L beats have been taken. -/
def frozenAll (s : State) (p : EPort) (seq : Nat) : State :=
  modReq (answerAll s p seq frozenC) p seq (fun e => { e with res := e.res.map (fun _ => some ⟨frozenC, 0⟩) })

/-- The oldest request of a port that still needs write data (R111). -/
def needsData (x : PortSt) : Option EReq := x.reqs.find? (fun e => decide (e.got.length < wdBeats e.op e.q))

/-- Beat n of request e of port p has come with this wd_last: the request counts by req_len and checks it (R111). -/
def checkBeat (s : State) (p : EPort) (e : EReq) (last : Bool) (n : Nat) : State :=
  let wrong := last != decide (n = wdBeats e.op e.q)
  let s := if wrong && !e.broke then modReq (engineProtocol s p e.q.id) p e.seq (fun x => { x with broke := true }) else s
  if (wrong || e.broke) && n = wdBeats e.op e.q then frozenAll s p e.seq else s

/-- The next beat of the write data channel goes to request e of port p (R111). -/
def takeBeat (s : State) (p : EPort) (e : EReq) (w : WBeat) : State :=
  checkBeat (modReq s p e.seq (fun x => { x with got := x.got ++ [w], carry := [] })) p e w.last (e.got.length + 1)

/-- The beats that came with their requests pass in their turn: at most n requests, in transfer order, until one waits for a beat of
its own row (R111, log entry 10). -/
def takeCarried : Nat → State → EPort → State
  | 0, s, _ => s
  | n + 1, s, p =>
    match needsData (ep s p) with
    | none => s
    | some e =>
      match e.carry with
      | [] => s
      | w :: _ => takeCarried n (takeBeat s p e w) p

/-- Every carried beat whose turn has come. -/
def passCarried (s : State) (p : EPort) : State := takeCarried (ep s p).reqs.length s p

/-- A request transfers at port p and waits at its Sluice stage (R111, R112, R294, R488). A request that carries its beat brings
it along; the beat passes at once where no earlier request of the port still needs one, and otherwise in its turn (R111, log entry 10). -/
def takeReq (s : State) (p : EPort) (op : ReqOp) (q : ReqF) (w : Option WBeat) : State :=
  let seq := (ep s p).nextSeq
  let pass := (needsData (ep s p)).isNone
  let sc := scopeOf op q
  let bad := requestBad op q w
  let s := if writes op && !bad then issueWrite s p seq (scopesOf p ((reqPlaces s q (answerBeats op q)).map (·.region))) else s
  let (s, tag) := if isCandidate s false p.val then candidate s else (s, false)
  let iss := (ep s p).ret.issue
  let e : EReq :=
    { seq := seq, op := op, q := q, stage := .sluice, got := if pass then w.toList else [], carry := if pass then [] else w.toList, broke := false, begun := false, fwd := 0,
      res := List.replicate (answerBeats op q) none, taken := 0, detached := false, gather := none,
      stamp := vget iss sc, stampAll := vget iss 2, tagged := tag, mark := 0 }
  let s := modEp s p (fun x => { x with reqs := x.reqs ++ [e], nextSeq := seq + 1 })
  match w with
  | some b => if pass then checkBeat s p e b.last 1 else s
  | none => s
where
  /-- The index of a signal's scope (R123). -/
  scopeOf (_op : ReqOp) (q : ReqF) : Fin 3 :=
    if q.addr.extractLsb' 27 2 = 2 then 0 else if q.addr.extractLsb' 27 2 = 1 then 1 else 2

/-- A request row of port p (R36, R117): it transfers while fewer than 64 are outstanding. -/
def presentReq (s : State) (p : EPort) (op : ReqOp) (q : ReqF) (w : Option WBeat) : Host.Outcome State Fault Refusal :=
  if engineReady s p then finish (takeReq s p op q w) else skip s

/-- READ (R108, R114). -/
def execRead (p : EPort) (q : ReqF) (s : State) : Host.Outcome State Fault Refusal :=
  if q.mgrp = 0 then presentReq s p .read q none else skip s
/-- WRITE (R108, R132). -/
def execWrite (p : EPort) (q : ReqF) (s : State) : Host.Outcome State Fault Refusal :=
  if q.top = 0 ∨ q.top = 3 then presentReq s p .write q none else skip s
/-- WRITE through the bit-set alias (R119). -/
def execWriteBitSet (p : EPort) (q : ReqF) (s : State) : Host.Outcome State Fault Refusal :=
  if q.top = 1 then presentReq s p .write q none else skip s
/-- WRITE through the bit-clear alias (R119). -/
def execWriteBitClear (p : EPort) (q : ReqF) (s : State) : Host.Outcome State Fault Refusal :=
  if q.top = 2 then presentReq s p .write q none else skip s
/-- ATOM_ADD_S8 (R120). -/
def execAtomAddS8 (p : EPort) (q : ReqF) (w : WBeat) (s : State) : Host.Outcome State Fault Refusal :=
  presentReq s p (.atom .addS8) q (some w)
/-- ATOM_ADD_I32 (R120). -/
def execAtomAddI32 (p : EPort) (q : ReqF) (w : WBeat) (s : State) : Host.Outcome State Fault Refusal :=
  presentReq s p (.atom .addI32) q (some w)
/-- ATOM_ADD_F32 (R120). -/
def execAtomAddF32 (p : EPort) (q : ReqF) (w : WBeat) (s : State) : Host.Outcome State Fault Refusal :=
  presentReq s p (.atom .addF32) q (some w)
/-- ATOM_MIN_I32 (R120). -/
def execAtomMinI32 (p : EPort) (q : ReqF) (w : WBeat) (s : State) : Host.Outcome State Fault Refusal :=
  presentReq s p (.atom .minI32) q (some w)
/-- ATOM_MAX_I32 (R120). -/
def execAtomMaxI32 (p : EPort) (q : ReqF) (w : WBeat) (s : State) : Host.Outcome State Fault Refusal :=
  presentReq s p (.atom .maxI32) q (some w)
/-- ATOM_SWAP_64 (R120). -/
def execAtomSwap64 (p : EPort) (q : ReqF) (w : WBeat) (s : State) : Host.Outcome State Fault Refusal :=
  presentReq s p (.atom .swap64) q (some w)
/-- ATOM_CAS_64 (R121). -/
def execAtomCas64 (p : EPort) (q : ReqF) (w : WBeat) (s : State) : Host.Outcome State Fault Refusal :=
  presentReq s p (.atom .cas64) q (some w)
/-- ATOM_TRACE (R239). -/
def execAtomTrace (p : EPort) (q : ReqF) (w : WBeat) (s : State) : Host.Outcome State Fault Refusal :=
  presentReq s p (.atom .trace) q (some w)
/-- SEM (R123). -/
def execSem (p : EPort) (q : ReqF) (w : WBeat) (s : State) : Host.Outcome State Fault Refusal :=
  presentReq s p .sem q (some w)
/-- DOORBELL with A[12] 0 (R123, R336). -/
def execStreamDoorbell (p : EPort) (q : ReqF) (w : WBeat) (s : State) : Host.Outcome State Fault Refusal :=
  if !q.addr.getLsbD 12 then presentReq s p .doorbell q (some w) else skip s
/-- DOORBELL with A[12] 1 (R123, R331). -/
def execMailboxDoorbell (p : EPort) (q : ReqF) (w : WBeat) (s : State) : Host.Outcome State Fault Refusal :=
  if q.addr.getLsbD 12 then presentReq s p .doorbell q (some w) else skip s
/-- A request with req_op 0xC-0xF (R108, R115). -/
def execReservedOp (p : EPort) (code : BitVec 2) (q : ReqF) (s : State) : Host.Outcome State Fault Refusal :=
  presentReq s p (.reserved code) q none
/-- READ with req_mgrp not 0 (R124). -/
def execMulticastRead (p : EPort) (q : ReqF) (s : State) : Host.Outcome State Fault Refusal :=
  if q.mgrp ≠ 0 then presentReq s p .read q none else skip s

/-- WRITE_DATA_BEAT: the next beat of the oldest request that needs one; wd_last is checked (R111). The beats that came with later
requests follow it in their turn. -/
def execWriteDataBeat (p : EPort) (w : WBeat) (s : State) : Host.Outcome State Fault Refusal :=
  if !clocked s (portHalf p) then skip s
  else
    match needsData (ep s p) with
    | none => skip s
    | some e => finish (pumpPort (passCarried (takeBeat s p e w) p) p)

/-! ## Responses (R112, R113, R125) -/

/-- The request whose response beat the host takes next on channel ch with this ID: on the read channel the response in
progress, if any; otherwise the oldest request with that ID (R112, R113). -/
def nextResp (x : PortSt) (ch : Channel) (id : BitVec 6) : Option EReq :=
  let mine := fun (e : EReq) => e.q.id == id && channelOf e.op == ch
  match ch, x.cur with
  | .rd, some q => x.reqs.find? (fun e => e.seq == q && mine e)
  | _, _ => x.reqs.find? mine

/-- The request is answered on the read channel of its port (R108). -/
def onReadChannel (op : ReqOp) : Bool := channelOf op == .rd

/-- A response beat of a request is there to be taken: where the request carries write data, its beats have all been taken and, on
the write channel, answered (R111, R113). -/
def respReady (e : EReq) : Bool :=
  decide (e.got.length = wdBeats e.op e.q) &&
    (if onReadChannel e.op then e.detached || (e.res.getD e.taken none).isSome else e.stage == .answered)

/-- The first response code that is not OKAY of an acknowledgement, in the order of R110. A WRITE through an alias with a beat that
failed its parity read is thus acknowledged FROZEN, though its other beats took effect (log entry 89). -/
def ackCode (e : EReq) : BitVec 3 :=
  let cs := e.res.map (fun o => (o.getD ⟨okay, 0⟩).code)
  (([frozenC, decodeC, barredC, refusedC, fencedC].filter cs.contains).head?).getD okay

/-- The response beat that the port presents for a request (R109, R113, R125): code, data and last. -/
def respBeat (e : EReq) : BitVec 3 × Beat × Bool :=
  if onReadChannel e.op then
    if e.detached then (detachedC, BitVec.ofNat 512 e.taken, true)
    else
      let x := (e.res.getD e.taken none).getD ⟨okay, 0⟩
      (x.code, x.data, decide (e.taken + 1 = e.res.length))
  else (ackCode e, 0, true)

/-- Beats that a member of a gather has taken; a member that has ended has taken them all. -/
def memberTaken (s : State) (g : Gather) (m : EPort × Nat) : Nat :=
  match findReq s m.1 m.2 with
  | some e => e.taken
  | none => g.len.toNat + 1

/-- Members 17 beats behind the most advanced are detached, and leave the gather (R125, R128). -/
def detachSlow (s : State) (r : Region) (g : Gather) : State :=
  let top := (g.joined.map (memberTaken s g)).foldl max 0
  g.joined.foldl (fun s m =>
    match findReq s m.1 m.2 with
    | some e =>
      if e.detached || top < e.taken + 17 then s
      else
        modRg (modReq s m.1 m.2 (fun e => { e with detached := true, stage := .answered })) r
          (fun x => { x with mcast := { x.mcast with
            det := x.mcast.det ||| mask32 m.1
            gathers := x.mcast.gathers.map (fun y => if y.inst = g.inst then { y with joined := y.joined.filter (· != m) } else y) } })
    | none => s) s

/-- A gather whose members have all ended is gone. -/
def closeGather (s : State) (r : Region) (inst : Nat) : State :=
  modRg s r (fun x => { x with mcast := { x.mcast with
    gathers := x.mcast.gathers.filter (fun g => g.inst != inst || g.joined.any (fun m => (findReq s m.1 m.2).isSome)) } })

/-- The host takes the oldest response of a register port (R33, R43). -/
def takeRegRsp (port : RegPort) (s : State) : Host.Outcome State Fault Refusal :=
  match (rport s port).rsps with
  | [] => skip s
  | _ :: more => if live s then finish (modRport s port (fun x => { x with rsps := more })) else skip s

/-- A response beat of engine port p transfers; the last ends the request (R112, R113, R125). -/
def takeResponse (p : EPort) (ch : Channel) (id : BitVec 6) (s : State) : Host.Outcome State Fault Refusal :=
  if !clocked s (portHalf p) then skip s
  else
    match nextResp (ep s p) ch id with
    | none => skip s
    | some e =>
      if !respReady e then skip s
      else
        let last := (respBeat e).2.2
        let s :=
          if last then
            modEp (tagRequest s p e true) p (fun x =>
              { x with reqs := x.reqs.filter (fun y => y.seq != e.seq), cur := if ch = .rd then none else x.cur })
          else modEp (modReq s p e.seq (fun y => { y with taken := y.taken + 1 })) p (fun x => { x with cur := some e.seq })
        match e.gather with
        | none => finish s
        | some (r, inst) =>
          match findGather s r inst with
          | none => finish s
          | some g => finish (closeGather (detachSlow s r g) r inst)

/-- RESPONSE_BEAT_TAKEN: the host takes a beat of an engine port, or a response of a register port, where the other two operands say
nothing (R33, R43, R112, log entry 8). -/
def execResponseBeatTaken (p : EPort) (ch : Channel) (id : BitVec 6) (s : State) : Host.Outcome State Fault Refusal :=
  match ch with
  | .rd => takeResponse p .rd id s
  | .wr => takeResponse p .wr id s
  | .reg port => takeRegRsp port s

/-! ## Multicast (R124-R128) -/

/-- The read of a gather starts for the members that have joined (R124). -/
def startGather (s : State) (r : Region) (g : Gather) : State :=
  launchGather (modRg s r (fun x => { x with mcast := { x.mcast with
    gathers := x.mcast.gathers.map (fun y => if y.inst = g.inst then { y with started := true } else y) } })) r g

/-- Every member of the mask has joined. -/
def allJoined (g : Gather) : Bool := (idx 32).all (fun p => !bit32 g.members p || g.joined.any (fun m => m.1 == p))

/-- A released multicast request joins or opens a gather, or is served as a unicast read (R124). The gather keeps the req_hp of the
request that opened it, which nothing uses (log entry 88). -/
def joinGather (s : State) (p : EPort) (e : EReq) : State :=
  let r := (place s (beatAddr e.q 0)).region
  let m := (rg s r).mcast
  let put := fun (s : State) (g : Gather) =>
    modReq (modRg s r (fun x => { x with mcast := { x.mcast with gathers := x.mcast.gathers.map (fun y => if y.inst = g.inst then g else y) } }))
      p e.seq (fun y => { y with stage := .gather, gather := some (r, g.inst) })
  match m.gathers.find? (fun g => g.g == e.q.mgrp) with
  | some g =>
    if g.started || g.addr != e.q.addr || g.len != e.q.len then modReq s p e.seq (fun y => { y with stage := .sent })
    else
      let g := { g with joined := g.joined ++ [(p, e.seq)] }
      let s := put s g
      if allJoined g then startGather s r g else s
  | none =>
    let g : Gather := ⟨m.next, e.q.mgrp, e.q.addr, e.q.len, e.q.hp, vget m.masks (fin 32 e.q.mgrp.toNat), [(p, e.seq)], false⟩
    let s := modRg s r (fun x => { x with mcast := { x.mcast with gathers := x.mcast.gathers ++ [g], next := m.next + 1 } })
    let s := put s g
    if allJoined g then startGather s r g else s

/-- The members of the gather that a request would join, or those of RG_MCAST_MASK, which a write changes for gathers opened after
it (R124, R126). -/
def gatherMembers (s : State) (r : Region) (q : ReqF) : W32 :=
  match (rg s r).mcast.gathers.find? (fun g => g.g == q.mgrp && !g.started && g.addr == q.addr && g.len == q.len) with
  | some g => g.members
  | none => vget (rg s r).mcast.masks (fin 32 q.mgrp.toNat)

/-- A multicast request that must be answered DECODE: a beat outside the region of beat 0, or the port is no member (R124). -/
def multicastBad (s : State) (p : EPort) (q : ReqF) : Bool :=
  q.mgrp != 0 &&
    (let r := (place s (beatAddr q 0)).region
     (reqPlaces s q (beatsOf q)).any (fun a => a.region != r) || !bit32 (gatherMembers s r q) p)

/-- GATHER_TIMEOUT: GATHER cycles have passed since the gather of group g opened (R124, log entry 3). -/
def execGatherTimeout (r : Region) (g : BitVec 5) (s : State) : Host.Outcome State Fault Refusal :=
  if !clocked s (halfOf r) || frozen s (halfOf r) then skip s
  else
    match (rg s r).mcast.gathers.find? (fun x => x.g == g && !x.started) with
    | some x => finish (startGather s r x)
    | none => skip s

end Sys2Proof.Machine
end

