-- ==== Sys2Proof/Machine/Governor.lean ====
section
/-! DEFINITION. The work of a region (R399) and the governors, which limit governed activity (R405-R407). -/

namespace Sys2Proof.Machine

/-! ## Work (R399) -/

/-- An access to a register of region r waits (R44). -/
def heldFor (r : Region) : HeldAcc → Bool
  | .trRead q _ => q == r
  | .trWrite q _ => q == r
  | .trDelay q _ => q == r
  | .basinClr q _ => q == r
  | .basinWr q _ => q == r
  | .basinRd q _ => q == r
  | .basinClrRd q => q == r
  | .sweepRd q _ => q == r
  | .plnData _ => false
  | .fwData _ => false
  | .deposit => false

/-- Some register port's access waits for region r. -/
def anyHeld (s : State) (r : Region) : Bool :=
  [s.cp, s.mp, s.ghp].any (fun x => match x.held with | some a => heldFor r a | none => false)

/-- A block holds work: a row-event in its event queue, a released row on its way there, or a sweep. -/
def blockWork (b : Block) : Bool := !b.evq.isEmpty || !b.released.isEmpty || b.sweep.isSome

/-- Region r has work (R399). -/
def hasWork (s : State) (r : Region) : Bool :=
  let g := rg s r
  !g.ev.entry.isEmpty || !g.ev.groups.isEmpty || g.blocks.toList.any blockWork || !g.inq.isEmpty || !g.ev.closes.isEmpty ||
    anyHeld s r || loadingR s r || g.power.loadHold || bit8 s.pwr.hold r

/-! ## The allowance (R406, R407) -/

/-- The governor of half h. -/
def gov (s : State) (h : Half) : Governor := (stager s h).gov
/-- The governor of half h changed. -/
def modGov (s : State) (h : Half) (f : Governor → Governor) : State := modStager s h (fun st => { st with gov := f st.gov })
/-- The index of a region in its half. -/
def inHalf (r : Region) : Fin 4 := ⟨r.val % 4, by omega⟩

/-- Intervals of 128 cycles in a tick, by PWR_FCLK (R406). -/
def intervals (s : State) (h : Half) : Nat := max 1 (mhzOf s h / 128)

/-- The activity that the tick's ledger allows in this interval (R406): that of the last interval of the previous tick, and the tick's
rise spread in equal parts over its intervals. -/
def ledgerAllow (s : State) (h : Half) : Nat :=
  let g := gov s h
  g.base + g.rest * min (g.ended + 1) (intervals s h) / intervals s h

/-- The activity that the ceiling leaves, with every staged rise of this tick begun (R407); none without a ceiling. -/
def ceilAllow (s : State) (h : Half) : Option Nat :=
  if ceilAmp s h = 0 then none else some (1024 * (ceilAmp s h - halfAmpAt s h (tickNs s + 999)))

/-- The allowance of this interval (R406, R407). -/
def allowance (s : State) (h : Half) : Nat :=
  match ceilAllow s h with
  | none => ledgerAllow s h
  | some c => min (ledgerAllow s h) c

/-- The activity of half h in this interval. -/
def actSum (g : Governor) : Nat := g.act.toList.foldl (· + ·) 0

/-- The regions of half h that have work. -/
def workers (s : State) (h : Half) : Nat := ((idx 8).filter (fun r => halfOf r == h && hasWork s r)).length

/-- A region's share of the allowance (R406): an equal part for each region that has work, and of what was left unused in the interval
before (log entry 92). -/
def shareOf (s : State) (h : Half) : Nat := (allowance s h + (gov s h).spare) / max 1 (workers s h)

/-- Region r may add this much activity in this interval (R406, R407). -/
def mayAct (s : State) (r : Region) (cost : Nat) : Bool :=
  let h := halfOf r
  decide (vget (gov s h).act (inHalf r) + cost ≤ shareOf s h) && decide (actSum (gov s h) + cost ≤ allowance s h)

/-- Region r has added this much activity. -/
def addAct (s : State) (r : Region) (cost : Nat) : State :=
  modGov s (halfOf r) (fun g => { g with act := vmod g.act (inHalf r) (· + cost) })

/-- The governor has held governed activity back in this interval, for the ledger or for the ceiling. -/
def limitAct (s : State) (r : Region) : State :=
  let h := halfOf r
  modGov s h (fun g => { g with limited := true, byCeil := g.byCeil || (ceilAllow s h).any (fun c => decide (c < ledgerAllow s h)) })

/-- A row-event issue or a group start of this cost in region r: performed within the allowance, and otherwise held back (R406). -/
def governed (s : State) (r : Region) (cost : Nat) (f : State → Host.Outcome State Fault Refusal) : Host.Outcome State Fault Refusal :=
  if mayAct s r cost then f (addAct s r cost) else finish (limitAct s r)

/-- The governor of half h after an interval (R406, R420). -/
def endInterval (s : State) (h : Half) : Governor :=
  let g := gov s h
  let total := actSum g
  { act := Vector.replicate 4 0, base := g.base, prev := total, rest := g.rest, ended := g.ended + 1,
    spare := shareOf s h * workers s h - total, limited := false, byCeil := false, peak := max g.peak (halfAmp s h + total / 1024) }

end Sys2Proof.Machine
end

