-- ==== Sys2Proof/Machine/Power.lean ====
section
/-! DEFINITION. Power states, the stager's edges, staged steps, the governor and the power registers (R398-R421, R458, R459). -/

namespace Sys2Proof.Machine

/-! ## Policy (R399, R400, R179) -/

/-- An event queue or delay ring of the region holds a row-event (R179). -/
def holdsRows (g : RegionSt) : Bool :=
  g.blocks.toList.any (fun b => !b.evq.isEmpty || !b.released.isEmpty || b.ring.toList.any (fun l => !l.isEmpty))

/-- The region's policy counts (R400, R410): no freeze, no stop, no move in progress. -/
def policyOpen (s : State) (r : Region) : Bool :=
  let p := (rg s r).power
  live s && !frozen s (halfOf r) && !s.frz.stopping && !s.frz.stopped && !p.pend && !p.waking && !p.down && !p.downWait

/-- A downward step of region r waits for an edge (R404 step 5). -/
def askDown (s : State) (r : Region) : State := modPw s r (fun p => { p with downWait := true })

/-- IDLE_TIMEOUT: IDLE_AFTER cycles have passed without work (R400, log entry 3). -/
def execIdleTimeout (r : Region) (s : State) : Host.Outcome State Fault Refusal :=
  let p := (rg s r).power
  if !policyOpen s r || !clocked s (halfOf r) || p.st ≠ .run || p.idleAfter == 0 || p.deepest == 0 || hasWork s r then skip s
  else finish (askDown s r)

/-- RETAIN_TIMEOUT: RETAIN_AFTER ticks have passed in Idle (R179, R400). -/
def execRetainTimeout (r : Region) (s : State) : Host.Outcome State Fault Refusal :=
  let p := (rg s r).power
  if !policyOpen s r || p.st ≠ .idle || p.retainAfter == 0 || decide (p.ticks < p.retainAfter.toNat) || decide (p.deepest.toNat < 2) ||
      holdsRows (rg s r) then skip s
  else finish (askDown s r)

/-- OFF_TIMEOUT: OFF_AFTER ticks have passed in Retain (R179, R400). -/
def execOffTimeout (r : Region) (s : State) : Host.Outcome State Fault Refusal :=
  let p := (rg s r).power
  if !policyOpen s r || p.st ≠ .retain || p.offAfter == 0 || decide (p.ticks < p.offAfter.toNat) || decide (p.deepest.toNat < 3) ||
      holdsRows (rg s r) then skip s
  else finish (askDown s r)

/-! ## The edge (R403, R404) -/

/-- The ledgers of a new tick. -/
def shiftLedger (v : Vector Nat 16) : Vector Nat 16 := Vector.ofFn (fun i => if h : i.val + 1 < 16 then vget v ⟨i.val + 1, h⟩ else 0)

/-- An estimate in units of 1.25 mA as PWR_EST shows it, in units of 0.01 A (R420). -/
def estWord (n : Nat) : BitVec 16 := BitVec.ofNat 16 (min (n / 8) 0xFFFF)

/-- The stager of half h at a new tick: ledgers moved on, the step limit in force (R403, R413), EST the largest estimate of the tick that
ends (R420), and the governor's allowance based on its last interval (R406). -/
def turnStager (s : State) (h : Half) : State :=
  modStager s h (fun st =>
    { st with s := stepReg s h, rise := shiftLedger st.rise, fall := shiftLedger st.fall, reserve := 0, est := estWord st.gov.peak,
              gov := { st.gov with base := st.gov.prev, rest := 0, ended := 0, peak := 0 } })

/-- Region r is in Run and waits for its CLEAR step of the restart (R458). -/
def mayClear (s : State) (r : Region) : Bool :=
  let p := (rg s r).power
  bit8 s.rs.clearing r && p.st == .run && !p.waking && !p.down && p.steps.isEmpty

/-- The steps that region r asks for at an edge. -/
def stepsWanted (s : State) (r : Region) : List (StepKind × Bool) :=
  if mayWake s r then wakeSteps s r else if mayClear s r then [(.clear, true)] else []

/-- The regions of half h that ask for steps, by WAKE_RANK, then number (R404, R458). -/
def askOrder (s : State) (h : Half) : List Region :=
  (idx 8).flatMap (fun k => (idx 8).filter (fun r => halfOf r == h && (rg s r).power.rank.toNat == k.val && !(stepsWanted s r).isEmpty))

/-- A first step granted at an edge, with the stager before and after its booking. -/
structure FirstStep where
  region : Region
  step : Booked
  before : Stager
  after : Stager

/-- Step 1: first steps granted in order, until one does not fit (R404). -/
def grantFirsts (s : State) (h : Half) : List Region → State × List FirstStep
  | [] => (s, [])
  | r :: rs =>
    match stepsWanted s r with
    | [] => (s, [])
    | (k, dc) :: _ =>
      match bookStep (stager s h) (tickNs s) (mhzOf s h) (tickNs s) k dc with
      | none => (s, [])
      | some (b, st) =>
        if b.start / 1000 = s.aon.sundial.toNat then
          let (s', more) := grantFirsts (modStager s h (fun _ => st)) h rs
          (s', ⟨r, b, stager s h, st⟩ :: more)
        else (s, [])

/-- The charge of a first step taken back. -/
def uncharge (f : FirstStep) (st : Stager) : Stager :=
  { st with rise := vmap (fun i n => n - (vget f.after.rise i - vget f.before.rise i)) st.rise
            fall := vmap (fun i n => n - (vget f.after.fall i - vget f.before.fall i)) st.fall }

/-- Step 2: the later steps of a granted region booked. One for which the 16 ledgers have no room, or whose rises would exceed the
ceiling with activity at zero, stays pending, and its first step is not charged (R404, R407). -/
def bookRest (s : State) (h : Half) (f : FirstStep) : State :=
  let r := f.region
  match bookSteps (tickNs s) (mhzOf s h) ((stepsWanted s r).drop 1) (stager s h) f.step.stop with
  | none => modStager s h (uncharge f)
  | some (bs, st) =>
    let s' := modPw (modStager s h (fun _ => st)) r (fun p =>
      { p with pend := false, waking := p.st != .run, steps := f.step :: bs, ticks := 0, late := s.frz.asserted })
    if risesFit s' h r then s' else modStager s h (uncharge f)

/-- Step 3: the reserve (R404, R413). -/
def setReserve (s : State) (h : Half) : State :=
  modStager s h (fun st => { st with reserve := min (40 * s.pwr.reserve.toNat) (ledgerL st - ledAt st.rise 0) })

/-- What remains of the tick's rise ledger is the governed activity's, and is charged to it (R403, R406). -/
def setAllowance (s : State) (h : Half) : State :=
  modStager s h (fun st =>
    let rest := ledgerL st - ledAt st.rise 0 - st.reserve
    { st with rise := ledAdd st.rise 0 rest, gov := { st.gov with rest := 1024 * rest } })

/-- The downward step from a state (R402). -/
def downStep : PState → StepKind
  | .run => .clockOff
  | .idle => .periphOff
  | .retain => .arrayOff
  | .off => .settle

/-- The open gathers of a region that leaves Run are answered as started reads (R400). -/
def closeGathers (s : State) (r : Region) : State :=
  ((rg s r).mcast.gathers.filter (fun g => !g.started)).foldl (fun s g => startGather s r g) s

/-- The depth of a state (R80). -/
def depth : PState → Nat
  | .run => 0
  | .idle => 1
  | .retain => 2
  | .off => 3

/-- A downward step that waits is dropped where the policy's DEEPEST has come to forbid it (R400). -/
def boundDown (p : RPower) : RPower :=
  if p.downWait && decide (p.deepest.toNat ≤ depth p.st) then { p with downWait := false, ticks := 0 } else p

/-- Step 5: the downward step of region r, when it fits this tick's fall ledger (R404). -/
def grantDown (s : State) (r : Region) : State :=
  let h := halfOf r
  let s := modPw s r boundDown
  let p := (rg s r).power
  if !p.downWait || frozen s h then s
  else
    match bookStep (stager s h) (tickNs s) (mhzOf s h) (tickNs s) (downStep p.st) false with
    | none => s
    | some (b, st) =>
      if b.start / 1000 = s.aon.sundial.toNat then
        closeGathers (modPw (modStager s h (fun _ => st)) r (fun p => { p with downWait := false, down := true, steps := [b], late := false })) r
      else s

/-- The edge at half h (R404). -/
def edgeHalf (s : State) (h : Half) : State :=
  let s := turnStager s h
  let (s, granted) := grantFirsts s h (askOrder s h)
  let s := setReserve (granted.foldl (fun s g => bookRest s h g) s) h
  let s := setAllowance s h
  let s := if anyPending s h then countM s 0x71 h.val 1 else s
  ((idx 8).filter (fun r => halfOf r == h)).foldl grantDown s

/-- Ticks in Idle or Retain (R400, R179, R410). -/
def tickPolicy (s : State) (r : Region) : State :=
  let p := (rg s r).power
  if policyOpen s r && (p.st == .idle || p.st == .retain) && !holdsRows (rg s r) then modPw s r (fun p => { p with ticks := p.ticks + 1 })
  else s

/-- The counts of ticks outside the power unit: watches (R301, R310), the dump period (R484), a fuse request (R52), a signing
request (R437) and the error window of the spare wires (R379). -/
def tickCounts (s : State) : State :=
  { s with
    bst := if frozen s 0 then s.bst
           else { s.bst with watches := s.bst.watches.map (fun w => if w.pending.isNone then { w with ticks := w.ticks + 1 } else w) }
    cnt := { s.cnt with ticks := if s.cnt.period == 0 then 0 else s.cnt.ticks + 1, dumpDue := s.cnt.dumpDue || s.cnt.dumpNow, dumpNow := false }
    fuse := if s.fuse.req.isSome then { s.fuse with ticks := s.fuse.ticks + 1 } else s.fuse
    gh := { s.gh with req := match s.gh.req with | some (.signing w d n) => some (.signing w d (n + 1)) | o => o }
    fb := { s.fb with winTicks := s.fb.winTicks + 1 } }

/-! ## Staged steps (R401, R402, R458, R459) -/

/-- A staged rise waits for the activity of this interval to end where the two together would exceed the ceiling (R407). -/
def riseWaits (s : State) (h : Half) (k : StepKind) : Bool :=
  stepRises k && ceilAmp s h != 0 &&
    decide (ceilAmp s h < halfAmp s h + stepAmp (ledgerL (stager s h)) k + actSum (gov s h) / 1024)

/-- STAGED_STEP_START: the booked step of region r starts (R402, R407). -/
def execStagedStepStart (r : Region) (s : State) : Host.Outcome State Fault Refusal :=
  match (rg s r).power.steps with
  | [] => skip s
  | b :: bs =>
    if !live s || b.begun || decide (s.aon.sundial.toNat < b.start / 1000) || riseWaits s (halfOf r) b.kind then skip s
    else finish (modPw s r (fun p => { p with steps := { b with begun := true } :: bs }))

/-- A block with no table, queue, sweep or count; its arbiter stays (R401, R477), and so do the events in its emit buffer, which are
lost at a job restart only (R185). -/
def emptyBlock (b : Block) : Block := { block0 with rrLast := b.rrLast, prio := b.prio, emits := b.emits }

/-- What a region holds is lost or cleared: data, basins, Plan tables, queues, counters and selects (R101, R401, R477). -/
def clearRegion (s : State) (r : Region) : State :=
  basinZeroRegion (memZeroRegion (modRg s r (fun g =>
    { g with plan := if canWrite s then plan0 else g.plan, counters := Vector.replicate 8 counter0, blocks := vmap (fun _ b => emptyBlock b) g.blocks, ev := { g.ev with groups := [] } })) r) r

/-- A Byte mask without region r. -/
def clearBit (m : Byte) (r : Region) : Byte := m &&& ~~~mask8 r

/-- Region r enters Off: its tables are lost, PLN_LOADED and CLEAR_PENDING bits clear (R101, R400, R459). -/
def enterOff (s : State) (r : Region) : State :=
  let s := clearRegion s r
  { s with pln := { s.pln with regions := clearBit s.pln.regions r },
           rs := { s.rs with pendData := clearBit s.rs.pendData r, pendBasin := clearBit s.rs.pendBasin r } }

/-- What the end of a step does to region r. A CLEAR with the data flag clears the data space only (R458, R459). -/
def stepEffect (s : State) (r : Region) (b : Booked) : State :=
  match b.kind with
  | .clear =>
    if b.dataClear then
      let s := memZeroRegion s r
      { s with rs := { s.rs with pendData := clearBit s.rs.pendData r,
                                 clearing := if (rg s r).power.waking then s.rs.clearing else clearBit s.rs.clearing r } }
    else clearRegion s r
  | .basin =>
    let s := basinZeroRegion s r
    { s with rs := { s.rs with pendBasin := clearBit s.rs.pendBasin r } }
  | .clockOff => modPw s r (fun p => { p with st := .idle, down := false, ticks := 0 })
  | .periphOff => modPw s r (fun p => { p with st := .retain, down := false, ticks := 0 })
  | .arrayOff => enterOff (modPw s r (fun p => { p with st := .off, down := false, ticks := 0 })) r
  | .arrayOn => s
  | .periphOn => s
  | .periphInit => s
  | .settle => s
  | .clockOn => s

/-- Region r reaches Run from a wake (R107, R401, R419, R458, R479). The slot counter is 0, so a timetable that waits takes effect
(R105); slot 0 has its cycle first (R145). A new quota window starts (R150). -/
def reachRun (s : State) (r : Region) : State :=
  let s := modRg s r (fun g => resort
    { g with power := { g.power with st := .run, waking := false, ticks := 0 }
             arb := { g.arb with quotaUsed := Vector.replicate 32 0, eff := g.arb.regs }
             model := (fun m => { m with slot := 0, slotBad := false, fresh := true, target := if m.ttPending then m.sel else m.target, tt := (vget g.plan.descs (fin 64 m.active.toNat)).tt, ttPending := false
                                         switching := if m.ttPending then m.again else m.switching
                                         hold := if m.ttPending then m.again else m.hold
                                         again := m.again && !m.ttPending }) g.model })
  let s := { s with pwr := { s.pwr with wakeDone := s.pwr.wakeDone ||| mask8 r } }
  let s := countMs s [selOf 0x70 0, selOf 0x70 (8 + r.val)] 1
  if bit8 s.rs.wakeBasin r then
    let s := basinZeroRegion s r
    { s with rs := { s.rs with wakeBasin := clearBit s.rs.wakeBasin r } }
  else s

/-- The step b of region r has ended: its effect, and the state reached with the last step (R400-R402). -/
def endStep (s : State) (r : Region) (b : Booked) (rest : List Booked) : State :=
  let s := stepEffect (modPw s r (fun p => { p with steps := rest })) r b
  let p := (rg s r).power
  if !rest.isEmpty then s
  else if p.waking then reachRun s r
  else if p.again then wakeReq (modPw s r (fun p => { p with again := false })) r
  else s

/-- STAGED_STEP_END: the step of region r in progress ends (R402). -/
def execStagedStepEnd (r : Region) (s : State) : Host.Outcome State Fault Refusal :=
  match (rg s r).power.steps with
  | [] => skip s
  | b :: bs =>
    if !live s || !b.begun || decide (s.aon.sundial.toNat < b.stop / 1000) then skip s
    else finish (retryRegion (endStep s r b bs) r)

/-- The steps of region r that are booked to start or to end in the tick that ends have done so (R402, R403, R405). -/
def passSteps : Nat → State → Region → State
  | 0, s, _ => s
  | n + 1, s, r =>
    match (rg s r).power.steps with
    | [] => s
    | b :: bs =>
      if !b.begun then
        if b.start / 1000 ≤ s.aon.sundial.toNat then passSteps n (modPw s r (fun p => { p with steps := { b with begun := true } :: bs })) r
        else s
      else if b.stop / 1000 ≤ s.aon.sundial.toNat then passSteps n (retryRegion (endStep s r b bs) r) r
      else s

/-- STAGER_EDGE: a rising edge of sclk: the steps of the tick that ends are made, every Sundial advances, and the stagers act (R187,
R403-R405). -/
def execStagerEdge (s : State) : Host.Outcome State Fault Refusal :=
  if s.aon.rst || s.aon.lost then skip s
  else
    let s := if live s then (idx 8).foldl (passSteps 32) s else s
    let s := { s with aon := { s.aon with sundial := s.aon.sundial + 1 } }
    if !live s then finish s
    else finish ((idx 8).foldl tickPolicy (tickCounts (countM (edgeHalf (edgeHalf s 0) 1) 0x01 3 1)))

/-! ## The governor (R406, R407) -/

/-- PWR_CEILING of a half (R414). -/
def ceilReg (s : State) (h : Half) : Byte := if h = 0 then s.pwr.ceilW else s.pwr.ceilE

/-- GOVERNOR_INTERVAL: an interval of half h's governor ends (R406, R407, R414, R419, R479): PWR_CEILING takes effect, and CEIL_ACTIVE
shows whether the interval was limited for the ceiling. -/
def execGovernorInterval (h : Half) (s : State) : Host.Outcome State Fault Refusal :=
  if !clocked s h then skip s
  else
    let g := gov s h
    let act := g.limited && g.byCeil
    let rose := act && !(stager s h).ceilActive
    let s := modStager s h (fun st => { st with gov := endInterval s h, ceilEff := ceilReg s h, ceilActive := act })
    let s := { s with pwr := { s.pwr with ceiling := s.pwr.ceiling || rose } }
    finish (if act then countM s 0x74 h.val 1 else if g.limited then countM s 0x73 h.val 1 else s)

/-! ## Registers (R408, R413-R421) -/

/-- A management-port write of a power register. -/
def mgmtWrite (s : State) (port : RegPort) (f : State → State) : Host.Outcome State Fault Refusal :=
  if !portReady s port then skip s
  else if !isMgmt port then finish (busErr s port)
  else finish (f (ack s port))

/-- A write of PWR_WAKE (R401, R417). -/
def writeWake (s : State) (req hold : Byte) : State := wakeAll { s with pwr := { s.pwr with hold := hold } } (req ||| hold)

/-- PWR_WAKE_REQ. -/
def execPwrWakeReq (port : RegPort) (req hold : BitVec 8) (s : State) : Host.Outcome State Fault Refusal :=
  mgmtWrite s port (fun s => writeWake s req hold)

/-- PWR_WAKE_HOLD. -/
def execPwrWakeHold (port : RegPort) (hold req : BitVec 8) (s : State) : Host.Outcome State Fault Refusal :=
  mgmtWrite s port (fun s => writeWake s req hold)

/-- PWR_FCLK_WRITE: refused while that half's fclk_ok is 1 (R408, R415). -/
def execPwrFclkWrite (port : RegPort) (h : Half) (data : W32) (s : State) : Host.Outcome State Fault Refusal :=
  if !portReady s port then skip s
  else if !isMgmt port || vget s.pins.fclkOk h then finish (busErr s port)
  else
    let v : BitVec 10 := data.extractLsb' 0 10
    let good := decide (250 ≤ v.toNat) && decide (v.toNat ≤ 1000)
    finish (ack (if good then { s with pwr := { s.pwr with mhz := vset s.pwr.mhz h v } } else s) port)

/-- A policy register written (R15, R80, R421): 0 PWR_IDLE_AFTER, 1 PWR_RETAIN_AFTER, 2 PWR_OFF_AFTER, 3 PWR_POLICY. -/
def withPolicy (p : RPower) (which : Fin 4) (d : W32) : RPower :=
  if which = 0 then
    let v : BitVec 16 := d.extractLsb' 0 16
    if v = 0 ∨ 16 ≤ v.toNat then { p with idleAfter := v } else p
  else if which = 1 then { p with retainAfter := d }
  else if which = 2 then { p with offAfter := d }
  else { p with deepest := d.extractLsb' 0 2, rank := d.extractLsb' 4 3 }

/-- A policy applied: one whose DEEPEST is shallower than the state raises a wake request, and a downward step below DEEPEST is dropped
(R400). -/
def applyPolicy (s : State) (r : Region) : State :=
  let s := modPw s r boundDown
  let p := (rg s r).power
  if p.deepest.toNat < depth p.st then wakeReq s r else s

/-- POLICY_WRITE. -/
def execPolicyWrite (port : RegPort) (r : Region) (which : Fin 4) (data : W32) (s : State) : Host.Outcome State Fault Refusal :=
  mgmtWrite s port (fun s => applyPolicy (modPw s r (fun p => withPolicy p which data)) r)

end Sys2Proof.Machine
end

