-- ==== Sys2Proof/Machine/Events.lean ====
section
/-! DEFINITION. The event path: ingress, routing, the region entry, expansion, queues, step closes, egress, the Trellis
registers and the model switch (R103-R107, R162-R190). -/

namespace Sys2Proof.Machine

/-! ## Counting and tags -/

/-- RG_EV_COUNT i advances by n (R190). -/
def evCount (s : State) (r : Region) (i : Fin 5) (n : Nat) : State :=
  let v := vget (rg s r).ev.counts i
  countR (modEv s r (fun e =>
    { e with counts := vset e.counts i (v + BitVec.ofNat 32 n),
             countWrap := if 2 ^ 32 ≤ v.toNat + n then e.countWrap ||| BitVec.ofNat 5 (2 ^ i.val) else e.countWrap })) r (0x18 + i.val) 0 n

/-- A row-event, group or copy that carries tag n is still in region r. -/
def tagLive (g : RegionSt) (n : Nat) : Bool :=
  let has := fun (l : List RowEv) => l.any (fun x => x.tag == some n)
  g.ev.entry.any (fun c => c.tag == some n) || g.ev.arriving.any (fun c => c.tag == some n) || g.ev.groups.any (fun x => has x.rows) ||
    g.blocks.toList.any (fun b => has b.evq || has b.released || b.ring.toList.any has)

/-- The tag of a followed event is entered once nothing of its copy is left in region r (R488, R489). -/
def settleTag (s : State) (r : Region) (tag : Option Nat) : State :=
  match tag with
  | none => s
  | some n =>
    if tagLive (rg s r) n then s
    else
      match s.cnt.open_.find? (fun x => x.1 == n) with
      | none => s
      | some (_, port, reg, bl, k) =>
        putTag { s with cnt := { s.cnt with open_ := s.cnt.open_.filter (fun x => x.1 != n) } }
          (tagEntry s true (BitVec.ofNat 5 port.val) reg (match bl with | some b => BitVec.ofNat 5 b.val | none => 0) 0 0 0
            (fun i => decide (i ≤ k) || (i == 6 && k == 5)))

/-- The block of the first group of a followed event (R489). -/
def noteBlock (s : State) (tag : Option Nat) (b : Blk) : State :=
  match tag with
  | none => s
  | some n => { s with cnt := { s.cnt with open_ := s.cnt.open_.map (fun x =>
      if x.1 = n ∧ x.2.2.2.1 = none then (x.1, x.2.1, x.2.2.1, some b, x.2.2.2.2) else x) } }

/-! ## Ingress and routing (R38, R162-R165) -/

/-- The union of the regions of the enabled route entries that name SRC (R75). -/
def routeMask (m : AddrMap) (src : BitVec 24) : Byte :=
  m.routes.toList.foldl (fun acc e => if e.en && decide (e.lo.toNat ≤ src.toNat) && decide (src.toNat ≤ e.hi.toNat) then acc ||| e.regions else acc) 0

/-- The regions of a half, as a mask. -/
def halfMask (h : Half) : Byte := if h = 0 then 0x0F else 0xF0

/-- The releases whose step boundary half h has passed and whose close or STEP packet is still open (R176, R389). -/
def boundaryOf (s : State) (h : Half) : List Nat :=
  (idx 8).flatMap (fun r => if halfOf r = h then (rg s r).ev.closes.map (·.uid) else []) ++ (vget s.fb.steps h).map (·.1)

/-- The lowest region of a mask (R488). -/
def lowRegion (m : Byte) : Region := fin 8 (nthBit m 0)

/-- EVENT_INGRESS: an event transfers and is matched against the route entries (R38, R163, R488). -/
def execEventIngress (n : EvPort) (w : W64) (s : State) : Host.Outcome State Fault Refusal :=
  if !ingressReady s n then skip s
  else
    let h := evHalf n
    let m := routeMask s.map (evSrc w)
    let s := countM s 0x41 n.val 1
    let (s, tag) := if isCandidate s true n.val then candidate s else (s, false)
    if m = 0 then finish (countM s 0x40 0 1)
    else
      let t := s.cnt.nextTag
      let s := if tag then { s with cnt := { s.cnt with nextTag := t + 1, open_ := s.cnt.open_ ++ [(t, n, lowRegion m, none, 0)] } } else s
      let e : InEvent := ⟨w, m &&& halfMask h, m &&& halfMask (other h), boundaryOf s h, if tag then some t else none, lowRegion m⟩
      finish { s with ingress := vmod s.ingress n (· ++ [e]) }

/-- The half-crossbar source that is ingress port n (R153). -/
def ingressSrc (n : EvPort) : HSrc := ⟨4 + n.val % 4, by omega⟩

/-- The EVENTS packet of a copy, from ingress port n, for the other half (R385). -/
def copyPkt (e : InEvent) (n : EvPort) : Packet :=
  let m : BitVec 4 := if evHalf n = 0 then e.far.extractLsb' 4 4 else e.far.extractLsb' 0 4
  { packet0 0xB with via := ingressSrc n, events := [0#11 ++ m ++ 0#1 ++ e.ev],
                     first := match e.tag with | some n => if bit8 e.far e.tagRegion then n + 1 else 0 | none => 0 }

/-- The head of an ingress buffer after one of its copies has been placed; it leaves when none is left (R164). -/
def placedHead (l : List InEvent) (near far : Byte) : List InEvent :=
  match l with
  | [] => []
  | e :: es => let e := { e with near := e.near &&& near, far := e.far &&& far }; if e.near = 0 ∧ e.far = 0 then es else e :: es

/-- COPY_PLACED: a copy of the event at the head of port n's buffer is placed: at a region of its half when it is the port's turn at
that output of the half crossbar, or in the message queue for the far half (R153, R164, R165). A half-crossbar flit that fails
parity is not used. -/
def execCopyPlaced (n : EvPort) (dst : CopyDst) (bad : Bool) (s : State) : Host.Outcome State Fault Refusal :=
  let h := evHalf n
  if !clocked s h || frozen s h then skip s
  else
    match vget s.ingress n with
    | [] => skip s
    | e :: _ =>
      match dst with
      | .region r =>
        if !mayPlace s r e || hTurn s r != some (ingressSrc n) then skip s
        else if bad then finish (halfFault s h 0x10 0 (BitVec.ofNat 32 (r.val % 4)))
        else
          let tag := if e.tagRegion = r then e.tag else none
          let s := modEv s r (fun x => { x with arriving := x.arriving ++ [⟨e.ev, tag⟩] })
          let s := modRg s r (fun g => { g with arb := { g.arb with hlast := ingressSrc n } })
          finish (flushSteps { s with ingress := vmod s.ingress n (fun l => placedHead l (~~~mask8 r) 0xFF) } h)
      | .seam =>
        if e.far = 0 || (vget s.fb.steps h).any (fun x => e.post.contains x.1) then skip s
        else if bad then finish (halfFault s h 0x10 0 9)
        else
          let s := sendPkt s h (copyPkt e n)
          finish (flushSteps { s with ingress := vmod s.ingress n (fun l => placedHead l 0xFF 0) } h)

/-! ## The region entry (R166-R168) -/

/-- COPY_AT_ENTRY: the oldest copy on its way reaches the entry of region r, also while the entry is held (R166, R167). -/
def execCopyAtEntry (r : Region) (s : State) : Host.Outcome State Fault Refusal :=
  if !clocked s (halfOf r) then skip s
  else
    match (rg s r).ev.arriving with
    | [] => skip s
    | c :: cs =>
      let s := modEv s r (fun x => { x with arriving := cs })
      let take := fun (s : State) => evCount (modEv (markTag s c.tag 1) r (fun x => { x with entry := x.entry ++ [c] })) r 0 1
      if inRun s r then finish (wakeReq (take s) r)
      else if loadingR s r then finish (take s)
      else if !planned s r then finish (settleTag (evCount s r 1 1) r c.tag)
      else if evNoWake c.ev then finish (settleTag (evCount s r 2 1) r c.tag)
      else finish (wakeReq (take s) r)

/-- The region entry is held: the region wakes, or a copy waits for it to reach Run, a load includes it, a model switch or
RG_EV_CTRL holds it, or freeze is in force (R166, R168). -/
def entryHeld (s : State) (r : Region) : Bool :=
  (rg s r).power.waking || (!inRun s r && !(rg s r).ev.entry.isEmpty) || loadingR s r || (rg s r).model.hold || (rg s r).ev.hold || frozen s (halfOf r)

/-- ENTRY_HOLD: a write of RG_EV_CTRL (R188). -/
def execEntryHold (port : RegPort) (r : Region) (v : Bool) (s : State) : Host.Outcome State Fault Refusal :=
  writeReg s port r (fun s => modEv s r (fun e => { e with hold := v }))

/-! ## Expansion (R86, R170-R174, R178) -/

/-- The rows of a group (R170, R172). -/
def groupRows (e : EntryWord) (c : Copy) : List RowEv :=
  (List.range e.rowCount).map (fun i => ⟨e.rowBase, i, e.seg, e.wfmt, e.shift, evMag c.ev, evNeg c.ev, false, c.tag⟩)

/-- Row-events in the delay ring of a block, released ones included (R178). -/
def ringCount (b : Block) : Nat := b.ring.toList.foldl (fun n l => n + l.length) b.released.length

/-- One entry word expanded in epoch E (R172, R178). -/
def expandWord (s : State) (r : Region) (c : Copy) (w : W64) : State :=
  let e := entryFields w
  let delay := if evNoDelay c.ev then 0 else e.delay
  let rows := groupRows e c
  let s := noteBlock s c.tag e.block
  if fenced s r e.block then evCount s r 3 rows.length
  else if delay = 0 then modEv s r (fun x => { x with groups := x.groups ++ [⟨e.block, rows⟩] })
  else if ringCount (blk s r e.block) + rows.length ≤ 1024 then
    modBlk s r e.block (fun b => { b with ring := vmod b.ring (fin 16 ((rg s r).ev.epoch.toNat + delay)) (· ++ rows) })
  else evCount (modEv s r (fun x => { x with ringFull := true })) r 4 rows.length

/-- The index entry of a copy under the active descriptor (R86); none where nothing is expanded. -/
def indexOf (s : State) (r : Region) (c : Copy) : Option Nat :=
  let d := vget (rg s r).plan.descs (fin 64 (rg s r).model.active.toNat)
  let src := (evSrc c.ev).toNat
  if planned s r && d.valid && decide (d.srcBase.toNat ≤ src) && decide (src < d.srcBase.toNat + d.indexCount.toNat) then
    some (d.indexBase.toNat + (src - d.srcBase.toNat))
  else none

/-- The first k entry words of an index entry, in order (R172). -/
def expandRun (s : State) (r : Region) (c : Copy) (first k : Nat) : State :=
  (List.range k).foldl (fun s j => expandWord s r c (tget 0 (rg s r).plan.entry ((first + j) % 131072))) s

/-- EXPAND_COPY: the expansion stage takes the oldest copy and expands it (R172-R174). -/
def execExpandCopy (r : Region) (chk : ExpandChk) (s : State) : Host.Outcome State Fault Refusal :=
  if !clocked s (halfOf r) || entryHeld s r || !(rg s r).ev.groups.isEmpty then skip s
  else
    match (rg s r).ev.entry with
    | [] => skip s
    | c :: cs =>
      let s1 := modEv (markTag s c.tag 2) r (fun x => { x with entry := cs })
      match indexOf s r c with
      | none => finish (settleTag (evCount s1 r 1 1) r c.tag)
      | some i =>
        let ix := tget 0 (rg s r).plan.index i
        match chk with
        | .xbarParity out => finish (regionFault s r 0x0A (out.setWidth 32))
        | .index => finish (settleTag (regionFault s1 r 8 ((1 : W32) <<< 31 ||| BitVec.ofNat 32 i)) r c.tag)
        | .good => finish (settleTag (expandRun s1 r c (indexFirst ix) (indexCount ix)) r c.tag)
        | .entry j =>
          if j < indexCount ix then
            finish (settleTag (regionFault (expandRun s1 r c (indexFirst ix) j) r 8 (BitVec.ofNat 32 ((indexFirst ix + j) % 131072))) r c.tag)
          else finish (settleTag (expandRun s1 r c (indexFirst ix) (indexCount ix)) r c.tag)

/-- The event entry has been served at the crossbar's output to block b (R149, R151). -/
def entryServed (s : State) (r : Region) (b : Blk) : State :=
  modBlk (modRg s r (fun g => { g with arb := { g.arb with starve := vset g.arb.starve 5 0 } })) r b (fun x => { x with rrLast := 5 })

/-- GROUP_TO_QUEUE: the oldest group is placed when its block's queue has room for all of it and no released row waits (R174, R175,
R178), and the event entry has its turn at the crossbar's output to that block (R149). -/
def execGroupToQueue (r : Region) (s : State) : Host.Outcome State Fault Refusal :=
  if !clocked s (halfOf r) || !inRun s r || frozen s (halfOf r) then skip s
  else
    match (rg s r).ev.groups with
    | [] => skip s
    | g :: gs =>
      let s1 := entryServed (modEv s r (fun x => { x with groups := gs })) r g.block
      let tag := (g.rows.head?).bind (·.tag)
      if xbarTurn s r g.block != some 5 then skip s
      else if fenced s r g.block then finish (settleTag (evCount s1 r 3 g.rows.length) r tag)
      else finish (modBlk (markRows s1 g.rows) r g.block (fun b => { b with evq := b.evq ++ g.rows }))

/-- Released rows enter the event queue as far as it has places (R178). -/
def releaseRows (x : Block) : Block :=
  let n := 256 - x.evq.length
  { x with evq := x.evq ++ x.released.take n, released := x.released.drop n }

/-- RING_ROWS_TO_QUEUE: released rows enter the event queue as places free (R178). -/
def execRingRowsToQueue (r : Region) (b : Blk) (s : State) : Host.Outcome State Fault Refusal :=
  if !clocked s (halfOf r) || !inRun s r || frozen s (halfOf r) then skip s
  else
    let x := blk s r b
    if x.released.isEmpty || decide (256 ≤ x.evq.length) then skip s
    else finish (modBlk (markRows s (x.released.take (256 - x.evq.length))) r b releaseRows)

/-! ## Step closes (R176-R178, R218-R221, R304) -/

/-- The close of region r in progress, at this place. -/
def closeAt (s : State) (r : Region) (k : CloseStep) : Option Close :=
  match (rg s r).ev.closes with
  | c :: _ => if c.at_ = k then some c else none
  | [] => none

/-- The place of the close in progress changed. -/
def moveClose (s : State) (r : Region) (k : CloseStep) : State :=
  modEv s r (fun e => { e with closes := match e.closes with | c :: cs => { c with at_ := k } :: cs | [] => [] })

/-- A pre-boundary event of region r's own half still has a copy to place there (R176). -/
def preNear (s : State) (r : Region) (uid : Nat) : Bool :=
  (idx 8).any (fun n => evHalf n == halfOf r && (vget s.ingress n).any (fun e => bit8 e.near r && !e.post.contains uid))

/-- The region works on its step close: clock, Run, no load, no freeze. -/
def stepOpen (s : State) (r : Region) : Bool := pathOpen s r && !frozen s (halfOf r)

/-- STEP_ENTRY_COMPLETE: step 2 ends (R176, R389). -/
def execStepEntryComplete (r : Region) (s : State) : Host.Outcome State Fault Refusal :=
  if !stepOpen s r then skip s
  else
    match closeAt s r .entry with
    | none => skip s
    | some c =>
      if (rg s r).ev.stepsSeen.contains c.uid && (rg s r).ev.arriving.isEmpty && !preNear s r c.uid then finish (moveClose s r .drain)
      else skip s

/-- The sweep that block b runs at step 4 (R218), and whether instruction 0 is malformed. -/
def sweepFor (s : State) (r : Region) (b : Blk) : Option Sweep × Bool :=
  let g := rg s r
  let d := vget g.plan.descs (fin 64 g.model.active.toNat)
  let w := tget 0 (vget g.blocks b).store (32 * d.prog.val)
  if !planned s r || !d.valid || fenced s r b || w == 0 then (none, false)
  else if sweepOp 0 w = .range then
    (some ⟨d.prog, g.ev.epoch, 0, 0, none, Vector.replicate 512 0, 0, [], false⟩, false)
  else (none, true)

/-- Block b reads instruction 0 of its program at step 4 (R218, R222). -/
def readsFirst (s : State) (r : Region) (b : Blk) : Bool :=
  planned s r && (vget (rg s r).plan.descs (fin 64 (rg s r).model.active.toNat)).valid && !fenced s r b

/-- Instruction 0 of block b fails its parity where the block reads it: the block stops and runs no sweep (R222, R452). -/
def firstFault (s : State) (r : Region) (bad : Option Blk) : State :=
  match bad with
  | none => s
  | some b =>
    if readsFirst s r b then
      let w : W32 := BitVec.ofNat 32 (32 * (vget (rg s r).plan.descs (fin 64 (rg s r).model.active.toNat)).prog.val)
      modBlk (blockFault s r b 4 1 0 w) r b (fun x => { x with halted := true, sweep := none })
    else s

/-- Step 4 begins: the blocks' sweeps start (R176, R218). -/
def startSweeps (s : State) (r : Region) : State :=
  let bad := (idx 32).any (fun b => (sweepFor s r b).2)
  let ran := (idx 32).any (fun b => (sweepFor s r b).1.isSome)
  let prog := (vget (rg s r).plan.descs (fin 64 (rg s r).model.active.toNat)).prog
  let sw := fun b => (sweepFor s r b).1
  modRg s r (fun g => { g with blocks := vmap (fun b x => { x with sweep := sw b }) g.blocks,
                               sweep := { g.sweep with badProg := g.sweep.badProg || bad,
                                                       lastProg := if ran then prog else g.sweep.lastProg } })

/-- The queues of a region are empty (R176 step 3). -/
def queuesEmpty (g : RegionSt) : Bool :=
  g.ev.entry.isEmpty && g.ev.groups.isEmpty && g.blocks.toList.all (fun b => b.evq.isEmpty && b.released.isEmpty)

/-- STEP_DRAINED: step 3 ends and the sweeps start (R176, R218, R219), each block reading its instruction 0 (R222). -/
def execStepDrained (r : Region) (s : State) (bad : Option Blk := none) : Host.Outcome State Fault Refusal :=
  if !stepOpen s r then skip s
  else
    match closeAt s r .drain with
    | none => skip s
    | some _ => if queuesEmpty (rg s r) then finish (firstFault (startSweeps (moveClose s r .sweep) r) r bad) else skip s

/-- A sweep of the region is still running. -/
def sweeping (g : RegionSt) : Bool := g.blocks.toList.any (fun b => match b.sweep with | some w => !w.ended | none => false)

/-- CYCLES of RG_SWEEP_LAST at the end of a step 4 in which a sweep ran: the number of cycles is a free value (R242, log entry 7). -/
def sweepLength (s : State) (r : Region) : State :=
  if (rg s r).blocks.toList.any (fun b => b.sweep.isSome) then modRg s r (fun g => { g with sweep := { g.sweep with cycles := fv s 1 24 } })
  else s

/-- Steps 5 to 7: the epoch advances, each block's bin is released into its event queue, the entry reopens (R176, R178, R179,
R187). -/
def advanceEpoch (s : State) (r : Region) (c : Close) : State :=
  let e := (rg s r).ev.epoch + 1
  let bin : Fin 16 := fin 16 e.toNat
  let enter := (rg s r).blocks.toList.flatMap (fun b => (b.released ++ vget b.ring bin).take (256 - b.evq.length))
  modRg (markRows s enter) r (fun g =>
    { g with
      blocks := vmap (fun _ b => releaseRows { b with sweep := none, released := b.released ++ vget b.ring bin, ring := vset b.ring bin [] }) g.blocks
      ev := { g.ev with epoch := e, epochWrap := g.ev.epochWrap || e == 0, stepTime := s.aon.sundial,
                        closes := g.ev.closes.drop 1, stepsSeen := g.ev.stepsSeen.filter (· != c.uid) } })

/-- The sweep completion reaches the Bandstand: at once from the West, in CONTROL from the East (R221, R389). -/
def reportSweep (s : State) (r : Region) (c : Close) : State :=
  if halfOf r = 0 then sweepReport s c.bar c.uid r else sendCtl s 1 (.sweepDone r c.bar c.uid)

/-- STEP_SWEEPS_DONE: step 4 ends; the epoch advances (R176, R221). -/
def execStepSweepsDone (r : Region) (s : State) : Host.Outcome State Fault Refusal :=
  if !stepOpen s r then skip s
  else
    match closeAt s r .sweep with
    | none => skip s
    | some c =>
      if sweeping (rg s r) then skip s
      else finishSync (retryRegion (countR (reportSweep (advanceEpoch (sweepLength s r) r c) r c) r 0x2F 0 1) r)

/-! ## Egress (R39, R185, R235) -/

/-- An output event joins the buffer of egress port n, which presents it when it is the first (R39, R185). -/
def toEgress (s : State) (n : EvPort) (w : W64) : State :=
  { s with egress := vmod s.egress n (fun x => { x with buf := x.buf ++ [w], presented := x.presented || !frozen s (evHalf n) }) }

/-- The EVENTS packet of an output event of region r (R385). -/
def outputPkt (r : Region) (n : EvPort) (w : W64) : Packet := { packet0 0xB with via := linkSrc r, events := [0#12 ++ BitVec.ofNat 3 n.val ++ 1#1 ++ w] }

/-- The egress port of block b of region r (R76). -/
def egressOf (s : State) (r : Region) (b : Blk) : EvPort := fin 8 (vget s.map.egress (fin 256 (32 * r.val + b.val))).toNat

/-- An output of half h to which emitted events go (R153): an egress port of the half, or its seam endpoint for a port of the other. -/
def sameOut (h : Half) (n m : EvPort) : Bool := if evHalf n = h then n == m else evHalf m != h

/-- Block j of the 256, in half h, has an event for the same output as egress port n (R153, R185). -/
def emitWaits (s : State) (h : Half) (n : EvPort) (j : Fin 256) : Bool :=
  let r : Region := fin 8 (j.val / 32)
  let b : Blk := fin 32 j.val
  halfOf r == h && !(blk s r b).emits.isEmpty && sameOut h n (egressOf s r b)

/-- The block served last at that output. -/
def lastEmit (s : State) (h : Half) (n : EvPort) : Fin 256 := if evHalf n = h then (vget s.egress n).last else (dir s h).elast

/-- It is block j's turn at its output: blocks with events for it are served in round robin (R153, R185). -/
def emitTurn (s : State) (h : Half) (n : EvPort) (j : Fin 256) : Bool :=
  ((List.range 256).map (fun i => fin 256 ((lastEmit s h n).val + 1 + i))).find? (emitWaits s h n) == some j

/-- Block j has been served at its output. -/
def emitServed (s : State) (h : Half) (n : EvPort) (j : Fin 256) : State :=
  if evHalf n = h then { s with egress := vmod s.egress n (fun x => { x with last := j }) } else modDir s h (fun x => { x with elast := j })

/-- EMIT_BUFFER_PASS: the oldest event of block b's emit buffer moves towards its egress port, in its turn among the blocks (R76,
R153, R185, R235). -/
def execEmitBufferPass (r : Region) (b : Blk) (bad : Bool) (s : State) : Host.Outcome State Fault Refusal :=
  let h := halfOf r
  if !clocked s h || frozen s h then skip s
  else
    match (blk s r b).emits with
    | [] => skip s
    | w :: ws =>
      let n := egressOf s r b
      let j : Fin 256 := fin 256 (32 * r.val + b.val)
      let s1 := modBlk (emitServed s h n j) r b (fun x => { x with emits := ws })
      if !emitTurn s h n j then skip s
      else if evHalf n = h then
        if 16 ≤ (vget s.egress n).buf.length then skip s
        else if bad then finish (halfFault s h 0x10 0 (BitVec.ofNat 32 (5 + n.val % 4)))
        else finish (toEgress s1 n w)
      else if bad then finish (halfFault s h 0x10 0 9)
      else finish (sendPkt s1 h (outputPkt r n w))

/-- EGRESS_EVENT_TAKEN: the host takes the presented event (R39). -/
def execEgressEventTaken (n : EvPort) (s : State) : Host.Outcome State Fault Refusal :=
  if !clocked s (evHalf n) || !(vget s.egress n).presented || (vget s.egress n).buf.isEmpty then skip s
  else
    let rest := (vget s.egress n).buf.drop 1
    finish (countM { s with egress := vmod s.egress n (fun x => { x with buf := rest, presented := !rest.isEmpty && !frozen s (evHalf n) }) } 0x42 n.val 1)

/-! ## Model selection (R103-R107) -/

/-- Descriptor k of a region. -/
def descOf (g : RegionSt) (k : BitVec 6) : Desc := vget g.plan.descs (fin 64 k.toNat)

/-- What a write of DESC does (R103, R105, R107). Out of Run it sets ACTIVE, and a switch that had not completed ends with it; a region
whose step down from Run is in progress counts as out of Run (log entry 90). -/
def selectModel (s : State) (r : Region) (k : BitVec 6) : State :=
  let d := descOf (rg s r) k
  modRg s r (fun g =>
    let m := g.model
    if !d.valid then { g with model := { m with invalid := true } }
    else if g.power.st != .run || g.power.down then resort { g with model := { m with sel := k, target := k, active := k, tt := d.tt, ttPending := false, switching := false, hold := false, again := false } }
    else if m.switching then { g with model := { m with sel := k, again := true } }
    else { g with model := { m with sel := k, target := k, switching := true, hold := true } })

/-- MODEL_SWITCH: a write of RG_MODEL_SEL (R103). -/
def execModelSwitch (port : RegPort) (r : Region) (data : W32) (s : State) : Host.Outcome State Fault Refusal :=
  if !portReady s port then skip s
  else if loadingR s r then finish (busErr s port)
  else finish (ack (selectModel s r (data.extractLsb' 0 6)) port)

/-- Steps 2 and 3 of a switch (R105): ACTIVE takes the switch's descriptor and the hold ends; a different timetable waits for slot 0.
A held write starts the next switch, to the last value written (R107). -/
def completeSwitch (g : RegionSt) : RegionSt :=
  let m := g.model
  let d := descOf g m.target
  if d.tt = m.tt then
    { g with model := { m with active := m.target, target := m.sel, switching := m.again, hold := m.again, again := false, ttPending := false } }
  else { g with model := { m with active := m.target, hold := false, ttPending := true } }

/-- MODEL_SWITCH_COMPLETE (R105). -/
def execModelSwitchComplete (r : Region) (s : State) : Host.Outcome State Fault Refusal :=
  let g := rg s r
  if !stepOpen s r || !g.model.switching || !g.model.hold || !g.ev.groups.isEmpty || sweeping g then skip s
  else finish (modRg s r completeSwitch)

/-! ## The Trellis registers (R180-R184) -/

/-- TRELLIS_DATA_WRITE. -/
def execTrellisDataWrite (port : RegPort) (r : Region) (data : W64) (s : State) : Host.Outcome State Fault Refusal :=
  if !portReady s port then skip s else finish (trWrite (wideWrite s port data) port r data)
/-- TRELLIS_DATA_READ. -/
def execTrellisDataRead (port : RegPort) (r : Region) (bad : Bool) (s : State) : Host.Outcome State Fault Refusal :=
  if !portReady s port then skip s else finish (trRead (wideRead s port) port r bad)
/-- TRELLIS_DELAY_WRITE. -/
def execTrellisDelayWrite (port : RegPort) (r : Region) (data : W32) (s : State) : Host.Outcome State Fault Refusal :=
  if !portReady s port then skip s else finish (trDelay s port r data)

end Sys2Proof.Machine
end

