-- ==== Sys2Proof/Machine/Select.lean ====
section
/-! DEFINITION. Which counter selects are encodings of R479 (R478). -/

namespace Sys2Proof.Machine

/-- The kind of a counter (R477). -/
inductive CntKind where
  | block
  | region
  | whole
  deriving DecidableEq, Repr

/-- A block event and its ARG are listed (R479). -/
def blockSel (e a : Nat) : Bool :=
  if e = 0x10 then decide (a < 4)
  else if 0x0C ≤ e ∧ e ≤ 0x0F then a == 0 || (decide (8 ≤ a) && decide (a ≤ 15))
  else a == 0 && (e == 0x01 || (decide (0x08 ≤ e) && decide (e ≤ 0x0B)) || (decide (0x11 ≤ e) && decide (e ≤ 0x13)) ||
    e == 0x1D || e == 0x1E || (decide (0x20 ≤ e) && decide (e ≤ 0x24)) || (decide (0x28 ≤ e) && decide (e ≤ 0x2E)))

/-- A region event and its ARG are listed (R479). -/
def regionSel (e a : Nat) : Bool :=
  blockSel e a || (a == 0 && ((decide (0x18 ≤ e) && decide (e ≤ 0x1C)) || e == 0x1F || e == 0x2F))

/-- The number of ARGs of a macro event, 0 for one that is not listed (R479). -/
def wholeArgs (e : Nat) : Nat :=
  if e = 0x01 then 4
  else if e = 0x40 || e = 0x62 then 1
  else if e = 0x41 || e = 0x42 || e = 0x58 || e = 0x68 || e = 0x69 then 8
  else if e = 0x43 || e = 0x44 then 32
  else if 0x48 ≤ e ∧ e ≤ 0x4A then 256
  else if 0x50 ≤ e ∧ e ≤ 0x57 then 2
  else if e = 0x60 || e = 0x61 then 12
  else if e = 0x63 then 64
  else if e = 0x6A || e = 0x6B then 2
  else if 0x71 ≤ e ∧ e ≤ 0x74 then 2
  else 0

/-- A macro event and its ARG are listed (R479). -/
def wholeSel (e a : Nat) : Bool :=
  if e = 0x70 then a == 0 || (decide (8 ≤ a) && decide (a ≤ 15)) else decide (a < wholeArgs e)

/-- Select v is no reserved encoding in counter i of this kind (R478). -/
def selOk (k : CntKind) (i : Nat) (v : BitVec 16) : Bool :=
  let e := (v.extractLsb' 0 7).toNat
  let a := (v.extractLsb' 7 9).toNat
  if v = 0 then true
  else if e = 0x7F then a == 0 && i % 2 == 1
  else
    match k with
    | .block => blockSel e a
    | .region => regionSel e a
    | .whole => wholeSel e a

end Sys2Proof.Machine
end

