-- ==== Sys2Proof/Machine/Sluice.lean ====
section
/-! DEFINITION. The Sluice (R346-R362). -/

namespace Sys2Proof.Machine

/-- The index of port p and class c in the credit and budget files (R77, R360). -/
def sluIdx (p : EPort) (c : Fin 8) : Fin 256 := ⟨8 * p.val + c.val, by omega⟩

/-- The class of logical address a: the enabled class whose range contains it, else 7 (R346). -/
def classOf (t : SluTab) (a : Nat) : Fin 8 :=
  match (idx 7).find? (fun c =>
      let x := vget t.cls c
      x.en && decide (x.base.toNat * 65536 ≤ a) && decide (a < x.limit.toNat * 65536)) with
  | some c => ⟨c.val, by omega⟩
  | none => 7

/-- The charge of a request (R347). -/
def chargeOf : ReqOp → ReqF → Nat
  | .read, q => beatsOf q
  | .write, q => beatsOf q
  | .atom _, _ => 1
  | .sem, _ => 0
  | .doorbell, _ => 0
  | .reserved _, _ => 0

/-- X[u] (R351). -/
def urgExtra (t : SluTab) (u : BitVec 2) : Nat :=
  if u = 0 then 0 else if u = 1 then t.extra1.toNat else if u = 2 then t.extra2.toNat else t.extra3.toNat

/-- The oldest unreleased request of a port (R351). -/
def sluiceHead (x : PortSt) : Option EReq := x.reqs.find? (fun e => e.stage == .sluice)

/-- A released signal reaches its hold: at once for a West port, in a SIGNAL packet for an East one (R294, R388). -/
def sendSignal (s : State) (p : EPort) (e : EReq) : State :=
  let word : W64 := match e.got.head? with | some b => b.data.extractLsb' 0 64 | none => 0
  let scope : BitVec 2 := e.q.addr.extractLsb' 27 2
  let h : Held := ⟨e.seq, e.op == .doorbell, e.q.addr, word, scope, e.stamp, e.stampAll⟩
  let s := modReq s p e.seq (fun y => { y with stage := .signal })
  if portHalf p = 0 then modEp s p (fun x => { x with held := x.held ++ [h] })
  else
    sendPkt s 1 { packet0 6 with via := linkSrc (portRegion p), src := BitVec.ofNat 6 p.val, tag := e.q.id.setWidth 12, op := opCode e.op, addr := e.q.addr,
                                 scope := scope, word := word, stamp := e.stamp, ref := some (.engine p e.seq) }

/-- A released request leaves its Sluice stage (R137). -/
def launch (s : State) (p : EPort) (e : EReq) : State :=
  if isSignal e.op then sendSignal s p e
  else if e.q.mgrp ≠ 0 then joinGather s p e
  else modReq s p e.seq (fun y => { y with stage := .sent })

/-- The counts of a release of n beats in class c (R361, R362, R479). -/
def countRelease (s : State) (p : EPort) (c : Fin 8) (n : Nat) : State :=
  let i := sluIdx p c
  let b := vget s.slu.beats c
  let s := { s with slu := { s.slu with
    acc := vmod s.slu.acc i (· + n)
    beats := vset s.slu.beats c (b + BitVec.ofNat 32 n)
    beatsWrap := if 2 ^ 32 ≤ b.toNat + n then s.slu.beatsWrap ||| BitVec.ofNat 8 (2 ^ c.val) else s.slu.beatsWrap } }
  countM (countM s 0x43 p.val n) 0x4A i.val n

/-- A head of class c is held in this cycle (R359, R362). -/
def countHeld (s : State) (p : EPort) (c : Fin 8) : State :=
  let v := vget s.slu.heldCnt c + 1
  countM { s with slu := { s.slu with
    heldNow := s.slu.heldNow ||| mask32 p
    heldCnt := vset s.slu.heldCnt c v
    heldWrap := if v = 0 then s.slu.heldWrap ||| BitVec.ofNat 8 (2 ^ c.val) else s.slu.heldWrap } } 0x48 (sluIdx p c).val 1

/-- The head is released with charge n in class c, its budget b (R351, R353). -/
def releaseHead (s : State) (p : EPort) (e : EReq) (c : Fin 8) (n : Nat) (budget : Bool) : State :=
  let i := sluIdx p c
  let cr := vget s.slu.credit i
  let s := { s with slu := { s.slu with heldNow := s.slu.heldNow &&& ~~~mask32 p } }
  let s := if n = 0 then s else countRelease s p c n
  let s :=
    if budget then
      let s := { s with slu := { s.slu with credit := vset s.slu.credit i (cr - n), urgent := s.slu.urgent || decide (cr ≤ 0) } }
      if cr ≤ 0 then countM s 0x49 i.val 1 else s
    else s
  launch (modReq s p e.seq (fun y => { y with mark := 1 })) p e

/-- The head leaves with an error answer (R351). -/
def rejectHead (s : State) (p : EPort) (e : EReq) (code : BitVec 3) : State :=
  answerAll { s with slu := { s.slu with heldNow := s.slu.heldNow &&& ~~~mask32 p } } p e.seq code

/-- The test of the head of port p in one cycle (R351, R355). -/
def sluiceTest (s : State) (p : EPort) (e : EReq) (urg : BitVec 2) : State :=
  let t := vget s.slu.eff (portHalf p)
  let c := classOf t (e.q.addr.toNat % 2 ^ 27)
  let b := vget t.budget (sluIdx p c)
  let n := chargeOf e.op e.q
  if closed s (portHalf p) || e.broke then rejectHead s p e frozenC
  else if requestBad e.op e.q e.got.head? || multicastBad s p e.q then rejectHead s p e decodeC
  else if n = 0 then releaseHead s p e c 0 false
  else if b = 0 then rejectHead s p e barredC
  else if b = 0xFFFF then releaseHead s p e c n false
  else if -(urgExtra t urg : Int) < vget s.slu.credit (sluIdx p c) then releaseHead s p e c n true
  else countHeld s p c

/-- A request whose one write data beat has not passed the channel yet is not tested: its beat may break R111 or R115 (log entry 10). -/
def awaitsBeat (e : EReq) : Bool := !e.carry.isEmpty

/-- SLUICE_RELEASE: the test of R351 on the head of port p, with the value of urg in this cycle (R353); the released requests go
on (R137). -/
def execSluiceRelease (p : EPort) (urg : BitVec 2) (s : State) : Host.Outcome State Fault Refusal :=
  if !clocked s (portHalf p) then skip s
  else
    match sluiceHead (ep s p) with
    | none => finish (pumpPort s p)
    | some e => if awaitsBeat e then finish (pumpPort s p) else finish (pumpPort (sluiceTest s p e urg) p)

/-- A budget that keeps a credit (R349). -/
def hasCredit (b : BitVec 16) : Bool := b != 0 && b != 0xFFFF

/-- The credits of half h refilled with the budgets in effect (R349). -/
def refill (v : Vector Int 256) (t : SluTab) (h : Half) : Vector Int 256 :=
  vmap (fun i c => if portHalf ⟨i.val / 8, by omega⟩ = h then
      (if hasCredit (vget t.budget i) then min (c + (vget t.budget i).toNat) (vget t.budget i).toNat else 0) else c) v

/-- Every credit set to its budget (R349). -/
def fullCredit (t : Vector SluTab 2) : Vector Int 256 :=
  Vector.ofFn (fun i =>
    let b := vget (vget t (portHalf ⟨i.val / 8, by omega⟩)).budget i
    if hasCredit b then (b.toNat : Int) else 0)

/-- A count in SLU_USED: saturating at 0xFFFF (R361). -/
def usedOf (n : Nat) : BitVec 16 := BitVec.ofNat 16 (min n 0xFFFF)

/-- SLUICE_WINDOW_BOUNDARY: a window of half h ends (R348, R349, R354, R361, log entry 3). -/
def execSluiceWindowBoundary (h : Half) (s : State) : Host.Outcome State Fault Refusal :=
  if !clocked s h then skip s
  else
    let t := s.slu.regs
    let mine := fun (i : Fin 256) => portHalf ⟨i.val / 8, by omega⟩ == h
    finish { s with slu := { s.slu with
      eff := vset s.slu.eff h t
      credit := refill s.slu.credit t h
      used := vmap (fun i u => if mine i then usedOf (vget s.slu.acc i) else u) s.slu.used
      acc := vmap (fun i a => if mine i then 0 else a) s.slu.acc } }

/-- The ranges of two classes overlap. -/
def overlaps (a b : SluClass) : Bool := decide (a.base.toNat < b.limit.toNat) && decide (b.base.toNat < a.limit.toNat)

/-- The class may be enabled (R354). -/
def mayEnable (t : SluTab) (c : Fin 7) : Bool :=
  let x := vget t.cls c
  decide (x.base.toNat < x.limit.toNat) && (idx 7).all (fun d => d == c || !(vget t.cls d).en || !overlaps x (vget t.cls d))

/-- A budget after a write; 1,025 to 0xFFFE keep the old value (R354). -/
def budgetAfter (old new : BitVec 16) : BitVec 16 := if 1024 < new.toNat ∧ new.toNat < 0xFFFF then old else new

/-- A write of a Sluice register (R354, R356, R357, R360); none where it is refused. -/
def writeSlu (t : SluTab) (reg : SluReg) (d : W32) : Option SluTab :=
  match reg with
  | .base c => if (vget t.cls c).en then none else some { t with cls := vmod t.cls c (fun x => { x with base := d.extractLsb' 16 11 }) }
  | .limit c =>
    if (vget t.cls c).en then none
    else
      let l : BitVec 12 := d.extractLsb' 16 12
      some { t with cls := vmod t.cls c (fun x => { x with limit := if 0x800 < l.toNat then x.limit else l }) }
  | .ctrl c =>
    if d.getLsbD 0 && !mayEnable t c then none else some { t with cls := vmod t.cls c (fun x => { x with en := d.getLsbD 0 }) }
  | .urgency => some { t with extra1 := d.extractLsb' 0 10, extra2 := d.extractLsb' 10 10, extra3 := d.extractLsb' 20 10 }
  | .budget k =>
    let lo : Fin 256 := ⟨2 * k.val, by omega⟩
    let hi : Fin 256 := ⟨2 * k.val + 1, by omega⟩
    some { t with budget := vmod (vmod t.budget lo (fun b => budgetAfter b (d.extractLsb' 0 16))) hi (fun b => budgetAfter b (d.extractLsb' 16 16)) }

/-- SLUICE_CONFIG_WRITE (R354). -/
def execSluiceConfigWrite (port : RegPort) (reg : SluReg) (data : W32) (s : State) : Host.Outcome State Fault Refusal :=
  if !portReady s port then skip s
  else
    match writeSlu s.slu.regs reg data with
    | none => finish (busErr s port)
    | some t => finish (ack { s with slu := { s.slu with regs := t } } port)

end Sys2Proof.Machine
end

