-- ==== Sys2Proof/Machine/Plan.lean ====
section
/-! DEFINITION. The Plan loader: the header, the sections, their checks and their application (R67-R102, R513, R514). -/

namespace Sys2Proof.Machine

/-! ## Words of the stream -/

/-- The first n 32-bit words of a list of bytes (R11). -/
def words32 : Nat → List Byte → List W32
  | 0, _ => []
  | n + 1, bs => wordOf 32 (bs.take 4) :: words32 n (bs.drop 4)

/-- Pairs of 32-bit words as 64-bit words, the first word lower (R11). -/
def words64 : List W32 → List W64
  | a :: b :: t => (b ++ a) :: words64 t
  | _ => []

/-- Each 32-bit word as two 16-bit values, the lower first (R11). -/
def halves (ws : List W32) : List (BitVec 16) := ws.flatMap (fun w => [w.extractLsb' 0 16, w.extractLsb' 16 16])

/-- Word i, 0 past the end. -/
def wd (ws : List W32) (i : Nat) : W32 := ws.getD i 0

/-- Groups of k words. -/
def groupsOf (k : Nat) : Nat → List W32 → List (List W32)
  | 0, _ => []
  | n + 1, ws => ws.take k :: groupsOf k n (ws.drop k)

/-- An extend with these bytes waits for the measurement hardware (R432). -/
def queueExtend (s : State) (slot : Fin 8) (bs : List Byte) : State :=
  { s with meas := { s.meas with queue := s.meas.queue ++ [⟨slot, sha384 bs⟩] } }

/-! ## The header (R67, R513) -/

/-- Region r has work that a partial load would disturb (R97). Groups at the expansion stage count as row-events in queues; copies on
their way to the entry do not (log entry 94). -/
def loadBusy (g : RegionSt) : Bool :=
  !g.ev.entry.isEmpty || !g.ev.groups.isEmpty || sweeping g ||
    g.blocks.toList.any (fun b => !b.evq.isEmpty || !b.released.isEmpty || b.ring.toList.any (fun l => !l.isEmpty))

/-- What a header says (R67). -/
def headerOf (ws : List W32) : PlanHdr :=
  { length := (wd ws 3).toNat, count := ((wd ws 4).extractLsb' 0 16).toNat, part := (wd ws 4).getLsbD 16,
    mask := (wd ws 5).extractLsb' 0 8, planId := wd ws 6 }

/-- The first test of R513 that fails, as a code of R94. -/
def headerError (s : State) (bs : List Byte) : Option Byte :=
  let ws := words32 8 bs
  let h := headerOf ws
  if wd ws 0 ≠ 0x4E414C50 then some 0x01
  else if wd ws 1 ≠ 0x00010000 then some 0x02
  else if wd ws 2 ≠ 0x00020003 then some 0x03
  else if crc32c (bs.take 28) ≠ wd ws 7 then some 0x04
  else if h.length % 8 ≠ 0 || 2 ^ 24 < h.length || h.length < 32 + 24 * h.count then some 0x05
  else if h.count = 0 || 4096 < h.count || (wd ws 4).extractLsb' 17 15 != 0 || (wd ws 5).extractLsb' 8 24 != 0 then some 0x09
  else if (if h.part then h.mask == 0 else h.mask != 0xFF) then some 0x08
  else if h.part then
    (if (idx 8).any (fun r => bit8 h.mask r && loadBusy (rg s r)) then some 0x0C else none)
  else if s.pln.everDone && !s.frz.asserted then some 0x0D
  else none

/-! ## Defaults (R98, R209) -/

/-- A region at the defaults of R98; its arrays (R101) only where they may be written (R412). ACTIVE returns to 0 with DESC, and a
switch in progress is cancelled (log entry 91). -/
def defaultRegion (w : Bool) (g : RegionSt) : RegionSt :=
  resort { g with
    plan := if w then plan0 else g.plan
    model := { g.model with sel := 0, target := 0, active := 0, switching := false, hold := false, again := false, tt := 0, ttPending := false }
    counters := vmap (fun _ c => { c with sel := 0 }) g.counters
    blocks := vmap (fun _ b => { b with store := if w then [] else b.store, consts := if w then [] else b.consts,
                                        counters := vmap (fun _ c => { c with sel := 0 }) b.counters }) g.blocks
    power := { g.power with idleAfter := 64, retainAfter := 0, offAfter := 0, deepest := 1, rank := 0, loadHold := true } }

/-- Every region of a mask changed by f. -/
def overRegions (s : State) (m : Byte) (f : State → Region → State) : State :=
  (idx 8).foldl (fun s r => if bit8 m r then f s r else s) s

/-- The Sluice with this class table and these budgets in force in both halves, and every credit at its budget (R349, R354). -/
def sluiceLoad (u : Sluice) (cls : Vector SluClass 7) (budget : Vector (BitVec 16) 256) : Sluice :=
  let set := fun (t : SluTab) => { t with cls := cls, budget := budget }
  let eff := vmap (fun _ t => set t) u.eff
  { u with regs := set u.regs, eff := eff, credit := fullCredit eff }

/-- The macro-scope structure at the defaults of R98. -/
def defaultMacro (s : State) : State :=
  { s with
    map := map0
    slu := sluiceLoad s.slu sluTab0.cls sluTab0.budget
    cnt := { s.cnt with counters := vmap (fun _ c => { c with sel := 0 }) s.cnt.counters, period := 0, addr := 0, ticks := 0 } }

/-- The start of a load that has passed its header checks: the defaults of its scope, its basins cleared, its regions woken and
held in Run (R95, R98, R99, R209). -/
def startLoad (s : State) (h : PlanHdr) : State :=
  let s := if h.part then s else defaultMacro s
  overRegions s h.mask (fun s r => wakeReq (basinZeroRegion (modRg s r (defaultRegion (canWrite s))) r) r)

/-- The load ends: its regions return to their policy, and the Gatehouse is told (R99, R423). -/
def endLoad (s : State) (st : LoadState) (err : Byte) (sec : BitVec 16) : State :=
  let m : Byte := match s.pln.hdr with | some h => h.mask | none => 0
  let s := overRegions s m (fun s r => modPw s r (fun p => { p with loadHold := false }))
  { s with pln := { s.pln with st := st, error := err, section_ := sec, hdr := none, buf := [], secIdx := 0, seen := [], taken := 0 },
           gh := { s.gh with extIrq := true } }

/-- The load ends REJECTED (R100, R513, R514). -/
def rejectLoad (s : State) (err : Byte) (sec : BitVec 16) : State :=
  let s := match s.pln.hdr with
    | none => s
    | some h => { s with pln := { s.pln with regions := s.pln.regions &&& ~~~h.mask, whole := s.pln.whole && h.part } }
  endLoad s .rejected err sec

/-- The load ends DONE (R92, R93, R95, R100). -/
def finishLoad (s : State) (h : PlanHdr) : State :=
  endLoad { s with pln := { s.pln with regions := s.pln.regions ||| h.mask, whole := s.pln.whole || !h.part, planId := h.planId,
                                       everDone := true } } .done 0 0

/-! ## Payload checks (R71-R87, R514) -/

/-- BAD_FIELD unless ok. -/
def need (ok : Bool) : Option Byte := if ok then none else some 0x09
/-- PARITY unless ok. -/
def needParity (ok : Bool) : Option Byte := if ok then none else some 0x0B
/-- The first error of a list. -/
def firstErr (l : List (Option Byte)) : Option Byte := (l.find? Option.isSome).join

/-- No two ranges of a list overlap. -/
def noOverlap : List (Nat × Nat) → Bool
  | [] => true
  | (a, b) :: t => t.all (fun x => decide (b ≤ x.1) || decide (x.2 ≤ a)) && noOverlap t

/-- GRANULE in bytes; 0 for the reserved encoding (R71). -/
def granuleBytes (c : BitVec 2) : Nat := if c = 0 then 64 else if c = 1 then 512 else if c = 2 then 4096 else 0

/-- The number of targets of a window entry (R72). -/
def windowTargets (e : List W32) : Nat := ones ((wd e 2).extractLsb' 8 8) * ones (wd e 3)

/-- The fields of a window entry (R71). -/
def windowFields (e : List W32) : Bool :=
  let c := wd e 2
  let g := granuleBytes (c.extractLsb' 0 2)
  let n := windowTargets e
  let regs := ones (c.extractLsb' 8 8)
  if !c.getLsbD 31 then e.all (· == 0)
  else
    (wd e 0).extractLsb' 27 5 == 0 && (wd e 0).extractLsb' 0 16 == 0 && (wd e 1).extractLsb' 28 4 == 0 &&
      c.extractLsb' 4 4 == 0 && c.extractLsb' 16 15 == 0 && g != 0 &&
      (if c.getLsbD 2 then decide (2 ≤ regs) else regs == 1) && wd e 3 != 0 &&
      wd e 1 != 0 && (wd e 1).toNat % (g * n) == 0 && decide ((wd e 0).toNat + (wd e 1).toNat ≤ 2 ^ 27) &&
      (wd e 4).extractLsb' 19 13 == 0 && (wd e 4).toNat % g == 0 && wd e 5 == 0

/-- WINDOW (R71-R73). -/
def checkWindow (p : List W32) : Option Byte :=
  let es := groupsOf 6 16 p
  let on := es.filter (fun e => (wd e 2).getLsbD 31)
  firstErr (es.map (fun e => need (windowFields e)) ++
    [need (noOverlap (on.map (fun e => ((wd e 0).toNat, (wd e 0).toNat + (wd e 1).toNat)))),
     need (on.all (fun e => decide ((wd e 4).toNat + (wd e 1).toNat / windowTargets e ≤ 2 ^ 19)))])

/-- HOME (R74): no port is a home master of two regions. -/
def checkHome : W32 → List W32 → Option Byte
  | _, [] => none
  | m, w :: ws => if m &&& w = 0 then checkHome (m ||| w) ws else some 0x09

/-- ROUTE (R75, R76). -/
def checkRoute (p : List W32) : Option Byte :=
  firstErr ((groupsOf 4 64 p).map (fun e =>
      need ((wd e 0).extractLsb' 24 7 == 0 && (wd e 1).extractLsb' 24 8 == 0 && (wd e 2).extractLsb' 8 24 == 0 && wd e 3 == 0 &&
        (!(wd e 0).getLsbD 31 || (decide (((wd e 0).extractLsb' 0 24).toNat ≤ (wd e 1).toNat) && wd e 2 != 0)))) ++
    ((p.drop 256).flatMap (fun w => bytesOf w 4)).map (fun b => need (b.extractLsb' 3 4 == 0)))

/-- SLUICE (R77, R78). -/
def checkSluice (p : List W32) : Option Byte :=
  let cs := groupsOf 4 8 p
  let on := (cs.take 7).filter (fun e => (wd e 2).getLsbD 0)
  firstErr (cs.mapIdx (fun i e =>
      need ((wd e 2).extractLsb' 1 31 == 0 && wd e 3 == 0 &&
        (if i = 7 then wd e 0 == 0 && wd e 1 == 0 && wd e 2 == 0
         else (wd e 0).extractLsb' 0 16 == 0 && decide ((wd e 0).toNat < 2 ^ 27) && (wd e 1).extractLsb' 0 16 == 0 &&
           decide ((wd e 1).toNat ≤ 2 ^ 27) && (!(wd e 2).getLsbD 0 || decide ((wd e 0).toNat < (wd e 1).toNat))))) ++
    (halves (p.drop 32)).map (fun b => need (decide (b.toNat ≤ 1024) || b == 0xFFFF)) ++
    [need (noOverlap (on.map (fun e => ((wd e 0).toNat, (wd e 1).toNat))))])

/-- MCOUNT (R79, R478). -/
def checkMcount (p : List W32) : Option Byte :=
  firstErr ((halves (p.take 8)).mapIdx (fun i v => need (selOk .whole i v)) ++
    [need ((wd p 9).extractLsb' 27 5 == 0 && (wd p 9).extractLsb' 0 6 == 0)])

/-- RCOUNT (R79, R478). -/
def checkRcount (p : List W32) : Option Byte :=
  firstErr ((halves p).mapIdx (fun i v => need (if i < 8 then selOk .region i v else selOk .block (i % 4) v)))

/-- POWER (R80). -/
def checkPower (p : List W32) : Option Byte :=
  need ((wd p 0).extractLsb' 16 16 == 0 && (wd p 0 == 0 || decide (16 ≤ (wd p 0).toNat)) && wd p 3 &&& 0xFFFFFF8C == 0)

/-- TINDEX (R81). -/
def checkTindex (p : List W32) : Option Byte :=
  let n := (wd p 1).toNat
  firstErr [need (decide (1 ≤ n) && decide ((wd p 0).toNat + n ≤ 65536)), need ((p.drop (2 + n)).all (· == 0))]

/-- TENTRY (R81, R170, R171). -/
def checkTentry (p : List W32) : Option Byte :=
  let n := (wd p 1).toNat
  firstErr (need (decide (1 ≤ n) && decide ((wd p 0).toNat + n ≤ 131072)) ::
    (words64 (p.drop 2)).flatMap (fun w => [need (entryFieldsOk w), needParity (evenParity w)]))

/-- TIMETABLE (R82), for the regions of a mask. -/
def checkTimetable (home : Vector W32 8) (m : Byte) (p : List W32) : Option Byte :=
  firstErr (need (decide ((wd p 0).toNat < 4) && wd p 1 == 0) ::
    (words64 (p.drop 2)).flatMap (fun w =>
      [need (if !w.getLsbD 47 then w.extractLsb' 0 63 == 0
             else w.extractLsb' 45 2 == 0 && w.extractLsb' 48 15 == 0 && w.extractLsb' 0 32 != 0 && w.extractLsb' 32 8 != 0 &&
               (idx 8).all (fun r => !bit8 m r || (vget home r).getLsbD (w.extractLsb' 40 5).toNat)),
       needParity (evenParity w)]))

/-- DECAY and SWEEP: the leading words (R83, R84). -/
def checkLead (limit : Nat) (p : List W32) : Option Byte := need (decide ((wd p 0).toNat < limit) && wd p 1 == 0)

/-- A model descriptor (R85). -/
def descOk (e : List W32) : Bool :=
  if !(wd e 0).getLsbD 31 then e.all (· == 0)
  else
    (wd e 0).extractLsb' 16 15 == 0 && (wd e 1).extractLsb' 24 8 == 0 && (wd e 2).extractLsb' 16 16 == 0 &&
      decide (1 ≤ (wd e 3).toNat) && decide ((wd e 3).toNat ≤ 65536) && decide ((wd e 2).toNat + (wd e 3).toNat ≤ 65536) &&
      wd e 4 &&& 0xFFFFFF8C == 0 && (e.drop 5).all (· == 0)

/-- MODEL (R85). -/
def checkModel (p : List W32) : Option Byte :=
  let n := (wd p 1).toNat
  firstErr (need (decide ((wd p 0).toNat + n ≤ 64)) :: (groupsOf 8 n (p.drop 2)).map (fun e => need (descOk e)))

/-- The payload length of a type, none for an unknown type (R70). -/
def payloadLen (ty : Nat) (p : List W32) : Option Nat :=
  let n := (wd p 1).toNat
  match ty with
  | 0x01 => some 384
  | 0x02 => some 32
  | 0x03 => some 1280
  | 0x04 => some 640
  | 0x05 => some 40
  | 0x10 => some 16
  | 0x11 => some ((8 + 4 * n + 7) / 8 * 8)
  | 0x12 => some (8 + 8 * n)
  | 0x13 => some 8200
  | 0x14 => some 1288
  | 0x15 => some 520
  | 0x16 => some (8 + 32 * n)
  | 0x17 => some 272
  | _ => none

/-- A type that may appear once (R70). -/
def onceType (ty : Nat) : Bool := decide (ty ≤ 0x05) || ty == 0x10 || ty == 0x17

/-- The payload checks of a type (R514 step 6). -/
def checkPayload (home : Vector W32 8) (ty : Nat) (m : Byte) (p : List W32) : Option Byte :=
  match ty with
  | 0x01 => checkWindow p
  | 0x02 => checkHome 0 p
  | 0x03 => checkRoute p
  | 0x04 => checkSluice p
  | 0x05 => checkMcount p
  | 0x10 => checkPower p
  | 0x11 => checkTindex p
  | 0x12 => checkTentry p
  | 0x13 => checkTimetable home m p
  | 0x14 => checkLead (2 ^ 32) p
  | 0x15 => checkLead 8 p
  | 0x16 => checkModel p
  | _ => checkRcount p

/-- A section as read: type, mask, the reserved byte, payload, CRC as carried and as computed, and the trailer's zero word
(R68). -/
structure Section where
  ty : Nat
  mask : Byte
  rsv : Byte
  length : Nat
  payload : List W32
  crcOk : Bool
  tail : W32
  deriving DecidableEq, Repr

/-- The section that these bytes hold (R68). -/
def sectionOf (bs : List Byte) : Section :=
  let n := (wordOf 32 ((bs.drop 4).take 4) : W32).toNat
  { ty := (wordOf 16 (bs.take 2) : BitVec 16).toNat, mask := bs.getD 2 0, rsv := bs.getD 3 0, length := n,
    payload := words32 (n / 4) (bs.drop 8), crcOk := crc32c (bs.take (8 + n)) == wordOf 32 ((bs.drop (8 + n)).take 4),
    tail := wordOf 32 ((bs.drop (12 + n)).take 4) }

/-- The keys of a section for the "once" rule: its type with each region it names, or with 8 for a macro-scope one (R70). -/
def onceKeys (x : Section) : List (Nat × Nat) :=
  if x.ty < 0x10 then [(x.ty, 8)] else ((idx 8).filter (fun r => bit8 x.mask r)).map (fun r => (x.ty, r.val))

/-- The first check of R514, from step 2, that fails. A macro-scope section of a partial Plan breaks R70's scope, which the model
answers with BAD_MASK (log entry 22). -/
def sectionError (s : State) (h : PlanHdr) (x : Section) : Option Byte :=
  let whole := decide (x.ty < 0x10)
  if !x.crcOk then some 0x06
  else if payloadLen x.ty x.payload ≠ some x.length then some 0x07
  else if (if whole then x.mask != 0 || h.part else x.mask == 0 || x.mask &&& ~~~h.mask != 0) then some 0x08
  else if onceType x.ty && (onceKeys x).any (fun k => s.pln.seen.contains k) then some 0x0A
  else if x.rsv ≠ 0 || x.tail ≠ 0 then some 0x09
  else checkPayload s.map.home x.ty x.mask x.payload

/-! ## Application (R71-R85) -/

/-- A window entry applied (R71). -/
def windowFrom (e : List W32) : Window :=
  let g := (wd e 2).extractLsb' 0 2
  { base := (wd e 0).toNat, size := (wd e 1).toNat, gran := if g = 0 then 0 else if g = 1 then 1 else 2, rowMajor := (wd e 2).getLsbD 3,
    regions := (wd e 2).extractLsb' 8 8, en := (wd e 2).getLsbD 31, blocks := wd e 3, pbase := (wd e 4).toNat }

/-- A route entry applied (R75). -/
def routeFrom (e : List W32) : Route := ⟨(wd e 0).extractLsb' 0 24, (wd e 1).extractLsb' 0 24, (wd e 0).getLsbD 31, (wd e 2).extractLsb' 0 8⟩

/-- A Sluice class applied (R77). -/
def classFrom (e : List W32) : SluClass := ⟨(wd e 0).extractLsb' 16 11, (wd e 1).extractLsb' 16 12, (wd e 2).getLsbD 0⟩

/-- A model descriptor applied (R85). -/
def descFrom (e : List W32) : Desc :=
  { tag := (wd e 0).extractLsb' 0 16, valid := (wd e 0).getLsbD 31, srcBase := (wd e 1).extractLsb' 0 24,
    indexBase := (wd e 2).extractLsb' 0 16, indexCount := (wd e 3).extractLsb' 0 17, tt := fin 4 (wd e 4).toNat,
    prog := fin 8 ((wd e 4).toNat / 16) }

/-- A file of registers filled from a list. -/
def fileOf {α : Type} {n : Nat} (d : α) (l : List α) : Vector α n := Vector.ofFn (fun i => l.getD i.val d)

/-- A macro-scope section applied (R71-R79). -/
def applyMacro (s : State) (ty : Nat) (p : List W32) : State :=
  match ty with
  | 0x01 => { s with map := { s.map with windows := fileOf (windowFrom []) ((groupsOf 6 16 p).map windowFrom) } }
  | 0x02 => { s with map := { s.map with home := fileOf 0 p } }
  | 0x03 => { s with map := { s.map with routes := fileOf (routeFrom []) ((groupsOf 4 64 p).map routeFrom),
                                         egress := fileOf 0 ((p.drop 256).flatMap (fun w => bytesOf w 4)) } }
  | 0x04 => { s with slu := sluiceLoad s.slu (fileOf (classFrom []) ((groupsOf 4 8 p).map classFrom)) (fileOf 0 (halves (p.drop 32))) }
  | _ => { s with cnt := { s.cnt with counters := vmap (fun i c => { c with sel := (halves (p.take 8)).getD i.val 0 }) s.cnt.counters,
                                      period := wd p 8, addr := (wd p 9).extractLsb' 6 21, ticks := 0 } }

/-- A region-scope section applied to a region (R80-R85). -/
def applyRegion (ty : Nat) (p : List W32) (g : RegionSt) : RegionSt :=
  let start := (wd p 0).toNat
  match ty with
  | 0x10 => { g with power := { g.power with idleAfter := (wd p 0).extractLsb' 0 16, retainAfter := wd p 1, offAfter := wd p 2,
                                             deepest := (wd p 3).extractLsb' 0 2, rank := (wd p 3).extractLsb' 4 3 } }
  | 0x11 => { g with plan := { g.plan with index := tputs 0 g.plan.index start ((p.drop 2).take (wd p 1).toNat) } }
  | 0x12 => { g with plan := { g.plan with entry := tputs 0 g.plan.entry start (words64 (p.drop 2)) } }
  | 0x13 => { g with plan := { g.plan with slots := tputs 0 g.plan.slots (1024 * start) (words64 (p.drop 2)) } }
  | 0x14 =>
    let put := fun (x : Block) => { x with store := tputs 0 x.store 0 ((p.drop 2).take 256), consts := tputs 0 x.consts 0 ((p.drop 258).take 64) }
    { g with blocks := vmap (fun b x => if bit32 (wd p 0) b then put x else x) g.blocks }
  | 0x15 => { g with plan := { g.plan with decay := tputs 0 g.plan.decay (256 * start) (halves (p.drop 2)) } }
  | 0x16 =>
    let ds := (groupsOf 8 (wd p 1).toNat (p.drop 2)).map descFrom
    let descs := vmap (fun i d => if start ≤ i.val then ds.getD (i.val - start) d else d) g.plan.descs
    { g with plan := { g.plan with descs := descs }, model := { g.model with tt := (vget descs (fin 64 g.model.active.toNat)).tt } }
  | _ =>
    let v := halves p
    { g with counters := vmap (fun i c => { c with sel := v.getD i.val 0 }) g.counters,
             blocks := vmap (fun b x => { x with counters := vmap (fun i c => { c with sel := v.getD (8 + 4 * b.val + i.val) 0 }) x.counters }) g.blocks }

/-- Whether a section of this type fills arrays of the region (R101). -/
def fillsArrays (ty : Nat) : Bool := decide (0x11 ≤ ty) && decide (ty ≤ 0x16)

/-- A section applied (R70, R95); no array is written after a rail fault (R412). -/
def applySection (s : State) (x : Section) : State :=
  if x.ty < 0x10 then applyMacro s x.ty x.payload
  else if fillsArrays x.ty && !canWrite s then s
  else overRegions s x.mask (fun s r => modRg s r (fun g => resort (applyRegion x.ty x.payload g)))

/-! ## The stream (R88-R91, R95, R102) -/

/-- The bytes at hand, within LENGTH (R91). -/
def availBytes (s : State) : List Byte :=
  match s.pln.hdr with
  | none => s.pln.buf
  | some h => s.pln.buf.take (h.length - s.pln.taken)

/-- Bytes of the section whose header is at hand, trailer included (R68). -/
def sectionSpan (bs : List Byte) : Nat := 16 + (wordOf 32 ((bs.drop 4).take 4) : W32).toNat

/-- The section at hand does not end within LENGTH (R514 step 1). -/
def sectionLong (s : State) (h : PlanHdr) : Bool := decide (h.length < s.pln.taken + sectionSpan (availBytes s))

/-- A whole section, or one that fails on its extent, is at hand (R514). -/
def sectionReady (s : State) : Bool :=
  match s.pln.hdr with
  | none => false
  | some h =>
    let bs := availBytes s
    s.pln.st == .loading && decide (8 ≤ bs.length) && (sectionLong s h || decide (sectionSpan bs ≤ bs.length))

/-- A whole header is at hand (R513). -/
def headerReady (s : State) : Bool := s.pln.st == .loading && s.pln.hdr.isNone && decide (32 ≤ s.pln.buf.length)

/-- The header or section just taken extends slot 2 or slot 3 (R95 steps 1 and 2, R513); where a section is rejected for its extent, with
the bytes taken of it, which are all of it that has come, up to LENGTH (log entry 39). -/
def measureTaken (s : State) : State :=
  if s.pln.measured then s
  else if headerReady s then { queueExtend s 2 (s.pln.buf.take 32) with pln := { s.pln with measured := true } }
  else if sectionReady s then
    { queueExtend s 3 ((availBytes s).take (sectionSpan (availBytes s))) with pln := { s.pln with measured := true } }
  else s

/-- What the loader has taken has extended its slot, so that it may be tested (R95). -/
def takenMeasured (s : State) : Bool := s.pln.measured && !s.meas.queue.any (fun x => x.slot == 2 || x.slot == 3)

/-- A header is taken and measured: its tests follow (R95, R513). -/
def headerDue (s : State) : Bool := headerReady s && takenMeasured s

/-- A section is taken and measured: its tests follow (R95, R514). -/
def sectionDue (s : State) : Bool := sectionReady s && takenMeasured s

/-- The loader takes no further word for now: what it holds is not processed, or the measurement hardware is behind (R91, R432). -/
def loaderFull (s : State) : Bool := headerReady s || sectionReady s || !s.meas.queue.isEmpty

/-- LENGTH bytes have been taken (R91). -/
def planTaken (s : State) : Bool :=
  match s.pln.hdr with
  | none => false
  | some h => decide (h.length ≤ s.pln.taken + s.pln.buf.length)

/-- A write of PLN_DATA (R91). -/
def plnWord (s : State) (port : RegPort) (w : W32) : State :=
  if s.pln.st ≠ .loading || s.pln.source || planTaken s then busErr s port
  else if loaderFull s then holdAcc s port (.plnData w)
  else ack (measureTaken { s with pln := { s.pln with buf := s.pln.buf ++ bytesOf w 4 } }) port

/-- A PLN_DATA write that waits at a port is tried again (R91). -/
def retryPlnAt (s : State) (port : RegPort) : State :=
  match (rport s port).held with
  | some (.plnData w) => plnWord s port w
  | _ => s

/-- PLN_DATA writes that wait are tried again. -/
def retryPln (s : State) : State := retryPlnAt (retryPlnAt (retryPlnAt s .cp) .mp) .gh

/-- PLAN_DATA_WORD: a write of PLN_DATA (R24, R91). -/
def execPlanDataWord (port : RegPort) (w : W32) (s : State) : Host.Outcome State Fault Refusal :=
  if !portReady s port then skip s
  else if !isMgmt port then finish (busErr s port)
  else finish (plnWord s port w)

/-- START is refused (R88, R429, R508). -/
def startRefused (s : State) : Bool :=
  s.pins.testMode || s.pln.st == .loading || s.gh.stage == .reset || s.gh.stage == .fuses || s.gh.stage == .loading || s.gh.error == 0x01

/-- A load begins (R88, R95). -/
def beginLoad (s : State) (source : Bool) : State :=
  { s with pln := { s.pln with source := source, st := .loading, error := 0, section_ := 0, buf := [], taken := 0, hdr := none, secIdx := 0,
                               seen := [], measured := false } }

/-- The Gatehouse's outstanding transfer of this kind is for a load that has ended: its data is not used. -/
def dropFetch (s : State) (kind : OutKind) : State :=
  modRp s 0 (fun p => { p with outs := p.outs.map (fun o => if o.kind = kind then { o with alloc := false } else o) })

/-- The bytes of a header or section that the end of the load cuts off extend slot 2 or slot 3 too (R95; log entry 39). -/
def measureCut (s : State) : State :=
  if s.pln.measured || (availBytes s).isEmpty then s
  else queueExtend s (if s.pln.hdr.isNone then 2 else 3) (availBytes s)

/-- PLN_STATUS.SECTION where a load ends in the middle of the header or of a section (R89). -/
def cutSection (s : State) : BitVec 16 := if s.pln.hdr.isNone then 0xFFFF else BitVec.ofNat 16 s.pln.secIdx

/-- A load in progress ends ABORTED (R88, R89, R94). -/
def abortLoad (s : State) : State :=
  if s.pln.st = .loading then retryPln (rejectLoad (measureCut (dropFetch s .plan)) 0x0F (cutSection s)) else s

/-- A write of PLN_CTRL (R88). One without START while a load runs changes the SOURCE of that load (log entry 93). -/
def plnCtrl (s : State) (port : RegPort) (start abort source : Bool) : State :=
  if start && startRefused s then busErr s port
  else
    let s := if start then beginLoad s source else { s with pln := { s.pln with source := source } }
    ack (if abort then abortLoad s else s) port

/-- PLAN_START: a write of PLN_CTRL with START (R24, R88, R95). -/
def execPlanStart (port : RegPort) (source abort : Bool) (s : State) : Host.Outcome State Fault Refusal :=
  if !portReady s port then skip s
  else if !isMgmt port then finish (busErr s port)
  else finish (plnCtrl s port true abort source)

/-- PLAN_ABORT: a write of PLN_CTRL with ABORT (R24, R88). -/
def execPlanAbort (port : RegPort) (source : Bool) (s : State) : Host.Outcome State Fault Refusal :=
  if !portReady s port then skip s
  else if !isMgmt port then finish (busErr s port)
  else finish (plnCtrl s port false true source)

/-- PLAN_HEADER: the 32 header bytes have been taken and slot 2 is extended with them: the header is tested, and where it passes the
defaults are applied (R95, R98, R513). -/
def execPlanHeader (s : State) : Host.Outcome State Fault Refusal :=
  if !live s || !headerDue s then skip s
  else
    let bs := s.pln.buf.take 32
    match headerError s bs with
    | some e => finish (retryPln (rejectLoad s e 0xFFFF))
    | none =>
      let h := headerOf (words32 8 bs)
      finish (retryPln (measureTaken (startLoad
        { s with pln := { s.pln with hdr := some h, taken := 32, buf := s.pln.buf.drop 32, measured := false } } h)))

/-- The loader has applied section number secIdx: the next one, which does not end within LENGTH where no byte is left for it (R94; log
entry 22), DONE, or LENGTH where bytes remain (R95, R514). -/
def sectionDone (s : State) (h : PlanHdr) (n : Nat) (x : Section) : State :=
  let p := s.pln
  let s := { s with pln := { p with
    taken := p.taken + n, buf := p.buf.drop n, secIdx := p.secIdx + 1, seen := p.seen ++ onceKeys x, measured := false } }
  if p.secIdx + 1 < h.count then
    (if h.length ≤ p.taken + n then rejectLoad s 0x05 (BitVec.ofNat 16 (p.secIdx + 1)) else measureTaken s)
  else if p.taken + n < h.length then rejectLoad s 0x05 (BitVec.ofNat 16 h.count)
  else finishLoad s h

/-- The loader holds every region of its scope in Run (R99). -/
def scopeRuns (s : State) (h : PlanHdr) : Bool := (idx 8).all (fun r => !bit8 h.mask r || inRun s r)

/-- PLAN_SECTION: a whole section has been taken and slot 3 is extended with it: it is checked, and applied once the loader holds the
regions of its scope in Run (R95, R99, R514). -/
def execPlanSection (s : State) : Host.Outcome State Fault Refusal :=
  if !live s || !sectionDue s then skip s
  else
    match s.pln.hdr with
    | none => skip s
    | some h =>
      let bs := availBytes s
      let sec := BitVec.ofNat 16 s.pln.secIdx
      if sectionLong s h then finish (retryPln (rejectLoad s 0x05 sec))
      else
        let n := sectionSpan bs
        let x := sectionOf (bs.take n)
        match sectionError s h x with
        | some e => finish (retryPln (rejectLoad s e sec))
        | none =>
          if scopeRuns s h then finish (retryPln (sectionDone (applySection s x) h n x)) else skip s

/-! ## The Plan fetch (R102, R271) -/

/-- The external line that the loader fetches next (R102), from PLN_ADDR as it stands at that moment (log entry 93). -/
def planFetch (s : State) : Option (BitVec 58) :=
  if s.pln.st = .loading && s.pln.source && !loaderFull s && !planTaken s then
    some (s.pln.addr + BitVec.ofNat 58 ((s.pln.taken + s.pln.buf.length) / 64))
  else none

/-- A fetched line reaches the loader (R102); XLATE and ERROR end the load with FETCH (R94). -/
def planFetched (s : State) (d : Beat) (good : Bool) : State :=
  if s.pln.st ≠ .loading then s
  else if good then measureTaken { s with pln := { s.pln with buf := s.pln.buf ++ bytesOf d 64 } }
  else rejectLoad (measureCut s) 0x0E (cutSection s)

end Sys2Proof.Machine
end

