-- ==== Sys2Proof/Machine/Gatehouse.lean ====
section
/-! DEFINITION. The Gatehouse: fuses and repair, the firmware load, measurement and the requests of mailbox 0 (R51, R52, R337,
R422-R450, R465-R467). What firmware does beside that is the firmware's (log entry 13). -/

namespace Sys2Proof.Machine

/-! ## Status words (R89, R92, R445) -/

/-- STAGE as a number (R445). -/
def stageCode : Stage → BitVec 4
  | .reset => 0
  | .fuses => 1
  | .waitImage => 2
  | .loading => 3
  | .running => 4
  | .failed => 5

/-- GH_BOOT_STAT (R445). -/
def bootStat (s : State) : W32 :=
  (stageCode s.gh.stage).setWidth 32 ||| ((b1 s.gh.src).setWidth 32 <<< 4) ||| ((b1 s.aon.bootWrap).setWidth 32 <<< 5) |||
    (s.gh.error.setWidth 32 <<< 8) ||| 0x01000000

/-- STATE of the loader as a number (R89). -/
def loadCode : LoadState → BitVec 2
  | .idle => 0
  | .loading => 1
  | .done => 2
  | .rejected => 3

/-- PLN_STATUS (R89). -/
def plnStatus (s : State) : W32 :=
  (loadCode s.pln.st).setWidth 32 ||| (s.pln.error.setWidth 32 <<< 8) ||| (s.pln.section_.setWidth 32 <<< 16)

/-- PLN_LOADED (R92). -/
def plnLoaded (s : State) : W32 := s.pln.regions.setWidth 32 ||| ((b1 s.pln.whole).setWidth 32 <<< 8)

/-! ## Fuses and repair (R51, R52, R425, R465-R467) -/

/-- A list entry of the fuse image passes the field checks of R466. -/
def fuseEntryOk (w : W32) : Bool :=
  evenParity w && decide ((w.extractLsb' 0 10).toNat ≤ 575) && decide ((w.extractLsb' 16 6).toNat ≤ 32) && w.extractLsb' 25 5 == 0

/-- The steering an entry names (R465). -/
def steerOf (w : W32) : Steer :=
  ⟨fin 8 (w.extractLsb' 22 3).toNat, (w.extractLsb' 16 6).toNat, fin 8 (w.extractLsb' 13 3).toNat, (w.extractLsb' 0 10).toNat,
   fin 8 (w.extractLsb' 10 3).toNat⟩

/-- Two steerings lie in the same cell. -/
def sameCell (a b : Steer) : Bool := a.region == b.region && a.pblock == b.pblock && a.cell == b.cell

/-- The entries of the image in order, up to the first with VALID 0: the steerings applied, the bad and the conflicting (R466). -/
def fuseEntries : List W32 → List Steer → Nat → Nat → List Steer × Nat × Nat
  | [], acc, bad, con => (acc, bad, con)
  | w :: ws, acc, bad, con =>
    if !w.getLsbD 31 then (acc, bad, con)
    else if !fuseEntryOk w then fuseEntries ws acc (bad + 1) con
    else
      let x := steerOf w
      if acc.any (fun y => sameCell x y && (x.spare == y.spare || x.column == y.column)) then fuseEntries ws acc bad (con + 1)
      else fuseEntries ws (acc ++ [x]) bad con

/-- A byte of SPARE_SEL as FN_SPARE shows it: 0 where the region uses no spare (R465, R476). -/
def spareSelByte (b : Byte) : Byte := if b.getLsbD 7 then b &&& 0x9F else 0

/-- FN_SPARE of an image (R465, R476). -/
def spareSel (ws : List W32) : W64 :=
  wordOf 64 ((bytesOf (wd ws 5) 4 ++ bytesOf (wd ws 6) 4).map spareSelByte)

/-- The image applied: repair selections, status and counts (R466, R475, R476). -/
def applyImage (f : Fuse) : Fuse :=
  let ws := f.words
  let blank := (ws.take 16).all (· == 0)
  let bad := !blank && (crc32c ((ws.take 15).flatMap (fun w => bytesOf w 4)) != wd ws 15 || (wd ws 0).extractLsb' 0 16 != 1)
  let f := { f with req := none, reread := false, done := true, timedOut := false, blank := blank, badHdr := bad }
  if blank || bad then { f with cols := 0, badEntry := 0, conflict := 0, sel := 0, steers := [] }
  else
    let (st, b, c) := fuseEntries (ws.drop 16) [] 0 0
    { f with cols := BitVec.ofNat 10 st.length, badEntry := BitVec.ofNat 10 b, conflict := BitVec.ofNat 10 c, sel := spareSel ws, steers := st }

/-- The physical block that runs as logical block b of region r (R19, R465). -/
def physOf (sel : W64) (r : Region) (b : Blk) : Nat :=
  let x : Byte := sel.extractLsb' (8 * r.val) 8
  if x.getLsbD 7 && decide ((x.extractLsb' 0 5).toNat = b.val) then 32 else b.val

/-- The steerings of a cell of a physical block. -/
def steersAt (f : Fuse) (r : Region) (pb : Nat) (c : Fin 8) : List (Nat × Fin 8) :=
  (f.steers.filter (fun x => x.region == r && x.pblock == pb && x.cell == c)).map (fun x => (x.column, x.spare))

/-- n free bytes from this address of an array (log entries 5 and 17). -/
def freeBytes (s : State) (tag base n : Nat) : List Byte :=
  (List.range n).map (fun i => Config.freeBits ((s.free * 4096 + tag) * 2 ^ 28 + base + i) 8)

/-- The contents of a cell become undefined (R467). -/
def loseCell (s : State) (r : Region) (b : Blk) (c : Fin 8) : State :=
  { s with mem := tputs 0 s.mem (rowAddr r b c 0) (freeBytes s 1000 (rowAddr r b c 0) 65536) }

/-- The contents of a logical block whose physical block changed become undefined: cells, basin, sweep store, constants (R467). -/
def loseBlock (s : State) (r : Region) (b : Blk) : State :=
  let s := (idx 8).foldl (fun s c => loseCell s r b c) s
  let s := { s with basin := tputs 0 s.basin (basinAddr r b) (freeBytes s 2000 (basinAddr r b) 16384) }
  let w := words32 320 (freeBytes s 3000 (1280 * (32 * r.val + b.val)) 1280)
  modBlk s r b (fun x => { x with store := tputs 0 [] 0 (w.take 256), consts := tputs 0 [] 0 (w.drop 256) })

/-- What a change of selections from fuse state f to the one in s makes undefined (R467). -/
def loseChanged (s : State) (f : Fuse) : State :=
  (idx 8).foldl (fun s r => (idx 32).foldl (fun s b =>
    let p0 := physOf f.sel r b
    let p1 := physOf s.fuse.sel r b
    if p0 ≠ p1 then loseBlock s r b
    else (idx 8).foldl (fun s c => if steersAt f r p0 c = steersAt s.fuse r p1 c then s else loseCell s r b c) s) s) s

/-- FUSE_READ_START: ROM begins the fuse read (R51, R425). -/
def execFuseReadStart (s : State) : Host.Outcome State Fault Refusal :=
  if !live s || s.gh.stage ≠ .reset then skip s
  else finish { s with gh := { s.gh with stage := .fuses }, fuse := { s.fuse with words := [], req := some 0, ticks := 0 } }

/-- The last fuse word has arrived: the image is applied; at boot slot 1 is extended, at a reread the request is answered and
changed cells lose their contents (R425, R466, R467). -/
def fuseDone (s : State) : State :=
  let old := s.fuse
  let s1 := { s with fuse := applyImage old }
  if old.reread then
    let s2 := loseChanged s1 old
    match s2.gh.req with
    | some (.fuses w) => { s2 with gh := { s2.gh with req := some (.reply w 0 0) } }
    | _ => s2
  else queueExtend s1 1 (old.words.flatMap (fun w => bytesOf w 4))

/-- FUSE_ACK: the host answers the fuse request outstanding (R51, R52). -/
def execFuseAck (data : W32) (s : State) : Host.Outcome State Fault Refusal :=
  if !live s then skip s
  else
    match s.fuse.req with
    | none => skip s
    | some a =>
      let s := { s with fuse := { s.fuse with words := s.fuse.words ++ [data], req := some (a + 1), ticks := 0 } }
      if a = 1023 then finish (fuseDone s) else finish s

/-- FUSE_TIMEOUT: 1,000 ticks have passed without fu_ack (R52, R425, R466). After a reread the reply's STATUS is a free value, and
STAGE stays (log entry 23). -/
def execFuseTimeout (s : State) : Host.Outcome State Fault Refusal :=
  if !live s || s.fuse.req.isNone || s.fuse.ticks < 1000 then skip s
  else
    let old := s.fuse
    let s1 := { s with fuse := { old with req := none, reread := false, done := false, timedOut := true, sel := 0, steers := [], cols := 0,
                                          badEntry := 0, conflict := 0, badHdr := false, blank := false } }
    if old.reread then
      let s2 := loseChanged s1 old
      match s2.gh.req with
      | some (.fuses w) => finish { s2 with gh := { s2.gh with req := some (.reply w ((fv s 5 2).setWidth 8) 0) } }
      | _ => finish s2
    else finish { s1 with gh := { s1.gh with stage := .failed, error := 0x01 } }

/-- MGMT_PORT_READY: the management port raises req_ready, after ROM has begun the fuse read (R62, R425). -/
def execMgmtPortReady (s : State) : Host.Outcome State Fault Refusal :=
  if !live s || s.gh.stage == .reset then skip s else finish { s with gh := { s.gh with mpReady := true } }

/-! ## The firmware load (R426-R428, R447) -/

/-- The header words received so far break R427 (R428), as a code of R445. -/
def fwError (len : BitVec 18) (got : List Byte) : Option Byte :=
  let ws := words32 4 got
  let n := got.length
  let l := (wd ws 1).toNat
  if 4 ≤ n && wd ws 0 != 0x57464847 then some 0x02
  else if 8 ≤ n && (l % 4 != 0 || decide (l < 16) || decide (131072 < l) || l != len.toNat) then some 0x03
  else if 12 ≤ n && ((wd ws 2).getLsbD 0 || decide (l ≤ (wd ws 2).toNat)) then some 0x04
  else if 16 ≤ n && wd ws 3 != 0 then some 0x03
  else none

/-- A load attempt fails: slot 0 is extended with the bytes received, once for each attempt (R428). -/
def fwFail (s : State) (e : Byte) : State :=
  let s1 := dropFetch (if s.gh.fwEnded then s else queueExtend s 0 s.gh.fwGot) .firmware
  { s1 with gh := { s1.gh with stage := .failed, error := e, fwEnded := false } }

/-- Image bytes arrive and are checked (R426, R428). -/
def fwTake (s : State) (bs : List Byte) : State :=
  let s := { s with gh := { s.gh with fwGot := (s.gh.fwGot ++ bs).take s.gh.fwLen.toNat } }
  match fwError s.gh.fwLen s.gh.fwGot with
  | some e => fwFail s e
  | none => s

/-- Every image byte has been taken (R447). -/
def fwAll (s : State) : Bool := decide (s.gh.fwLen.toNat ≤ s.gh.fwGot.length)

/-- A write of GH_FW_DATA (R426, R432, R447). -/
def fwWord (s : State) (port : RegPort) (w : W32) : State :=
  if s.gh.stage ≠ .loading || s.gh.src || fwAll s then busErr s port
  else if !s.meas.queue.isEmpty then holdAcc s port (.fwData w)
  else ack (fwTake s (bytesOf w 4)) port

/-- A GH_FW_DATA write that waits at a port is tried again. -/
def retryFwAt (s : State) (port : RegPort) : State :=
  match (rport s port).held with
  | some (.fwData w) => fwWord s port w
  | _ => s

/-- Writes of GH_FW_DATA and PLN_DATA that wait are tried again. -/
def retryWords (s : State) : State := retryPln (retryFwAt (retryFwAt (retryFwAt s .cp) .mp) .gh)

/-- FW_START is refused (R426). -/
def fwRefused (s : State) : Bool := !(s.gh.stage == .waitImage || (s.gh.stage == .failed && s.gh.error != 0x01))

/-- A write of GH_CTRL (R426, R430, R443). In test mode FW_START and CP_OPEN are not written (R508). -/
def ghCtrl (s : State) (port : RegPort) (start abort open_ : Bool) : State :=
  if s.pins.testMode || (start && fwRefused s) then busErr s port
  else
    let s := { s with gh := { s.gh with cpOpen := open_ } }
    let s := if start then { s with gh := { s.gh with stage := .loading, fwGot := [], fwEnded := false } } else s
    ack (if abort && s.gh.stage == .loading then retryWords (fwFail s 0x06) else s) port

/-- FW_START: a write of GH_CTRL with FW_START (R24, R426). -/
def execFwStart (port : RegPort) (cpOpen : Bool) (s : State) : Host.Outcome State Fault Refusal :=
  if !portReady s port then skip s
  else if !isMgmt port then finish (busErr s port)
  else finish (ghCtrl s port true false cpOpen)

/-- FW_ABORT: a write of GH_CTRL with FW_ABORT (R24, R426). -/
def execFwAbort (port : RegPort) (cpOpen : Bool) (s : State) : Host.Outcome State Fault Refusal :=
  if !portReady s port then skip s
  else if !isMgmt port then finish (busErr s port)
  else finish (ghCtrl s port false true cpOpen)

/-- CP_OPEN: a write of GH_CTRL.CP_OPEN (R24, R430). -/
def execCpOpen (port : RegPort) (v : Bool) (s : State) : Host.Outcome State Fault Refusal :=
  if !portReady s port then skip s
  else if !isMgmt port then finish (busErr s port)
  else finish (ghCtrl s port false false v)

/-- FW_DATA_WORD: a write of GH_FW_DATA (R24, R426, R447). -/
def execFwDataWord (port : RegPort) (w : W32) (s : State) : Host.Outcome State Fault Refusal :=
  if !portReady s port then skip s
  else if !isMgmt port then finish (busErr s port)
  else finish (fwWord s port w)

/-- FW_IMAGE_END: the image ends: slot 0 is extended, the RAMs take the image and zeros, and ROM jumps when the extend is complete
(R425, R427, R428). A stream that ended before its header did fails. -/
def execFwImageEnd (s : State) : Host.Outcome State Fault Refusal :=
  if !live s || s.gh.stage ≠ .loading || s.gh.fwEnded || !fwAll s then skip s
  else if s.gh.fwGot.length < 16 then finish (fwFail s 0x03)
  else
    let s1 := queueExtend s 0 s.gh.fwGot
    finish { s1 with gh := { s1.gh with fwEnded := true, code := tputs 0 [] 0 s.gh.fwGot, data := [],
                                        entry := 0x00010000 + wd (words32 4 s.gh.fwGot) 2 } }

/-- The line of the firmware image that ROM fetches next (R426); none while a Plan is fetched (R429). -/
def fwFetch (s : State) : Option (BitVec 58) :=
  if s.gh.stage = .loading && s.gh.src && !fwAll s && s.meas.queue.isEmpty && !(s.pln.st == .loading && s.pln.source) then
    some (s.gh.fwAddr + BitVec.ofNat 58 (s.gh.fwGot.length / 64))
  else none

/-- The line that the Gatehouse fetches next, and for which load (R429, log entry 24). -/
def ghFetch (s : State) : Option (BitVec 58 × OutKind) :=
  ((planFetch s).map (fun a => (a, .plan))).orElse (fun _ => (fwFetch s).map (fun a => (a, .firmware)))

/-- A response to the Gatehouse's transfer reaches the load that asked for it (R102, R271, R426). -/
def ghFetched (s : State) (kind : OutKind) (d : Beat) (good : Bool) : State :=
  if kind = .plan then planFetched s d good
  else if s.gh.stage = .loading then (if good then fwTake s (bytesOf d 64) else fwFail s 0x05)
  else s

/-! ## The core: its address map, its sleep and its interrupts (R422-R424) -/

/-- The access lies in the n bytes at base. -/
def accIn (a : CoreAcc) (base n : Nat) : Bool := decide (base ≤ a.addr.toNat) && decide (a.addr.toNat + 2 ^ a.size.val ≤ base + n)

/-- The bytes of a write. -/
def accBytes (a : CoreAcc) (d : W32) : List Byte := (bytesOf d 4).take (2 ^ a.size.val)

/-- mtimecmp with bytes replaced from byte i. -/
def putCmp (w : W64) (i : Nat) (bs : List Byte) : W64 := let o := bytesOf w 8; wordOf 64 (o.take i ++ bs ++ o.drop (i + bs.length))

/-- The access-fault exception: the core's own, with no other effect (R422). -/
def accFaults (s : State) (a : CoreAcc) : State := { s with gh := { s.gh with accFault := some a.addr } }

/-- A read of the core (R422): a RAM word that fails parity is a Gatehouse memory fault. The control space is read by the commands of
the port gh (R423, log entry 13). -/
def coreRead (s : State) (a : CoreAcc) : State :=
  if accIn a 0x00010000 0x20000 || accIn a 0x00030000 0x10000 then (if a.bad then wholeFault s 0x1D a.addr else s)
  else if accIn a 0 0x10000 || accIn a 0x00040000 16 || accIn a 0x10000000 0x100000 then s
  else accFaults s a

/-- A write of the core (R422). -/
def coreWrite (s : State) (a : CoreAcc) (d : W32) : State :=
  let o := a.addr.toNat
  if accIn a 0x00010000 0x20000 then { s with gh := { s.gh with code := tputs 0 s.gh.code (o - 0x00010000) (accBytes a d) } }
  else if accIn a 0x00030000 0x10000 then { s with gh := { s.gh with data := tputs 0 s.gh.data (o - 0x00030000) (accBytes a d) } }
  else if accIn a 0x00040008 8 then { s with gh := { s.gh with mtimecmp := putCmp s.gh.mtimecmp (o - 0x00040008) (accBytes a d) } }
  else if accIn a 0x10000000 0x100000 then s
  else accFaults s a

/-- The core's accesses in order (R422). -/
def coreRuns (s : State) (l : List CoreAcc) : State :=
  l.foldl (fun s a => match a.data with | none => coreRead s a | some d => coreWrite s a d) s

/-- The machine timer interrupt: mtime has reached mtimecmp (R422, R423). -/
def timerIrq (s : State) : Bool := decide (s.gh.mtimecmp.toNat ≤ s.aon.sundial.toNat)

/-- GATEHOUSE_SLEEP: firmware makes these accesses and then executes WFI; with no interrupt pending the Gatehouse sleeps (R422, R424). -/
def execGatehouseSleep (s : State) (accs : List CoreAcc := []) : Host.Outcome State Fault Refusal :=
  if !live s || s.gh.stage ≠ .running || s.gh.asleep then skip s
  else
    let t := coreRuns s accs
    finish { t with gh := { t.gh with asleep := !t.gh.extIrq && !timerIrq t } }

/-- GATEHOUSE_WAKE: the machine external interrupt is taken and wakes the Gatehouse, whose firmware makes these accesses (R422-R424). -/
def execGatehouseWake (accs : List CoreAcc) (s : State) : Host.Outcome State Fault Refusal :=
  if !live s || !s.gh.extIrq then skip s
  else finish (coreRuns { s with gh := { s.gh with asleep := false, extIrq := false } } accs)

/-- TIMER_INTERRUPT: mtime has reached mtimecmp, which wakes the Gatehouse (R422-R424). -/
def execTimerInterrupt (s : State) : Host.Outcome State Fault Refusal :=
  if !live s || !timerIrq s then skip s else finish { s with gh := { s.gh with asleep := false } }

/-! ## Measurement (R432-R437, R448-R450) -/

/-- MEASURE_EXTEND: a write of GH_EXT_CTRL with GO (R24, R433, R449). -/
def execMeasureExtend (port : RegPort) (slot : Fin 8) (s : State) : Host.Outcome State Fault Refusal :=
  if !portReady s port then skip s
  else if !isMgmt port || slot.val < 4 then finish (busErr s port)
  else
    let d : BitVec 384 := wordOf 384 (s.meas.extData.toList.flatMap (fun w => bytesOf w 8))
    finish (ack { s with meas := { s.meas with queue := s.meas.queue ++ [⟨slot, d⟩] } } port)

/-- The 432 bytes of a report (R436). -/
def reportBytes (s : State) (nonce : W32) : List Byte :=
  bytesOf (0x00010000 : W32) 4 ++ bytesOf s.aon.bootCount 4 ++ bytesOf nonce 4 ++ bytesOf (0x00020003 : W32) 4 ++
    bytesOf s.pln.planId 4 ++ bytesOf (plnLoaded s) 4 ++ bytesOf (bootStat s) 4 ++ bytesOf (plnStatus s) 4 ++
    s.meas.cnt.toList.flatMap (fun c => bytesOf c 2) ++ s.meas.slots.toList.flatMap (fun d => bytesOf d 48)

/-- The report is copied, and GH_SIG_LEN is 0 (R436). -/
def snapshot (s : State) (nonce : W32) : State :=
  { s with meas := { s.meas with report := fileOf 0 (words64 (words32 108 (reportBytes s nonce))), sigLen := 0 } }

/-- A snapshot for a request, taken between two extends; then the reply, or the signature is awaited (R436, R437). -/
def takeReport (s : State) (w : W64) (sign present : Bool) : State :=
  let s1 := snapshot s (w.extractLsb' 32 32)
  let next : GhReq :=
    if !sign then .reply w 0 s.aon.bootCount
    else if present then .signing w (sha384 (reportBytes s (w.extractLsb' 32 32))) 0
    else .reply w 3 s.aon.bootCount
  { s1 with gh := { s1.gh with req := some next } }

/-- Word k of the request on the signing-key interface while it is made: digest bytes 4 k to 4 k + 3; word 11 is the last (R438). -/
def signWord (digest : BitVec 384) (k : Fin 12) : W32 := digest.extractLsb' (32 * k.val) 32

/-- The slot, count and WRAP after an extend (R432, R448). -/
def extendSlot (m : Meas) (e : Extend) : Meas :=
  let c := vget m.cnt e.slot + 1
  { m with slots := vmod m.slots e.slot (fun d => sha384 (bytesOf d 48 ++ bytesOf e.digest 48)), cnt := vset m.cnt e.slot c,
           wrap := if c = 0 then vset m.wrap e.slot true else m.wrap }

/-- The boot stage that an extend of a slot completes (R425). -/
def bootAfter (g : Gatehouse) (f : Fuse) (slot : Fin 8) : Gatehouse :=
  if slot = 1 && g.stage == .fuses && f.done then { g with stage := .waitImage }
  else if slot = 0 && g.stage == .loading && g.fwEnded then { g with stage := .running, fwEnded := false, asleep := false }
  else g

/-- ROM's jump to the entry point: every register is 0 but a0, which holds GH_BOOT_STAT, RUNNING (R427, log entry 13). -/
def jumped (s : State) : State := { s with gh := { s.gh with regs := vset (Vector.replicate 32 0) 10 (bootStat s) } }

/-- SLOT_EXTEND_COMPLETE: the measurement hardware finishes the oldest extend (R432); a boot stage, a report that waited and words
that waited go on. -/
def execSlotExtendComplete (s : State) : Host.Outcome State Fault Refusal :=
  if !live s then skip s
  else
    match s.meas.queue with
    | [] => skip s
    | e :: es =>
      let s1 := { s with meas := { extendSlot s.meas e with queue := es }, gh := bootAfter s.gh s.fuse e.slot }
      let s1 := if s1.gh.stage = s.gh.stage || s1.gh.stage != .running then s1 else jumped s1
      let s2 := match s1.gh.req with
        | some (.measure w sign present) => takeReport s1 w sign present
        | _ => s1
      finish (retryWords s2)

/-! ## Requests (R337, R431) -/

/-- The request at mailbox 0 that the Gatehouse may take now, when its CODE is among these (R337); asleep it takes none (R424). -/
def ghRequest (s : State) (codes : Byte → Bool) : Option W64 :=
  if !live s || s.gh.req.isSome || s.gh.asleep then none
  else
    match (box s 0).word with
    | some (w, _) => if codes (w.extractLsb' 0 8) then some w else none
    | none => none

/-- The request is taken, and what it awaits is set (R337). -/
def takeRequest (s : State) (q : GhReq) : State :=
  let s1 := modBox s 0 (fun x => { x with word := none })
  { s1 with gh := { s1.gh with req := some q } }

/-- A measurement request: its report is copied at once where no extend is in progress (R432, R436). -/
def measureRequest (s : State) (w : W64) (sign present : Bool) : State :=
  let s := takeRequest s (.measure w sign present)
  if s.meas.queue.isEmpty then takeReport s w sign present else s

/-- MEASURE (R337, R436). -/
def execMeasure (s : State) : Host.Outcome State Fault Refusal :=
  match ghRequest s (· == 1) with
  | none => skip s
  | some w => finish (measureRequest s w false false)

/-- BOOT_STATUS (R337). -/
def execBootStatus (s : State) : Host.Outcome State Fault Refusal :=
  match ghRequest s (· == 2) with
  | none => skip s
  | some w => finish (takeRequest s (.reply w 0 (bootStat s)))

/-- FUSE_REREAD: refused unless pl_frozen is 1 (R337, R467); it follows the read at boot (R52, R425). -/
def execFuseReread (s : State) : Host.Outcome State Fault Refusal :=
  match ghRequest s (· == 3) with
  | none => skip s
  | some w =>
    if !s.frz.asserted then finish (takeRequest s (.reply w 2 0))
    else if s.fuse.req.isSome || s.gh.stage == .reset || s.gh.stage == .fuses then skip s
    else
      let s := takeRequest s (.fuses w)
      finish { s with fuse := { s.fuse with words := [], req := some 0, ticks := 0, reread := true } }

/-- SIGNED_MEASURE (R337, R431, R436, R437): the report is copied as for MEASURE; ROM has no signing service. -/
def execSignedMeasure (skPresent : Bool) (s : State) : Host.Outcome State Fault Refusal :=
  match ghRequest s (· == 4) with
  | none => skip s
  | some w => finish (measureRequest s w true (skPresent && s.gh.stage == .running))

/-- UNKNOWN_REQUEST (R337). -/
def execUnknownRequest (s : State) : Host.Outcome State Fault Refusal :=
  match ghRequest s (fun c => c == 0 || decide (5 ≤ c.toNat)) with
  | none => skip s
  | some w => finish (takeRequest s (.reply w 1 0))

/-- The word of a reply (R337). -/
def replyWord (w : W64) (status : Byte) (result : W32) : W64 := result ++ (0 : Byte) ++ status ++ (w.extractLsb' 0 16)

/-- The mailbox of a reply (R337). -/
def replyBox (s : State) (w : W64) : Fin 64 :=
  let n : Fin 64 := fin 64 (w.extractLsb' 16 6).toNat
  if n = 0 || (box s n).recv == 1 then 1 else n

/-- GATEHOUSE_REPLY: the reply is sent once the mailbox can take it (R337, R338). -/
def execGatehouseReply (s : State) : Host.Outcome State Fault Refusal :=
  if !live s || s.gh.asleep then skip s
  else
    match s.gh.req with
    | some (.reply w st res) =>
      let n := replyBox s w
      if boxFull s (box s n) || (closed s 0 && decide (32 ≤ n.val)) then skip s
      else
        let s := { s with gh := { s.gh with req := none } }
        if (box s n).recv = 2 then finish (sendBox s n (replyWord w st res) .gatehouse).1
        else finish (sendBox s n (replyWord w st res) (.port .gh)).1
    | _ => skip s

/-- SIGNING_RESPONSE: the signing block answers with one word or more (R437, R438). -/
def execSigningResponse (words : List W32) (err : Bool) (s : State) : Host.Outcome State Fault Refusal :=
  if !live s || words.isEmpty then skip s
  else
    match s.gh.req with
    | some (.signing w _ _) =>
      let n := words.length
      if err || 32 < n then finish { s with gh := { s.gh with req := some (.reply w 2 s.aon.bootCount), extIrq := true } }
      else
        let ws := words64 (words ++ [0])
        let sig := vmap (fun i d => if 2 * i.val < n then (if 2 * i.val + 1 < n then ws.getD i.val 0 else d.extractLsb' 32 32 ++ wd words (2 * i.val)) else d) s.meas.sig
        finish { s with meas := { s.meas with sig := sig, sigLen := BitVec.ofNat 8 (4 * n) },
                        gh := { s.gh with req := some (.reply w 0 s.aon.bootCount), extIrq := true } }
    | _ => skip s

/-- SIGNING_TIMEOUT: no response ended within 100,000 ticks (R437). -/
def execSigningTimeout (s : State) : Host.Outcome State Fault Refusal :=
  if !live s then skip s
  else
    match s.gh.req with
    | some (.signing w _ t) =>
      if t < 100000 then skip s else finish { s with gh := { s.gh with req := some (.reply w 3 s.aon.bootCount) } }
    | _ => skip s

end Sys2Proof.Machine
end

