-- ==== Sys2Proof/Machine/Rill.lean ====
section
/-! DEFINITION. Rill: stream heads, admission, issue, the Wicket and the echo caches (R40-R42, R247-R286). -/

namespace Sys2Proof.Machine

/-! ## Descriptors (R252-R254) -/

/-- A descriptor as read from its slot (R252). -/
structure RDesc where
  last : Bool
  share : Bool
  rowBeats : Nat
  rows : Nat
  next : BitVec 12
  xaddr : Nat
  xstride : Nat
  daddr : Nat
  dstride : Nat
  deriving DecidableEq, Repr

/-- The descriptor in slot n (R252). -/
def readDesc (s : State) (n : BitVec 12) : RDesc :=
  let w := slotWord s n
  { last := (w 0).getLsbD 2, share := (w 0).getLsbD 4, rowBeats := ((w 0).extractLsb' 6 6).toNat + 1,
    rows := ((w 0).extractLsb' 12 10).toNat + 1, next := (w 0).extractLsb' 32 12, xaddr := ((w 1).extractLsb' 6 58).toNat,
    xstride := ((w 2).extractLsb' 0 32).toNat, daddr := ((w 3).extractLsb' 6 21).toNat, dstride := ((w 3).extractLsb' 32 16).toNat }

/-- The beats of a tile in stream order, as row and beat in the row (R253). -/
def tileOrder (d : RDesc) : List (Nat × Nat) := (List.range d.rows).flatMap (fun r => (List.range d.rowBeats).map (fun b => (r, b)))

/-- External line of a beat (R253). -/
def extLine (d : RDesc) (x : Nat × Nat) : Nat := d.xaddr + x.1 * d.xstride + x.2
/-- Data-space beat of a beat (R253). -/
def dsLine (d : RDesc) (x : Nat × Nat) : Nat := d.daddr + x.1 * d.dstride + x.2

/-- The reserved bits of a descriptor are 0 (R252). -/
def descReserved (s : State) (n : BitVec 12) : Bool := reservedZero s n descBits

/-- The descriptor in slot n is not faulty (R254); the last row's last beat reaches furthest. -/
def descGood (s : State) (n : BitVec 12) : Bool :=
  let d := readDesc s n
  let top := (d.rows - 1, d.rowBeats - 1)
  slotKind s n == 2 && descReserved s n && decide (d.rows * d.rowBeats ≤ 1024) && decide (dsLine d top < 2 ^ 21) &&
    decide (extLine d top < 2 ^ 58)

/-! ## Resources (R247, R258, R271) -/

/-- The lowest free tag of a range. -/
def lowTag (used : List (BitVec 11)) (lo n : Nat) : Option (BitVec 11) :=
  (((List.range n).map (fun i => BitVec.ofNat 11 (lo + i))).find? (fun t => !used.contains t))
/-- A stream tag not outstanding on the port (R41; the lowest, log entry 25). -/
def freeTag (p : RillPort) : Option (BitVec 11) := lowTag (p.outs.map (·.tag)) 0 1024
/-- A Wicket tag neither reserved nor outstanding (R41, R271; the lowest, log entry 25). -/
def freeWicket (s : State) : Option (BitVec 11) :=
  lowTag (s.rill.wickets ++ (rp s 0).outs.map (·.tag) ++ (rp s 1).outs.map (·.tag)) 1024 256
/-- Staging beats reserved on a port (R258). -/
def staged (p : RillPort) : Nat := p.tiles.foldl (fun n t => if t.wtag.isSome then n else n + t.beats.length) 0
/-- A Wicket tag is released. -/
def dropWicket (s : State) (t : Option (BitVec 11)) : State :=
  match t with
  | none => s
  | some x => { s with rill := { s.rill with wickets := s.rill.wickets.filter (· != x) } }

/-- The head request of port k's admission queue is for a good Wicket descriptor that waits for its tag (R258, R271). -/
def wicketHead (s : State) (k : RPort) : Bool :=
  match (rp s k).queue.head?.bind (fun c => (stream s c).next) with
  | none => false
  | some slot => descGood s slot && (readDesc s slot).rows * (readDesc s slot).rowBeats == 1
/-- A user asks for a Wicket tag: a port for its head request, or the Gatehouse (none), whose transfers go out one at a time (R271,
log entry 24). -/
def wicketAsks (s : State) : Option RPort → Bool
  | none => (ghFetch s).isSome && !(rp s 0).outs.any (fun o => o.who.isNone) && clocked s 0 && !frozen s 0
  | some k => clocked s k && !closed s k && wicketHead s k
/-- The users that wait for a Wicket tag, in request order (R271). -/
def wicketLine (s : State) : List (Option RPort) := s.rill.wicketQ.filter (wicketAsks s)
/-- The Wicket tag that a user is handed now: none while an earlier request waits (R271). -/
def wicketFor (s : State) (u : Option RPort) : Option (BitVec 11) :=
  match (wicketLine s).head? with
  | none => freeWicket s
  | some v => if v = u then freeWicket s else none
/-- A user that finds no tag waits in line (R271). -/
def wicketWait (s : State) (u : Option RPort) : State :=
  { s with rill := { s.rill with wicketQ := if (wicketLine s).contains u then wicketLine s else wicketLine s ++ [u] } }
/-- A user takes a tag and leaves the line. -/
def wicketTake (s : State) (u : Option RPort) (w : BitVec 11) : State :=
  { s with rill := { s.rill with wickets := w :: s.rill.wickets, wicketQ := (wicketLine s).filter (· != u) } }

/-- A stream issues and moves data: RUNNING and not being aborted. -/
def streamLive (s : State) (ctx : BitVec 12) : Bool := (stream s ctx).st == .running && !(stream s ctx).aborting

/-- The position of a stream: slot and number of the earliest beat not complete, in stream order (R250, R267). -/
def streamPos (s : State) (ctx : BitVec 12) : BitVec 12 × BitVec 10 :=
  match ((rp s (streamPort s ctx)).tiles.filter (fun t => t.ctx == ctx)).find? (fun t => (firstOpen t).isSome) with
  | some t => (t.slot, BitVec.ofNat 10 ((firstOpen t).getD 0))
  | none => match (stream s ctx).next with | some n => (n, 0) | none => ((stream s ctx).posSlot, (stream s ctx).posBeat)

/-! ## Doorbells, abort, slot writes (R249-R257) -/

/-- RING_BELL: a write of 1 to RING_BELL through the control port (R24, R255, R256). -/
def execRingBell (port : RegPort) (slot : BitVec 12) (s : State) : Host.Outcome State Fault Refusal :=
  if !portReady s port then skip s
  else if isMgmt port then finish (busErr s port)
  else
    match ringStream s slot with
    | none => finish (busErr s port)
    | some s' => finishSync (ack s' port)

/-- What stays of a tile that is aborted: its outstanding beats (R257). -/
def abortBeat : BeatSt → BeatSt
  | .out t => .out t
  | .idle => .done
  | .merged => .done
  | .staged _ => .done
  | .moving => .done
  | .done => .done

/-- A beat has an external transfer outstanding. -/
def isOut : BeatSt → Bool
  | .out _ => true
  | .idle => false
  | .merged => false
  | .staged _ => false
  | .moving => false
  | .done => false

/-- Reservations of an aborted stream with no outstanding response are released; with the last one the stream is ABORTED (R257). Under
freeze stream states are held (R270). -/
def settleAbort (s : State) (k : RPort) (ctx : BitVec 12) : State :=
  if !(stream s ctx).aborting || frozen s k then s
  else
    let outs := (rp s k).outs
    let gone := fun (t : Tile) => t.ctx == ctx && !outs.any (fun o => o.who.map Prod.fst == some t.uid)
    let s := ((rp s k).tiles.filter gone).foldl (fun s t => dropWicket s t.wtag) s
    let s := modRp s k (fun p => { p with tiles := p.tiles.filter (fun t => !gone t) })
    if (rp s k).tiles.any (fun t => t.ctx == ctx) then s else modStream s ctx (fun x => { x with st := .aborted, aborting := false })

/-- A stream is aborted at its port (R257); under freeze stream states are held (R270). -/
def abortStream (s : State) (ctx : BitVec 12) : State :=
  let x := stream s ctx
  let k := streamPort s ctx
  if !(x.st == .queued || x.st == .running || x.st == .halted) || frozen s k then s
  else
    let (ps, pb) := streamPos s ctx
    let s := modRp s k (fun p => { p with queue := p.queue.filter (· != ctx),
                                          tiles := p.tiles.map (fun t => if t.ctx = ctx then { t with beats := t.beats.map abortBeat } else t) })
    let s := modStream s ctx (fun x =>
      { x with aborting := true, asked := false, waitSlot := false, next := none, depAsked := false, depMet := false, posSlot := ps, posBeat := pb })
    let s := (s.bst.watches.filter (fun w => w.owner == .rill ctx)).foldl (fun s w => dropWatch s w.w) s
    settleAbort s k ctx

/-- A write of 1 to ABORT of a stream head; a stream of port 1 is told through CONTROL (R257, R384). -/
def askAbort (s : State) (ctx : BitVec 12) : State :=
  if slotKind s ctx != 1 then s
  else if streamPort s ctx = 0 then abortStream s ctx
  else sendCtl s 0 (.bell ctx true)

/-- STREAM_ABORT: a write of 1 to ABORT through the control port (R24, R257). -/
def execStreamAbort (port : RegPort) (slot : BitVec 12) (s : State) : Host.Outcome State Fault Refusal :=
  if !portReady s port then skip s
  else if isMgmt port then finish (busErr s port)
  else finishSync (ack (askAbort s slot) port)

/-- The head in slot n is in use: QUEUED, RUNNING or HALTED (R251). -/
def headBusy (s : State) (n : BitVec 12) : Bool :=
  let st := (stream s n).st
  slotKind s n == 1 && (st == .queued || st == .running || st == .halted)

/-- Context slot word j of slot n becomes w; the reserved KIND 0b11 leaves KIND as it was (R15, R250). -/
def setSlot (s : State) (n : BitVec 12) (j : Nat) (w : W64) : State :=
  let w := if j = 0 && w.extractLsb' 0 2 == 3 then (w &&& ~~~3) ||| (slotWord s n j &&& 3) else w
  { s with rill := { s.rill with slots := tset 0 s.rill.slots (8 * n.toNat + j) w } }

/-- A write of 64-bit word j of context slot n with byte enables as a bit mask m: none where it is refused (R249-R252). Of a word
of a head that hardware fills, only the reserved bits are stored: the doorbell tests them (R256). -/
def writeSlot (s : State) (n : BitVec 12) (j : Nat) (data m : W64) : Option State :=
  let old := slotWord s n j
  let put := setSlot s n j ((old &&& ~~~m) ||| (data &&& m))
  if slotKind s n ≠ 1 then some put
  else if j < 3 then (if headBusy s n then none else some put)
  else
    let s := setSlot s n j ((old &&& (headBits j ||| ~~~m)) ||| (data &&& m &&& ~~~headBits j))
    let d := if j = 3 then data &&& m else 0
    let s := if d.getLsbD 35 then modStream s n (fun x => { x with fencedSeen := false }) else s
    let s := if d.getLsbD 1 then askAbort s n else s
    if d.getLsbD 0 then ringStream s n else some s

/-- STREAM_SLOT_WRITE: a 64-bit write of word `word` of a context slot through the control port (R24, R249-R252). -/
def execStreamSlotWrite (port : RegPort) (slot : BitVec 12) (word : Fin 8) (data : W64) (s : State) : Host.Outcome State Fault Refusal :=
  if !portReady s port then skip s
  else if isMgmt port then finish (busErr s port)
  else
    match writeSlot s slot word.val data (BitVec.allOnes 64) with
    | none => finish (busErr s port)
    | some s' => finishSync (ack s' port)

/-! ## Admission (R258-R261) -/

/-- The tile of an admitted descriptor (R258). -/
def newTile (s : State) (ctx slot : BitVec 12) (w : Option (BitVec 11)) : Tile :=
  let d := readDesc s slot
  let o := tileOrder d
  { uid := s.rill.nextUid, ctx := ctx, slot := slot, drain := streamDrain s ctx, wtag := w, share := d.share, last := d.last,
    rowBeats := d.rowBeats, ext := o.map (fun x => BitVec.ofNat 58 (extLine d x)), ds := o.map (fun x => BitVec.ofNat 21 (dsLine d x)),
    beats := o.map (fun _ => .idle) }

/-- A request leaves its admission queue. -/
def popAdmit (s : State) (k : RPort) : State := modRp s k (fun p => { p with queue := p.queue.drop 1 })

/-- The descriptor is admitted with its reservation (R257, R258, R261). -/
def admitTile (s : State) (k : RPort) (ctx slot : BitVec 12) (w : Option (BitVec 11)) : State :=
  let t := newTile s ctx slot w
  let d := readDesc s slot
  let s := modRp (popAdmit s k) k (fun p => { p with tiles := p.tiles ++ [t] })
  let s := { s with rill := { s.rill with nextUid := s.rill.nextUid + 1 } }
  let s := match w with | some x => wicketTake s (some k) x | none => s
  modStream s ctx (fun x => { x with st := .running, asked := false, depMet := false, next := if d.last then none else some d.next })

/-- ADMIT_DESCRIPTOR: the head request of port k's admission queue is served (R254, R258, R261, R270). A request whose descriptor's
dependence does not hold, since its slot was written after the request was added, is added again when it does (R259). -/
def execAdmitDescriptor (k : RPort) (s : State) : Host.Outcome State Fault Refusal :=
  if !clocked s k || closed s k then skip s
  else
    match (rp s k).queue with
    | [] => skip s
    | ctx :: _ =>
      match (stream s ctx).next with
      | none => finish (popAdmit s k)
      | some slot =>
        if slotKind s slot = 0 then finish (modStream (popAdmit s k) ctx (fun x => { x with asked := false, waitSlot := true }))
        else if !descGood s slot then
          finish (halfFault (popAdmit s k) k 0x1B k.val (slot.setWidth 32 ||| (ctx.setWidth 32 <<< 16)))
        else
          let d := readDesc s slot
          if !depHolds s ctx slot then finishSync (modStream (popAdmit s k) ctx (fun x => { x with asked := false }))
          else if d.rows * d.rowBeats = 1 then
            match wicketFor s (some k) with
            | none => if (wicketLine s).contains (some k) then skip s else finish (wicketWait s (some k))
            | some w => finishSync (admitTile s k ctx slot (some w))
          else if staged (rp s k) + d.rows * d.rowBeats ≤ 4096 then finishSync (admitTile s k ctx slot none)
          else skip s

/-! ## Selection (R262, R263) -/

/-- Insert a context number into a rising list without repeats. -/
def insCtx (c : BitVec 12) : List (BitVec 12) → List (BitVec 12)
  | [] => [c]
  | d :: t => if c.toNat < d.toNat then c :: d :: t else if c = d then d :: t else d :: insCtx c t

/-- The streams with tiles on a port, in order of context number. -/
def ctxsOf (p : RillPort) : List (BitVec 12) := p.tiles.foldl (fun l t => insCtx t.ctx l) []

/-- PERIOD of a stream head (R250). -/
def periodOf (s : State) (ctx : BitVec 12) : Nat := ((slotWord s ctx 1).extractLsb' 0 24).toNat
/-- The stream is bound (R263). -/
def isBound (s : State) (ctx : BitVec 12) : Bool := (slotWord s ctx 0).getLsbD 8 && periodOf s ctx != 0
/-- The slack of a bound stream (R263). -/
def slackOf (s : State) (ctx : BitVec 12) : Nat :=
  let d := (pairD (pairFor s ctx)).toNat
  let ring := ((slotWord s ctx 1).extractLsb' 32 8).toNat
  if streamDrain s ctx then (ring - d) * periodOf s ctx else d * periodOf s ctx

/-- The stream of the smallest slack; ties go to the lower context number, which stands first (R262). -/
def leastSlack (s : State) : List (BitVec 12) → Option (BitVec 12)
  | [] => none
  | c :: cs =>
    match leastSlack s cs with
    | none => some c
    | some d => if slackOf s d < slackOf s c then some d else some c

/-- The streams in round-robin order after context number last (R262). -/
def rrCtxs (last : BitVec 12) (l : List (BitVec 12)) : List (BitVec 12) :=
  l.filter (fun c => decide (last.toNat < c.toNat)) ++ l.filter (fun c => decide (c.toNat ≤ last.toNat))

/-- The stream that goes next among those for which ok holds: bound ones by slack, then bulk ones in turn after the last
one served (R262). -/
def pickStream (s : State) (k : RPort) (last : BitVec 12) (ok : BitVec 12 → Bool) : Option (BitVec 12) :=
  let l := (ctxsOf (rp s k)).filter ok
  match leastSlack s (l.filter (isBound s)) with
  | some c => some c
  | none => (rrCtxs last (l.filter (fun c => !isBound s c))).head?

/-- The tiles of a stream that use staging, in admission order. -/
def stageTiles (s : State) (k : RPort) (ctx : BitVec 12) : List Tile := (rp s k).tiles.filter (fun t => t.ctx == ctx && t.wtag.isNone)

/-- A fill beat that waits for issue. -/
def isIdle : BeatSt → Bool
  | .idle => true
  | .out _ => false
  | .merged => false
  | .staged _ => false
  | .moving => false
  | .done => false
/-- A beat that is staged. -/
def isStaged : BeatSt → Bool
  | .staged _ => true
  | .idle => false
  | .out _ => false
  | .merged => false
  | .moving => false
  | .done => false

/-- The beat of a tile that its port issues next, in stream order (R262): a fill's read, or a drain's write once staged. -/
def tileIssue (t : Tile) : Option Nat :=
  if t.drain then
    match t.beats.findIdx? (fun b => !(isOut b || b == .done)) with
    | none => none
    | some i => if isStaged (t.beats.getD i .done) then some i else none
  else t.beats.findIdx? isIdle

/-- Every beat of a tile has been issued. -/
def tileIssued (t : Tile) : Bool :=
  if t.drain then t.beats.all (fun b => isOut b || b == .done) else !t.beats.any isIdle

/-- The beat that a stream issues next: tiles go in admission order (R262). -/
def streamIssue (s : State) (k : RPort) (ctx : BitVec 12) : Option (Tile × Nat) :=
  if !streamLive s ctx then none
  else
    match (stageTiles s k ctx).find? (fun t => !tileIssued t) with
    | none => none
    | some t => (tileIssue t).map (fun i => (t, i))

/-- The tile's Wicket tag is not outstanding (R41). -/
def tagIdle (p : RillPort) (t : Tile) : Bool := !p.outs.any (fun o => some o.tag == t.wtag)

/-- The Wicket beat that waits for issue first (R262, R271). -/
def wicketIssue (s : State) (k : RPort) : Option (Tile × Nat) :=
  (((rp s k).tiles.filter (fun t => t.wtag.isSome && streamLive s t.ctx && tagIdle (rp s k) t)).filterMap (fun t => (tileIssue t).map (fun i => (t, i)))).head?

/-! ## Echo caches (R272-R276) -/

/-- The set of a line (R272). -/
def echoSet (a : BitVec 58) : BitVec 10 := a.extractLsb' 0 10
/-- A line lies in the range of an invalidation; a length of 0 names the whole cache (R284). -/
def inRange (lo : BitVec 58) (len : W32) (a : BitVec 58) : Bool :=
  len == 0 || (decide (lo.toNat ≤ a.toNat) && decide (a.toNat < lo.toNat + len.toNat))
/-- Lookups of a line go to the cache now (R274, R276). -/
def echoOpen (p : RillPort) (a : BitVec 58) : Bool := p.echoEn && !(p.invBusy && inRange p.invLo p.invLen a)
/-- The data of a line held (R272). -/
def echoHit (p : RillPort) (a : BitVec 58) : Option Beat :=
  if echoOpen p a then (p.echo.find? (fun e => e.addr == a)).map (·.data) else none
/-- A line used: it is the most recent (R272). -/
def echoUse (p : RillPort) (a : BitVec 58) : RillPort :=
  { p with echo := p.echo.filter (fun e => e.addr == a) ++ p.echo.filter (fun e => e.addr != a) }
/-- A line dropped. -/
def echoDrop (p : RillPort) (a : BitVec 58) : RillPort := { p with echo := p.echo.filter (fun e => e.addr != a) }
/-- The least recently used line of a full set leaves (R272): the lines after the 16th of the set. -/
def echoTrim (set : BitVec 10) : Nat → List EchoLine → List EchoLine
  | _, [] => []
  | n, e :: es =>
    if echoSet e.addr = set then (if n < 16 then e :: echoTrim set (n + 1) es else echoTrim set n es) else e :: echoTrim set n es
/-- A line allocated (R272, R273). -/
def echoPut (p : RillPort) (a : BitVec 58) (d : Beat) : RillPort :=
  { p with echo := echoTrim (echoSet a) 0 (⟨a, d⟩ :: p.echo.filter (fun e => e.addr != a)) }

/-! ## Issue (R262, R264, R272, R273) -/

/-- A beat of a tile takes a new place. -/
def setBeat (s : State) (k : RPort) (uid i : Nat) (b : BeatSt) : State :=
  modTile s k uid (fun t => { t with beats := t.beats.set i b })

/-- A request transfers at the port (R40). -/
def sendOut (s : State) (k : RPort) (o : ROut) (d : Beat) : State :=
  modRp s k (fun p => { p with outs := p.outs ++ [o], req := some o, wdata := if o.write then d else p.wdata })

/-- The band of a request's slack (R479). -/
def slackBand (s : State) (ctx : BitVec 12) : Nat :=
  if !isBound s ctx then 3
  else let n := slackOf s ctx; if n = 0 then 0 else if n < 1024 then 1 else if n < 16384 then 2 else 3

/-- An external transfer of a tile's beat is issued under a tag, and counted (R479). -/
def issueOut (s : State) (k : RPort) (t : Tile) (i : Nat) (tag : BitVec 11) (d : Beat) (alloc : Bool) : State :=
  let a := t.ext.getD i 0
  let s := setBeat (sendOut s k ⟨tag, .tile, t.drain, some (t.uid, i), a, alloc⟩ d) k t.uid i (.out tag)
  countM (countM s (if t.wtag.isSome then 0x56 else 0x57) k.val 1) 0x58 (k.val + 2 * slackBand s t.ctx) 1

/-- A beat is issued: a drain's write; a read that is not shareable, or for which no lookup is made (R276); or a shareable read that
hits, merges or misses. A line that fails parity on a hit is dropped, and the read misses (R272, R273, R275). -/
def issueBeat (s : State) (k : RPort) (t : Tile) (i : Nat) (tag : BitVec 11) (bad : Bool) : State :=
  let a := t.ext.getD i 0
  match t.beats.getD i .done with
  | .staged d => issueOut s k t i tag d false
  | _ =>
    if !t.share || !(rp s k).echoEn then issueOut s k t i tag 0 false
    else
      match (if bad then none else echoHit (rp s k) a) with
      | some d => countM (setBeat (modRp s k (fun p => echoUse p a)) k t.uid i (.staged d)) 0x50 k.val 1
      | none =>
        let s := if bad && (echoHit (rp s k) a).isSome then modRp s k (fun p => { echoDrop p a with parDrop := true }) else s
        if (rp s k).outs.any (fun o => !o.write && o.addr == a) then countM (setBeat s k t.uid i .merged) 0x52 k.val 1
        else countM (issueOut s k t i tag 0 (echoOpen (rp s k) a)) 0x51 k.val 1

/-- The Gatehouse's transfer is issued on a Wicket tag of port 0 (R271). -/
def issueFetch (s : State) (a : BitVec 58) (kind : OutKind) (w : BitVec 11) : State :=
  countM (wicketTake (sendOut s 0 ⟨w, kind, false, none, a, true⟩ 0) none w) 0x56 0 1

/-- The fetch that the Gatehouse asks of port k, with its Wicket tag; one is outstanding at a time (log entry 24). -/
def fetchReady (s : State) (k : RPort) : Option ((BitVec 58 × OutKind) × BitVec 11) :=
  if k ≠ 0 || !wicketAsks s none then none
  else (ghFetch s).bind (fun a => (wicketFor s none).map (fun w => (a, w)))

/-- The Gatehouse's request of port k finds no Wicket tag: it waits in line (R271). -/
def fetchWait (s : State) (k : RPort) : State :=
  if k = 0 && wicketAsks s none && (wicketFor s none).isNone then wicketWait s none else s

/-- The Wicket's run of wins after it has won the channel, or not, while a stream waited (R262). -/
def nextRun (n : Fin 4) (won waits : Bool) : Fin 4 := if won && waits then (if n.val < 3 then n + 1 else 3) else 0

/-- The Wicket has won the request channel, or not, while a stream waited (R262). -/
def wicketWon (s : State) (k : RPort) (won waits : Bool) : State :=
  modRp s k (fun p => { p with wicketRun := nextRun p.wicketRun won waits })

/-- The DETAIL of a parity failure in the staging store, whose beats the spec does not number (log entry 5), or in the Wicket buffer
(R451). -/
def stagingDetail (s : State) (t : Tile) : W32 :=
  match t.wtag with
  | some w => 0x2000 ||| (w.extractLsb' 0 8).setWidth 32
  | none => (fv s 8 13).setWidth 32

/-- A beat of a tile is issued, and its turn taken by next; a staged beat that fails parity ends the job instead (R269, R451). -/
def issueChecked (s : State) (k : RPort) (t : Tile) (i : Nat) (tag : BitVec 11) (chk : IssueChk) (next : State → State) :
    Host.Outcome State Fault Refusal :=
  if chk = .staging && isStaged (t.beats.getD i .done) then finish (halfFault s k 0x1C k.val (stagingDetail s t))
  else finish (next (issueBeat s k t i tag (chk == .echo)))

/-- RILL_ISSUE: port k issues one request in the order of R262 (R262, R270). -/
def execRillIssue (k : RPort) (chk : IssueChk) (s : State) : Host.Outcome State Fault Refusal :=
  if !clocked s k || frozen s k then skip s
  else
    let s := fetchWait s k
    let st := match freeTag (rp s k) with
      | none => none
      | some tag => (pickStream s k (rp s k).rr (fun c => (streamIssue s k c).isSome)).bind (fun c => (streamIssue s k c).map (fun (x : Tile × Nat) => (c, x.1, x.2, tag)))
    let yields := st.isSome && (rp s k).wicketRun.val == 3
    match (if yields then none else fetchReady s k), (if yields then none else wicketIssue s k), st with
    | some ((a, kind), w), _, _ => finish (wicketWon (issueFetch s a kind w) k true st.isSome)
    | none, some (t, i), _ => issueChecked s k t i (t.wtag.getD 0) chk (fun s => wicketWon s k true st.isSome)
    | none, none, some (c, t, i, tag) =>
      issueChecked s k t i tag chk (fun s => wicketWon (modRp s k (fun p => { p with rr := if isBound s c then p.rr else c })) k false false)
    | none, none, none => skip s

/-! ## Responses (R41, R42, R267-R269) -/

/-- A stream enters HALTED, or notes an earlier XLATE; its admission request leaves the queue (R267, R268). -/
def haltStream (s : State) (ctx : BitVec 12) (key : Nat × Nat) (a : BitVec 58) : State :=
  let x := stream s ctx
  let earlier := match x.xkey with | none => true | some (u, i) => decide (key.1 < u) || (decide (key.1 = u) && decide (key.2 < i))
  if x.st = .running then
    let s := modRp s (streamPort s ctx) (fun p => { p with queue := p.queue.filter (· != ctx) })
    let s := modStream s ctx (fun x => { x with st := .halted, asked := false, xkey := some key, xaddr := a })
    { s with rill := { s.rill with xlate := true } }
  else if x.st = .halted && earlier then modStream s ctx (fun x => { x with xkey := some key, xaddr := a })
  else s

/-- A beat that waits for the read of a line: the one it was issued for, but for one issued again since (R268), or one merged with it
(R273). -/
def waitsFor (o : ROut) (t : Tile) (i : Nat) : Bool :=
  (o.kind == .tile && o.who == some (t.uid, i)) || (t.beats.getD i .done == .merged && t.ext.getD i 0 == o.addr)

/-- The beats of every tile of port k that wait for a read take a new place; those of an aborted stream are dropped. -/
def placeBeats (s : State) (k : RPort) (o : ROut) (b : BeatSt) : State :=
  let gone := fun (c : BitVec 12) => (stream s c).aborting
  modRp s k (fun p => { p with tiles := p.tiles.map (fun t =>
    { t with beats := t.beats.mapIdx (fun i x => if waitsFor o t i then (if gone t.ctx then .done else b) else x) }) })

/-- The first beat of each tile that waits for a read, or whose transfer it was (R268). -/
def waiters (p : RillPort) (o : ROut) : List (BitVec 12 × Nat × Nat) :=
  p.tiles.filterMap (fun t =>
    ((List.range t.beats.length).find? (fun i => waitsFor o t i || o.who == some (t.uid, i))).map (fun i => (t.ctx, t.uid, i)))

/-- Streams being aborted are settled (R257). -/
def settleAll (s : State) (k : RPort) : State := (ctxsOf (rp s k)).foldl (fun s c => settleAbort s k c) s

/-- XLATE: the beats wait to be issued again, and their streams halt (R267, R273). -/
def xlateBeats (s : State) (k : RPort) (o : ROut) : State :=
  let ws := waiters (rp s k) o
  ws.foldl (fun s w => if (stream s w.1).aborting then s else haltStream s w.1 w.2 o.addr) (placeBeats s k o .idle)

/-- The stream head that a transfer serves. -/
def outCtx (s : State) (k : RPort) (o : ROut) : BitVec 12 :=
  match o.who with
  | some (uid, _) => match findTile s k uid with | some t => t.ctx | none => 0
  | none => 0

/-- An ERROR response to a stream transfer (R42, R451). -/
def rillError (s : State) (k : RPort) (o : ROut) : State :=
  halfFault s k 0x1A k.val (o.tag.setWidth 32 ||| ((outCtx s k o).setWidth 32 <<< 16))

/-- A transfer is no longer outstanding. -/
def dropOut (s : State) (k : RPort) (o : ROut) : State := modRp s k (fun p => { p with outs := p.outs.filter (· != o) })

/-- Stream beats merged with a transfer of the Gatehouse are served by it, halt with its XLATE, or are issued for themselves (R273). -/
def mergedRead (s : State) (k : RPort) (o : ROut) (data : Beat) (resp : BitVec 2) : State :=
  if frozen s k || 2 ≤ resp.toNat then placeBeats s k o .idle
  else if resp = 1 then xlateBeats s k o
  else placeBeats s k o (.staged data)

/-- RILL_READ_RESPONSE: the host answers a read (R41, R42, R267-R271, R273). Under freeze the data is discarded (R270). -/
def execRillReadResponse (k : RPort) (tag : BitVec 11) (data : Beat) (resp : BitVec 2) (s : State) : Host.Outcome State Fault Refusal :=
  if !clocked s k then skip s
  else
    match (rp s k).outs.find? (fun o => o.tag == tag && !o.write) with
    | none => finish (halfFault s k 0x19 k.val (tag.setWidth 32))
    | some o =>
      let s1 := dropOut s k o
      if o.who.isNone then
        let s2 := dropWicket s1 (some tag)
        let s3 := if frozen s k || !o.alloc then s2 else ghFetched s2 o.kind data (resp == 0)
        finishSync (settleAll (mergedRead s3 k o data resp) k)
      else if 2 ≤ resp.toNat then finish (settleAll (placeBeats (rillError s1 k o) k o .idle) k)
      else if frozen s k then finish (settleAll (placeBeats s1 k o .idle) k)
      else if resp = 1 then finishSync (settleAll (xlateBeats s1 k o) k)
      else
        let s2 := if o.alloc && echoOpen (rp s k) o.addr then modRp s1 k (fun p => echoPut p o.addr data) else s1
        finishSync (settleAll (placeBeats s2 k o (.staged data)) k)

/-- RILL_WRITE_RESPONSE: the host answers a write (R41, R42, R264, R267, R269). -/
def execRillWriteResponse (k : RPort) (tag : BitVec 11) (resp : BitVec 2) (s : State) : Host.Outcome State Fault Refusal :=
  if !clocked s k then skip s
  else
    match (rp s k).outs.find? (fun o => o.tag == tag && o.write) with
    | none => finish (halfFault s k 0x19 k.val ((1 : W32) <<< 12 ||| tag.setWidth 32))
    | some o =>
      let s1 := dropOut s k o
      if resp = 0 then finishSync (settleAll (placeBeats s1 k o .done) k)
      else if 2 ≤ resp.toNat then finish (settleAll (placeBeats (rillError s1 k o) k o .idle) k)
      else if frozen s k then finish (settleAll (placeBeats s1 k o .idle) k)
      else finishSync (settleAll (xlateBeats s1 k o) k)

/-! ## Pieces (R264) -/

/-- The beats of a tile with places, numbered within their row, for those rows' cut (R264). -/
def rowBeatsOf (s : State) (t : Tile) (r : Nat) (keep : BeatSt → Bool) : List NBeat :=
  (List.range t.rowBeats).filterMap (fun b =>
    let i := r * t.rowBeats + b
    let x := t.beats.getD i .done
    let a := 64 * (t.ds.getD i 0).toNat
    if i < t.beats.length && keep x then
      some ⟨b, BitVec.ofNat 29 a, place s a, (match x with | .staged d => d | _ => 0), BitVec.allOnes 64⟩
    else none)

/-- The pieces of a tile among the beats that keep holds of, numbered within the tile (R264). -/
def tilePieces (s : State) (t : Tile) (keep : BeatSt → Bool) : List (List NBeat) :=
  (List.range (t.beats.length / t.rowBeats)).flatMap (fun r =>
    (cutRuns (rowBeatsOf s t r keep)).map (fun run => run.map (fun b => { b with i := r * t.rowBeats + b.i })))

/-- The first piece of a fill tile whose beats, those complete apart, are all staged. -/
def fillPiece (s : State) (t : Tile) : Option (List NBeat) :=
  if t.drain then none
  else (tilePieces s t (fun b => b != .done)).find? (fun run => run.all (fun b => isStaged (t.beats.getD b.i .done)))

/-- The first piece of a drain tile to be read. -/
def drainPiece (s : State) (t : Tile) : Option (List NBeat) := if t.drain then (tilePieces s t isIdle).head? else none

/-- Some piece of a stream's tiles, in admission order. -/
def streamPiece (l : List Tile) (f : Tile → Option (List NBeat)) : Option (Tile × List NBeat) :=
  (l.filterMap (fun t => (f t).map (fun r => (t, r)))).head?

/-- The piece of a stream that goes next at port k (R262). -/
def pickStaged (s : State) (k : RPort) (ok : BitVec 12 → Bool) (f : Tile → Option (List NBeat)) : Option (Tile × List NBeat) :=
  (pickStream s k (rp s k).pieceRr (fun c => ok c && (streamPiece (stageTiles s k c) f).isSome)).bind
    (fun c => streamPiece (stageTiles s k c) f)

/-- The piece that goes next at port k, and the port's turns after it: the Wicket first, unless it has won three times running while
a stream waited, then the streams (R262). -/
def pickPiece (s : State) (k : RPort) (ok : BitVec 12 → Bool) (f : Tile → Option (List NBeat)) :
    Option (Tile × List NBeat × (RillPort → RillPort)) :=
  let st := pickStaged s k ok f
  match (if st.isSome && (rp s k).pieceRun.val == 3 then none else streamPiece ((rp s k).tiles.filter (fun t => t.wtag.isSome && ok t.ctx)) f) with
  | some (t, run) => some (t, run, fun p => { p with pieceRun := nextRun p.pieceRun true st.isSome })
  | none => st.map (fun x => (x.1, x.2, fun p => { p with pieceRun := 0, pieceRr := if isBound s x.1.ctx then p.pieceRr else x.1.ctx }))

/-- A piece enters the half crossbar. -/
def movePiece (s : State) (k : RPort) (t : Tile) (op : CellOp) (run : List NBeat) : State :=
  let s1 := modTile s k t.uid (fun t => { t with beats := t.beats.mapIdx (fun i x => if run.any (fun b => b.i == i) then .moving else x) })
  match runPiece (.rill k t.uid) op false run with
  | some (pc, a) => routePiece s1 pc a
  | none => s1

/-- The half-crossbar output of a piece: its region's link, or the seam endpoint (R451). -/
def pieceOutput (k : RPort) (run : List NBeat) : Nat :=
  match run with
  | b :: _ => if halfOf b.at_.region = k then b.at_.region.val % 4 else 9
  | [] => 9

/-- A stream whose fetched data still moves: RUNNING or HALTED, not aborted (R267). -/
def streamMoves (s : State) (c : BitVec 12) : Bool :=
  ((stream s c).st == .running || (stream s c).st == .halted) && !(stream s c).aborting

/-- A half crossbar flit of a piece that fails parity: the output that finds it (R451). -/
def pieceFault (k : RPort) (run : List NBeat) (chk : PieceChk) : Option Nat :=
  match chk with
  | .good => none
  | .staging => none
  | .there => some (pieceOutput k run)
  | .back => some 4

/-- FILL_PIECE_WRITE: a staged piece of a fill goes to its block (R248, R264, R267). A beat or a flit that fails parity is not used
(R269, R451). -/
def execFillPieceWrite (k : RPort) (chk : PieceChk) (s : State) : Host.Outcome State Fault Refusal :=
  if !clocked s k || frozen s k then skip s
  else
    match pickPiece s k (streamMoves s) (fillPiece s) with
    | none => skip s
    | some (t, run, turn) =>
      if chk = .staging then finish (halfFault s k 0x1C k.val (stagingDetail s t))
      else
        match pieceFault k run chk with
        | some out => finish (halfFault s k 0x10 0 (BitVec.ofNat 32 out))
        | none => finish (movePiece (modRp s k turn) k t .write run)

/-- DRAIN_PIECE_READ: a piece of a drain is read from its block (R248, R264). A flit that fails parity, there or back, is not used
(R451). -/
def execDrainPieceRead (k : RPort) (s : State) (chk : PieceChk := .good) : Host.Outcome State Fault Refusal :=
  if !clocked s k || frozen s k then skip s
  else
    match pickPiece s k (streamLive s) (drainPiece s) with
    | none => skip s
    | some (t, run, turn) =>
      match pieceFault k run chk with
      | some out => finish (halfFault s k 0x10 0 (BitVec.ofNat 32 out))
      | none => finish (movePiece (modRp s k turn) k t .read run)

/-! ## Completion (R265, R266) -/

/-- A completion adds 1 to P or C of a pair; one that the pair refuses is counted as a refused operation (R265, R290). One that came
from port 1 is answered with the pair's value. -/
def rillPair (s : State) (n : Byte) (producer : Bool) (posted : Option Bool) : State :=
  match pairAdd s n producer 1 posted with
  | some s' => countM s' 0x60 (if producer then 4 else 5) 1
  | none =>
    let s := refuseOp s (if producer then 4 else 5)
    if posted.isSome then tellPair s n posted else s

/-- Port 1 is told a pair's value (R384). -/
def pairTold (s : State) (n : Byte) (v : W64) (posted : Option Bool) : State :=
  let r := s.rill
  { s with rill := { r with
    pairSeen := tset 0 r.pairSeen n.toNat v
    pairPosted := match posted with | none => r.pairPosted | some producer => r.pairPosted.erase (n, producer) } }

/-- A tile of a bound stream posts its completion: at once from port 0, through CONTROL from port 1 (R265, R384). -/
def postPair (s : State) (k : RPort) (n : Byte) (producer : Bool) : State :=
  if k = 0 then rillPair s n producer none
  else sendCtl { s with rill := { s.rill with pairPosted := s.rill.pairPosted ++ [(n, producer)] } } 1 (.pairAdd n producer)

/-- A stream's end adds 1 to END_SEM; one that would pass 2^31 - 1 is counted as refused (R265, R289, R290). -/
def rillSem (s : State) (n : BitVec 12) : State :=
  let v := semVal s n
  if v = BitVec.allOnes 31 then refuseOp s 0 else countM (putSem s n (v + 1)) 0x60 0 1

/-- A completion's posting goes to the Bandstand: at once from port 0, through CONTROL from port 1 (R384). -/
def postOr (s : State) (k : RPort) (f : State → State) (m : CtlMsg) : State := if k = 0 then f s else sendCtl s 1 m

/-- The end of a stream: DONE, END_SEM, BARRIER (R265). -/
def endStream (s : State) (k : RPort) (ctx : BitVec 12) : State :=
  let h := slotWord s ctx 0
  let w := slotWord s ctx 2
  let s := modStream s ctx (fun x => { x with st := .done })
  let s := if h.getLsbD 9 then postOr s k (fun s => rillSem s (w.extractLsb' 0 12)) (.rillSem (w.extractLsb' 0 12)) else s
  if h.getLsbD 10 then postOr s k (fun s => rillArrive s (w.extractLsb' 32 12) k) (.rillArrive (w.extractLsb' 32 12) k) else s

/-- The stream's earliest tile completes (R265). -/
def completeTile (s : State) (k : RPort) (ctx : BitVec 12) (t : Tile) : State :=
  let h := slotWord s ctx 0
  let n : Byte := h.extractLsb' 16 8
  let s := modRp (dropWicket s t.wtag) k (fun p => { p with tiles := p.tiles.filter (fun x => x.uid != t.uid) })
  let s := modStream s ctx (fun x => { x with tiles := x.tiles + 1, posSlot := t.slot, posBeat := BitVec.ofNat 10 (t.beats.length - 1) })
  let s := if h.getLsbD 8 then postPair s k n (!t.drain) else s
  if t.last then endStream s k ctx else s

/-- TILE_COMPLETE: the earliest tile of stream head `slot` is complete (R265, R266). -/
def execTileComplete (slot : BitVec 12) (s : State) : Host.Outcome State Fault Refusal :=
  let k := streamPort s slot
  if !clocked s k || frozen s k || !streamMoves s slot then skip s
  else
    match ((rp s k).tiles.filter (fun t => t.ctx == slot)).head? with
    | none => skip s
    | some t => if t.beats.all (· == .done) then finishSync (completeTile s k slot t) else skip s

/-! ## Echo cache registers (R274, R276, R282-R285) -/

/-- The outstanding reads of a port that lie in a range allocate no line (R274). -/
def noAlloc (p : RillPort) (f : BitVec 58 → Bool) : RillPort :=
  { p with outs := p.outs.map (fun o => if o.who.isSome && f o.addr then { o with alloc := false } else o) }

/-- An invalidation begins at port k (R274). -/
def startInv (s : State) (k : RPort) : State :=
  modRp s k (fun p => { noAlloc p (inRange s.rill.invAddr s.rill.invLen) with invBusy := true, invLo := s.rill.invAddr, invLen := s.rill.invLen })

/-- A write of ECH_INV: none where it names a busy port (R285). -/
def echInv (s : State) (p0 p1 : Bool) : Option State :=
  if (p0 && (rp s 0).invBusy) || (p1 && (rp s 1).invBusy) then none
  else
    let s := if p0 then startInv s 0 else s
    some (if p1 then startInv s 1 else s)

/-- ECHO_INVALIDATE: a write of ECH_INV (R277, R285). -/
def execEchoInvalidate (port : RegPort) (p0 p1 : Bool) (s : State) : Host.Outcome State Fault Refusal :=
  if !portReady s port then skip s
  else
    match echInv s p0 p1 with
    | none => finish (busErr s port)
    | some s' => finish (ack s' port)

/-- ECHO_INVALIDATE_DONE: the lines of the range are gone and BUSY falls (R274, R285). -/
def execEchoInvalidateDone (k : RPort) (s : State) : Host.Outcome State Fault Refusal :=
  if !clocked s k || !(rp s k).invBusy then skip s
  else finish (modRp s k (fun p => { p with invBusy := false, echo := p.echo.filter (fun e => !inRange p.invLo p.invLen e.addr) }))

/-- One enable bit of ECH_CTRL written: clearing it invalidates the cache (R276). -/
def setEcho (s : State) (k : RPort) (en : Bool) : State :=
  modRp s k (fun p => if en then { p with echoEn := true } else { noAlloc p (fun _ => true) with echoEn := false, echo := [] })

/-- ECHO_ENABLE_WRITE: a write of ECH_CTRL (R276, R277, R282). -/
def execEchoEnableWrite (port : RegPort) (en0 en1 : Bool) (s : State) : Host.Outcome State Fault Refusal :=
  if !portReady s port then skip s else finish (ack (setEcho (setEcho s 0 en0) 1 en1) port)

end Sys2Proof.Machine
end

