-- ==== Sys2Proof/Machine/Counters.lean ====
section
/-! DEFINITION. Samples, dumps, tagging and counter writes (R482-R496). -/

namespace Sys2Proof.Machine

/-! ## Samples (R484, R487) -/

/-- A count register: COUNT and WRAP (R491). -/
def cntWord (c : Counter) : W64 := b1 c.wrap ++ 0#15 ++ c.val

/-- Counters copied into their shadows. -/
def sampleAll {k : Nat} (v : Vector Counter k) : Vector Counter k := vmap (fun _ c => { c with shadow := cntWord c }) v
/-- Shadows of a region that is Off (R484). -/
def sampleZero {k : Nat} (v : Vector Counter k) : Vector Counter k := vmap (fun _ c => { c with shadow := 0 }) v

/-- The shadows of a region (R484). -/
def sampleRegion (g : RegionSt) : RegionSt :=
  if g.power.st = .off then
    { g with counters := sampleZero g.counters, blocks := vmap (fun _ b => { b with counters := sampleZero b.counters }) g.blocks }
  else { g with counters := sampleAll g.counters, blocks := vmap (fun _ b => { b with counters := sampleAll b.counters }) g.blocks }

/-- The header beat of a dump (R486). -/
def dumpHeader (d : Dump) (writing : Bool) : Beat :=
  (d.time ++ 0#16 ++ d.offMask ++ 0#6 ++ b1 d.skipped ++ b1 writing ++ d.seq).setWidth 512

/-- Beat k of the dump area written (R485). -/
def dumpBeat (s : State) (d : Dump) (k : Nat) (data : Beat) : State :=
  routeOne s .dump (d.addr.toNat * 64 + 64 * k) data (BitVec.allOnes 64)

/-- A sample is due: an edge has come since a write of DUMP_NOW, or the period has passed (R484). -/
def sampleDue (c : Counters) : Bool := c.dumpDue || (c.period != 0 && decide (c.period.toNat ≤ c.ticks))

/-- A sample taken, and the first header write of its dump (R484-R486). -/
def takeSample (s : State) : State :=
  let off := (idx 8).foldl (fun m r => if (rg s r).power.st = .off then m ||| mask8 r else m) (0 : Byte)
  let d : Dump := { seq := s.cnt.seq + 1, skipped := s.cnt.skipNext, offMask := off, time := s.aon.sundial, addr := s.cnt.addr,
                    phase := .headerOut, outstanding := 1 }
  let s := { s with regions := vmap (fun _ g => sampleRegion g) s.regions,
                    cnt := { s.cnt with counters := sampleAll s.cnt.counters, skipNext := false, dump := some d } }
  dumpBeat s d 0 (dumpHeader d true)

/-- COUNTER_SAMPLE: a sample that is due is taken, or skipped while a dump writes or freeze or stop is in force (R484, R487). -/
def execCounterSample (s : State) : Host.Outcome State Fault Refusal :=
  if !live s || !sampleDue s.cnt then skip s
  else
    let s := { s with cnt := { s.cnt with dumpDue := false,
                                          ticks := if s.cnt.period.toNat ≤ s.cnt.ticks then s.cnt.ticks - s.cnt.period.toNat else s.cnt.ticks } }
    if s.cnt.dump.isSome || closed s 0 then
      finish { s with cnt := { s.cnt with dumpSkip := true, skipNext := true } }
    else finish (takeSample s)

/-- DUMP_NOW: a write of CNT_CTRL.DUMP_NOW (R483, R484, R494). -/
def execDumpNow (port : RegPort) (s : State) : Host.Outcome State Fault Refusal :=
  mgmtWrite s port (fun s => { s with cnt := { s.cnt with dumpNow := true } })

/-! ## Dumps (R485, R486) -/

/-- The shadows in the order of the dump area: macro, then each region's and its blocks' (R486). -/
def dumpWords (s : State) : List W64 :=
  s.cnt.counters.toList.map (·.shadow) ++ (idx 8).flatMap (fun r =>
    (rg s r).counters.toList.map (·.shadow) ++ (idx 32).flatMap (fun b => (blk s r b).counters.toList.map (·.shadow)))

/-- Beat k of the body, 1 to 138 (R486). -/
def bodyBeat (ws : List W64) (k : Nat) : Beat := wordOf 512 (((ws.drop (8 * (k - 1))).take 8).flatMap (fun w => bytesOf w 8))

/-- The dump in progress, when it stands at this phase with every write acknowledged and no freeze holds the West half. -/
def dumpAt (s : State) (p : DumpPhase) : Option Dump :=
  match s.cnt.dump with
  | none => none
  | some d => if d.phase = p && d.outstanding == 0 && clocked s 0 && !frozen s 0 then some d else none

/-- The dump's phase and outstanding writes. -/
def dumpMove (s : State) (d : Dump) (p : DumpPhase) (n : Nat) : State :=
  { s with cnt := { s.cnt with dump := some { d with phase := p, outstanding := n } } }

/-- DUMP_BODY_WRITE: beats 1 to 138 are written (R485). -/
def execDumpBodyWrite (s : State) : Host.Outcome State Fault Refusal :=
  match dumpAt s .headerOut with
  | none => skip s
  | some d =>
    let ws := dumpWords s
    finish ((List.range 138).foldl (fun s k => dumpBeat s d (k + 1) (bodyBeat ws (k + 1))) (dumpMove s d .bodyOut 138))

/-- DUMP_HEADER_CLOSE: the header is written again with WRITING 0 (R485). -/
def execDumpHeaderClose (s : State) : Host.Outcome State Fault Refusal :=
  match dumpAt s .bodyOut with
  | none => skip s
  | some d => finish (dumpBeat (dumpMove s d .closing 1) d 0 (dumpHeader d false))

/-- DUMP_COMPLETE: CNT_DUMP_SEQ and DUMP_DONE, and ADD 1 to SEM (R485). -/
def execDumpComplete (s : State) : Host.Outcome State Fault Refusal :=
  match dumpAt s .closing with
  | none => skip s
  | some d =>
    let s := { s with cnt := { s.cnt with seq := d.seq, dumpDone := true, dump := none } }
    finishSync (if s.cnt.semEn then rillSem s s.cnt.sem else s)

/-! ## Tagging (R488, R496) -/

/-- CNT_TAG_CTRL written; each write of EN seeds the generator (R488, R496). -/
def writeTag (s : State) (en kind : Bool) (k : BitVec 4) (clear : Bool) : State :=
  { s with cnt := { s.cnt with tagEn := en, tagKind := kind, tagK := k, lfsr := s.cnt.seed,
                               tags := if clear then [] else s.cnt.tags } }

/-- TAGGING_ENABLE. -/
def execTaggingEnable (port : RegPort) (en kind : Bool) (k : BitVec 4) (s : State) : Host.Outcome State Fault Refusal :=
  mgmtWrite s port (fun s => writeTag s en kind k false)
/-- TAG_CLEAR. -/
def execTagClear (port : RegPort) (en kind : Bool) (k : BitVec 4) (s : State) : Host.Outcome State Fault Refusal :=
  mgmtWrite s port (fun s => writeTag s en kind k true)

/-! ## Counter registers (R482, R483, R491-R493) -/

/-- A count register after a write: COUNT taken, WRAP cleared by a 1 (R12, R482, R491). -/
def writeCnt (c : Counter) (d : W64) : Counter := { c with val := d.extractLsb' 0 48, wrap := c.wrap && !d.getLsbD 63 }

/-- The counter that a reference names. -/
def cntOf (s : State) : CntRef → Counter
  | .whole n => vget s.cnt.counters n
  | .region r n => vget (rg s r).counters n
  | .block r b c => vget (blk s r b).counters c

/-- The counter that a reference names changed by f. -/
def modCnt (s : State) (x : CntRef) (f : Counter → Counter) : State :=
  match x with
  | .whole n => { s with cnt := { s.cnt with counters := vmod s.cnt.counters n f } }
  | .region r n => modRg s r (fun g => { g with counters := vmod g.counters n f })
  | .block r b c => modBlk s r b (fun x => { x with counters := vmod x.counters c f })

/-- An access to a region's or block's counter is a wake request (R401). -/
def wakeCnt (s : State) : CntRef → State
  | .whole _ => s
  | .region r _ => wakeReq s r
  | .block r _ _ => wakeReq s r

/-- The counter lies in a region that is Off, where every count and select reads 0 (R477). -/
def cntOff (s : State) : CntRef → Bool
  | .whole _ => false
  | .region r _ => (rg s r).power.st == .off
  | .block r _ _ => (rg s r).power.st == .off

/-- COUNTER_WRITE: control-port writes are refused (R483); a counter of a region that is Off keeps nothing (R477). -/
def execCounterWrite (port : RegPort) (c : CntRef) (data : W64) (s : State) : Host.Outcome State Fault Refusal :=
  if !portReady s port then skip s
  else mgmtWrite (wideWrite s port data) port (fun s =>
    let t := wakeCnt s c
    if cntOff s c then t else modCnt t c (fun x => writeCnt x data))

end Sys2Proof.Machine
end

