-- ==== Sys2Proof/Machine/Faults.lean ====
section
/-! DEFINITION. Stop, freeze, faults, job restart and fences (R27-R30, R310, R439-R441, R451-R464, R471). -/

namespace Sys2Proof.Machine

/-! ## Stop and freeze commands (R439, R440) -/

/-- A held request leaves its Sluice stage with FROZEN (R355). -/
def frozenHead (s : State) (p : EPort) (seq : Nat) : State :=
  answerAll { s with slu := { s.slu with heldNow := s.slu.heldNow &&& ~~~mask32 p } } p seq frozenC

/-- Every request held at a Sluice stage of these ports is answered FROZEN (R355). -/
def frozenHeads (s : State) (ok : EPort → Bool) : State :=
  ((idx 32).filter ok).foldl (fun s p =>
    ((ep s p).reqs.filter (fun e => e.stage == .sluice && !e.broke)).foldl (fun s e => frozenHead s p e.seq) s) s

/-- STOP: a write of GH_CMD.STOP: intake ends, and waiting engine operations are answered FROZEN at once (R30, R310, R439, R440). -/
def execStop (port : RegPort) (s : State) : Host.Outcome State Fault Refusal :=
  mgmtWrite s port (fun s =>
    if s.frz.asserted || s.frz.stopping then s
    else freezeWatches (frozenHeads { s with frz := { s.frz with stopping := true, stopped := true } } (fun _ => true)))

/-- FREEZE: a write of GH_CMD.FREEZE, with or without STOP (R439, R440). -/
def execFreeze (port : RegPort) (stopToo : Bool) (s : State) : Host.Outcome State Fault Refusal :=
  let _ := stopToo
  mgmtWrite s port (fun s => assertFreeze s .command)

/-- Half h holds no work in flight (R30, R439). -/
def quiet (s : State) (h : Half) : Bool :=
  let pieces := (idx 8).all (fun r => halfOf r != h || (rg s r).inq.isEmpty)
  let events := (idx 8).all (fun r => halfOf r != h ||
    ((rg s r).ev.arriving.isEmpty && (rg s r).ev.entry.isEmpty && (rg s r).ev.groups.isEmpty && (rg s r).ev.closes.isEmpty &&
      (rg s r).blocks.toList.all (fun b => b.evq.isEmpty && b.released.isEmpty && b.sweep.isNone && b.emits.isEmpty)))
  let ports := (idx 32).all (fun p => portHalf p != h || (ep s p).reqs.isEmpty)
  let edge := (idx 8).all (fun n => evHalf n != h || ((vget s.ingress n).isEmpty && (vget s.egress n).buf.isEmpty))
  let seam := (idx 4).all (fun c => (vget (dir s h).txq c).isEmpty && (vget (dir s (other h)).rxq c).isEmpty) &&
    (dir s h).replay.isEmpty && (dir s (other h)).asm.isEmpty
  let west := h != 0 || ((idx 32).all (fun p => (ep s p).held.isEmpty) && (idx 64).all (fun n => (box s n).deps.isEmpty))
  pieces && events && ports && edge && seam && west && (rp s h).outs.isEmpty && (rp s h).tiles.isEmpty

/-- STOP_QUIESCENT: both halves are quiescent in one cycle: freeze with CAUSE STOP (R439). -/
def execStopQuiescent (s : State) : Host.Outcome State Fault Refusal :=
  if !live s || !s.frz.stopping || !quiet s 0 || !quiet s 1 then skip s
  else finish (assertFreeze { s with frz := { s.frz with quiescent := Vector.replicate 2 true } } .stop)

/-- EAST_FAULT_RAISE: the oldest East fault on the raise wires reaches the aggregator (R453). -/
def execEastFaultRaise (s : State) : Host.Outcome State Fault Refusal :=
  match s.frz.east with
  | [] => skip s
  | rec :: more => if !live s then skip s else finish (recordFault { s with frz := { s.frz with east := more } } rec)

/-- INJECTED: a write of FLT_INJECT (R451, R471). -/
def execInjected (port : RegPort) (v : W32) (s : State) : Host.Outcome State Fault Refusal :=
  mgmtWrite s port (fun s => wholeFault s 0x1F v)

/-! ## Freeze reaches a half (R27, R28, R310) -/

/-- Every half that a beat of the request lies in has taken freeze. -/
def halvesFrozen (s : State) (e : EReq) : Bool := (reqBeats s e).all (fun b => frozen s (halfOf b.at_.region))

/-- The request is not begun, and the port knows it (R28): it is answered FROZEN. -/
def mustFreeze (s : State) (p : EPort) (e : EReq) : Bool :=
  frozen s (portHalf p) && !e.broke && !e.begun &&
    (match e.stage with
     | .sluice => true
     | .gather => true
     | .sent => halvesFrozen s e
     | .signal => false
     | .answered => false)

/-- Every request that is not begun is answered FROZEN (R28, R29). -/
def freezeRequests (s : State) : State :=
  (idx 32).foldl (fun s p => ((ep s p).reqs.filter (mustFreeze s p)).foldl (fun s e => frozenHead s p e.seq) s) s

/-- Held signals are answered FROZEN (R28, R310). -/
def freezeHeld (s : State) : State :=
  (idx 32).foldl (fun s p => (ep s p).held.foldl (fun s h => answerSignal s p h.seq frozenC) (modEp s p (fun x => { x with held := [] }))) s

/-- Sends whose deposit is in flight are refused (R28, R338). -/
def freezeDeposits (s : State) : State :=
  (idx 64).foldl (fun s n =>
    (box s n).deps.foldl (fun s d =>
      match d.sender with
      | .engine p seq => answerSignal s p seq frozenC
      | .port p => busErr s p
      | .gatehouse => s) (modBox s n (fun x => { x with deps := [] }))) s

/-- Freeze reaches half h. -/
def reachHalf (s : State) (h : Half) : State :=
  let s := { s with frz := { s.frz with reached := vset s.frz.reached h true } }
  let s := if h = 0 then freezeDeposits (freezeHeld (freezeWatches s)) else s
  ((idx 8).filter (fun r => halfOf r == h)).foldl retryRegion (freezeRequests s)

/-- FREEZE_REACH_HALF (R27, R28). -/
def execFreezeReachHalf (h : Half) (s : State) : Host.Outcome State Fault Refusal :=
  if !live s || !s.frz.asserted || vget s.frz.reached h then skip s else finish (reachHalf s h)

/-! ## Job restart (R456-R461) -/

/-- Direction d carries nothing that is not acknowledged and delivered, or is in FAULT (R456). Packets that freeze keeps in the half
crossbar are not in its queues (R391). -/
def seamDrained (s : State) (d : Half) : Bool :=
  let x := dir s d
  x.st == .fault || ((idx 4).all (fun c => (vget x.txq c).all (packetHeld s d c) && (vget x.rxq c).isEmpty) && x.replay.isEmpty && x.asm.isEmpty)

/-- RS_STAT.DRAINED (R456). Steps granted under freeze do not count. -/
def drained (s : State) : Bool :=
  s.frz.asserted && (idx 32).all (fun p => (ep s p).reqs.isEmpty) && (rp s 0).outs.isEmpty && (rp s 1).outs.isEmpty &&
    seamDrained s 0 && seamDrained s 1 && (idx 8).all (fun r => (rg s r).power.steps.isEmpty || (rg s r).power.late)

/-- RS_STAT.CLEAR_PENDING (R459). -/
def clearPending (s : State) : Byte := s.rs.pendData ||| s.rs.pendBasin

/-- A counter at 0, its select kept (R490). -/
def zeroCounter (c : Counter) : Counter := { c with val := 0, wrap := false }

/-- A block after GO: queues, rings, sweep and emit buffer empty, counts 0 (R457, R490). -/
def restartBlock (b : Block) : Block :=
  { b with xq := [], aq := [], fq := [], sched := [], grant := none, evIssued := false, stalled := none, starve := Vector.replicate 4 0, evq := [], ring := Vector.replicate 16 [], released := [],
           halted := false, sweep := none, emits := [], counters := vmap (fun _ c => zeroCounter c) b.counters }

/-- A region after GO (R410, R457). -/
def restartRegion (g : RegionSt) : RegionSt :=
  { g with
    power := { g.power with pend := false, again := false, downWait := false, ticks := 0 }
    mcast := { g.mcast with det := 0, gathers := [] }
    arb := { g.arb with starvePort := 0, starveHalf := false, starveEntry := false, starveBlk := 0, starve := Vector.replicate 6 0 }
    ev := { g.ev with epoch := 0, stepTime := 0, arriving := [], entry := [], groups := [], closes := [], stepsSeen := [],
                      epochWrap := false, ringFull := false, countWrap := 0, counts := Vector.replicate 5 0 }
    lanes := { g.lanes with intSat := false, fpInf := false, fpNan := false, replayed := false, replayWrap := false, replays := 0 }
    sweep := { g.sweep with badProg := false, badInstr := false, emitStall := false, arithSat := false, traceSat := false,
                            emittedWrap := false, suppressedWrap := false, emitted := 0, suppressed := 0 }
    counters := vmap (fun _ c => zeroCounter c) g.counters
    inq := []
    blocks := vmap (fun _ b => restartBlock b) g.blocks }

/-- A Footbridge direction after GO; the spare maps and the link state stay (R391). -/
def restartDir (x : FbDir) : FbDir :=
  { x with crcErr := 0, crcWrap := false, replays := 0, replayWrap := false, txq := Vector.replicate 4 [], sent := Vector.replicate 4 0,
           freedSeen := Vector.replicate 4 0, nextSeq := 0, replay := [], replayOf := none, replayTimes := 0, wire := [], rxNext := 0,
           nak := false, bad := none, asm := [], rxq := Vector.replicate 4 [], freed := Vector.replicate 4 0 }

/-- The Bandstand after GO (R311). -/
def restartBandstand (b : Bandstand) : Bandstand :=
  { b with sem := [], pairs := [], watches := [], pendOrder := [], msgs := [], timeout := false, semErr := false, barErr := false,
           syncErr := false, watchFull := false, errWrap := false, warnWrap := false, errCount := 0, scopeWarn := 0, txq := [], txWait := [], rxq := [],
           bars := vmap (fun _ x => { x with inReg := Vector.replicate 8 0, inW := 0, inE := 0, inCtrl := 0, sent := false,
                                             selfIn := false, chips := [], gen := 0, sgen := 0, closing := [] }) b.bars }

/-- The Lodge after GO: mailboxes 0 and 1 keep their words (R339). -/
def restartLodge (l : Lodge) : Lodge :=
  { l with rejected := false, depFenced := false, rejectWrap := false, rejects := 0,
           boxes := vmap (fun n x => { x with word := if n.val < 2 then x.word else none, deps := [], suspended := false }) l.boxes }

/-- Rill after GO: every stream head IDLE, reservations released, echo caches empty (R269). -/
def restartRill (r : Rill) : Rill :=
  { r with streams := r.streams.filterMap (fun e =>
             let x : StreamSt := { e.2 with st := .idle, next := none, asked := false, waitSlot := false, aborting := false, xkey := none,
                                            depMet := false, depAsked := false }
             if x = stream0 then none else some (e.1, x)),
           ports := vmap (fun _ p => { p with tiles := [], queue := [], outs := [], echo := [], req := none }) r.ports,
           wickets := [], wicketQ := [], pairSeen := [], pairPosted := [] }

/-- The Sluice after GO (R349, R355). -/
def restartSluice (u : Sluice) : Sluice :=
  { u with credit := fullCredit u.eff, acc := Vector.replicate 256 0, used := Vector.replicate 256 0, beats := Vector.replicate 8 0,
           heldCnt := Vector.replicate 8 0, heldNow := 0, beatsWrap := 0, heldWrap := 0, urgent := false }

/-- An engine port after GO; the Bandstand knows its counts again (log entry 32). -/
def restartPort (x : PortSt) : PortSt := { x with reqs := [], cur := none, held := [], seen := x.ret.retired }

/-- The counters after GO (R490). -/
def restartCounters (c : Counters) : Counters :=
  { c with counters := vmap (fun _ x => zeroCounter x) c.counters, dumpNow := false, dumpDue := false, dumpDone := false, dumpSkip := false,
           dumpFenced := false, wrap := false, skipNext := false, dump := none, tags := [], open_ := [] }

/-- An egress port after GO keeps the event it presents (R457). -/
def restartEgress (x : EgressSt) : EgressSt := { x with buf := if x.presented then x.buf.take 1 else [] }

/-- The regions of this test, as a mask. -/
def maskOf (f : Region → Bool) : Byte := (idx 8).foldl (fun m r => if f r then m ||| mask8 r else m) 0

/-- What GO makes of RS_CTRL, RS_STAT and the outstanding clears (R457-R460). -/
def restartState (s : State) (keep : Bool) : Restart :=
  let p := fun (r : Region) => (rg s r).power
  let up := maskOf (fun r => (p r).st == .run && !(p r).down && !(p r).waking)
  let waking := maskOf (fun r => (p r).waking)
  let low := maskOf (fun r => !(p r).waking && ((p r).down || (p r).st == .idle || (p r).st == .retain))
  { keep := keep, st := .clearing, clearing := if keep then 0 else up ||| waking, pendData := if keep then s.rs.pendData else s.rs.pendData ||| low,
    pendBasin := s.rs.pendBasin ||| low, wakeBasin := waking, train := Vector.ofFn (fun d => (dir s d).st == .fault) }

/-- GO's effect on the block (R457). An access that waited for a step close or a wake is tried again. -/
def restartGo (s : State) (keep : Bool) : State :=
  let s := freezeDeposits s
  let rs := restartState s keep
  let s1 := (idx 8).foldl (fun s r => if (rg s r).power.st == .run && !(rg s r).power.down && !(rg s r).power.waking then basinZeroRegion s r else s) s
  let s2 := { s1 with
    rs := rs
    flt := { faults0 with irqIe := s.flt.irqIe }
    regions := vmap (fun _ g => restartRegion g) s.regions
    ports := vmap (fun _ x => restartPort x) s.ports
    ingress := Vector.replicate 8 []
    egress := vmap (fun _ x => restartEgress x) s.egress
    bst := restartBandstand s.bst
    lod := restartLodge s.lod
    rill := restartRill s.rill
    slu := restartSluice s.slu
    fb := { s.fb with steps := Vector.replicate 2 [], dirs := vmap (fun _ x => restartDir x) s.fb.dirs }
    pwr := { s.pwr with wakeDone := 0, ceiling := false, fclkReq := false }
    cnt := restartCounters s.cnt }
  (idx 8).foldl retryRegion ((idx 2).foldl (fun s d => if vget rs.train d then train s d else s) s2)

/-- GO is refused (R457). -/
def goRefused (s : State) (release : Bool) : Bool :=
  !s.frz.asserted || !drained s || s.rs.st == .clearing || s.aon.rail || release

/-- JOB_RESTART_GO: a write of RS_CTRL.GO (R24, R457). -/
def execJobRestartGo (port : RegPort) (keepData release : Bool) (s : State) : Host.Outcome State Fault Refusal :=
  if !portReady s port then skip s
  else if !isMgmt port || goRefused s release then finish (busErr s port)
  else finish (ack (restartGo s keepData) port)

/-- RESTART_CLEARS_DONE: every clear has ended, and the directions that were in FAULT are UP (R460). -/
def execRestartClearsDone (s : State) : Host.Outcome State Fault Refusal :=
  let up := (idx 2).all (fun d => !vget s.rs.train d || (dir s d).st == .up)
  if !live s || s.rs.st ≠ .clearing || s.rs.clearing ≠ 0 || s.rs.wakeBasin ≠ 0 || !up then skip s
  else finish { s with rs := { s.rs with st := .done } }

/-- Release of freeze (R441, R461). -/
def releaseFreeze (s : State) (keep : Bool) : State :=
  { s with frz := { freeze0 with east := s.frz.east }, rs := { s.rs with st := .idle, keep := keep }
           regions := vmap (fun _ g => { g with power := { g.power with late := false } }) s.regions }

/-- JOB_RESTART_RELEASE: a write of RS_CTRL.RELEASE (R24, R461). -/
def execJobRestartRelease (port : RegPort) (keepData : Bool) (s : State) : Host.Outcome State Fault Refusal :=
  if !portReady s port then skip s
  else if !isMgmt port || s.rs.st ≠ .done then finish (busErr s port)
  else finishSync (ack (releaseFreeze s keepData) port)

/-! ## Fences (R463, R464) -/

/-- A scheduled piece is in progress at block b: it has been begun, and scheduled beats of it are still to be issued (R147, R158). -/
def schedBegun (s : State) (r : Region) (b : Blk) : Bool :=
  (rg s r).inq.any (fun p => p.piece.block == b && p.granted &&
    ((blk s r b).sched.any (fun q => q.uid == p.uid) || p.left.any (fun x => isScheduled (rg s r) p.piece.src b x.2.cell)))

/-- RG_ARB_IDLE bit b (R158). -/
def arbIdle (s : State) (r : Region) (b : Blk) : Bool := (blk s r b).grant.isNone && !schedBegun s r b

/-- A fence bit may be set (R464). -/
def maySetFence (s : State) (r : Region) (b : Blk) : Bool :=
  s.frz.asserted || (bit32 (rg s r).arb.freeze b && arbIdle s r b)

/-- A fence bit may be cleared (R464). -/
def mayClearFence (s : State) : Bool := s.frz.asserted && (s.rs.st == .idle || s.rs.st == .failed)

/-- A write of FN_FENCE r is refused (R464). -/
def fenceRefused (s : State) (r : Region) (w : W32) : Bool :=
  (idx 32).any (fun b =>
    (bit32 w b && !fenced s r b && !maySetFence s r b) || (!bit32 w b && fenced s r b && !mayClearFence s))

/-- Beats waiting in the stop of a block that becomes fenced are answered FENCED (R463, R464). -/
def fenceStop (s : State) (r : Region) (b : Blk) : State :=
  let x := blk s r b
  (x.xq ++ x.aq ++ x.fq ++ x.sched).foldl (fun s q => beatDone s r q.uid q.i false ⟨fencedC, 0⟩)
    (modBlk s r b (fun x => { x with xq := [], aq := [], fq := [], sched := [], grant := none }))

/-- Row-events of a block fenced outside freeze are discarded and counted (R464). -/
def fenceRows (s : State) (r : Region) (b : Blk) : State :=
  let x := blk s r b
  let rows := x.evq ++ x.released ++ x.ring.toList.flatten
  let s := modBlk s r b (fun x => { x with evq := [], released := [], ring := Vector.replicate 16 [] })
  rows.foldl (fun s e => settleTag s r e.tag) (evCount s r 3 rows.length)

/-- Block b of region r becomes fenced (R463, R464). -/
def fenceBlock (s : State) (r : Region) (b : Blk) : State :=
  let s := modRg s r (fun g => { g with fence := g.fence ||| mask32 b })
  let s := modBlk (fenceStop s r b) r b (fun x => { x with sweep := none })
  if s.frz.asserted then s else fenceRows s r b

/-- FN_FENCE r written (R464). -/
def writeFence (s : State) (r : Region) (w : W32) : State :=
  let s := ((idx 32).filter (fun b => bit32 w b && !fenced s r b)).foldl (fun s b => fenceBlock s r b) s
  modRg s r (fun g => { g with fence := w })

/-- A write of FN_FENCE r through a port (R24, R464). -/
def fenceWrite (port : RegPort) (r : Region) (w : W32) (s : State) : Host.Outcome State Fault Refusal :=
  if !portReady s port then skip s
  else if !isMgmt port || fenceRefused s r w then finish (busErr s port)
  else finish (ack (writeFence s r w) port)

/-- FENCE_SET. -/
def execFenceSet (port : RegPort) (r : Region) (w : W32) (s : State) : Host.Outcome State Fault Refusal := fenceWrite port r w s
/-- FENCE_CLEAR. -/
def execFenceClear (port : RegPort) (r : Region) (w : W32) (s : State) : Host.Outcome State Fault Refusal := fenceWrite port r w s

end Sys2Proof.Machine
end

