-- ==== Sys2Proof/Machine/Footbridge.lean ====
section
/-! DEFINITION. The Footbridge: training, flits, side words, replay, spare wires, and the arrival of packets (R365-R395). -/

namespace Sys2Proof.Machine

/-! ## Training and link state (R365-R368) -/

/-- FB_CTRL written (R392): a REPLAY_LIMIT of 0 is reserved and keeps the old value. -/
def writeFbCtrl (s : State) (d : W32) : State :=
  let l : BitVec 5 := d.extractLsb' 8 5
  let s := { s with fb := { s.fb with spareEn := d.getLsbD 1, replayLimit := if l = 0 then s.fb.replayLimit else l } }
  if d.getLsbD 0 then train (train s 0) 1 else s

/-- LINK_RETRAIN: a write of FB_CTRL (R24, R365, R392). -/
def execLinkRetrain (port : RegPort) (data : W32) (s : State) : Host.Outcome State Fault Refusal :=
  if !portReady s port then skip s
  else if !isMgmt port then finish (busErr s port)
  else finish (ack (writeFbCtrl s data) port)

/-- A training of direction d fails (R367). The fault's SEQ and GROUP are free values: no flit is named. -/
def failTraining (s : State) (d : Half) : State :=
  linkFault { s with fb := { s.fb with trainFailed := true } } d (fv s 1 7) (fv s 2 2) 2

/-- TRAIN_CLOCK_DONE: both strobes of every group lock and DESKEW begins, or training fails (R363, R366, R367); the operand names the
strobe pairs that do not lock. -/
def execTrainClockDone (d : Half) (unlocked : List (Fin 4 × Fin 2)) (s : State) : Host.Outcome State Fault Refusal :=
  if !live s || !bothClocks s || (dir s d).st ≠ .training 0 then skip s
  else if unlocked.isEmpty then finish (modDir s d (fun x => { x with st := .training 1 }))
  else finish (failTraining s d)

/-- TRAIN_DESKEW_DONE: every wire is aligned and FRAME begins (R366). -/
def execTrainDeskewDone (d : Half) (s : State) : Host.Outcome State Fault Refusal :=
  if !live s || !bothClocks s || (dir s d).st ≠ .training 1 then skip s
  else finish (modDir s d (fun x => { x with st := .training 2 }))

/-- Byte of a spare map that names a data wire. -/
def wireByte (w : Fin 144) : Byte := BitVec.ofNat 8 w.val

/-- The wire has been replaced (R397). -/
def replaced (m : W64) (w : Fin 144) : Bool := (idx 8).any (fun i => spareByte m i == wireByte w)

/-- A spare that fails its check is unusable (R367); the wire that it carried must be placed again. -/
def markSpare (s : State) (d : Half) (g : Fin 4) (i : Fin 8) : State × List (Fin 4 × Fin 144) :=
  let old := spareByte (vget (dir s d).map g) i
  (recordSpare s d g i 0xFE, (idx 144).filterMap (fun w => if wireByte w = old then some (g, w) else none))

/-- The failing spares of direction d, one after another. -/
def markSpares (s : State) (d : Half) : List (Fin 4 × Fin 8) → State × List (Fin 4 × Fin 144)
  | [] => (s, [])
  | (g, i) :: more =>
    let (s, ws) := markSpare s d g i
    let (s, vs) := markSpares s d more
    (s, ws ++ vs)

/-- The failing data wires of direction d on free spares, lowest first (R367); false when a strobe half has too few. -/
def placeWires (s : State) (d : Half) : List (Fin 4 × Fin 144) → State × Bool
  | [] => (s, true)
  | (g, w) :: more =>
    let m := vget (dir s d).map g
    if replaced m w then placeWires s d more
    else
      match freeSpare m w with
      | some i => placeWires (recordSpare s d g i (wireByte w)) d more
      | none => (modDir s d (fun x => { x with noSpare := x.noSpare ||| BitVec.ofNat 4 (2 ^ g.val) }), false)

/-- TRAIN_FRAME_DONE: the failing wires are placed on spares, or training fails (R367). -/
def execTrainFrameDone (d : Half) (fails : FrameFails) (s : State) : Host.Outcome State Fault Refusal :=
  if !live s || !bothClocks s || (dir s d).st ≠ .training 2 then skip s
  else if !fails.side.isEmpty then finish (failTraining s d)
  else
    let (s, ws) := markSpares s d fails.spares
    let (s, good) := placeWires s d (ws ++ fails.wires)
    if good then finish (modDir s d (fun x => { x with st := .training 3 })) else finish (failTraining s d)

/-- LINK_UP: direction d enters UP when a valid side word with state UP has arrived in both directions; transmission resumes with a
replay (R366, R368). -/
def execLinkUp (d : Half) (s : State) : Host.Outcome State Fault Refusal :=
  if !live s || !bothClocks s || (dir s d).st ≠ .training 3 || !(dir s d).sawUp || !(dir s (other d)).sawUp then skip s
  else
    let s := startReplay (modDir s d (fun x => { x with st := .up })) d
    finish (if (dir s 0).st = .up ∧ (dir s 1).st = .up then { s with fb := { s.fb with trained := true } } else s)

/-! ## Transmission and replay (R371-R375, R377) -/

/-- Direction d carries flits and side words. -/
def linkOpen (s : State) (d : Half) : Bool := live s && bothClocks s && (dir s d).st == .up

/-- The packets of a class that the endpoint may take: in EVT none passes a STEP packet, which waits for those before it (R389). -/
def takeable : List Packet → List Packet
  | [] => []
  | p :: ps => if p.kind = 0xA then [p] else p :: ps.takeWhile (fun q => q.kind != 0xA)

/-- The packet of class c that the endpoint takes next: sources in round robin, the packets of each in order, those that freeze
holds left out (R153, R387, R391). -/
def nextPacket (s : State) (d : Half) (c : FbClass) : Option Packet :=
  let l := (takeable (vget (dir s d).txq c)).filter (fun p => !packetHeld s d c p)
  ((hOrder (vget (dir s d).plast c)).filterMap (fun k => l.find? (fun p => p.via == k))).head?

/-- Credit and replay space for all flits of the next packet of class c (R374, R377). -/
def canStart (s : State) (d : Half) (c : FbClass) : Bool :=
  match nextPacket s d c with
  | none => false
  | some p => decide (flitCount p ≤ credit (dir s d) c) && decide ((dir s d).replay.length + flitCount p ≤ 64)

/-- The class that direction d serves next: those that can start a packet, in round robin (R371). -/
def nextClass (s : State) (d : Half) : Option FbClass :=
  ((List.range 4).map (fun i => fin 4 ((dir s d).clast.val + 1 + i))).find? (canStart s d)

/-- PACKET_START: the endpoint takes the next packet of class c, in the class's turn, when it holds credit and replay space for all its
flits (R153, R371, R374, R377, R387, R391). -/
def execPacketStart (d : Half) (c : FbClass) (s : State) : Host.Outcome State Fault Refusal :=
  if !linkOpen s d then skip s
  else
    match nextPacket s d c with
    | none => skip s
    | some p =>
      let n := flitCount p
      let x := dir s d
      if nextClass s d != some c then skip s
      else
        let fs := seqFlits p c x.nextSeq true (payloads p)
        finish (countM (modDir s d (fun x =>
          { x with txq := vmod x.txq c (List.erase · p), plast := vset x.plast c p.via, clast := c, sent := vmod x.sent c (· + BitVec.ofNat 8 n), nextSeq := x.nextSeq + BitVec.ofNat 7 n,
                   replay := x.replay ++ fs, wire := x.wire ++ fs })) 0x68 (d.val + 2 * c.val) n)

/-- NAK_REPEAT_REPLAY: NAK is still set 32 cycles after a replay began (R374, log entry 3). -/
def execNakRepeatReplay (d : Half) (s : State) : Host.Outcome State Fault Refusal :=
  if !linkOpen s d || !(dir s d).nak || (dir s d).replayOf.isNone then skip s else finish (startReplay s d)

/-- ACK_STALL_REPLAY: ACK has made no progress for 64 cycles (R374, log entry 3). -/
def execAckStallReplay (d : Half) (s : State) : Host.Outcome State Fault Refusal :=
  if !linkOpen s d || (dir s d).replay.isEmpty then skip s else finish (startReplay s d)

/-- SIDE_WORD_TIMEOUT: no valid side word for 256 cycles (R375, log entry 3). The fault's SEQ and GROUP are free values. -/
def execSideWordTimeout (d : Half) (s : State) : Host.Outcome State Fault Refusal :=
  if !linkOpen s d then skip s else finish (linkFault s d (fv s 1 7) (fv s 2 2) 1)

/-- The flits that an ACK covers leave the replay buffer (R374). -/
def dropAcked (ack : BitVec 7) : List Flit → List Flit
  | [] => []
  | f :: fs => if (ack - flitSeq f.bits).toNat < 64 then dropAcked ack fs else f :: fs

/-- An ACK reaches the transmitter of direction d: progress starts the count of replays again (R374, R375). -/
def takeAck (s : State) (d : Half) (ack : BitVec 7) : State :=
  modDir s d (fun x =>
    let l := dropAcked ack x.replay
    { x with replay := l, replayTimes := if l.length = x.replay.length then x.replayTimes else 0,
             replayOf := if l.length = x.replay.length then x.replayOf else none })

/-- The side word on direction d reports on the other direction: ACK, FREED, then NAK (R372, R374, R375, R377). -/
def takeSide (s : State) (d : Half) (w : W32) : State :=
  let o := other d
  let ack : BitVec 7 := w.extractLsb' 0 7
  let c : FbClass := ⟨(w.extractLsb' 8 2).toNat, (w.extractLsb' 8 2).isLt⟩
  let freed : Byte := w.extractLsb' 10 8
  let s := takeAck s o ack
  let s :=
    if classSize c < (vget (dir s o).sent c - freed).toNat then fbFault s d 0x12 (0#25 ++ fv s 1 7)
    else modDir s o (fun x => { x with freedSeen := vset x.freedSeen c freed })
  if w.getLsbD 7 && (dir s o).st == .up && (dir s o).replayOf != some ack then startReplay s o else s

/-- The state that the side words of a direction show (R366, R372): UP from the last phase of training on. -/
def shownState : LinkState → LinkState
  | .down => .down
  | .training p => if p = 3 then .up else .training p
  | .up => .up
  | .fault => .fault

/-- The receiver of direction d samples side words: in every state once its strobes have locked (R366, R372). -/
def sideOpen (s : State) (d : Half) : Bool :=
  live s && bothClocks s && (dir s d).st != .down && (dir s d).st != .training 0

/-- SIDE_WORD_RECEIVE: the side word of direction d with count class c arrives with these bits flipped (R372). -/
def execSideWordReceive (d : Half) (c : FbClass) (noise : W32) (s : State) : Host.Outcome State Fault Refusal :=
  if !sideOpen s d then skip s
  else
    let w := sideWord (dir s (other d)) (shownState (dir s d).st) c ^^^ noise
    let up : BitVec 2 := w.extractLsb' 18 2
    finish (if sideOk w then takeSide (modDir s d (fun x => { x with sawUp := x.sawUp || up == 2 })) d w else s)

/-! ## Reception (R373, R375, R379-R381) -/

/-- The lowest free spare for a wire, those of retirements in progress left out (R380). -/
def spareFor (x : FbDir) (g : Fin 4) (w : Fin 144) : Option (Fin 8) :=
  freeSpare (x.retiring.foldl (fun m (e : Fin 4 × Fin 144 × Fin 8) => if e.1 = g then setSpare m e.2.2 (wireByte e.2.1) else m) (vget x.map g)) w

/-- A data wire of direction d has reached THRESH: its retirement starts, or NOSPARE is set (R380, R381). -/
def retireWire (s : State) (d : Half) (g : Fin 4) (w : Fin 144) : State :=
  let x := dir s d
  if x.retiring.any (fun e => e.1 == g && e.2.1 == w) then s
  else
    match spareFor x g w with
    | none => modDir s d (fun x => { x with noSpare := x.noSpare ||| BitVec.ofNat 4 (2 ^ g.val) })
    | some i => sendLink (modDir s d (fun x => { x with retiring := x.retiring ++ [(g, w, i)] })) (other d) 0 (linkFlit 1 g w i)

/-- One error counted against a data wire of group g (R379, R380). -/
def countWire (s : State) (d : Half) (g : Fin 4) (w : Fin 144) : State :=
  let k := 144 * g.val + w.val
  let n := tget 0 (dir s d).errs k + 1
  let s := modDir s d (fun x => { x with errs := tset 0 x.errs k n })
  if n = s.fb.threshEff.toNat then retireWire s d g w else s

/-- The accepted copy of a flit compared with the failed one (R379). -/
def compareFlits (s : State) (d : Half) (bad good : BitVec 288) : State :=
  let x := bad ^^^ good
  let g : Fin 4 := fin 4 (flitSeq good).toNat
  ((idx 144).filter (fun w => x.getLsbD w.val || x.getLsbD (w.val + 144))).foldl (fun s w => countWire s d g w) s

/-- The packet of the flits gathered, with its bookkeeping (log entry 12); none where they break R384 to R386. -/
def gathered (fs : List Flit) : Option Packet :=
  match fs with
  | [] => none
  | f :: _ =>
    match readPacket (fs.map (fun x => flitPayload x.bits)) with
    | none => none
    | some p =>
      if kindClass p.kind ≠ flitClass f.bits || fs.any (fun x => flitClass x.bits ≠ flitClass f.bits) then none
      else
        match f.side with
        | none => some p
        | some q => some { p with ref := q.ref, first := q.first, hp := q.hp, ctl := q.ctl }

/-- A protocol fault of direction d at SEQ q: the flits gathered are dropped (R375). -/
def protocolFault (s : State) (d : Half) (q : BitVec 7) : State :=
  fbFault (modDir s d (fun x => { x with asm := [] })) d 0x12 (0#25 ++ q)

/-- An accepted flit joins the packet in reception, and EOP delivers it to its class buffer (R369, R371, R375). -/
def gatherFlit (s : State) (d : Half) (f : Flit) : State :=
  let q := flitSeq f.bits
  if flitSop f.bits != (dir s d).asm.isEmpty then protocolFault s d q
  else
    let fs := (dir s d).asm ++ [f]
    if !flitEop f.bits then modDir s d (fun x => { x with asm := fs })
    else
      match gathered fs with
      | none => protocolFault s d q
      | some p => modDir s d (fun x => { x with asm := [], rxq := vmod x.rxq (kindClass p.kind) (· ++ [p]) })

/-- A flit accepted in order (R373, R379). -/
def acceptFlit (s : State) (d : Half) (f : Flit) : State :=
  let bad := (dir s d).bad
  let s := modDir s d (fun x => { x with rxNext := x.rxNext + 1, nak := false, bad := none })
  let s := match bad with
    | some b => if s.fb.spareEn then compareFlits s d b f.bits else s
    | none => s
  gatherFlit s d f

/-- A flit, sequenced or link, that fails its CRC is counted (R373, R396). -/
def countCrc (s : State) (d : Half) : State :=
  countM (modDir s d (fun x => { x with crcErr := x.crcErr + 1, crcWrap := x.crcWrap || x.crcErr + 1 == 0 })) 0x6A d.val 1

/-- A sequenced flit that fails its CRC (R373, R396): sent is the flit as driven. -/
def badFlit (s : State) (d : Half) (sent got : BitVec 288) : State :=
  let s := countCrc s d
  if flitSeq sent = (dir s d).rxNext then
    modDir s d (fun x => { x with nak := true, bad := if x.bad.isNone then some got else x.bad })
  else s

/-- The group of a sequenced flit (R371). -/
def groupOf (f : BitVec 288) : Fin 4 := fin 4 (flitSeq f).toNat

/-- A flit as it arrives in direction d on the wires of its group (R364). -/
def arrives (s : State) (d : Half) (g : Fin 4) (f : BitVec 288) (noise : BitVec 304) : BitVec 288 :=
  f ^^^ flips (vget (dir s d).map g) noise

/-- FLIT_RECEIVE: the next flit on the wires of direction d arrives with these bits flipped (R364, R373). Where no flit is on its way, an
IDLE flit arrives (R371, R382), on group 0. -/
def execFlitReceive (d : Half) (noise : BitVec 304) (s : State) : Host.Outcome State Fault Refusal :=
  if !linkOpen s d then skip s
  else
    match (dir s d).wire with
    | [] => finish (if flitCrcOk (arrives s d 0 idleFlit noise) then s else countCrc s d)
    | f :: fs =>
      let got := arrives s d (groupOf f.bits) f.bits noise
      let s := modDir s d (fun x => { x with wire := fs })
      if !flitCrcOk got then finish (badFlit s d f.bits got)
      else if flitLink got || flitSeq got ≠ (dir s d).rxNext then finish s
      else finish (acceptFlit s d ⟨got, f.side⟩)

/-! ## Link flits and the error window (R379-R382) -/

/-- TYPE of a link flit (R382). -/
def linkType (f : BitVec 256) : BitVec 4 := f.extractLsb' 0 4

/-- That link flit is taken. -/
def linkPop (s : State) (d : Half) : State := modDir s d (fun x => { x with link := x.link.drop 1 })

/-- The link flit of TYPE ty at the head of direction l arrives with these flips (R364, R373): one that fails its CRC is counted and not
used, one that has become of another TYPE is ignored, and otherwise f acts on its arguments. -/
def takeLink (s : State) (l : Half) (ty : BitVec 4) (noise : BitVec 304) (f : State → Fin 4 → Fin 144 → Fin 8 → State) :
    Host.Outcome State Fault Refusal :=
  if !linkOpen s l then skip s
  else
    match (dir s l).link with
    | [] => skip s
    | (g, x) :: _ =>
      if linkType (flitPayload x) ≠ ty then skip s
      else
        let got := arrives s l g x noise
        let s := linkPop s l
        if !flitCrcOk got then finish (countCrc s l)
        else if !flitLink got || linkType (flitPayload got) ≠ ty then finish s
        else finish (f s (linkArgs (flitPayload got)).1 (linkArgs (flitPayload got)).2.1 (linkArgs (flitPayload got)).2.2)

/-- RETIRE_REQ: the transmitter of direction d drives the spare like the wire and sends RETIRE_DUP on a group other than the one
concerned (R380). -/
def execRetireReq (d : Half) (s : State) (noise : BitVec 304 := 0) : Host.Outcome State Fault Refusal :=
  takeLink s (other d) 1 noise (fun s g w i =>
    let s := modDir s d (fun x => { x with txDrive := if x.txDrive.contains (g, w, i) then x.txDrive else x.txDrive ++ [(g, w, i)] })
    sendLink s d (g + 1) (linkFlit 2 g w i))

/-- RETIRE_DUP: the receiver of direction d samples the spare, records the map and sends RETIRE_DONE (R380). -/
def execRetireDup (d : Half) (s : State) (noise : BitVec 304 := 0) : Host.Outcome State Fault Refusal :=
  takeLink s d 2 noise (fun s g w i =>
    let s := recordSpare s d g i (wireByte w)
    let s := modDir s d (fun x => { x with retiring := x.retiring.filter (· != (g, w, i)) })
    sendLink s (other d) 0 (linkFlit 3 g w i))

/-- RETIRE_DONE: the transmitter of direction d drives the wire at 0 and sets RETIRED (R380). -/
def execRetireDone (d : Half) (s : State) (noise : BitVec 304 := 0) : Host.Outcome State Fault Refusal :=
  takeLink s (other d) 3 noise (fun s g w i =>
    let s := modDir s d (fun x => { x with txDrive := x.txDrive.filter (· != (g, w, i)) })
    { s with fb := { s.fb with retired := true } })

/-- RETIRE_REQ_REPEAT: 256 cycles have passed without step 3 (R380, log entry 3). -/
def execRetireReqRepeat (d : Half) (s : State) : Host.Outcome State Fault Refusal :=
  if !linkOpen s (other d) || (dir s d).retiring.isEmpty then skip s
  else finish ((dir s d).retiring.foldl (fun s e => sendLink s (other d) 0 (linkFlit 1 e.1 e.2.1 e.2.2)) s)

/-- SPARE_ERROR_WINDOW: WINDOW ticks have passed; the error counts return to 0 and FB_SPARE_CFG applies (R379, R395). -/
def execSpareErrorWindow (s : State) : Host.Outcome State Fault Refusal :=
  if !live s || decide (s.fb.winTicks < s.fb.winEff.toNat) then skip s
  else
    let s := modDir (modDir s 0 (fun x => { x with errs := [] })) 1 (fun x => { x with errs := [] })
    finish { s with fb := { s.fb with winTicks := 0, winEff := s.fb.window, threshEff := s.fb.thresh } }

/-! ## Packets at the far half (R384-R389) -/

/-- The packet of this kind at the head of its buffer leaves it and has this effect. -/
def takePacket (s : State) (d : Half) (kind : BitVec 4) (f : State → Packet → State) : Host.Outcome State Fault Refusal :=
  if !clocked s (other d) then skip s
  else
    match rxHead s d kind with
    | none => skip s
    | some p => finishSync (f (rxPop s d p) p)

/-- The beats of a READ or WRITE packet lie in one block, as those of one piece do (R386). -/
def onePiece (s : State) (p : Packet) : Bool :=
  match packetBeats s p with
  | [] => true
  | b :: bs => bs.all (fun c => c.at_.region == b.at_.region && c.at_.block == b.at_.block)

/-- A packet's piece enters its region; one whose beats lie in more than one block breaks R386 and is a protocol fault (R375). Its SEQ
in the record is a free value. -/
def takePiece (s : State) (d : Half) (p : Packet) : State :=
  if onePiece s p then packetPiece s p else fbFault s d 0x12 (0#25 ++ fv s 1 7)

/-- FB_PKT_READ: the piece enters its region (R386). -/
def execFbPktRead (d : Half) (s : State) : Host.Outcome State Fault Refusal := takePacket s d 0 (fun s p => takePiece s d p)
/-- FB_PKT_WRITE: the piece enters its region (R386). -/
def execFbPktWrite (d : Half) (s : State) : Host.Outcome State Fault Refusal := takePacket s d 1 (fun s p => takePiece s d p)
/-- FB_PKT_ATOMIC: the beat enters its region (R386). -/
def execFbPktAtomic (d : Half) (s : State) : Host.Outcome State Fault Refusal := takePacket s d 2 packetPiece
/-- FB_PKT_READ_DATA: read beats return to the unit that issued the piece (R386). -/
def execFbPktReadData (d : Half) (s : State) : Host.Outcome State Fault Refusal := takePacket s d 3 packetBack
/-- FB_PKT_WRITE_ACK: a write acknowledgement returns, and the write retires at its port (R388). -/
def execFbPktWriteAck (d : Half) (s : State) : Host.Outcome State Fault Refusal := takePacket s d 4 packetBack
/-- FB_PKT_ATOMIC_DATA: an atomic's result returns (R384). -/
def execFbPktAtomicData (d : Half) (s : State) : Host.Outcome State Fault Refusal := takePacket s d 5 packetBack

/-- A signal of an East port reaches its hold (R294, R388); under freeze it is answered FROZEN (R28, R310). -/
def arriveSignal (s : State) (p : Packet) : State :=
  match p.ref with
  | some (.engine port seq) =>
    match findReq s port seq with
    | none => s
    | some e =>
      if e.stage = .answered then s
      else if frozen s 0 then answerSignal s port seq frozenC
      else modEp s port (fun x =>
        { x with held := x.held ++ [⟨seq, p.op == 0xB, p.addr, p.word, p.scope, p.stamp, e.stampAll⟩] })
  | _ => s

/-- FB_PKT_SIGNAL. -/
def execFbPktSignal (d : Half) (s : State) : Host.Outcome State Fault Refusal := takePacket s d 6 arriveSignal

/-- A signal's acknowledgement reaches its port (R384). -/
def ackSignal (s : State) (p : Packet) : State :=
  match p.ref with
  | some (.engine port seq) => answerAll s port seq (p.bresp.extractLsb' 0 3)
  | _ => s

/-- FB_PKT_SIGNAL_ACK. -/
def execFbPktSignalAck (d : Half) (s : State) : Host.Outcome State Fault Refusal := takePacket s d 7 ackSignal

/-- The retire counts of a RETIRE packet (R383, R384). -/
def takeCounts (s : State) (p : Packet) : State :=
  modEp s (fin 32 p.src.toNat) (fun x =>
    { x with seen := vset (vset (vset x.seen 0 (p.word.extractLsb' 0 32)) 1 (p.word.extractLsb' 32 32)) 2 p.stamp })

/-- FB_PKT_RETIRE: an East port's counts reach the Bandstand and the Lodge (R388). -/
def execFbPktRetire (d : Half) (s : State) : Host.Outcome State Fault Refusal := takePacket s d 8 takeCounts

/-- Rill's dependence of a port-1 stream is asked of the Bandstand (R259, R298). -/
def askDep (s : State) (ctx sem : BitVec 12) (n : W32) : State :=
  if watchMet s 0 sem n then sendCtl s 0 (.depMet ctx)
  else
    match regWatch s (.rill ctx) 0 sem n false with
    | some s' => s'
    | none => sendCtl { s with bst := { s.bst with watchFull := true } } 0 (.depFull ctx)

/-- What a CONTROL message does where it arrives (R384). -/
def ctlAct (s : State) : CtlMsg → State
  | .stepRelease m b uid => startCloses s 1 m b uid
  | .sweepDone r b uid => sweepReport s b uid r
  | .rillArrive b k => rillArrive s b k
  | .rillSem n => rillSem s n
  | .pairAdd n producer => rillPair s n producer (some producer)
  | .bell ctx stop => if stop then abortStream s ctx else bellAct s ctx
  | .pairValue n v posted => pairTold s n v posted
  | .depWatch ctx sem n => askDep s ctx sem n
  | .depMet ctx => modStream s ctx (fun x => { x with depMet := true })
  | .depFull ctx => modStream s ctx (fun x => { x with depAsked := false })
  | .wake r => wakeReq s r

/-- A wake request is the one message that acts under freeze (R28, R310). -/
def isWake : CtlMsg → Bool
  | .wake _ => true
  | .stepRelease _ _ _ => false
  | .sweepDone _ _ _ => false
  | .rillArrive _ _ => false
  | .rillSem _ => false
  | .pairAdd _ _ => false
  | .bell _ _ => false
  | .pairValue _ _ _ => false
  | .depWatch _ _ _ => false
  | .depMet _ => false
  | .depFull _ => false

/-- FB_PKT_CONTROL: a message of the other half (R384). -/
def execFbPktControl (d : Half) (s : State) : Host.Outcome State Fault Refusal :=
  takePacket s d 9 (fun s p =>
    match p.ctl with
    | none => s
    | some m => if frozen s (other d) && !isWake m then s else ctlAct s m)

/-- A STEP packet reaches the closing regions that it names in this half (R389). -/
def markSteps (s : State) (d : Half) (p : Packet) : State :=
  (idx 8).foldl (fun s r =>
    if halfOf r == other d && p.word.getLsbD r.val then modEv s r (fun e => { e with stepsSeen := e.stepsSeen ++ [p.first] }) else s) s

/-- FB_PKT_STEP. -/
def execFbPktStep (d : Half) (s : State) : Host.Outcome State Fault Refusal := takePacket s d 0xA (fun s p => markSteps s d p)

/-- The regions of this half that an event entry names (R385). -/
def entryRegions (h : Half) (e : BitVec 80) : List Region :=
  (idx 8).filter (fun r => halfOf r == h && e.getLsbD (65 + r.val % 4))

/-- An entry of an EVENTS flit can be delivered: room at its egress port, or at its regions, none of which holds the class
(R185, R389). -/
def entryFits (s : State) (h : Half) (e : BitVec 80) : Bool :=
  if e.getLsbD 64 then decide ((vget s.egress (fin 8 (e.extractLsb' 65 3).toNat)).buf.length < 16)
  else (entryRegions h e).all (fun r =>
    (rg s r).ev.stepsSeen.isEmpty && decide ((rg s r).ev.entry.length + (rg s r).ev.arriving.length < 512))

/-- One entry of an EVENTS flit delivered (R385). t is 0, or one more than the number of the event's tag. -/
def deliverEntry (s : State) (h : Half) (t : Nat) (e : BitVec 80) : State :=
  let w : W64 := e.extractLsb' 0 64
  if e.getLsbD 64 then toEgress s (fin 8 (e.extractLsb' 65 3).toNat) w
  else
    let home : Option Region := (s.cnt.open_.find? (fun x => x.1 + 1 == t)).map (fun x => x.2.2.1)
    (entryRegions h e).foldl (fun s r =>
      modEv s r (fun x => { x with arriving := x.arriving ++ [⟨w, if home = some r then some (t - 1) else none⟩] })) s

/-- FB_PKT_EVENTS: event copies and output events are delivered in order; EVT waits for a closing region and for room (R378, R385,
R387, R389). -/
def execFbPktEvents (d : Half) (s : State) : Host.Outcome State Fault Refusal :=
  match rxHead s d 0xB with
  | none => skip s
  | some p =>
    if p.events.all (entryFits s (other d)) then
      takePacket s d 0xB (fun s p => p.events.foldl (fun s e => deliverEntry s (other d) p.first e) s)
    else skip s

end Sys2Proof.Machine
end

