-- ==== Sys2Proof/Machine/Lanes.lean ====
section
/-! DEFINITION. The lanes: row-events, the residue check and its replay, and the basin registers (R191-R217). -/

namespace Sys2Proof.Machine

/-! ## One row-event (R193-R202) -/

/-- The 512 bytes of a row across the block's 8 cells (R193). -/
def rowBytes (s : State) (r : Region) (b : Blk) (row : BitVec 10) : List Byte :=
  (idx 8).flatMap (fun c => readBytes s r b c row)

/-- The first segment of a row-event (R171). -/
def firstSeg (x : RowEv) : Nat :=
  let n := rowSpan x.wfmt.toNat
  ((x.seg.toNat - x.seg.toNat % n) + x.i * n) % 16

/-- The basin bytes of a row-event (R199). -/
def rowAccs (s : State) (r : Region) (b : Blk) (x : RowEv) : List Byte :=
  basinGet s r b (1024 * firstSeg x) (1024 * rowSpan x.wfmt.toNat)

/-- The accumulators after a row-event, and what happened to them (R197, R198, R201, R202). -/
def rowResult (s : State) (r : Region) (b : Blk) (x : RowEv) : List Byte × AccFlags :=
  accumulateRow x.wfmt.toNat (rowBytes s r b (weightRow x)) (multiplier x.mag x.neg) x.shift.toInt (rowWeights x.wfmt.toNat) 0 (rowAccs s r b x)

/-- The flags of RG_LANE_STAT and the counters of a row-event (R213, R479). -/
def laneFlags (s : State) (r : Region) (b : Blk) (f : AccFlags) : State :=
  let s := modRg s r (fun g => { g with lanes := { g.lanes with intSat := g.lanes.intSat || f.sat, fpInf := g.lanes.fpInf || f.inf,
                                                                fpNan := g.lanes.fpNan || f.nan } })
  let s := if f.sat then countB s r b 0x20 0 1 else s
  let s := if f.inf then countB s r b 0x21 0 1 else s
  if f.nan then countB s r b 0x22 0 1 else s

/-- The oldest row-event of block b leaves its queue (R204). -/
def popRow (s : State) (r : Region) (b : Blk) : State := modBlk s r b (fun z => { z with evq := z.evq.drop 1 })

/-- A row-event that passes its check: the accumulators are written and it retires (R201-R204). -/
def retireRow (s : State) (r : Region) (b : Blk) (x : RowEv) : State :=
  let (bs, f) := rowResult s r b x
  let s := laneFlags (basinPut s r b (1024 * firstSeg x) bs) r b f
  settleTag (markTag (countB (popRow s r b) r b 0x1D 0 1) x.tag 5) r x.tag

/-- A first residue failure: the row-event keeps its place and is replayed (R205). -/
def replayRow (s : State) (r : Region) (b : Blk) : State :=
  let s := modBlk s r b (fun z => { z with evq := match z.evq with | y :: ys => { y with tried := true } :: ys | [] => [] })
  countB (modRg s r (fun g =>
    { g with lanes := { g.lanes with replayed := true, replays := g.lanes.replays + 1,
                                     replayWrap := g.lanes.replayWrap || g.lanes.replays + 1 == 0 } })) r b 0x23 0 1

/-- The block stops: it issues no further row-event and no further sweep instruction (R452). -/
def haltBlock (s : State) (r : Region) (b : Blk) : State := modBlk s r b (fun z => { z with halted := true })

/-- A basin word lies among the segments of a row-event. -/
def wordInRow (x : RowEv) (w : BitVec 11) : Bool :=
  decide (128 * firstSeg x ≤ w.toNat) && decide (w.toNat < 128 * (firstSeg x + rowSpan x.wfmt.toNat))

/-- What the check of a row-event makes of it (R204-R208, R451). -/
def rowChecked (s : State) (r : Region) (b : Blk) (x : RowEv) : RowChk → State
  | .good => retireRow s r b x
  | .residue =>
    if x.tried then
      haltBlock (blockFault s r b 3 1 0 ((weightRow x).setWidth 32 ||| (BitVec.ofNat 32 (firstSeg x)) <<< 10)) r b
    else replayRow s r b
  | .arrayParity c => haltBlock (blockFault s r b 1 0 c.val ((weightRow x).setWidth 32)) r b
  | .basinParity w =>
    if wordInRow x w then haltBlock (blockFault s r b 2 1 0 (w.setWidth 32)) r b else retireRow s r b x

/-- ROW_EVENT_ISSUE: the event unit of block b, which holds the grant, issues the oldest row-event, one in each cycle of its grant, as
BLOCK_GRANT counts them, within the governor's allowance (R141-R143, R175, R191-R208, R406). A reissue is a WASTED slot of port A (R480). -/
def execRowEventIssue (r : Region) (b : Blk) (chk : RowChk) (s : State) : Host.Outcome State Fault Refusal :=
  let z := blk s r b
  if !pathOpen s r || frozen s (halfOf r) || z.halted then skip s
  else
    match z.grant, z.evq with
    | some (.event, used), x :: _ =>
      if burstOf (rg s r) .event ≤ used || z.evIssued then skip s
      else
        governed s r Config.rowAmp.val (fun s =>
          let s := modBlk s r b (fun y => { y with grant := some (.event, used + 1), evIssued := true })
          let s := countB s r b (if x.tried then 0x09 else 0x08) 0 1
          finish (rowChecked (markTag s x.tag 4) r b x chk))
    | _, _ => skip s

/-! ## The basin registers -/

/-- BASIN_CLEAR: a write of RG_BASIN_CLR (R210, R211, R215). -/
def execBasinClear (port : RegPort) (r : Region) (data : W32) (s : State) : Host.Outcome State Fault Refusal :=
  if !portReady s port then skip s else finish (basinClr s port r data)
/-- BASIN_DATA_WRITE: a write of RG_BASIN_DATA (R210, R217). -/
def execBasinDataWrite (port : RegPort) (r : Region) (data : W64) (s : State) : Host.Outcome State Fault Refusal :=
  if !portReady s port then skip s else finish (basinWr (wideWrite s port data) port r data)
/-- BASIN_DATA_READ: a read of RG_BASIN_DATA (R208, R210, R217). -/
def execBasinDataRead (port : RegPort) (r : Region) (bad : Bool) (s : State) : Host.Outcome State Fault Refusal :=
  if !portReady s port then skip s else finish (basinRd (wideRead s port) port r bad)

end Sys2Proof.Machine
end

