-- ==== Sys2Proof/Machine/Lodge.lean ====
section
/-! DEFINITION. The Lodge's commands (R327-R345). -/

namespace Sys2Proof.Machine

/-- Mailboxes 0-31 are word mailboxes (11_lodge_mailboxes.md). -/
def wordBox (n : Fin 64) : Bool := decide (n.val < 32)

/-- A send that freeze or stop leaves open (R338). -/
def sendOpen (s : State) (port : RegPort) (n : Fin 64) : Bool :=
  !closed s 0 || (wordBox n && ((box s n).recv == 1 || port == .gh))

/-- A take that freeze or stop leaves open (R338). -/
def takeOpen (s : State) (port : RegPort) (n : Fin 64) : Bool :=
  !closed s 0 || (wordBox n &&
    ((match (box s n).word with | some (_, fromGh) => fromGh | none => false) || (port == .gh && (box s n).recv == 1)))

/-- MAILBOX_SEND: a write of MB_DATA n (R330, R338, R340). The response to a deposit waits for its PADD. -/
def execMailboxSend (port : RegPort) (n : Fin 64) (data : W64) (s : State) : Host.Outcome State Fault Refusal :=
  if !portReady s port then skip s
  else
   let s := wideWrite s port data
   if !sendOpen s port n then finish (busErr s port)
   else
    let (s', x) := sendBox s n data (.port port)
    match x with
    | .ok => finish (ack s' port)
    | .rejected => finish (busErr s' port)
    | .waits => finish (holdAcc s' port .deposit)

/-- The sender of a deposit gets its answer (R330, R331). -/
def answerSender (s : State) (x : Sender) (good : Bool) : State :=
  match x with
  | .engine p seq => answerSignal s p seq (if good then okay else refusedC)
  | .port p => if good then ack s p else busErr s p
  | .gatehouse => s

/-- DEPOSIT_ANNOUNCE: the oldest deposit's beat, and every earlier beat, have taken effect; the Lodge performs PADD 1 on PAIR
(R334, R335). -/
def execDepositAnnounce (n : Fin 64) (s : State) : Host.Outcome State Fault Refusal :=
  if !live s || frozen s 0 then skip s
  else
    match (box s n).deps with
    | [] => skip s
    | d :: ds =>
      if !d.landed then skip s
      else
        let s1 := modBox s n (fun x => { x with deps := ds })
        match pairAdd s1 (box s n).pair true 1 none with
        | some s2 => finishSync (answerSender (countM s2 0x60 4 1) d.sender true)
        | none =>
          finishSync (answerSender (rejectSend (modBox (refuseOp s1 4) n (fun x => { x with suspended := true }))) d.sender false)

/-- MAILBOX_TAKE: a read of MB_TAKE n returns the held word and clears the full flag (R332, R341). -/
def execMailboxTake (port : RegPort) (n : Fin 64) (s : State) : Host.Outcome State Fault Refusal :=
  if !portReady s port then skip s
  else
   let s := wideRead s port
   if !takeOpen s port n then finish (busErr s port)
   else
    match (box s n).recv.toNat, (box s n).word with
    | 2, _ => finish (reply s port 0)
    | _, some (w, _) => finish (reply (modBox s n (fun x => { x with word := none })) port w)
    | _, none => finish (reply s port 0)

/-- MB_CFG may be written now (R345). -/
def cfgOpen (s : State) (x : Mailbox) : Bool :=
  x.word.isNone && (x.recv != 2 || (boxD s x == 0 && x.deps.isEmpty))

/-- RECV after a write: fixed for mailboxes 0 and 1, and reserved encodings keep the old value (R15, R327, R328). -/
def recvAfter (n : Fin 64) (old new : BitVec 2) : BitVec 2 :=
  if n.val < 2 || new == 3 || (new == 1 && !wordBox n) || (new == 2 && wordBox n) then old else new

/-- MAILBOX_CONFIG_WRITE: a write of MB_CFG n (R345). -/
def execMailboxConfigWrite (port : RegPort) (n : Fin 64) (data : W64) (s : State) : Host.Outcome State Fault Refusal :=
  if !portReady s port then skip s
  else
   let s := wideWrite s port data
   if !cfgOpen s (box s n) then finish (busErr s port)
   else
    finish (ack (modBox s n (fun x =>
      { x with recv := recvAfter n x.recv (data.extractLsb' 0 2), wake := data.extractLsb' 8 8, pair := data.extractLsb' 16 8,
               ring := data.extractLsb' 24 8, depAddr := data.extractLsb' 32 21 })) port)

end Sys2Proof.Machine
end

