-- ==== Sys2Proof/Machine/Map.lean ====
section
/-! DEFINITION. The control-space map (R497-R500): which register lies at an offset. -/

namespace Sys2Proof.Machine

/-- The registers of the control space (R499, R500). -/
inductive Reg where
  | idVersion
  | idPart
  | idConfig
  | ghCtrl
  | ghCmd
  | ghStatus
  | ghBootStat
  | ghBootCount
  | ghFwAddr
  | ghFwLen
  | ghFwData
  | ghMeas (n : Fin 8) (w : Fin 6)
  | ghMeasCnt (n : Fin 8)
  | ghExtData (w : Fin 6)
  | ghExtCtrl
  | ghReport (w : Fin 54)
  | ghSig (w : Fin 16)
  | ghSigLen
  | plnCtrl
  | plnStatus
  | plnAddr
  | plnData
  | plnLoaded
  | plnId
  | pwrStep
  | pwrCeiling
  | pwrFclk (h : Half)
  | pwrState
  | pwrWake
  | pwrStat
  | pwrIrq
  | pwrEst
  | pwrPolicy (r : Region) (which : Fin 4)
  | fltFirst
  | fltFirstTime
  | fltStat
  | fltIrq
  | fltMore
  | fltInject
  | rsCtrl
  | rsStat
  | fltLog (n : Fin 16)
  | fnFence (r : Region)
  | fnRepairStat
  | fnRepairCnt
  | fnSpare
  | slu (x : SluReg)
  | sluWindow
  | sluStat
  | sluHold
  | sluUsed (k : Fin 128)
  | sluBeats (c : Fin 8)
  | sluHeld (c : Fin 8)
  | fbCtrl
  | fbStat
  | fbIrq
  | fbSpareCfg
  | fbCrcErr (d : Half)
  | fbReplays (d : Half)
  | fbSpareMap (d : Half) (g : Fin 4)
  | rlStat (k : RPort)
  | rlWicket
  | rlXlate
  | rlIrq
  | echCtrl
  | echInvAddr
  | echInvLen
  | echInv
  | echStat
  | cntCtrl
  | cntStat
  | cntPerm
  | cntPeriod
  | cntAddr
  | cntSem
  | cntSeq
  | cntTagCtrl
  | cntTagPorts
  | cntTagSeed
  | cntTagStat
  | cntTagSel
  | cntTagData (i : Fin 2)
  | cntSel (k : Fin 8)
  | cntVal (n : Fin 16)
  | bstSem (n : Fin 4096)
  | bstStat
  | bstIe
  | bstRole
  | bstWtmo
  | bstErrCount
  | bstScopeWarn
  | bstWcancel
  | bstWreg
  | bstMsg
  | bstLevel
  | bstPair (n : Fin 256)
  | barCfg (b : Fin 64)
  | barProg (b : Fin 64)
  | barCnt (b : Fin 64)
  | barStat (b : Fin 64)
  | bstWatch (w : Fin 1024)
  | mbData (n : Fin 64)
  | mbTake (n : Fin 64)
  | mbFull
  | mbIe
  | mbStat
  | mbRejects
  | mbCfg (n : Fin 64)
  | slot (n : Fin 4096) (w : Fin 8)
  | modelSel (r : Region)
  | modelStat (r : Region)
  | mcastMask (r : Region) (g : Fin 32)
  | mcastCtrl (r : Region)
  | mcastDet (r : Region)
  | arbCtrl (r : Region)
  | quota (r : Region)
  | burst (r : Region)
  | arbFreeze (r : Region)
  | arbIdle (r : Region)
  | starve (r : Region)
  | starveBlk (r : Region)
  | ttStat (r : Region)
  | epoch (r : Region)
  | sundial (r : Region)
  | stepTime (r : Region)
  | evCtrl (r : Region)
  | evStat (r : Region)
  | evCount (r : Region) (n : Fin 5)
  | trSel (r : Region)
  | trData (r : Region)
  | trDelay (r : Region)
  | laneStat (r : Region)
  | laneReplays (r : Region)
  | basinClrBlk (r : Region)
  | basinClr (r : Region)
  | basinSel (r : Region)
  | basinData (r : Region)
  | sweepStat (r : Region)
  | sweepLast (r : Region)
  | sweepEmitted (r : Region)
  | sweepSuppressed (r : Region)
  | sweepSel (r : Region)
  | sweepData (r : Region)
  | rcntSel (r : Region) (k : Fin 4)
  | rcntVal (r : Region) (n : Fin 8)
  | bcntSel (r : Region) (b : Blk)
  | bcntVal (r : Region) (b : Blk) (c : Fin 4)
  deriving DecidableEq, Repr

/-- The element of an array of n registers at base, one each stride bytes, that offset o names. -/
def elemAt (base stride n o : Nat) : Option (Fin n) :=
  if h : base ≤ o ∧ (o - base) % stride = 0 ∧ (o - base) / stride < n then some ⟨(o - base) / stride, h.2.2⟩ else none

/-- Registers of an array. -/
def elems {n : Nat} (base stride : Nat) (f : Fin n → Reg) (o : Nat) : Option Reg := (elemAt base stride n o).map f

/-- The first of several arrays that holds offset o. -/
def firstOf : List (Nat → Option Reg) → Nat → Option Reg
  | [], _ => none
  | f :: fs, o => (f o).orElse (fun _ => firstOf fs o)

/-- Identity, 0x0_0000 (R499). -/
def regId (o : Nat) : Option Reg :=
  match o with
  | 0x0000 => some .idVersion
  | 0x0004 => some .idPart
  | 0x0008 => some .idConfig
  | _ => none

/-- Gatehouse and measurement, and the Plan loader, 0x0_1000 (R499). -/
def regGh (o : Nat) : Option Reg :=
  match o with
  | 0x1000 => some .ghCtrl
  | 0x1004 => some .ghCmd
  | 0x1008 => some .ghStatus
  | 0x100C => some .ghBootStat
  | 0x1010 => some .ghBootCount
  | 0x1018 => some .ghFwAddr
  | 0x1020 => some .ghFwLen
  | 0x1024 => some .ghFwData
  | 0x1330 => some .ghExtCtrl
  | 0x1680 => some .ghSigLen
  | 0x1800 => some .plnCtrl
  | 0x1804 => some .plnStatus
  | 0x1808 => some .plnAddr
  | 0x1810 => some .plnData
  | 0x1814 => some .plnLoaded
  | 0x1818 => some .plnId
  | _ => firstOf
      [elems 0x1100 8 (fun (i : Fin 48) => .ghMeas ⟨i.val / 6, by omega⟩ ⟨i.val % 6, by omega⟩), elems 0x1280 4 .ghMeasCnt,
       elems 0x1300 8 .ghExtData, elems 0x1400 8 .ghReport, elems 0x1600 8 .ghSig] o

/-- Power and clocks, 0x0_2000 (R499). -/
def regPwr (o : Nat) : Option Reg :=
  match o with
  | 0x2000 => some .pwrStep
  | 0x2004 => some .pwrCeiling
  | 0x2008 => some (.pwrFclk 0)
  | 0x200C => some (.pwrFclk 1)
  | 0x2010 => some .pwrState
  | 0x2014 => some .pwrWake
  | 0x2018 => some .pwrStat
  | 0x201C => some .pwrIrq
  | 0x2020 => some .pwrEst
  | _ => elems 0x2100 4 (fun (i : Fin 32) => .pwrPolicy ⟨i.val / 4, by omega⟩ ⟨i.val % 4, by omega⟩) o

/-- Faults and job restart, 0x0_3000 (R499). -/
def regFlt (o : Nat) : Option Reg :=
  match o with
  | 0x3000 => some .fltFirst
  | 0x3008 => some .fltFirstTime
  | 0x3010 => some .fltStat
  | 0x3014 => some .fltIrq
  | 0x3018 => some .fltMore
  | 0x301C => some .fltInject
  | 0x3020 => some .rsCtrl
  | 0x3024 => some .rsStat
  | _ => elems 0x3100 8 .fltLog o

/-- Fencing and repair, 0x0_4000 (R499). -/
def regFn (o : Nat) : Option Reg :=
  match o with
  | 0x4020 => some .fnRepairStat
  | 0x4024 => some .fnRepairCnt
  | 0x4028 => some .fnSpare
  | _ => elems 0x4000 4 .fnFence o

/-- Sluice, 0x0_5000 (R499). -/
def regSlu (o : Nat) : Option Reg :=
  match o with
  | 0x5080 => some (.slu .urgency)
  | 0x5084 => some .sluWindow
  | 0x5088 => some .sluStat
  | 0x508C => some .sluHold
  | _ => firstOf
      [elems 0x5000 0x10 (fun c => .slu (.base c)), elems 0x5004 0x10 (fun c => .slu (.limit c)),
       elems 0x5008 0x10 (fun c => .slu (.ctrl c)), elems 0x5200 4 (fun k => .slu (.budget k)), elems 0x5400 4 .sluUsed,
       elems 0x5600 4 .sluBeats, elems 0x5620 4 .sluHeld] o

/-- Footbridge, 0x0_6000 (R499). -/
def regFb (o : Nat) : Option Reg :=
  match o with
  | 0x6000 => some .fbCtrl
  | 0x6004 => some .fbStat
  | 0x6008 => some .fbIrq
  | 0x600C => some .fbSpareCfg
  | _ => firstOf
      [elems 0x6010 4 .fbCrcErr, elems 0x6018 4 .fbReplays,
       elems 0x6040 8 (fun (i : Fin 8) => .fbSpareMap ⟨i.val / 4, by omega⟩ ⟨i.val % 4, by omega⟩)] o

/-- Rill ports and echo caches, 0x0_7000 (R499). -/
def regRl (o : Nat) : Option Reg :=
  match o with
  | 0x7000 => some (.rlStat 0)
  | 0x7004 => some (.rlStat 1)
  | 0x7008 => some .rlWicket
  | 0x700C => some .rlXlate
  | 0x7010 => some .rlIrq
  | 0x7020 => some .echCtrl
  | 0x7028 => some .echInvAddr
  | 0x7030 => some .echInvLen
  | 0x7034 => some .echInv
  | 0x7038 => some .echStat
  | _ => none

/-- Macro counters, 0x0_8000 (R499). -/
def regCnt (o : Nat) : Option Reg :=
  match o with
  | 0x8000 => some .cntCtrl
  | 0x8004 => some .cntStat
  | 0x8008 => some .cntPerm
  | 0x800C => some .cntPeriod
  | 0x8010 => some .cntAddr
  | 0x8014 => some .cntSem
  | 0x8018 => some .cntSeq
  | 0x8020 => some .cntTagCtrl
  | 0x8024 => some .cntTagPorts
  | 0x8028 => some .cntTagSeed
  | 0x802C => some .cntTagStat
  | 0x8030 => some .cntTagSel
  | 0x8038 => some (.cntTagData 0)
  | 0x8040 => some (.cntTagData 1)
  | _ => firstOf [elems 0x8080 4 .cntSel, elems 0x8100 8 .cntVal] o

/-- Watches, pairs and barriers, 0x1_8000 (R499). -/
def regBst (o : Nat) : Option Reg :=
  match o with
  | 0x18004 => some .bstStat
  | 0x18008 => some .bstIe
  | 0x1800C => some .bstRole
  | 0x18010 => some .bstWtmo
  | 0x18014 => some .bstErrCount
  | 0x18018 => some .bstScopeWarn
  | 0x1801C => some .bstWcancel
  | 0x18020 => some .bstWreg
  | 0x18028 => some .bstMsg
  | 0x18030 => some .bstLevel
  | _ => firstOf
      [elems 0x19000 8 .bstPair, elems 0x1A000 0x20 .barCfg, elems 0x1A004 0x20 .barProg, elems 0x1A008 0x20 .barCnt,
       elems 0x1A010 0x20 .barStat, elems 0x1C000 8 .bstWatch] o

/-- Lodge, 0x2_0000 (R499). -/
def regMb (o : Nat) : Option Reg :=
  match o with
  | 0x20400 => some .mbFull
  | 0x20408 => some .mbIe
  | 0x20410 => some .mbStat
  | 0x20414 => some .mbRejects
  | _ => firstOf [elems 0x20000 8 .mbData, elems 0x20200 8 .mbTake, elems 0x20800 8 .mbCfg] o

/-- A register of region r at per-region offset o (R500). RG_MCAST_MASK begins with group 1 (R126). -/
def regRg (r : Region) (o : Nat) : Option Reg :=
  match o with
  | 0x0000 => some (.modelSel r)
  | 0x0004 => some (.modelStat r)
  | 0x0100 => none
  | 0x0180 => some (.mcastCtrl r)
  | 0x0184 => some (.mcastDet r)
  | 0x0200 => some (.arbCtrl r)
  | 0x0204 => some (.quota r)
  | 0x0208 => some (.burst r)
  | 0x020C => some (.arbFreeze r)
  | 0x0210 => some (.arbIdle r)
  | 0x0214 => some (.starve r)
  | 0x0218 => some (.starveBlk r)
  | 0x021C => some (.ttStat r)
  | 0x0300 => some (.epoch r)
  | 0x0308 => some (.sundial r)
  | 0x0310 => some (.stepTime r)
  | 0x0318 => some (.evCtrl r)
  | 0x031C => some (.evStat r)
  | 0x0340 => some (.trSel r)
  | 0x0348 => some (.trData r)
  | 0x0350 => some (.trDelay r)
  | 0x0400 => some (.laneStat r)
  | 0x0404 => some (.laneReplays r)
  | 0x0408 => some (.basinClrBlk r)
  | 0x040C => some (.basinClr r)
  | 0x0410 => some (.basinSel r)
  | 0x0418 => some (.basinData r)
  | 0x0500 => some (.sweepStat r)
  | 0x0504 => some (.sweepLast r)
  | 0x0508 => some (.sweepEmitted r)
  | 0x050C => some (.sweepSuppressed r)
  | 0x0510 => some (.sweepSel r)
  | 0x0514 => some (.sweepData r)
  | _ => firstOf
      [elems 0x0100 4 (.mcastMask r), elems 0x0320 4 (.evCount r), elems 0x0600 4 (.rcntSel r), elems 0x0640 8 (.rcntVal r),
       elems 0x0800 8 (.bcntSel r), elems 0x1000 8 (fun (i : Fin 128) => .bcntVal r ⟨i.val / 4, by omega⟩ ⟨i.val % 4, by omega⟩)] o

/-- The register whose first byte lies at offset o (R497-R500). -/
def regAt (o : Nat) : Option Reg :=
  if o < 0x1000 then regId o
  else if o < 0x2000 then regGh o
  else if o < 0x3000 then regPwr o
  else if o < 0x4000 then regFlt o
  else if o < 0x5000 then regFn o
  else if o < 0x6000 then regSlu o
  else if o < 0x7000 then regFb o
  else if o < 0x8000 then regRl o
  else if o < 0x10000 then regCnt o
  else if o < 0x18000 then elems 0x10000 8 .bstSem o
  else if o < 0x20000 then regBst o
  else if o < 0x30000 then regMb o
  else if o < 0x70000 then elems 0x30000 8 (fun (i : Fin 32768) => .slot ⟨i.val / 8, by omega⟩ ⟨i.val % 8, by omega⟩) o
  else if o < 0x80000 then none
  else if h : o < 0x100000 then regRg ⟨(o - 0x80000) / 0x10000, by omega⟩ ((o - 0x80000) % 0x10000)
  else none

/-- Bits above [31] are shown in the register's table (R17). A word of a context slot: see slotWide. -/
def Reg.wide : Reg → Bool
  | .ghFwAddr => true
  | .ghMeas _ _ => true
  | .ghExtData _ => true
  | .ghReport _ => true
  | .ghSig _ => true
  | .plnAddr => true
  | .fltFirst => true
  | .fltFirstTime => true
  | .fltLog _ => true
  | .fnSpare => true
  | .fbSpareMap _ _ => true
  | .echInvAddr => true
  | .cntTagData _ => true
  | .cntVal _ => true
  | .bstSem _ => true
  | .bstWreg => true
  | .bstMsg => true
  | .bstPair _ => true
  | .barCnt _ => true
  | .barStat _ => true
  | .bstWatch _ => true
  | .mbData _ => true
  | .mbTake _ => true
  | .mbFull => true
  | .mbIe => true
  | .mbCfg _ => true
  | .slot _ _ => true
  | .sundial _ => true
  | .stepTime _ => true
  | .trData _ => true
  | .basinData _ => true
  | .rcntVal _ _ => true
  | .bcntSel _ _ => true
  | .bcntVal _ _ _ => true
  | _ => false

/-- A counter, select or other register that CNT_PERM.CP_READ governs (R483). -/
def Reg.counter : Reg → Bool
  | .cntCtrl => true
  | .cntStat => true
  | .cntPeriod => true
  | .cntAddr => true
  | .cntSem => true
  | .cntSeq => true
  | .cntTagCtrl => true
  | .cntTagPorts => true
  | .cntTagSeed => true
  | .cntTagStat => true
  | .cntTagSel => true
  | .cntTagData _ => true
  | .cntSel _ => true
  | .cntVal _ => true
  | .rcntSel _ _ => true
  | .rcntVal _ _ => true
  | .bcntSel _ _ => true
  | .bcntVal _ _ _ => true
  | _ => false

/-- The port may write the block that offset o lies in (R24, R277, R483). -/
def mayWrite (p : RegPort) (o : Nat) (x : Reg) : Bool :=
  match p with
  | .cp => (decide (0x5000 ≤ o ∧ o < 0x6000) || decide (0x7000 ≤ o ∧ o < 0x8000) || decide (0x10000 ≤ o)) && !x.counter
  | .mp => decide (0x1000 ≤ o) && !decide (0x30000 ≤ o ∧ o < 0x70000)
  | .gh => decide (0x1000 ≤ o) && !decide (0x30000 ≤ o ∧ o < 0x70000)

end Sys2Proof.Machine
end

