-- ==== Sys2Proof/Machine/Sweep.lean ====
section
/-! DEFINITION. The sweep unit: groups, the instruction set of R230, emission and traces (R218-R246). -/

namespace Sys2Proof.Machine

/-! ## Sweep state -/

/-- Register j of lane k. -/
def laneReg (w : Sweep) (k j : Nat) : W32 := vget w.regs (fin 512 (8 * k + j))
/-- Flag of lane k. -/
def laneFlag (w : Sweep) (k : Nat) : Bool := w.flags.getLsbD k
/-- Register j of every lane replaced. -/
def setLane (w : Sweep) (j : Nat) (f : Nat → W32) : Sweep :=
  { w with regs := vmap (fun i x => if i.val % 8 = j then f (i.val / 8) else x) w.regs }
/-- Flags of every lane replaced. -/
def setFlags (w : Sweep) (f : Nat → Bool) : Sweep :=
  { w with flags := (List.range 64).foldl (fun (m : BitVec 64) k => if f k then m ||| BitVec.ofNat 64 (2 ^ k) else m) 0 }
/-- The lower register of a pair (R230). -/
def pairLo (j : Nat) : Nat := j / 2 * 2
/-- Some lane. -/
def anyLane (f : Nat → Bool) : Bool := (List.range 64).any f

/-- Word i of program p of a block's store (R222). -/
def storeWord (x : Block) (p : Fin 8) (i : Nat) : W32 := tget 0 x.store (32 * p.val + i)
/-- Constant i of a block (R222). -/
def constOf (x : Block) (i : Nat) : W32 := tget 0 x.consts i

/-- The sweep of block b changed. -/
def modSweep (s : State) (r : Region) (b : Blk) (f : Sweep → Sweep) : State :=
  modBlk s r b (fun x => { x with sweep := x.sweep.map f })

/-- The next instruction of the group (R223). -/
def nextInstr (w : Sweep) : Sweep := { w with pc := w.pc.map (fun i => fin 33 (i.val + 1)) }

/-- The group ends: the rows it holds are released, and the sweep ends after its last group (R223, R227). -/
def endGroup (w : Sweep) : Sweep :=
  { w with pc := none, group := w.group + 1, rows := [], ended := decide (w.gcount ≤ w.group + 1) }

/-- The sweep unit of block b works: clock, Run, no load, no freeze, and the block has not stopped (R220, R452). -/
def sweepOpen (s : State) (r : Region) (b : Blk) : Bool := stepOpen s r && !(blk s r b).halted

/-- The sweep of block b and the place and word of the instruction its group has reached; place 32 ends the program (R223). -/
def atInstr (s : State) (r : Region) (b : Blk) : Option (Sweep × Nat × W32) :=
  if !sweepOpen s r b then none
  else
    match (blk s r b).sweep with
    | none => none
    | some w =>
      match w.pc with
      | none => none
      | some i => some (w, i.val, if i.val < 32 then storeWord (blk s r b) w.prog i.val else 0)

/-! ## Faults of a sweep (R222, R228, R208) -/

/-- A parity failure of the sweep store: the block stops (R222, R452). -/
def storeFault (s : State) (r : Region) (b : Blk) (space : BitVec 2) (word : Nat) : State :=
  haltBlock (blockFault s r b 4 1 0 ((space.setWidth 32) <<< 16 ||| BitVec.ofNat 32 (word % 2048))) r b

/-- The state row of a group (R225). -/
def stateRow (w : Sweep) (x : W32) : BitVec 10 := BitVec.ofNat 10 (sweepBase x + w.group)
/-- Width of an accumulator of format FMT (R232). -/
def fmtWidth (f : Nat) : Nat := if f = 1 then 2 else 4
/-- The first basin byte of the 64 accumulators of a group (R225). -/
def basinAt (w : Sweep) (x : W32) : Nat :=
  let b := fmtWidth (sweepFmt x)
  64 * b * ((sweepAbase x + w.group) % (if b = 2 then 128 else 64))

/-- The constants an instruction uses, by index (R230, R234). -/
def constsUsed (op : SweepOp) (x : W32) : Option Nat :=
  match op with
  | .addc => some (sweepCidx x)
  | .mulc => some (sweepCidx x)
  | .cmp => if (sweepX x).getLsbD 0 then some (sweepCidx x) else none
  | .rst => some (sweepCidx x)
  | .emit => some (pairLo (sweepCidx x))
  | .endProg => none
  | .range => none
  | .lds => none
  | .sts => none
  | .ldb => none
  | .stb => none
  | .ldi => none
  | .add => none
  | .sub => none
  | .shri => none
  | .max => none
  | .min => none
  | .sel => none
  | .trc => none
  | .invalid => none

/-- The factor a lane's trace takes in TRC (R237, R238). -/
def factorAt (w : Sweep) (x : W32) (k : Nat) : Nat :=
  256 * ((sweepX x).extractLsb' 0 3).toNat + decayIndex w.epoch (laneReg w k (pairLo (sweepRd x) + 1))

/-- What a failed check of an instruction does; none where the word it names is not one that the instruction reads. Of the two
constants of EMIT the record names either (log entry 5). -/
def chkFault (s : State) (r : Region) (b : Blk) (w : Sweep) (i : Nat) (op : SweepOp) (x : W32) : SweepChk → Option State
  | .good => none
  | .instr => if i < 32 then some (storeFault s r b 0 (32 * w.prog.val + i)) else none
  | .const =>
    match constsUsed op x with
    | none => none
    | some c => some (storeFault s r b 1 (if op = .emit then c + (fv s 4 1).toNat else c))
  | .factor d =>
    if op = .trc && planned s r && anyLane (fun k => factorAt w x k == d.toNat) then some (storeFault s r b 2 d.toNat) else none
  | .array c => if op = .lds then some (haltBlock (blockFault s r b 1 0 c.val ((stateRow w x).setWidth 32)) r b) else none
  | .basin d =>
    if op = .ldb && decide (basinAt w x ≤ 8 * d.toNat) && decide (8 * d.toNat < basinAt w x + 64 * fmtWidth (sweepFmt x)) then
      some (haltBlock (blockFault s r b 2 1 0 (d.setWidth 32)) r b)
    else none

/-- Run one instruction of opcode op at block b: nothing where the group has reached another opcode; a failed check stops the
block; else f gives the state after it. -/
def instrRow (s : State) (r : Region) (b : Blk) (op : SweepOp) (chk : SweepChk) (f : Sweep → W32 → State) :
    Host.Outcome State Fault Refusal :=
  match atInstr s r b with
  | none => skip s
  | some (w, i, x) =>
    if sweepOp i x ≠ op then skip s
    else
      match chkFault s r b w i op x chk with
      | some s' => finish s'
      | none => finish (f w x)

/-- Store a sweep that has performed its instruction. -/
def putSweep (s : State) (r : Region) (b : Blk) (w : Sweep) : State := modSweep s r b (fun _ => nextInstr w)

/-- Sticky ARITH_SAT (R231). -/
def arithSat (s : State) (r : Region) (f : Bool) : State :=
  modRg s r (fun g => { g with sweep := { g.sweep with arithSat := g.sweep.arithSat || f } })

/-- An arithmetic instruction: lane k's result and whether it saturated (R230, R231). -/
def aluRow (r : Region) (b : Blk) (op : SweepOp) (chk : SweepChk) (s : State) (f : Block → Sweep → W32 → Nat → W32 × Bool) :
    Host.Outcome State Fault Refusal :=
  instrRow s r b op chk (fun w x =>
    let g := f (blk s r b) w x
    arithSat (putSweep s r b (setLane w (sweepRd x) (fun k => (g k).1))) r (anyLane (fun k => (g k).2)))

/-- RA of a lane as a signed value. -/
def raInt (w : Sweep) (x : W32) (k : Nat) : Int := (laneReg w k (sweepRa x)).toInt
/-- RB of a lane as a signed value. -/
def rbInt (w : Sweep) (x : W32) (k : Nat) : Int := (laneReg w k (sweepRb x)).toInt
/-- C[CIDX] as a signed value. -/
def cInt (z : Block) (x : W32) : Int := (constOf z (sweepCidx x)).toInt

/-! ## Groups and control (R223, R226, R230, R233) -/

/-- RANGE: instruction 0 sets GCOUNT; the sweep's groups may then start (R218, R223, R230). -/
def execRange (r : Region) (b : Blk) (chk : SweepChk) (s : State) : Host.Outcome State Fault Refusal :=
  match (blk s r b).sweep with
  | none => skip s
  | some w =>
    if !sweepOpen s r b || w.ended || w.gcount != 0 then skip s
    else if chk = .instr then finish (storeFault s r b 0 (32 * w.prog.val))
    else finish (modSweep s r b (fun w => { w with gcount := (sweepX (storeWord (blk s r b) w.prog 0)).toNat % 128 + 1 }))

/-- SWEEP_GROUP_START: the next group starts with its registers and flags 0, within the governor's allowance (R223, R226, R406). Reading RANGE again may fail (R222). -/
def execSweepGroupStart (r : Region) (b : Blk) (chk : SweepChk) (s : State) : Host.Outcome State Fault Refusal :=
  match (blk s r b).sweep with
  | none => skip s
  | some w =>
    if !sweepOpen s r b || w.ended || w.gcount == 0 || w.pc.isSome then skip s
    else if chk = .instr then finish (storeFault s r b 0 (32 * w.prog.val))
    else
      governed s r Config.groupAmp.val (fun s =>
        finish (countB (modSweep s r b (fun w => { w with pc := some 1, regs := Vector.replicate 512 0, flags := 0 })) r b 0x28 0 1))

/-- END: the program ends for this group (R223, R230). -/
def execEndProg (r : Region) (b : Blk) (chk : SweepChk) (s : State) : Host.Outcome State Fault Refusal :=
  instrRow s r b .endProg chk (fun w _ => modSweep s r b (fun _ => endGroup w))

/-- INVALID_INSTRUCTION: not performed; it ends the program and sets BAD_INSTR (R233). -/
def execInvalidInstruction (r : Region) (b : Blk) (chk : SweepChk) (s : State) : Host.Outcome State Fault Refusal :=
  instrRow s r b .invalid chk (fun w _ =>
    modRg (modSweep s r b (fun _ => endGroup w)) r (fun g => { g with sweep := { g.sweep with badInstr := true } }))

/-! ## State rows (R225, R227, R228) -/

/-- LDS: the pair takes the lane's state word, and the row is held (R225, R227, R230). -/
def execLds (r : Region) (b : Blk) (chk : SweepChk) (s : State) : Host.Outcome State Fault Refusal :=
  instrRow s r b .lds chk (fun w x =>
    let row := stateRow w x
    let bs := rowBytes s r b row
    let rd := pairLo (sweepRd x)
    let w1 := setLane w rd (fun k => wordOf 32 ((bs.drop (8 * k)).take 4))
    let w2 := setLane w1 (rd + 1) (fun k => wordOf 32 ((bs.drop (8 * k + 4)).take 4))
    countB (countB (putSweep s r b { w2 with rows := if w.rows.contains row then w.rows else row :: w.rows }) r b 0x29 0 1) r b 0x08 0 1)

/-- The bytes of a state row: word k is lane k's pair (R225). -/
def stateBytes (w : Sweep) (ra : Nat) : List Byte :=
  (List.range 64).flatMap (fun k => bytesOf (laneReg w k ra) 4 ++ bytesOf (laneReg w k (ra + 1)) 4)

/-- The 8 beats of a row written (R193, R225). -/
def putRows (s : State) (r : Region) (b : Blk) (row : BitVec 10) (bs : List Byte) : State :=
  (idx 8).foldl (fun s c => putRow s r b c row ((bs.drop (64 * c.val)).take 64)) s

/-- STS: the state row takes the lanes' pairs, and its hold ends (R225, R227, R228, R230). -/
def execSts (r : Region) (b : Blk) (chk : SweepChk) (s : State) : Host.Outcome State Fault Refusal :=
  instrRow s r b .sts chk (fun w x =>
    let row := stateRow w x
    let s := putRows s r b row (stateBytes w (pairLo (sweepRa x)))
    countB (countB (putSweep s r b { w with rows := w.rows.filter (· != row) }) r b 0x29 0 1) r b 0x08 0 1)

/-! ## The basin (R225, R232) -/

/-- A signed quantity given in units of 2^-k, to the nearest integer, ties to even. -/
def rneInt (v : Int) (k : Nat) : Int := (if v < 0 then -1 else 1) * Int.ofNat (rneShift v.natAbs k)

/-- What LDB makes of an accumulator (R232). -/
def ldbValue (fmt : Nat) (fscale : Int) (bs : List Byte) : W32 × Bool :=
  if fmt = 0 then (wordOf 32 bs, false)
  else if fmt = 1 then ((wordOf 16 bs).signExtend 32, false)
  else
    let a : W32 := wordOf 32 bs
    if f32IsNan a then (0, false)
    else if f32IsInf a then sat32 (if f32Neg a then -(2 ^ 40) else 2 ^ 40)
    else sat32 (rneInt (f32Int a) (149 - fscale).toNat)

/-- LDB: RD takes the accumulator, which CLR then zeroes (R225, R230, R232). -/
def execLdb (r : Region) (b : Blk) (chk : SweepChk) (s : State) : Host.Outcome State Fault Refusal :=
  instrRow s r b .ldb chk (fun w x =>
    let n := fmtWidth (sweepFmt x)
    let clr := (sweepX x).getLsbD 9
    let bs := basinGet s r b (basinAt w x) (64 * n)
    let v := fun k => ldbValue (sweepFmt x) (sweepFscale x) ((bs.drop (n * k)).take n)
    let s := if clr then basinZero s r b (basinAt w x) (64 * n) else s
    arithSat (countB (putSweep s r b (setLane w (sweepRd x) (fun k => (v k).1))) r b 0x2A 0 (if clr then 2 else 1)) r (anyLane (fun k => (v k).2)))

/-- What STB makes of RA (R232). -/
def stbValue (fmt : Nat) (fscale : Int) (v : W32) : List Byte × Bool :=
  if fmt = 0 then (bytesOf v 4, false)
  else if fmt = 1 then
    let (i, f) := sat (-32768) 32767 v.toInt
    (bytesOf (BitVec.ofInt 16 i) 2, f)
  else if v = 0 then (bytesOf (0 : W32) 4, false)
  else (bytesOf (f32Round (decide (v.toInt < 0)) v.toInt.natAbs (400 - fscale).toNat).1 4, false)

/-- STB: the accumulator takes RA (R225, R230, R232). -/
def execStb (r : Region) (b : Blk) (chk : SweepChk) (s : State) : Host.Outcome State Fault Refusal :=
  instrRow s r b .stb chk (fun w x =>
    let v := fun k => stbValue (sweepFmt x) (sweepFscale x) (laneReg w k (sweepRa x))
    let s := basinPut s r b (basinAt w x) ((List.range 64).flatMap (fun k => (v k).1))
    arithSat (countB (putSweep s r b w) r b 0x2A 0 1) r (anyLane (fun k => (v k).2)))

/-! ## Arithmetic (R230, R231) -/

/-- LDI. -/
def execLdi (r : Region) (b : Blk) (chk : SweepChk) (s : State) : Host.Outcome State Fault Refusal :=
  aluRow r b .ldi chk s (fun _ _ x _ => ((x.extractLsb' 0 16).signExtend 32, false))
/-- ADD of the sweep unit. -/
def execSweepAdd (r : Region) (b : Blk) (chk : SweepChk) (s : State) : Host.Outcome State Fault Refusal :=
  aluRow r b .add chk s (fun _ w x k => sat32 (raInt w x k + rbInt w x k))
/-- SUB of the sweep unit. -/
def execSweepSub (r : Region) (b : Blk) (chk : SweepChk) (s : State) : Host.Outcome State Fault Refusal :=
  aluRow r b .sub chk s (fun _ w x k => sat32 (raInt w x k - rbInt w x k))
/-- ADDC. -/
def execAddc (r : Region) (b : Blk) (chk : SweepChk) (s : State) : Host.Outcome State Fault Refusal :=
  aluRow r b .addc chk s (fun z w x k => sat32 (raInt w x k + cInt z x))
/-- MULC. -/
def execMulc (r : Region) (b : Blk) (chk : SweepChk) (s : State) : Host.Outcome State Fault Refusal :=
  aluRow r b .mulc chk s (fun z w x k => sat32 (rndShift (raInt w x k * cInt z x) 16))
/-- SHRI. -/
def execShri (r : Region) (b : Blk) (chk : SweepChk) (s : State) : Host.Outcome State Fault Refusal :=
  aluRow r b .shri chk s (fun _ w x k => (BitVec.ofInt 32 (rndShift (raInt w x k) ((sweepX x).extractLsb' 0 5).toNat), false))
/-- MAX. -/
def execMax (r : Region) (b : Blk) (chk : SweepChk) (s : State) : Host.Outcome State Fault Refusal :=
  aluRow r b .max chk s (fun _ w x k => (BitVec.ofInt 32 (Max.max (raInt w x k) (rbInt w x k)), false))
/-- MIN. -/
def execMin (r : Region) (b : Blk) (chk : SweepChk) (s : State) : Host.Outcome State Fault Refusal :=
  aluRow r b .min chk s (fun _ w x k => (BitVec.ofInt 32 (Min.min (raInt w x k) (rbInt w x k)), false))

/-- The comparison of CMP in a lane (R230). -/
def cmpCond (cond : Nat) (a c : Int) : Bool :=
  if cond = 0 then decide (c ≤ a) else if cond = 1 then decide (c < a) else if cond = 2 then decide (a = c) else decide (a < c)

/-- The combination of CMP with the flag (R230). -/
def cmpComb (comb : Nat) (f c : Bool) : Bool := if comb = 0 then c else if comb = 1 then f && c else f || c

/-- CMP: the flag takes the comparison (R230). -/
def execCmp (r : Region) (b : Blk) (chk : SweepChk) (s : State) : Host.Outcome State Fault Refusal :=
  instrRow s r b .cmp chk (fun w x =>
    let z := blk s r b
    let f := fun k => cmpComb ((sweepX x).extractLsb' 3 2).toNat (laneFlag w k)
      (cmpCond ((sweepX x).extractLsb' 1 2).toNat (raInt w x k) (if (sweepX x).getLsbD 0 then cInt z x else rbInt w x k))
    putSweep s r b (setFlags w f))

/-- SEL. -/
def execSel (r : Region) (b : Blk) (chk : SweepChk) (s : State) : Host.Outcome State Fault Refusal :=
  aluRow r b .sel chk s (fun _ w x k => (if laneFlag w k then laneReg w k (sweepRa x) else laneReg w k (sweepRb x), false))
/-- RST. -/
def execRst (r : Region) (b : Blk) (chk : SweepChk) (s : State) : Host.Outcome State Fault Refusal :=
  aluRow r b .rst chk s (fun z w x k => (if laneFlag w k then constOf z (sweepCidx x) else laneReg w k (sweepRd x), false))

/-! ## Emission (R234, R235) -/

/-- The event of lane k, if EMIT forms one (R234). -/
def emitWord (z : Block) (w : Sweep) (x : W32) (k : Nat) : Option W64 :=
  let c := pairLo (sweepCidx x)
  let msrc := (sweepX x).getLsbD 0
  let ra := raInt w x k
  if !laneFlag w k || (msrc && ra == 0) then none
  else
    let src := BitVec.ofNat 24 ((constOf z c).toNat + 64 * w.group + k)
    let hi := constOf z (c + 1) ||| (if msrc && decide (ra < 0) then 1 else 0)
    let mag : Byte := if msrc then BitVec.ofNat 8 (Min.min ra.natAbs 255) else 0
    some (hi ++ mag ++ src)

/-- The events of an EMIT, in order of lane (R234). -/
def emitWords (z : Block) (w : Sweep) (x : W32) : List W64 := (List.range 64).filterMap (emitWord z w x)

/-- EMIT: the events enter the emit buffer when all fit, or are counted as suppressed (R76, R234, R235, R243, R244). -/
def execEmit (r : Region) (b : Blk) (chk : SweepChk) (s : State) : Host.Outcome State Fault Refusal :=
  instrRow s r b .emit chk (fun w x =>
    let z := blk s r b
    let es := emitWords z w x
    let n := es.length
    if !(vget s.map.egress (fin 256 (32 * r.val + b.val))).getLsbD 7 then
      let s := modRg (putSweep s r b w) r (fun g =>
        { g with sweep := { g.sweep with suppressed := g.sweep.suppressed + BitVec.ofNat 32 n,
                                         suppressedWrap := g.sweep.suppressedWrap || decide (2 ^ 32 ≤ g.sweep.suppressed.toNat + n) } })
      countB s r b 0x2E 0 n
    else if 64 < z.emits.length + n then modRg s r (fun g => { g with sweep := { g.sweep with emitStall := true } })
    else
      let s := modBlk (putSweep s r b w) r b (fun y => { y with emits := y.emits ++ es })
      let s := modRg s r (fun g =>
        { g with sweep := { g.sweep with emitted := g.sweep.emitted + BitVec.ofNat 32 n,
                                         emittedWrap := g.sweep.emittedWrap || decide (2 ^ 32 ≤ g.sweep.emitted.toNat + n) } })
      countB s r b 0x2D 0 n)

/-! ## Traces (R237, R238) -/

/-- TRC in a lane: the new VALUE, and whether it saturated (R237, R238). -/
def trcValue (s : State) (r : Region) (w : Sweep) (x : W32) (k : Nat) : W32 × Bool :=
  let mode := ((sweepX x).extractLsb' 3 2).toNat
  let (v, f) := decayValue (laneReg w k (pairLo (sweepRd x))) (factorOf s r (factorAt w x k))
  if mode = 0 || (mode == 1 && laneFlag w k) then
    let (v2, f2) := sat32 (v.toInt + raInt w x k)
    (v2, f || f2)
  else (v, f)

/-- TRC: the pair is decayed to epoch E and added to (R237, R238). -/
def execTrc (r : Region) (b : Blk) (chk : SweepChk) (s : State) : Host.Outcome State Fault Refusal :=
  instrRow s r b .trc chk (fun w x =>
    let rd := pairLo (sweepRd x)
    let v := trcValue s r w x
    let w1 := setLane (setLane w rd (fun k => (v k).1)) (rd + 1) (fun _ => w.epoch)
    modRg (putSweep s r b w1) r (fun g => { g with sweep := { g.sweep with traceSat := g.sweep.traceSat || anyLane (fun k => (v k).2) } }))

/-- SWEEP_DATA_READ: a read of RG_SWEEP_DATA (R222, R246). -/
def execSweepDataRead (port : RegPort) (r : Region) (bad : Bool) (s : State) : Host.Outcome State Fault Refusal :=
  if !portReady s port then skip s else finish (sweepRdAcc s port r bad)

end Sys2Proof.Machine
end

