-- ==== Sys2Proof/Machine/Control.lean ====
section
/-! DEFINITION. Register reads and writes (R12-R17, R24, R43-R46, R442, R497-R500): what every register reads, what a write
of it does, and the accesses of the ports. -/

namespace Sys2Proof.Machine

/-! ## Read values -/

/-- A 32-bit register's value. -/
def w64 (w : W32) : W64 := w.setWidth 64
/-- A flag at bit lo. -/
def flag (lo : Nat) (b : Bool) : W64 := field lo (b1 b)
/-- A mask of eight flags. -/
def byteOf (f : Fin 8 → Bool) : Byte := (idx 8).foldl (fun m i => if f i then m ||| mask8 i else m) 0
/-- A mask of 32 flags. -/
def wordOfBits (f : Fin 32 → Bool) : W32 := (idx 32).foldl (fun m i => if f i then m ||| mask32 i else m) 0

/-- Encoding of a power state (R416). -/
def powerCode : PState → BitVec 2
  | .run => 0
  | .idle => 1
  | .retain => 2
  | .off => 3

/-- Encoding of a stream state (R250). -/
def streamCode : StreamState → BitVec 3
  | .idle => 0
  | .queued => 1
  | .running => 2
  | .halted => 3
  | .done => 4
  | .aborted => 5

/-- Encoding of CAUSE (R444). -/
def causeCode : Cause → BitVec 2
  | .none => 0
  | .fault => 1
  | .command => 2
  | .stop => 3

/-- Encoding of RS_STAT.STATE (R472). -/
def restartCode : RsState → BitVec 2
  | .idle => 0
  | .clearing => 1
  | .done => 2
  | .failed => 3

/-- QUIESCENT of a half: live while a stop drains, as kept by freeze after it (R439, R444). -/
def quiescentBit (s : State) (h : Half) : Bool := if s.frz.stopping then quiet s h else vget s.frz.quiescent h

/-- ID_CONFIG (R5-R7): every region and both halves present, and the regions that run their spare block. -/
def idConfig (s : State) : W64 := 0x3FF ||| field 16 (byteOf (fun r => s.fuse.sel.getLsbD (8 * r.val + 7)))

/-- GH_STATUS (R444). -/
def ghStatus (s : State) : W64 :=
  flag 0 s.frz.stopping ||| flag 1 s.frz.asserted ||| flag 2 (quiescentBit s 0) ||| flag 3 (quiescentBit s 1) |||
    field 4 (causeCode s.frz.cause) ||| flag 6 s.gh.asleep

/-- PWR_STATE (R416). -/
def pwrState (s : State) : W64 := (idx 8).foldl (fun v r => v ||| field (2 * r.val) (powerCode (rg s r).power.st)) 0

/-- PWR_STAT (R418). -/
def pwrStat (s : State) : W64 :=
  field 0 (byteOf (fun r => (rg s r).power.pend || (rg s r).power.again)) ||| field 8 (byteOf (fun r => (rg s r).power.waking)) |||
    flag 16 (vget s.pwr.stagers 0).ceilActive ||| flag 17 (vget s.pwr.stagers 1).ceilActive |||
    flag 18 (vget s.pins.fclkNeed 0) ||| flag 19 (vget s.pins.fclkNeed 1) ||| flag 20 (vget s.pins.fclkOk 0) |||
    flag 21 (vget s.pins.fclkOk 1)

/-- PWR_IRQ (R419). -/
def pwrIrq (s : State) : W64 :=
  field 0 s.pwr.wakeDone ||| flag 8 s.pwr.ceiling ||| flag 9 s.pwr.fclkReq ||| flag 16 s.pwr.wakeIe ||| flag 17 s.pwr.ceilIe |||
    flag 18 s.pwr.fclkIe

/-- A policy register (R421). -/
def policyWord (p : RPower) (which : Fin 4) : W64 :=
  if which = 0 then field 0 p.idleAfter else if which = 1 then w64 p.retainAfter else if which = 2 then w64 p.offAfter
  else field 0 p.deepest ||| field 4 p.rank

/-- FLT_STAT (R469). LOG_COUNT counts modulo 16 beside LOG_FULL. -/
def fltStat (s : State) : W64 :=
  flag 0 s.flt.firstValid ||| field 1 (BitVec.ofNat 4 s.flt.log.length) ||| flag 5 (decide (s.flt.log.length = 16)) |||
    flag 6 s.flt.moreWrap ||| flag 7 s.aon.rail

/-- RS_STAT (R472). -/
def rsStat (s : State) : W64 := field 0 (restartCode s.rs.st) ||| flag 2 (drained s) ||| field 8 (clearPending s)

/-- A Sluice register as written (R354, R356, R357, R360). -/
def sluWord (t : SluTab) : SluReg → W64
  | .base c => field 16 (vget t.cls c).base
  | .limit c => field 16 (vget t.cls c).limit
  | .ctrl c => flag 0 (vget t.cls c).en
  | .urgency => field 0 t.extra1 ||| field 10 t.extra2 ||| field 20 t.extra3
  | .budget k => field 0 (vget t.budget ⟨2 * k.val, by omega⟩) ||| field 16 (vget t.budget ⟨2 * k.val + 1, by omega⟩)

/-- FB_STAT (R393). -/
def fbStat (s : State) : W64 :=
  let a := dir s 0
  let b := dir s 1
  field 0 (linkCode a.st) ||| field 2 (linkCode b.st) ||| field 4 a.noSpare ||| field 8 b.noSpare ||| flag 12 a.crcWrap |||
    flag 13 b.crcWrap ||| flag 14 a.replayWrap ||| flag 15 b.replayWrap

/-- FB_IRQ (R394). -/
def fbIrq (f : Footbridge) : W64 :=
  flag 0 f.retired ||| flag 1 f.trained ||| flag 2 f.trainFailed ||| flag 16 f.retiredIe ||| flag 17 f.trainedIe ||| flag 18 f.failedIe

/-- RL_STAT of port k (R278). -/
def rlStat (s : State) (k : RPort) : W64 :=
  field 0 (BitVec.ofNat 13 (4096 - staged (rp s k))) |||
    field 16 (BitVec.ofNat 11 (1024 - ((rp s k).outs.filter (fun o => decide (o.tag.toNat < 1024))).length))

/-- Stream heads in HALTED, lowest first (R280). -/
def haltedHeads (s : State) : List Nat := (s.rill.streams.filter (fun e => e.2.st == .halted)).map (·.1)

/-- RL_XLATE (R280). -/
def rlXlate (s : State) : W64 :=
  match haltedHeads s with
  | [] => 0
  | n :: _ => field 0 (BitVec.ofNat 12 n) ||| flag 31 true

/-- BST_STAT (R313). -/
def bstStat (b : Bandstand) : W64 :=
  flag 0 (!b.msgs.isEmpty) ||| flag 1 b.timeout ||| flag 2 b.semErr ||| flag 3 b.barErr ||| flag 4 b.syncErr ||| flag 5 b.watchFull |||
    flag 6 b.errWrap ||| flag 7 b.warnWrap

/-- BST_BAR_CFG (R323). -/
def barCfg (b : Barrier) : W64 :=
  flag 0 b.armed ||| flag 1 b.chip ||| field 8 b.step ||| field 16 b.rillW ||| field 20 b.rillE ||| field 24 b.ctrl

/-- BST_BAR_PROG (R324). -/
def barProg (b : Barrier) : W64 :=
  if b.armed then
    field 0 (byteOf (fun r => nodeR b r)) ||| flag 8 (nodeH b 0) ||| flag 9 (nodeH b 1) ||| flag 10 (nodeM b) ||| flag 11 b.sent |||
      field 12 b.inW ||| field 16 b.inE ||| field 24 b.inCtrl
  else 0

/-- BST_WATCH w (R326): 0 for a watch that is not allocated. -/
def watchWord (b : Bandstand) (w : Fin 1024) : W64 :=
  match b.watches.find? (fun x => x.w.toNat == w.val) with
  | none => 0
  | some x =>
    let (owner, source) : BitVec 2 × BitVec 12 := match x.owner with
      | .engine p _ => (0, BitVec.ofNat 12 p.val)
      | .control _ => (1, 0)
      | .rill ctx => (2, ctx)
    flag 0 true ||| flag 1 x.pending.isSome ||| field 2 owner ||| field 4 x.kind ||| field 8 x.target ||| field 20 source ||| field 32 x.n

/-- MB_CFG (R345). -/
def mbCfg (x : Mailbox) : W64 :=
  field 0 x.recv ||| field 8 x.wake ||| field 16 x.pair ||| field 24 x.ring ||| field 32 x.depAddr

/-- MB_FULL (R342). -/
def mbFull (s : State) : W64 :=
  (idx 64).foldl (fun v n => if boxFullBit s (box s n) then v ||| BitVec.ofNat 64 (2 ^ n.val) else v) 0

/-- A word of a context slot (R249, R250, R252): a descriptor's fields, or a stream head's fields and status. A slot of another
KIND has no table: what was written reads back (log entry 26). -/
def slotRead (s : State) (n : BitVec 12) (j : Fin 8) : W64 :=
  let x := stream s n
  let pos := streamPos s n
  if slotKind s n = 1 then
    if j.val < 3 then slotWord s n j.val &&& headBits j.val
    else if j = 3 then field 32 (streamCode x.st) ||| flag 35 x.fencedSeen ||| field 40 (BitVec.ofNat 8 (admitted s n))
    else if j = 4 then field 0 pos.1 ||| field 16 pos.2
    else if j = 5 then field 6 x.xaddr
    else if j = 6 then w64 x.tiles
    else 0
  else if slotKind s n = 2 then slotWord s n j.val &&& descBits j.val
  else slotWord s n j.val

/-- Word j of slot n is two 32-bit registers in the table of the slot's KIND (R17, R250, R252, log entry 26). -/
def slotHalves (s : State) (n : BitVec 12) (j : Fin 8) : Bool :=
  if slotKind s n = 1 then j == 3 || j == 4 || j == 6 || j == 7
  else if slotKind s n = 2 then j == 2 || j == 5 || j == 6 || j == 7
  else false

/-- RG_MODEL_STAT (R104). -/
def modelStat (g : RegionSt) : W64 :=
  field 0 g.model.active ||| flag 8 g.model.switching ||| flag 9 g.model.invalid ||| field 16 (descOf g g.model.active).tag

/-- RG_ARB_CTRL (R154). -/
def arbCtrl (a : ArbRegs) : W64 := flag 0 a.mode ||| flag 1 a.starveIe ||| field 8 a.limit

/-- RG_BURST (R156). -/
def burstWord (a : ArbRegs) : W64 :=
  field 0 (vget a.burst 0) ||| field 8 (vget a.burst 1) ||| field 16 (vget a.burst 2) ||| field 24 (vget a.burst 3)

/-- RG_TT_STAT (R161). -/
def ttStat (g : RegionSt) : W64 :=
  (if g.power.st = .run then field 0 (BitVec.ofNat 10 g.model.slot.val) else 0) ||| field 16 (BitVec.ofNat 2 g.model.tt.val) |||
    flag 18 g.model.ttPending

/-- RG_EV_STAT (R189). -/
def evStat (s : State) (r : Region) : W64 :=
  let g := rg s r
  flag 0 g.ev.entry.isEmpty ||| flag 1 g.ev.groups.isEmpty ||| flag 2 (g.blocks.toList.all (fun b => b.evq.isEmpty)) |||
    flag 3 (g.blocks.toList.all (fun b => b.released.isEmpty && b.ring.toList.all (·.isEmpty))) ||| flag 4 (entryHeld s r) |||
    flag 5 (closing s r) ||| flag 6 g.ev.epochWrap ||| flag 7 g.ev.ringFull ||| field 8 g.ev.countWrap |||
    field 16 (BitVec.ofNat 10 g.ev.entry.length)

/-- RG_TR_SEL (R183). -/
def trSel (e : REvents) : W64 := field 0 e.trEntry ||| flag 30 e.trInc ||| flag 31 e.trSpace

/-- RG_LANE_STAT (R213). -/
def laneStat (l : RLanes) : W64 :=
  flag 0 l.intSat ||| flag 1 l.fpInf ||| flag 2 l.fpNan ||| flag 3 l.replayed ||| flag 4 l.replayWrap

/-- RG_SWEEP_STAT (R241). -/
def sweepStat (g : RegionSt) : W64 :=
  let w := g.sweep
  flag 0 (sweeping g) ||| flag 1 w.badProg ||| flag 2 w.badInstr ||| flag 3 w.emitStall ||| flag 4 w.arithSat ||| flag 5 w.traceSat |||
    flag 6 w.emittedWrap ||| flag 7 w.suppressedWrap ||| field 8 (BitVec.ofNat 3 w.lastProg.val)

/-- Two selects of a set (R492). -/
def selPair {n : Nat} (v : Vector Counter n) (lo hi : Fin n) : W64 := field 0 (vget v lo).sel ||| field 16 (vget v hi).sel

/-- Entry CNT_TAG_SEL of the tag buffer (R496): 0 where none has been there since macro reset (R499), and a free value where the one
that was has been cleared (log entry 5). -/
def tagShown (s : State) : BitVec 128 :=
  match s.cnt.tags[s.cnt.tagSel.toNat]? with
  | some e => e
  | none => if s.cnt.tagSel.toNat < s.cnt.tagHigh then fv s 1 128 else 0

/-- The Sluice window position of a half: where it stands while the clock is absent, else a free value (R348, R358; log entry 5). -/
def windowPos (s : State) (h : Half) : BitVec 10 := if clocked s h then fv s (1 + h.val) 10 else vget s.slu.pos h

/-- The value a register reads, without the effect of reading it. A write-only field reads 0 (R12). -/
def regVal (s : State) : Reg → W64
  | .idVersion => 0x00020003
  | .idPart => 0x504C0080
  | .idConfig => idConfig s
  | .ghCtrl => flag 0 s.gh.cpOpen
  | .ghCmd => 0
  | .ghStatus => ghStatus s
  | .ghBootStat => w64 (bootStat s)
  | .ghBootCount => w64 s.aon.bootCount
  | .ghFwAddr => field 6 s.gh.fwAddr
  | .ghFwLen => field 0 s.gh.fwLen
  | .ghFwData => 0
  | .ghMeas n w => (vget s.meas.slots n).extractLsb' (64 * w.val) 64
  | .ghMeasCnt n => field 0 (vget s.meas.cnt n) ||| flag 16 (vget s.meas.wrap n)
  | .ghExtData w => vget s.meas.extData w
  | .ghExtCtrl => 0
  | .ghReport w => vget s.meas.report w
  | .ghSig w => vget s.meas.sig w
  | .ghSigLen => field 0 s.meas.sigLen
  | .plnCtrl => flag 2 s.pln.source
  | .plnStatus => w64 (plnStatus s)
  | .plnAddr => field 6 s.pln.addr
  | .plnData => 0
  | .plnLoaded => w64 (plnLoaded s)
  | .plnId => w64 s.pln.planId
  | .pwrStep => field 0 s.pwr.stepW ||| field 8 s.pwr.stepE ||| field 16 s.pwr.reserve
  | .pwrCeiling => field 0 s.pwr.ceilW ||| field 8 s.pwr.ceilE
  | .pwrFclk h => field 0 (vget s.pwr.mhz h)
  | .pwrState => pwrState s
  | .pwrWake => field 8 s.pwr.hold
  | .pwrStat => pwrStat s
  | .pwrIrq => pwrIrq s
  | .pwrEst => field 0 (vget s.pwr.stagers 0).est ||| field 16 (vget s.pwr.stagers 1).est
  | .pwrPolicy r which => policyWord (rg s r).power which
  | .fltFirst => s.flt.first
  | .fltFirstTime => s.flt.firstTime
  | .fltStat => fltStat s
  | .fltIrq => flag 0 s.flt.irq ||| flag 16 s.flt.irqIe
  | .fltMore => w64 s.flt.more
  | .fltInject => 0
  | .rsCtrl => flag 1 s.rs.keep
  | .rsStat => rsStat s
  | .fltLog n => s.flt.log.getD n.val 0
  | .fnFence r => w64 (rg s r).fence
  | .fnRepairStat => flag 0 s.fuse.done ||| flag 1 s.fuse.badHdr ||| flag 2 s.fuse.timedOut ||| flag 3 s.fuse.blank
  | .fnRepairCnt => field 0 s.fuse.cols ||| field 10 s.fuse.badEntry ||| field 20 s.fuse.conflict
  | .fnSpare => s.fuse.sel
  | .slu x => sluWord s.slu.regs x
  | .sluWindow => field 0 (windowPos s 0) ||| field 16 (windowPos s 1)
  | .sluStat => field 0 s.slu.beatsWrap ||| field 8 s.slu.heldWrap ||| flag 16 s.slu.urgent
  | .sluHold => w64 s.slu.heldNow
  | .sluUsed k => field 0 (vget s.slu.used ⟨2 * k.val, by omega⟩) ||| field 16 (vget s.slu.used ⟨2 * k.val + 1, by omega⟩)
  | .sluBeats c => w64 (vget s.slu.beats c)
  | .sluHeld c => w64 (vget s.slu.heldCnt c)
  | .fbCtrl => flag 1 s.fb.spareEn ||| field 8 s.fb.replayLimit
  | .fbStat => fbStat s
  | .fbIrq => fbIrq s.fb
  | .fbSpareCfg => field 0 s.fb.thresh ||| field 8 s.fb.window
  | .fbCrcErr d => w64 (dir s d).crcErr
  | .fbReplays d => w64 (dir s d).replays
  | .fbSpareMap d g => vget (dir s d).map g
  | .rlStat k => rlStat s k
  | .rlWicket => field 0 (BitVec.ofNat 9 (256 - s.rill.wickets.length))
  | .rlXlate => rlXlate s
  | .rlIrq => flag 0 s.rill.xlate ||| flag 16 s.rill.xlateIe
  | .echCtrl => flag 0 (rp s 0).echoEn ||| flag 1 (rp s 1).echoEn
  | .echInvAddr => field 6 s.rill.invAddr
  | .echInvLen => w64 s.rill.invLen
  | .echInv => flag 16 (rp s 0).invBusy ||| flag 17 (rp s 1).invBusy
  | .echStat => flag 0 (rp s 0).parDrop ||| flag 1 (rp s 1).parDrop
  | .cntCtrl => 0
  | .cntStat =>
    flag 0 s.cnt.dumpDone ||| flag 1 s.cnt.dumpSkip ||| flag 2 s.cnt.dumpFenced ||| flag 3 s.cnt.wrap ||| flag 16 s.cnt.dumpIe |||
      flag 17 s.cnt.wrapIe
  | .cntPerm => flag 0 s.cnt.cpRead
  | .cntPeriod => w64 s.cnt.period
  | .cntAddr => field 6 s.cnt.addr
  | .cntSem => field 0 s.cnt.sem ||| flag 31 s.cnt.semEn
  | .cntSeq => w64 s.cnt.seq
  | .cntTagCtrl => flag 0 s.cnt.tagEn ||| flag 1 s.cnt.tagKind ||| field 8 s.cnt.tagK
  | .cntTagPorts => w64 s.cnt.tagPorts
  | .cntTagSeed => field 0 s.cnt.seed
  | .cntTagStat => field 0 (BitVec.ofNat 9 s.cnt.tags.length) ||| flag 9 s.cnt.tagFull
  | .cntTagSel => field 0 s.cnt.tagSel
  | .cntTagData i => (tagShown s).extractLsb' (64 * i.val) 64
  | .cntSel k => selPair s.cnt.counters ⟨2 * k.val, by omega⟩ ⟨2 * k.val + 1, by omega⟩
  | .cntVal n => cntWord (vget s.cnt.counters n)
  | .bstSem n => field 0 (tget 0 s.bst.sem n.val)
  | .bstStat => bstStat s.bst
  | .bstIe => flag 0 s.bst.msgIe ||| flag 1 s.bst.tmoIe ||| flag 2 s.bst.errIe
  | .bstRole => field 0 s.bst.role ||| field 8 s.bst.chipId ||| field 16 s.bst.managerId ||| field 24 s.bst.chips
  | .bstWtmo => field 0 s.bst.wtmo
  | .bstErrCount => w64 s.bst.errCount
  | .bstScopeWarn => w64 s.bst.scopeWarn
  | .bstWcancel => 0
  | .bstWreg => 0
  | .bstMsg => s.bst.msgs.headD 0
  | .bstLevel => field 0 (BitVec.ofNat 7 s.bst.msgs.length) ||| field 16 (BitVec.ofNat 11 s.bst.watches.length)
  | .bstPair n => pairVal s (BitVec.ofNat 8 n.val)
  | .barCfg b => barCfg (bar s b)
  | .barProg b => barProg (bar s b)
  | .barCnt b => (bar s b).cnt
  | .barStat b => (bar s b).sgen ++ (bar s b).gen
  | .bstWatch w => watchWord s.bst w
  | .mbData _ => 0
  | .mbTake n => match (box s n).word with | some (w, _) => w | none => 0
  | .mbFull => mbFull s
  | .mbIe => s.lod.ie
  | .mbStat => flag 0 s.lod.rejected ||| flag 1 s.lod.depFenced ||| flag 2 s.lod.rejectWrap
  | .mbRejects => w64 s.lod.rejects
  | .mbCfg n => mbCfg (box s n)
  | .slot n j => slotRead s (BitVec.ofNat 12 n.val) j
  | .modelSel r => field 0 (rg s r).model.sel
  | .modelStat r => modelStat (rg s r)
  | .mcastMask r g => w64 (vget (rg s r).mcast.masks g)
  | .mcastCtrl r => field 0 (rg s r).mcast.gatherCycles
  | .mcastDet r => w64 (rg s r).mcast.det
  | .arbCtrl r => arbCtrl (rg s r).arb.regs
  | .quota r => field 0 (rg s r).arb.regs.quota ||| field 16 (rg s r).arb.regs.window
  | .burst r => burstWord (rg s r).arb.regs
  | .arbFreeze r => w64 (rg s r).arb.freeze
  | .arbIdle r => w64 (wordOfBits (fun b => arbIdle s r b))
  | .starve r => field 0 (rg s r).arb.starvePort ||| flag 4 (rg s r).arb.starveHalf ||| flag 5 (rg s r).arb.starveEntry
  | .starveBlk r => w64 (rg s r).arb.starveBlk
  | .ttStat r => ttStat (rg s r)
  | .epoch r => w64 (rg s r).ev.epoch
  | .sundial _ => s.aon.sundial
  | .stepTime r => (rg s r).ev.stepTime
  | .evCtrl r => flag 0 (rg s r).ev.hold
  | .evStat r => evStat s r
  | .evCount r n => w64 (vget (rg s r).ev.counts n)
  | .trSel r => trSel (rg s r).ev
  | .trData _ => 0
  | .trDelay _ => 0
  | .laneStat r => laneStat (rg s r).lanes
  | .laneReplays r => w64 (rg s r).lanes.replays
  | .basinClrBlk r => w64 (rg s r).lanes.clrBlk
  | .basinClr _ => 0
  | .basinSel r => field 0 (rg s r).lanes.word ||| field 16 (BitVec.ofNat 5 (rg s r).lanes.block.val) ||| flag 30 (rg s r).lanes.inc
  | .basinData _ => 0
  | .sweepStat r => sweepStat (rg s r)
  | .sweepLast r => field 0 (rg s r).sweep.cycles
  | .sweepEmitted r => w64 (rg s r).sweep.emitted
  | .sweepSuppressed r => w64 (rg s r).sweep.suppressed
  | .sweepSel r =>
    field 0 (rg s r).sweep.word ||| field 16 (rg s r).sweep.space ||| field 20 (BitVec.ofNat 5 (rg s r).sweep.block.val) |||
      flag 30 (rg s r).sweep.inc
  | .sweepData _ => 0
  | .rcntSel r k =>
    if (rg s r).power.st = .off then 0 else selPair (rg s r).counters ⟨2 * k.val, by omega⟩ ⟨2 * k.val + 1, by omega⟩
  | .rcntVal r n => if (rg s r).power.st = .off then 0 else cntWord (vget (rg s r).counters n)
  | .bcntSel r b =>
    if (rg s r).power.st = .off then 0
    else (idx 4).foldl (fun v c => v ||| field (16 * c.val) (vget (blk s r b).counters c).sel) 0
  | .bcntVal r b c => if (rg s r).power.st = .off then 0 else cntWord (vget (blk s r b).counters c)

/-! ## Reads -/

/-- The effect of reading a read-clear counter (R12). -/
def rcClear (s : State) : Reg → State
  | .sluBeats c => { s with slu := { s.slu with beats := vset s.slu.beats c 0 } }
  | .sluHeld c => { s with slu := { s.slu with heldCnt := vset s.slu.heldCnt c 0 } }
  | .fbCrcErr d => modDir s d (fun x => { x with crcErr := 0 })
  | .fbReplays d => modDir s d (fun x => { x with replays := 0 })
  | .bstErrCount => { s with bst := { s.bst with errCount := 0 } }
  | .bstScopeWarn => { s with bst := { s.bst with scopeWarn := 0 } }
  | .mbRejects => { s with lod := { s.lod with rejects := 0 } }
  | .evCount r n => modEv s r (fun e => { e with counts := vset e.counts n 0 })
  | .laneReplays r => modRg s r (fun g => { g with lanes := { g.lanes with replays := 0 } })
  | .sweepEmitted r => modRg s r (fun g => { g with sweep := { g.sweep with emitted := 0 } })
  | .sweepSuppressed r => modRg s r (fun g => { g with sweep := { g.sweep with suppressed := 0 } })
  | _ => s

/-- The region that a register belongs to, of those without a rule of their own on waking (R107, R180, R184,
R210, R246). -/
def regRegion : Reg → Option Region
  | .modelSel r => some r
  | .modelStat r => some r
  | .mcastMask r _ => some r
  | .mcastCtrl r => some r
  | .mcastDet r => some r
  | .arbCtrl r => some r
  | .quota r => some r
  | .burst r => some r
  | .arbFreeze r => some r
  | .arbIdle r => some r
  | .starve r => some r
  | .starveBlk r => some r
  | .epoch r => some r
  | .sundial r => some r
  | .stepTime r => some r
  | .evCtrl r => some r
  | .evStat r => some r
  | .evCount r _ => some r
  | .trSel r => some r
  | .laneStat r => some r
  | .laneReplays r => some r
  | .basinClrBlk r => some r
  | .basinSel r => some r
  | .sweepStat r => some r
  | .sweepLast r => some r
  | .sweepEmitted r => some r
  | .sweepSuppressed r => some r
  | .sweepSel r => some r
  | .sweepData r => some r
  | .rcntSel r _ => some r
  | .rcntVal r _ => some r
  | .bcntSel r _ => some r
  | .bcntVal r _ _ => some r
  | _ => none

/-- An access to a register of a region is a wake request (R401). A read of RG_TT_STAT is none (R161): regRegion leaves it out. -/
def touch (s : State) (x : Reg) : State :=
  match regRegion x with
  | some r => wakeReq s r
  | none => s

/-- A read of a register: the rows of the registers whose read does more than return a value, and for the others the value and
the clear of R12. Checks of the words read hold (log entry 4). -/
def getReg (port : RegPort) (x : Reg) (s : State) : Host.Outcome State Fault Refusal :=
  match x with
  | .trData r => execTrellisDataRead port r false s
  | .basinData r => execBasinDataRead port r false s
  | .sweepData r => execSweepDataRead port r false s
  | .basinClr r => finish (basinClrRd s port r)
  | .mbTake n => execMailboxTake port n s
  | .bstMsg => execControlMessageTake port s
  | _ => finish (reply (rcClear (touch s x) x) port (regVal s x))

/-! ## Writes -/

/-- Old unless good (R15). -/
def keepOr {α : Type} (good : Bool) (new old : α) : α := if good then new else old

/-- PWR_STEP written (R15, R413). -/
def writeStep (p : Power) (d : W32) : Power :=
  let w : BitVec 7 := d.extractLsb' 0 7
  let e : BitVec 7 := d.extractLsb' 8 7
  let v : Byte := d.extractLsb' 16 8
  { p with stepW := keepOr (decide (5 ≤ w.toNat) && decide (w.toNat ≤ 120)) w p.stepW
           stepE := keepOr (decide (5 ≤ e.toNat) && decide (e.toNat ≤ 120)) e p.stepE
           reserve := keepOr (decide (v.toNat ≤ 240)) v p.reserve }

/-- PWR_CEILING written (R15, R414). -/
def writeCeiling (p : Power) (d : W32) : Power :=
  let w : Byte := d.extractLsb' 0 8
  let e : Byte := d.extractLsb' 8 8
  { p with ceilW := keepOr (w == 0 || decide (32 ≤ w.toNat)) w p.ceilW, ceilE := keepOr (e == 0 || decide (32 ≤ e.toNat)) e p.ceilE }

/-- RG_ARB_CTRL written (R15, R154). -/
def writeArb (a : ArbRegs) (d : W32) : ArbRegs :=
  let l : Byte := d.extractLsb' 8 8
  { a with mode := d.getLsbD 0, starveIe := d.getLsbD 1, limit := keepOr (l != 0) l a.limit }

/-- RG_QUOTA written (R15, R155). -/
def writeQuota (a : ArbRegs) (d : W32) : ArbRegs :=
  let q : BitVec 10 := d.extractLsb' 0 10
  let w : BitVec 10 := d.extractLsb' 16 10
  { a with quota := keepOr (q != 0) q a.quota, window := keepOr (decide (16 ≤ w.toNat)) w a.window }

/-- RG_BURST written (R156). -/
def writeBurst (a : ArbRegs) (d : W32) : ArbRegs :=
  { a with burst := Vector.ofFn (fun (i : Fin 4) => d.extractLsb' (8 * i.val) 6) }

/-- FB_SPARE_CFG written (R15, R395). -/
def writeSpareCfg (f : Footbridge) (d : W32) : Footbridge :=
  let t : Byte := d.extractLsb' 0 8
  let w : BitVec 24 := d.extractLsb' 8 24
  { f with thresh := keepOr (t != 0) t f.thresh, window := keepOr (w != 0) w f.window }

/-- A counter with a select written (R15, R478, R492). -/
def withSel (k : CntKind) (i : Nat) (c : Counter) (v : BitVec 16) : Counter := { c with sel := keepOr (selOk k i v) v c.sel }

/-- Two selects of a set written (R492). -/
def writeSelPair {n : Nat} (k : CntKind) (v : Vector Counter n) (lo hi : Fin n) (d : W32) : Vector Counter n :=
  vmod (vmod v lo (fun c => withSel k lo.val c (d.extractLsb' 0 16))) hi (fun c => withSel k hi.val c (d.extractLsb' 16 16))

/-- A region that is Off keeps no select (R477). -/
def whenPowered (s : State) (r : Region) (f : RegionSt → RegionSt) : State :=
  if (rg s r).power.st = .off then s else modRg s r f

/-- A write that clears flags by ones (R12): flag i stays where bit lo + i of d is 0. -/
def w1c (d : W64) (lo : Nat) (old : Bool) : Bool := old && !d.getLsbD lo

/-- What a write of a register without a row of its own does to the state (R12, R14, R15); read-only registers keep their value. -/
def plainWrite (s : State) (x : Reg) (d : W64) : State :=
  let w := lo32 d
  match x with
  | .ghFwAddr => { s with gh := { s.gh with fwAddr := d.extractLsb' 6 58 } }
  | .ghFwLen => { s with gh := { s.gh with fwLen := d.extractLsb' 0 18 } }
  | .ghExtData i => { s with meas := { s.meas with extData := vset s.meas.extData i d } }
  | .plnAddr => { s with pln := { s.pln with addr := d.extractLsb' 6 58 } }
  | .pwrStep => { s with pwr := writeStep s.pwr w }
  | .pwrCeiling => { s with pwr := writeCeiling s.pwr w }
  | .pwrIrq =>
    { s with pwr := { s.pwr with
      wakeDone := s.pwr.wakeDone &&& ~~~(d.extractLsb' 0 8), ceiling := w1c d 8 s.pwr.ceiling, fclkReq := w1c d 9 s.pwr.fclkReq
      wakeIe := d.getLsbD 16, ceilIe := d.getLsbD 17, fclkIe := d.getLsbD 18 } }
  | .fltIrq => { s with flt := { s.flt with irq := w1c d 0 s.flt.irq, irqIe := d.getLsbD 16 } }
  | .rsCtrl => { s with rs := { s.rs with keep := d.getLsbD 1 } }
  | .sluStat =>
    { s with slu := { s.slu with
      beatsWrap := s.slu.beatsWrap &&& ~~~(d.extractLsb' 0 8), heldWrap := s.slu.heldWrap &&& ~~~(d.extractLsb' 8 8)
      urgent := w1c d 16 s.slu.urgent } }
  | .fbStat =>
    let s := modDir s 0 (fun y => { y with crcWrap := w1c d 12 y.crcWrap, replayWrap := w1c d 14 y.replayWrap })
    modDir s 1 (fun y => { y with crcWrap := w1c d 13 y.crcWrap, replayWrap := w1c d 15 y.replayWrap })
  | .fbIrq =>
    { s with fb := { s.fb with
      retired := w1c d 0 s.fb.retired, trained := w1c d 1 s.fb.trained, trainFailed := w1c d 2 s.fb.trainFailed
      retiredIe := d.getLsbD 16, trainedIe := d.getLsbD 17, failedIe := d.getLsbD 18 } }
  | .fbSpareCfg => { s with fb := writeSpareCfg s.fb w }
  | .rlIrq => { s with rill := { s.rill with xlate := w1c d 0 s.rill.xlate, xlateIe := d.getLsbD 16 } }
  | .echInvAddr => { s with rill := { s.rill with invAddr := d.extractLsb' 6 58 } }
  | .echInvLen => { s with rill := { s.rill with invLen := w } }
  | .echStat =>
    let s := modRp s 0 (fun p => { p with parDrop := w1c d 0 p.parDrop })
    modRp s 1 (fun p => { p with parDrop := w1c d 1 p.parDrop })
  | .cntStat =>
    { s with cnt := { s.cnt with
      dumpDone := w1c d 0 s.cnt.dumpDone, dumpSkip := w1c d 1 s.cnt.dumpSkip, dumpFenced := w1c d 2 s.cnt.dumpFenced
      wrap := w1c d 3 s.cnt.wrap, dumpIe := d.getLsbD 16, wrapIe := d.getLsbD 17 } }
  | .cntPerm => { s with cnt := { s.cnt with cpRead := d.getLsbD 0 } }
  | .cntPeriod => { s with cnt := { s.cnt with period := w, ticks := 0 } }
  | .cntAddr => { s with cnt := { s.cnt with addr := d.extractLsb' 6 21 } }
  | .cntSem => { s with cnt := { s.cnt with sem := d.extractLsb' 0 12, semEn := d.getLsbD 31 } }
  | .cntTagPorts => { s with cnt := { s.cnt with tagPorts := w } }
  | .cntTagSeed => { s with cnt := { s.cnt with seed := keepOr (w.extractLsb' 0 16 != 0) (w.extractLsb' 0 16) s.cnt.seed } }
  | .cntTagStat => { s with cnt := { s.cnt with tagFull := w1c d 9 s.cnt.tagFull } }
  | .cntTagSel => { s with cnt := { s.cnt with tagSel := d.extractLsb' 0 8 } }
  | .cntSel k =>
    { s with cnt := { s.cnt with
      counters := writeSelPair .whole s.cnt.counters ⟨2 * k.val, by omega⟩ ⟨2 * k.val + 1, by omega⟩ w } }
  | .bstStat =>
    { s with bst := { s.bst with
      timeout := w1c d 1 s.bst.timeout, semErr := w1c d 2 s.bst.semErr, barErr := w1c d 3 s.bst.barErr, syncErr := w1c d 4 s.bst.syncErr
      watchFull := w1c d 5 s.bst.watchFull, errWrap := w1c d 6 s.bst.errWrap, warnWrap := w1c d 7 s.bst.warnWrap } }
  | .bstIe => { s with bst := { s.bst with msgIe := d.getLsbD 0, tmoIe := d.getLsbD 1, errIe := d.getLsbD 2 } }
  | .bstWtmo => { s with bst := { s.bst with wtmo := d.extractLsb' 0 24 } }
  | .mbIe => { s with lod := { s.lod with ie := d } }
  | .mbStat =>
    { s with lod := { s.lod with
      rejected := w1c d 0 s.lod.rejected, depFenced := w1c d 1 s.lod.depFenced, rejectWrap := w1c d 2 s.lod.rejectWrap } }
  | .modelStat r => modRg s r (fun g => { g with model := { g.model with invalid := w1c d 9 g.model.invalid } })
  | .mcastMask r g => modRg s r (fun x => { x with mcast := { x.mcast with masks := vset x.mcast.masks g w } })
  | .mcastCtrl r =>
    modRg s r (fun g => { g with mcast := { g.mcast with
      gatherCycles := keepOr (w.extractLsb' 0 8 != 0) (w.extractLsb' 0 8) g.mcast.gatherCycles } })
  | .mcastDet r => modRg s r (fun g => { g with mcast := { g.mcast with det := g.mcast.det &&& ~~~w } })
  | .arbCtrl r => modRg s r (fun g => { g with arb := { g.arb with regs := writeArb g.arb.regs w } })
  | .quota r => modRg s r (fun g => { g with arb := { g.arb with regs := writeQuota g.arb.regs w } })
  | .burst r => modRg s r (fun g => { g with arb := { g.arb with regs := writeBurst g.arb.regs w } })
  | .arbFreeze r => modRg s r (fun g => { g with arb := { g.arb with freeze := w } })
  | .starve r =>
    modRg s r (fun g => { g with arb := { g.arb with
      starvePort := g.arb.starvePort &&& ~~~(d.extractLsb' 0 4), starveHalf := w1c d 4 g.arb.starveHalf
      starveEntry := w1c d 5 g.arb.starveEntry } })
  | .starveBlk r => modRg s r (fun g => { g with arb := { g.arb with starveBlk := g.arb.starveBlk &&& ~~~w } })
  | .evStat r =>
    modEv s r (fun e => { e with epochWrap := w1c d 6 e.epochWrap, ringFull := w1c d 7 e.ringFull,
                                 countWrap := e.countWrap &&& ~~~(d.extractLsb' 8 5) })
  | .trSel r => modEv s r (fun e => { e with trEntry := d.extractLsb' 0 17, trInc := d.getLsbD 30, trSpace := d.getLsbD 31 })
  | .laneStat r =>
    modRg s r (fun g => { g with lanes := { g.lanes with
      intSat := w1c d 0 g.lanes.intSat, fpInf := w1c d 1 g.lanes.fpInf, fpNan := w1c d 2 g.lanes.fpNan
      replayed := w1c d 3 g.lanes.replayed, replayWrap := w1c d 4 g.lanes.replayWrap } })
  | .basinClrBlk r => modRg s r (fun g => { g with lanes := { g.lanes with clrBlk := w } })
  | .basinSel r =>
    modRg s r (fun g => { g with lanes := { g.lanes with
      word := d.extractLsb' 0 11, block := fin 32 (d.extractLsb' 16 5).toNat, inc := d.getLsbD 30 } })
  | .sweepStat r =>
    modRg s r (fun g => { g with sweep := { g.sweep with
      badProg := w1c d 1 g.sweep.badProg, badInstr := w1c d 2 g.sweep.badInstr, emitStall := w1c d 3 g.sweep.emitStall
      arithSat := w1c d 4 g.sweep.arithSat, traceSat := w1c d 5 g.sweep.traceSat, emittedWrap := w1c d 6 g.sweep.emittedWrap
      suppressedWrap := w1c d 7 g.sweep.suppressedWrap } })
  | .sweepSel r =>
    modRg s r (fun g => { g with sweep := { g.sweep with
      word := d.extractLsb' 0 11, space := keepOr (d.extractLsb' 16 2 != 3) (d.extractLsb' 16 2) g.sweep.space
      block := fin 32 (d.extractLsb' 20 5).toNat, inc := d.getLsbD 30 } })
  | .rcntSel r k =>
    whenPowered s r (fun g => { g with counters := writeSelPair .region g.counters ⟨2 * k.val, by omega⟩ ⟨2 * k.val + 1, by omega⟩ w })
  | .bcntSel r b =>
    whenPowered s r (fun g => { g with blocks := vmod g.blocks b (fun y =>
      { y with counters := vmap (fun i c => withSel .block i.val c (d.extractLsb' (16 * i.val) 16)) y.counters }) })
  | _ => s

/-- A firmware register is locked while an image loads (R426). -/
def fwLocked (s : State) (x : Reg) : Bool := (x == .ghFwAddr || x == .ghFwLen) && s.gh.stage == .loading

/-- A 32-bit half of a context slot's word as byte enables (R44). -/
def slotMask (size64 : Bool) (hi : Bool) : W64 :=
  if size64 then BitVec.allOnes 64 else if hi then 0xFFFFFFFF00000000 else 0x00000000FFFFFFFF

/-- A write to a context slot under a mask (R249-R252). -/
def putSlot (port : RegPort) (n : BitVec 12) (j : Fin 8) (d m : W64) (s : State) : Host.Outcome State Fault Refusal :=
  match writeSlot s n j.val d m with
  | none => finish (busErr s port)
  | some s' => finishSync (ack s' port)

/-- A write of RS_CTRL (R457, R461, R472). -/
def putRestart (port : RegPort) (d : W32) (s : State) : Host.Outcome State Fault Refusal :=
  if d.getLsbD 0 then execJobRestartGo port (d.getLsbD 1) (d.getLsbD 2) s
  else if d.getLsbD 2 then execJobRestartRelease port (d.getLsbD 1) s
  else finish (ack (plainWrite s .rsCtrl (w64 d)) port)

/-- A write of PLN_CTRL (R88). -/
def putPlnCtrl (port : RegPort) (d : W32) (s : State) : Host.Outcome State Fault Refusal :=
  finish (plnCtrl s port (d.getLsbD 0) (d.getLsbD 1) (d.getLsbD 2))

/-- A write of GH_CTRL (R443). -/
def putGhCtrl (port : RegPort) (d : W32) (s : State) : Host.Outcome State Fault Refusal :=
  finish (ghCtrl s port (d.getLsbD 1) (d.getLsbD 2) (d.getLsbD 0))

/-- A write of GH_CMD (R439, R444). -/
def putGhCmd (port : RegPort) (d : W32) (s : State) : Host.Outcome State Fault Refusal :=
  if d.getLsbD 1 then execFreeze port (d.getLsbD 0) s else if d.getLsbD 0 then execStop port s else finish (ack s port)

/-- A write of a register whose block the port may write: the rows of the registers that have one, and the plain writes. -/
def putReg (port : RegPort) (x : Reg) (d : W64) (s : State) : Host.Outcome State Fault Refusal :=
  let w := lo32 d
  match x with
  | .ghCtrl => putGhCtrl port w s
  | .ghCmd => putGhCmd port w s
  | .ghFwData => execFwDataWord port w s
  | .ghExtCtrl => if w.getLsbD 3 then execMeasureExtend port (fin 8 (w.extractLsb' 0 3).toNat) s else finish (ack s port)
  | .plnCtrl => putPlnCtrl port w s
  | .plnData => execPlanDataWord port w s
  | .pwrFclk h => execPwrFclkWrite port h w s
  | .pwrWake => execPwrWakeReq port (w.extractLsb' 0 8) (w.extractLsb' 8 8) s
  | .pwrPolicy r which => execPolicyWrite port r which w s
  | .fltInject => execInjected port w s
  | .rsCtrl => putRestart port w s
  | .fnFence r => execFenceSet port r w s
  | .slu y => execSluiceConfigWrite port y w s
  | .fbCtrl => execLinkRetrain port w s
  | .echCtrl => execEchoEnableWrite port (w.getLsbD 0) (w.getLsbD 1) s
  | .echInv => execEchoInvalidate port (w.getLsbD 0) (w.getLsbD 1) s
  | .cntCtrl => if w.getLsbD 0 then execDumpNow port s else finish (ack s port)
  | .cntTagCtrl => finish (writeTag (ack s port) (w.getLsbD 0) (w.getLsbD 1) (w.extractLsb' 8 4) (w.getLsbD 2))
  | .cntVal n => execCounterWrite port (.whole n) d s
  | .bstSem n => presentOp (.reg port) (BitVec.ofNat 12 n.val) d s
  | .bstRole => execRoleWrite port w s
  | .bstWcancel => execWatchCancel port (w.extractLsb' 0 16) s
  | .bstWreg => execWatchRegister port d s
  | .bstPair n => execPairWrite port (BitVec.ofNat 8 n.val) d s
  | .barCfg b => execBarrierConfigWrite port b .cfg d s
  | .barCnt b => execBarrierConfigWrite port b .cnt d s
  | .mbData n => execMailboxSend port n d s
  | .mbCfg n => execMailboxConfigWrite port n d s
  | .slot n j => putSlot port (BitVec.ofNat 12 n.val) j d (BitVec.allOnes 64) s
  | .modelSel r => execModelSwitch port r w s
  | .evCtrl r => execEntryHold port r (w.getLsbD 0) s
  | .trData r => execTrellisDataWrite port r d s
  | .trDelay r => execTrellisDelayWrite port r w s
  | .basinClr r => execBasinClear port r w s
  | .basinData r => execBasinDataWrite port r d s
  | .rcntVal r n => execCounterWrite port (.region r n) d s
  | .bcntVal r b c => execCounterWrite port (.block r b c) d s
  | .ttStat r => finish (ack (wakeReq s r) port)
  | _ => if fwLocked s x then finish (busErr s port) else finish (ack (plainWrite (touch s x) x d) port)

/-! ## Accesses of the ports (R43, R44, R46) -/

/-- What an aligned 4-byte offset names: a register, and whether it is the upper word of a 64-bit one. -/
def regHalf (o : Nat) : Option (Reg × Bool) :=
  match regAt o with
  | some x => some (x, false)
  | none =>
    if o % 8 = 4 then
      match regAt (o - 4) with
      | some x => if x.wide then some (x, true) else none
      | none => none
    else none

/-- The register is 64 bits wide; a word of a context slot by its KIND. -/
def wideAt (s : State) : Reg → Bool
  | .slot n j => !slotHalves s (BitVec.ofNat 12 n.val) j
  | x => x.wide

/-- The access is refused under R24 or R483. -/
def barred (s : State) (port : RegPort) (o : Nat) (x : Reg) (write : Bool) : Bool :=
  if write then !mayWrite port o x else port == .cp && x.counter && !s.cnt.cpRead

/-- An access that may be a read or a write of a whole register. -/
def access (port : RegPort) (x : Reg) (wr : Option W64) (s : State) : Host.Outcome State Fault Refusal :=
  match wr with
  | none => getReg port x s
  | some d => putReg port x d s

/-- An outcome carried on. -/
def andThen (o : Host.Outcome State Fault Refusal) (f : State → Host.Outcome State Fault Refusal) : Host.Outcome State Fault Refusal :=
  match o with
  | .next s => f s
  | .fault x => .fault x
  | .refused x => .refused x

/-- The port's answer is a bus error. -/
def refusedAt (port : RegPort) (o : Host.Outcome State Fault Refusal) : Bool :=
  match o with
  | .next s => (match (rport s port).rsps with | a :: _ => a.err | [] => false)
  | .fault _ => false
  | .refused _ => false

/-- The data of the response. -/
def answerOf (s : State) (port : RegPort) : W64 := match (rport s port).rsps with | a :: _ => a.data | [] => 0

/-- The access's data arrive in this shape. -/
def shaped (s : State) (port : RegPort) (k : RspShape) : State := modRport s port (fun x => { x with shape := k })

/-- The port with these responses untaken. -/
def withRsps (s : State) (port : RegPort) (l : List RegRsp) : State := modRport s port (fun x => { x with rsps := l })

/-- Responses put back before those of the access just made. -/
def behind (s : State) (port : RegPort) (l : List RegRsp) : State :=
  modRport s port (fun x => { x with rsps := (l ++ x.rsps).drop (l.length + unanswered x - portDepth port) })

/-- A 64-bit access over two 32-bit registers: the refusal conditions of both are tested first, then the lower is accessed, then
the upper, and one response carries both (R44). -/
def pairAccess (port : RegPort) (x y : Reg) (wr : Option W64) (s : State) : Host.Outcome State Fault Refusal :=
  let lo := wr.map (fun d => w64 (lo32 d))
  let hi := wr.map (fun d => w64 (d.extractLsb' 32 32))
  let s0 := withRsps s port []
  let first := access port x lo s0
  if refusedAt port first || refusedAt port (access port y hi s0) then finish (busErr s port)
  else
    andThen first (fun s' =>
      let t := withRsps s' port []
      andThen (access port y hi (if wr.isSome then t else shaped t port (.upper (lo32 (answerOf s' port)))))
        (fun u => .next (behind u port (rport s port).rsps)))

/-- Half of a context slot's word, accessed as a 32-bit register (R17, R250, R252). -/
def slotHalf (port : RegPort) (n : BitVec 12) (j : Fin 8) (hi : Bool) (wr : Option W64) (s : State) : Host.Outcome State Fault Refusal :=
  match wr with
  | none =>
    let v := slotRead s n j
    finish (reply s port (w64 (if hi then v.extractLsb' 32 32 else lo32 v)))
  | some d => putSlot port n j (if hi then d <<< 32 else w64 (lo32 d)) (slotMask false hi) s

/-- A 32-bit access to a 32-bit register, or to half of a slot's word. -/
def narrow (port : RegPort) (x : Reg) (hi : Bool) (wr : Option W64) (s : State) : Host.Outcome State Fault Refusal :=
  match x with
  | .slot n j => slotHalf port (BitVec.ofNat 12 n.val) j hi wr s
  | _ => access port x (wr.map (fun d => w64 (lo32 d))) s

/-- A control-port access (R43, R44). -/
def cpAccess (o : Nat) (size64 : Bool) (wr : Option W64) (s : State) : Host.Outcome State Fault Refusal :=
  let bad := finish (busErr s .cp)
  if size64 then
    if o % 8 ≠ 0 then bad
    else
      match regHalf o, regHalf (o + 4) with
      | some (x, _), some (y, up) =>
        if barred s .cp o x wr.isSome || barred s .cp (o + 4) y wr.isSome then bad
        else if up then access .cp x wr s
        else pairAccess .cp x y wr s
      | _, _ => bad
  else if o % 4 ≠ 0 then bad
  else
    match regHalf o with
    | some (x, up) => if wideAt s x || barred s .cp o x wr.isSome then bad else narrow .cp x up wr s
    | none => bad

/-- A management-port or Gatehouse access: 32 bits, a 64-bit register through the port's holding register (R46). -/
def mgmtAccess (port : RegPort) (o : Nat) (wr : Option W64) (s : State) : Host.Outcome State Fault Refusal :=
  let bad := finish (busErr s port)
  if o % 4 ≠ 0 then bad
  else
    match regHalf o with
    | none => bad
    | some (x, up) =>
      if barred s port o x wr.isSome then bad
      else if !wideAt s x then narrow port x up wr s
      else
        match wr with
        | none => if up then finish (reply s port (w64 (rport s port).hold)) else getReg port x (shaped s port .lower)
        | some d =>
          if up then finish (ack (modRport s port (fun p => { p with hold := lo32 d })) port)
          else putReg port x ((rport s port).hold ++ lo32 d) s

/-- A register access through a port that is ready. -/
def regAccess (port : RegPort) (o : Nat) (size64 : Bool) (wr : Option W64) (s : State) : Host.Outcome State Fault Refusal :=
  match port with
  | .cp => cpAccess o size64 wr s
  | .mp => mgmtAccess .mp o wr s
  | .gh => mgmtAccess .gh o wr s

/-- Offset of a link access. -/
def linkAddr : LinkAcc → BitVec 20
  | .read a _ => a
  | .write a _ _ => a

/-- An accepted access performed: through the management link where it says so (R44, R442). A parity error there refuses it and
records the fault. -/
def perform (port : RegPort) (a : PortAcc) (s : State) : Host.Outcome State Fault Refusal :=
  if a.link = some true then finish (busErr (wholeFault s 0x1E (a.addr.setWidth 32)) port)
  else regAccess port a.addr.toNat a.size64 a.wr s

/-- The port with these accesses accepted behind the one in progress. -/
def withQueue (s : State) (port : RegPort) (l : List PortAcc) : State := modRport s port (fun x => { x with queue := l })

/-- The accesses accepted behind one that has now been answered are performed in order, as far as none waits (R44). -/
def serveQueue : Nat → RegPort → State → Host.Outcome State Fault Refusal
  | 0, _, s => .next s
  | n + 1, port, s =>
    match (rport s port).held, (rport s port).queue with
    | none, a :: rest => andThen (perform port a (withQueue s port [])) (fun t => serveQueue n port (withQueue t port rest))
    | _, _ => .next s

/-- A request transfers at a port that takes one: the accesses before it first, then it is performed, or waits its turn (R44). -/
def accept (port : RegPort) (a : PortAcc) (s : State) : Host.Outcome State Fault Refusal :=
  andThen (serveQueue 4 port s) (fun s =>
    if (rport s port).held.isNone && (rport s port).queue.isEmpty then perform port a s
    else finish (modRport s port (fun x => { roomFor (portDepth port) x with queue := x.queue ++ [a] })))

/-- The path of an access whose words the checks find good: the management link for the regions of the East half (R442, log entry 4). -/
def pathOf (a : BitVec 20) : Option Bool := if 0xC0000 ≤ a.toNat then some false else none

/-- RC_READ: a register read; a read-clear counter is cleared by it (R12). -/
def execRcRead (port : RegPort) (addr : BitVec 20) (size64 : Bool) (s : State) : Host.Outcome State Fault Refusal :=
  if !portTakes s port then skip s else accept port ⟨addr, size64, none, pathOf addr⟩ s

/-- REGISTER_WRITE: a register write (R12, R24, R44). -/
def execRegisterWrite (port : RegPort) (addr : BitVec 20) (size64 : Bool) (data : W64) (s : State) : Host.Outcome State Fault Refusal :=
  if !portTakes s port then skip s else accept port ⟨addr, size64, some data, pathOf addr⟩ s

/-- The register lies in the East half, or in a macro block that the spec does not place: not in the Gatehouse with its loader, the
fault aggregator, the Bandstand or the Lodge, which R20 places in the West half, and not in regions 0 to 3 (R442, log entry 27). -/
def overLink (a : Nat) : Bool :=
  !(decide (0x80000 ≤ a) && decide (a < 0xC0000)) && !(decide (0x1000 ≤ a) && decide (a < 0x2000)) &&
    !(decide (0x3000 ≤ a) && decide (a < 0x4000)) && !(decide (0x10000 ≤ a) && decide (a < 0x30000))

/-- The write data of a link access. -/
def linkData : LinkAcc → Option W64
  | .read _ _ => none
  | .write _ _ d => some d

/-- The size of a link access. -/
def linkSize : LinkAcc → Bool
  | .read _ z => z
  | .write _ z _ => z

/-- MGMT_LINK_ACCESS: an access to a register held in the East half, which crosses the management link (R442). -/
def execMgmtLinkAccess (port : RegPort) (acc : LinkAcc) (bad : Bool) (s : State) : Host.Outcome State Fault Refusal :=
  if !portTakes s port || !overLink (linkAddr acc).toNat then skip s
  else accept port ⟨linkAddr acc, linkSize acc, linkData acc, some bad⟩ s

end Sys2Proof.Machine
end

