-- ==== Sys2Proof/Machine/Wrapper.lean ====
section
/-! DEFINITION. The IEEE 1500 wrapper and the self-test (R53, R54, R505-R510). -/

namespace Sys2Proof.Machine

/-- The wrapper changed by f. -/
def modWrp (s : State) (f : Wrapper → Wrapper) : State := { s with wrp := f s.wrp }

/-- ID_VERSION (R499). -/
def idVersion : W32 := 0x00020003

/-- The wrapper after a self-test was aborted (R509): ABORTED shows, the result registers are free values. -/
def abortTest (s : State) (w : Wrapper) : Wrapper :=
  if w.busy then
    { w with busy := false, done := false, pass := false, abort := true, result := fv s 5 264,
             image := (List.range 1024).map (fun i => fv s (100 + i) 32) }
  else w

/-- Every self-test leaves every array undefined (R509): the regions are Off, so that their next wake clears them. -/
def loseArrays (s : State) : State :=
  (idx 8).foldl (fun s r => enterOff (modPw s r (fun p => { p with st := .off, pend := false, waking := false, down := false, downWait := false, again := false, steps := [], late := false })) r) s

/-- A self-test in progress is aborted (R509). -/
def abortRun (s : State) : State := if s.wrp.busy then loseArrays (modWrp s (abortTest s)) else s

/-- WRAPPER_RESET: WRSTN falls or rises (R60, R509). -/
def execWrapperReset (asserted : Bool) (s : State) : Host.Outcome State Fault Refusal :=
  if asserted then
    let a := abortTest s s.wrp
    let w := if s.wrp.busy then { wrapper0 with abort := true, result := a.result, image := a.image } else wrapper0
    finish (modWrp (abortRun s) (fun _ => w))
  else finish (modWrp s (fun w => { w with rst := false }))

/-- TEST_MODE_CHANGE: test_mode changes while mac_rst_n is 0 (R54). -/
def execTestModeChange (v : Bool) (s : State) : Host.Outcome State Fault Refusal :=
  if !s.pins.rst then skip s else finish { s with pins := { s.pins with testMode := v } }

/-- An instruction enters the wrapper instruction register; the Plofa instructions act as WS_BYPASS while test_mode is 0 (R505). -/
def selectInstr (s : State) (plofa : Bool) (i : WsInstr) (f : Wrapper → Wrapper) : Host.Outcome State Fault Refusal :=
  if s.wrp.rst then skip s
  else if plofa && !s.pins.testMode then finish (modWrp s (fun w => { w with instr := .bypass }))
  else finish (modWrp s (fun w => f { w with instr := i }))

/-- WS_BYPASS: the bypass register takes one bit (R505). -/
def execWsBypass (bit : Bool) (s : State) : Host.Outcome State Fault Refusal :=
  selectInstr s false .bypass (fun w => { w with bypass := bit })

/-- WS_EXTEST: the boundary register captures the functional signals, whose cells the spec does not order (log entry 5), and then takes
these cells (R53, R505). -/
def execWsExtest (cells : List Bool) (s : State) : Host.Outcome State Fault Refusal :=
  selectInstr s false .extest (fun w =>
    { w with sampled := (List.range cells.length).map (fun i => (fv s 10 cells.length).getLsbD i), boundary := cells })

/-- PL_ID: ID_VERSION is captured (R505). -/
def execPlId (s : State) : Host.Outcome State Fault Refusal := selectInstr s true .id (fun w => { w with captured := idVersion })

/-- The test control register loaded at UpdateWR (R506, R507); a reserved MODE keeps the old one (R15). -/
def loadTctrl (d : W32) (w : Wrapper) : Wrapper :=
  let m : BitVec 2 := d.extractLsb' 1 2
  let start := d.getLsbD 0
  let err := w.busy || m == 3
  { w with mode := if m = 3 then w.mode else m, regions := d.extractLsb' 8 8, wholeMem := d.getLsbD 16,
           startReq := start && !err, startErr := if start then err else w.startErr }

/-- The test control word (R506). -/
def tctrl (w : Wrapper) : W32 := 0#15 ++ b1 w.wholeMem ++ w.regions ++ 0#5 ++ w.mode ++ 0#1

/-- PL_TCTRL (R506). -/
def execPlTctrl (w : W32) (s : State) : Host.Outcome State Fault Refusal := selectInstr s true .tctrl (loadTctrl w)

/-- The test status word (R507). -/
def tstat (w : Wrapper) : W32 :=
  0#17 ++ b1 w.imageFull ++ b1 w.wholeFail ++ w.regionFail ++ b1 w.startErr ++ b1 w.abort ++ b1 w.pass ++ b1 w.done ++ b1 w.busy

/-- PL_TSTAT: the status word is captured (R507). -/
def execPlTstat (s : State) : Host.Outcome State Fault Refusal := selectInstr s true .tstat (fun w => { w with captured := tstat w })

/-- PL_TRESULT: the block results are selected (R505). -/
def execPlTresult (s : State) : Host.Outcome State Fault Refusal := selectInstr s true .tresult id

/-- PL_REPAIR: the repair image is selected (R505). -/
def execPlRepair (s : State) : Host.Outcome State Fault Refusal := selectInstr s true .repair id

/-- The bits of a word, least significant first. -/
def bitsOf {n : Nat} (w : BitVec n) : List Bool := (List.range n).map w.getLsbD

/-- What the next shift brings out on WSO: the data register of the instruction in force, word 0 first and each word least significant
bit first (R53, R505). -/
def wsoBits (w : Wrapper) : List Bool :=
  match w.instr with
  | .bypass => [w.bypass]
  | .extest => w.sampled
  | .id => bitsOf w.captured
  | .tctrl => bitsOf (tctrl w)
  | .tstat => bitsOf w.captured
  | .tresult => bitsOf w.result
  | .repair => w.image.flatMap bitsOf

/-- SELF_TEST_START: a START asked for begins the test once its conditions hold (R508). -/
def execSelfTestStart (s : State) : Host.Outcome State Fault Refusal :=
  let go := s.wrp.startReq && s.pins.testMode && !s.pins.rst && !s.aon.rst && !s.aon.lost && !s.wrp.busy &&
    s.gh.stage == .waitImage && vget s.pins.fclkOk 0 && vget s.pins.fclkOk 1
  if !go then skip s
  else finish (modWrp s (fun w =>
    { w with startReq := false, runMode := w.mode, runRegions := w.regions, runWhole := w.wholeMem, busy := true, done := false,
             pass := false, abort := false, regionFail := 0, wholeFail := false, imageFull := false }))

/-! ## The repair image (R465, R510) -/

/-- The failing columns of a cell, in increasing order. -/
def failColumns (res : SelfTestResult) (r : Fin 8) (p : Fin 33) (c : Fin 8) : List (Fin 576) :=
  (idx 576).filter (fun k => res.columns.any (fun x => x == ⟨r, p, c, k⟩))

/-- The block needs more than its spare columns give, or fails LBIST (R510). -/
def unrepairable (res : SelfTestResult) (r : Fin 8) (p : Fin 33) : Bool :=
  res.blocks.contains (r, p) || (idx 8).any (fun c => decide (8 < (failColumns res r p c).length))

/-- The unrepairable blocks of a tested region. -/
def badBlocks (res : SelfTestResult) (r : Fin 8) : List (Fin 33) := (idx 33).filter (unrepairable res r)

/-- A column entry (R465). -/
def columnEntry (r : Fin 8) (p : Fin 33) (c : Fin 8) (k : Fin 576) (spare : Nat) : W32 :=
  let w : W32 := BitVec.ofNat 32 (2 ^ 31 + r.val * 2 ^ 22 + p.val * 2 ^ 16 + c.val * 2 ^ 13 + spare * 2 ^ 10 + k.val)
  if ones w % 2 = 0 then w else w ||| BitVec.ofNat 32 (2 ^ 30)

/-- The column entries of the tested regions, by region, block, cell and column (R510, log entry 29). -/
def columnEntries (m : Byte) (res : SelfTestResult) : List W32 :=
  (idx 8).flatMap (fun r => if !bit8 m r then [] else
    (idx 33).flatMap (fun p => (idx 8).flatMap (fun c =>
      let l := failColumns res r p c
      if 8 < l.length then [] else l.mapIdx (fun i k => columnEntry r p c k i))))

/-- SPARE_SEL byte of a region: its one unrepairable block gives way to the spare block (R510). -/
def spareByteOf (m : Byte) (res : SelfTestResult) (r : Fin 8) : Byte :=
  if !bit8 m r then 0
  else match badBlocks res r with
    | [p] => if p.val < 32 then BitVec.ofNat 8 (128 + p.val) else 0
    | _ => 0

/-- The repair image (R465, R510). -/
def repairImage (m : Byte) (res : SelfTestResult) : List W32 :=
  let sel := fun (k : Nat) => (wordOf 32 ((List.range 4).map (fun i => spareByteOf m res (fin 8 (4 * k + i)))) : W32)
  let head := [(1 : W32), 0, 0, 0, 0, sel 0, sel 1] ++ List.replicate 8 0
  let crc := crc32c (head.flatMap (fun w => bytesOf w 4))
  let es := (columnEntries m res).take 1008
  head ++ [crc] ++ es ++ List.replicate (1008 - es.length) 0

/-- A region that cannot be repaired: two or more unrepairable blocks (R510). -/
def regionFails (m : Byte) (res : SelfTestResult) : Byte :=
  (idx 8).foldl (fun acc r => if bit8 m r && decide (2 ≤ (badBlocks res r).length) then acc ||| mask8 r else acc) 0

/-- PL_TRESULT: bit 33 r + p for a physical block with any failure (R505). -/
def blockResults (m : Byte) (res : SelfTestResult) : BitVec 264 :=
  (idx 8).foldl (fun acc r => (idx 33).foldl (fun acc p =>
    if bit8 m r && (res.blocks.contains (r, p) || res.columns.any (fun x => x.region == r && x.pblock == p)) then
      acc ||| BitVec.ofNat 264 (2 ^ (33 * r.val + p.val)) else acc) acc) 0

/-- The registers after a self-test has ended (R507, R510). -/
def testResult (res : SelfTestResult) (w : Wrapper) : Wrapper :=
  let m := w.runRegions
  let wf := w.runWhole && res.wholeFail
  let hits := blockResults m res
  if w.runMode = 0 then
    let rf := regionFails m res
    let full := decide (1008 < (columnEntries m res).length)
    { w with busy := false, done := true, regionFail := rf, wholeFail := wf, imageFull := full, result := hits,
             image := repairImage m res, pass := rf == 0 && !wf && !full }
  else
    { w with busy := false, done := true, wholeFail := wf, result := hits, pass := hits == 0 && !wf }

/-- SELF_TEST_DONE: the test ends with these findings (R508-R510). -/
def execSelfTestDone (res : SelfTestResult) (s : State) : Host.Outcome State Fault Refusal :=
  if !s.wrp.busy then skip s else finish (loseArrays (modWrp s (testResult res)))

end Sys2Proof.Machine
end

