-- ==== Sys2Proof/Machine/Reset.lean ====
section
/-! DEFINITION. Resets, clock pins and rails (R58, R60-R64, R365, R409, R412, R434). -/

namespace Sys2Proof.Machine

/-- The state under macro reset: everything at its Reset value but the always-on logic, the pins, the wrapper and the waiting
commands (R60, R62). The stagers' ledgers are always-on logic and stay (R60). A self-test in progress is aborted (R509). -/
def macroReset (s : State) : State :=
  { State.reset with
    pending := s.pending
    free := s.free
    aon := s.aon
    pwr := { pwr0 with stagers := vmap (fun _ st => { st with gov := governor0, ceilActive := false, est := 0, ceilEff := 0 }) s.pwr.stagers }
    pins := { s.pins with rst := true, fclkNeed := Vector.replicate 2 false }
    wrp := abortTest s s.wrp }

/-- AON_RESET: aon_rst_n falls, and with it mac_rst_n, or rises (R60, R61, R434, R462). -/
def execAonReset (asserted : Bool) (s : State) : Host.Outcome State Fault Refusal :=
  if asserted then finish { macroReset s with aon := aon0, pwr := pwr0 }
  else if !s.pins.rst then skip s
  else finish { s with aon := { s.aon with rst := false } }

/-- MACRO_RESET_ASSERT (R60, R62). -/
def execMacroResetAssert (s : State) : Host.Outcome State Fault Refusal := finish (macroReset s)

/-- MACRO_RESET_RELEASE: the boot counter advances, the strap is sampled, the directions train (R61, R365, R425, R434). -/
def execMacroResetRelease (bootSrc : Bool) (s : State) : Host.Outcome State Fault Refusal :=
  if !s.pins.rst || s.aon.rst || s.aon.lost then skip s
  else
    let n := s.aon.bootCount + 1
    let s := { s with
      pins := { s.pins with rst := false }
      aon := { s.aon with bootCount := n, bootWrap := s.aon.bootWrap || n == 0 }
      gh := { s.gh with src := bootSrc } }
    finish (train (train s 0) 1)

/-- FCLK_OK_RISE: the half's fclk is present; both directions train once both halves have theirs (R58, R365). -/
def execFclkOkRise (h : Half) (s : State) : Host.Outcome State Fault Refusal :=
  if vget s.pins.fclkOk h then skip s
  else
    let s := { s with pins := { s.pins with fclkOk := vset s.pins.fclkOk h true } }
    finish (if live s then train (train s 0) 1 else s)

/-- FCLK_OK_FALL: the half's fclk is absent, both directions are DOWN, and a clock fault is recorded if fclk_need was 1 (R365, R409,
R451); a self-test is aborted (R509). The half's window position holds where it stands, which is a free value (R348, log entry 5). -/
def execFclkOkFall (h : Half) (s : State) : Host.Outcome State Fault Refusal :=
  if !vget s.pins.fclkOk h then skip s
  else
    let need := live s && fclkNeed s h
    let s := abortRun { s with pins := { s.pins with fclkOk := vset s.pins.fclkOk h false }
                               slu := { s.slu with pos := if live s then vset s.slu.pos h (fv s 6 10) else s.slu.pos } }
    let s := train (train s 0) 1
    finish (if need then halfFault s h 0x13 h.val 0 else s)

/-- RAIL_LOSS: a rail is gone; no state is kept until the sequence of R61 (R64). The rail's bleed engages (R411). -/
def execRailLoss (h : Half) (rail : Rail) (s : State) : Host.Outcome State Fault Refusal :=
  finish { State.reset with
    pending := s.pending
    free := s.free
    pins := { s.pins with fclkNeed := Vector.replicate 2 false }
    aon := { aon0 with rst := s.aon.rst, lost := true,
                       bleed := if s.aon.bleed.contains (h, rail) then s.aon.bleed else s.aon.bleed ++ [(h, rail)] }
    wrp := { wrapper0 with rst := s.wrp.rst } }

/-- RAIL_UNDERVOLT: VDDL or VDDA of a half stays below 0.68 V: a rail fault, and no array is written any more (R412, R451). -/
def execRailUndervolt (h : Half) (rail : Rail) (s : State) : Host.Outcome State Fault Refusal :=
  if !live s || rail = .vddaon then skip s
  else
    finish (halfFault { s with aon := { s.aon with rail := true } } h 0x14 h.val (if rail = .vdda then 1 else 0))

end Sys2Proof.Machine
end

