-- ==== Sys2Proof/Machine/Dispatch.lean ====
section
/-! DEFINITION. One arm per command: a direct call of its meaning. -/

namespace Sys2Proof.Machine

/-- The effect of one command on everything but the queue. -/
def exec (i : Instr) (s : State) : Host.Outcome State Fault Refusal :=
  match i with
  | .aonReset asserted => Sys2Proof.Machine.execAonReset asserted s
  | .macroResetAssert => Sys2Proof.Machine.execMacroResetAssert s
  | .macroResetRelease bootSrc => Sys2Proof.Machine.execMacroResetRelease bootSrc s
  | .wrapperReset asserted => Sys2Proof.Machine.execWrapperReset asserted s
  | .testModeChange v => Sys2Proof.Machine.execTestModeChange v s
  | .fclkOkRise h => Sys2Proof.Machine.execFclkOkRise h s
  | .fclkOkFall h => Sys2Proof.Machine.execFclkOkFall h s
  | .railLoss h rail => Sys2Proof.Machine.execRailLoss h rail s
  | .railUndervolt h rail => Sys2Proof.Machine.execRailUndervolt h rail s
  | .read p q => Sys2Proof.Machine.execRead p q s
  | .write p q => Sys2Proof.Machine.execWrite p q s
  | .writeBitSet p q => Sys2Proof.Machine.execWriteBitSet p q s
  | .writeBitClear p q => Sys2Proof.Machine.execWriteBitClear p q s
  | .atomAddS8 p q w => Sys2Proof.Machine.execAtomAddS8 p q w s
  | .atomAddI32 p q w => Sys2Proof.Machine.execAtomAddI32 p q w s
  | .atomAddF32 p q w => Sys2Proof.Machine.execAtomAddF32 p q w s
  | .atomMinI32 p q w => Sys2Proof.Machine.execAtomMinI32 p q w s
  | .atomMaxI32 p q w => Sys2Proof.Machine.execAtomMaxI32 p q w s
  | .atomSwap64 p q w => Sys2Proof.Machine.execAtomSwap64 p q w s
  | .atomCas64 p q w => Sys2Proof.Machine.execAtomCas64 p q w s
  | .atomTrace p q w => Sys2Proof.Machine.execAtomTrace p q w s
  | .sem p q w => Sys2Proof.Machine.execSem p q w s
  | .streamDoorbell p q w => Sys2Proof.Machine.execStreamDoorbell p q w s
  | .mailboxDoorbell p q w => Sys2Proof.Machine.execMailboxDoorbell p q w s
  | .reservedOp p code q => Sys2Proof.Machine.execReservedOp p code q s
  | .writeDataBeat p w => Sys2Proof.Machine.execWriteDataBeat p w s
  | .responseBeatTaken p ch id => Sys2Proof.Machine.execResponseBeatTaken p ch id s
  | .multicastRead p q => Sys2Proof.Machine.execMulticastRead p q s
  | .gatherTimeout r g => Sys2Proof.Machine.execGatherTimeout r g s
  | .sluiceRelease p urg => Sys2Proof.Machine.execSluiceRelease p urg s
  | .sluiceWindowBoundary h => Sys2Proof.Machine.execSluiceWindowBoundary h s
  | .sluiceConfigWrite port reg data => Sys2Proof.Machine.execSluiceConfigWrite port reg data s
  | .blockGrant r b m chk => Sys2Proof.Machine.execBlockGrant r b m chk s
  | .timetableSlot r bad m chk => Sys2Proof.Machine.execTimetableSlot r bad m chk s
  | .slotSlipIssue r b m chk => Sys2Proof.Machine.execSlotSlipIssue r b m chk s
  | .quotaWindowEnd r => Sys2Proof.Machine.execQuotaWindowEnd r s
  | .starvationLimit r src => Sys2Proof.Machine.execStarvationLimit r src s
  | .eventIngress n w => Sys2Proof.Machine.execEventIngress n w s
  | .copyPlaced n dst bad => Sys2Proof.Machine.execCopyPlaced n dst bad s
  | .copyAtEntry r => Sys2Proof.Machine.execCopyAtEntry r s
  | .entryHold port r v => Sys2Proof.Machine.execEntryHold port r v s
  | .expandCopy r chk => Sys2Proof.Machine.execExpandCopy r chk s
  | .groupToQueue r => Sys2Proof.Machine.execGroupToQueue r s
  | .rowEventIssue r b chk => Sys2Proof.Machine.execRowEventIssue r b chk s
  | .ringRowsToQueue r b => Sys2Proof.Machine.execRingRowsToQueue r b s
  | .stepEntryComplete r => Sys2Proof.Machine.execStepEntryComplete r s
  | .stepDrained r bad => Sys2Proof.Machine.execStepDrained r s bad
  | .stepSweepsDone r => Sys2Proof.Machine.execStepSweepsDone r s
  | .emitBufferPass r b bad => Sys2Proof.Machine.execEmitBufferPass r b bad s
  | .egressEventTaken n => Sys2Proof.Machine.execEgressEventTaken n s
  | .modelSwitch port r data => Sys2Proof.Machine.execModelSwitch port r data s
  | .modelSwitchComplete r => Sys2Proof.Machine.execModelSwitchComplete r s
  | .trellisDataWrite port r data => Sys2Proof.Machine.execTrellisDataWrite port r data s
  | .trellisDataRead port r bad => Sys2Proof.Machine.execTrellisDataRead port r bad s
  | .trellisDelayWrite port r data => Sys2Proof.Machine.execTrellisDelayWrite port r data s
  | .basinClear port r data => Sys2Proof.Machine.execBasinClear port r data s
  | .basinDataWrite port r data => Sys2Proof.Machine.execBasinDataWrite port r data s
  | .basinDataRead port r bad => Sys2Proof.Machine.execBasinDataRead port r bad s
  | .sweepGroupStart r b chk => Sys2Proof.Machine.execSweepGroupStart r b chk s
  | .endProg r b chk => Sys2Proof.Machine.execEndProg r b chk s
  | .range r b chk => Sys2Proof.Machine.execRange r b chk s
  | .lds r b chk => Sys2Proof.Machine.execLds r b chk s
  | .sts r b chk => Sys2Proof.Machine.execSts r b chk s
  | .ldb r b chk => Sys2Proof.Machine.execLdb r b chk s
  | .stb r b chk => Sys2Proof.Machine.execStb r b chk s
  | .ldi r b chk => Sys2Proof.Machine.execLdi r b chk s
  | .add src n w => Sys2Proof.Machine.execAdd src n w s
  | .sweepAdd r b chk => Sys2Proof.Machine.execSweepAdd r b chk s
  | .sweepSub r b chk => Sys2Proof.Machine.execSweepSub r b chk s
  | .addc r b chk => Sys2Proof.Machine.execAddc r b chk s
  | .mulc r b chk => Sys2Proof.Machine.execMulc r b chk s
  | .shri r b chk => Sys2Proof.Machine.execShri r b chk s
  | .max r b chk => Sys2Proof.Machine.execMax r b chk s
  | .min r b chk => Sys2Proof.Machine.execMin r b chk s
  | .cmp r b chk => Sys2Proof.Machine.execCmp r b chk s
  | .sel r b chk => Sys2Proof.Machine.execSel r b chk s
  | .rst r b chk => Sys2Proof.Machine.execRst r b chk s
  | .emit r b chk => Sys2Proof.Machine.execEmit r b chk s
  | .trc r b chk => Sys2Proof.Machine.execTrc r b chk s
  | .invalidInstruction r b chk => Sys2Proof.Machine.execInvalidInstruction r b chk s
  | .sweepDataRead port r bad => Sys2Proof.Machine.execSweepDataRead port r bad s
  | .ringBell port slot => Sys2Proof.Machine.execRingBell port slot s
  | .streamAbort port slot => Sys2Proof.Machine.execStreamAbort port slot s
  | .streamSlotWrite port slot word data => Sys2Proof.Machine.execStreamSlotWrite port slot word data s
  | .admitDescriptor k => Sys2Proof.Machine.execAdmitDescriptor k s
  | .rillIssue k chk => Sys2Proof.Machine.execRillIssue k chk s
  | .rillReadResponse k tag data resp => Sys2Proof.Machine.execRillReadResponse k tag data resp s
  | .rillWriteResponse k tag resp => Sys2Proof.Machine.execRillWriteResponse k tag resp s
  | .fillPieceWrite k chk => Sys2Proof.Machine.execFillPieceWrite k chk s
  | .drainPieceRead k chk => Sys2Proof.Machine.execDrainPieceRead k s chk
  | .tileComplete slot => Sys2Proof.Machine.execTileComplete slot s
  | .echoInvalidate port p0 p1 => Sys2Proof.Machine.execEchoInvalidate port p0 p1 s
  | .echoInvalidateDone k => Sys2Proof.Machine.execEchoInvalidateDone k s
  | .echoEnableWrite port en0 en1 => Sys2Proof.Machine.execEchoEnableWrite port en0 en1 s
  | .sub src n w => Sys2Proof.Machine.execSub src n w s
  | .wait src n w => Sys2Proof.Machine.execWait src n w s
  | .set src n w => Sys2Proof.Machine.execSet src n w s
  | .padd src n w => Sys2Proof.Machine.execPadd src n w s
  | .cadd src n w => Sys2Proof.Machine.execCadd src n w s
  | .pwaitFull src n w => Sys2Proof.Machine.execPwaitFull src n w s
  | .pwaitSpace src n w => Sys2Proof.Machine.execPwaitSpace src n w s
  | .arrive src n w => Sys2Proof.Machine.execArrive src n w s
  | .sync src n w => Sys2Proof.Machine.execSync src n w s
  | .bwait src n w => Sys2Proof.Machine.execBwait src n w s
  | .swait src n w => Sys2Proof.Machine.execSwait src n w s
  | .bstReservedOp src n w => Sys2Proof.Machine.execBstReservedOp src n w s
  | .signalHoldRelease p => Sys2Proof.Machine.execSignalHoldRelease p s
  | .watchTimeout w => Sys2Proof.Machine.execWatchTimeout w s
  | .watchRegister port data => Sys2Proof.Machine.execWatchRegister port data s
  | .watchCancel port cookie => Sys2Proof.Machine.execWatchCancel port cookie s
  | .controlMessageTake port => Sys2Proof.Machine.execControlMessageTake port s
  | .barrierConfigWrite port b reg data => Sys2Proof.Machine.execBarrierConfigWrite port b reg data s
  | .pairWrite port n data => Sys2Proof.Machine.execPairWrite port n data s
  | .roleWrite port data => Sys2Proof.Machine.execRoleWrite port data s
  | .syncMessageSend => Sys2Proof.Machine.execSyncMessageSend s
  | .syncArriveReceived w => Sys2Proof.Machine.execSyncArriveReceived w s
  | .syncReleaseReceived w => Sys2Proof.Machine.execSyncReleaseReceived w s
  | .mailboxSend port n data => Sys2Proof.Machine.execMailboxSend port n data s
  | .depositAnnounce n => Sys2Proof.Machine.execDepositAnnounce n s
  | .mailboxTake port n => Sys2Proof.Machine.execMailboxTake port n s
  | .mailboxConfigWrite port n data => Sys2Proof.Machine.execMailboxConfigWrite port n data s
  | .measure => Sys2Proof.Machine.execMeasure s
  | .bootStatus => Sys2Proof.Machine.execBootStatus s
  | .fuseReread => Sys2Proof.Machine.execFuseReread s
  | .signedMeasure skPresent => Sys2Proof.Machine.execSignedMeasure skPresent s
  | .unknownRequest => Sys2Proof.Machine.execUnknownRequest s
  | .gatehouseReply => Sys2Proof.Machine.execGatehouseReply s
  | .signingResponse words err => Sys2Proof.Machine.execSigningResponse words err s
  | .signingTimeout => Sys2Proof.Machine.execSigningTimeout s
  | .linkRetrain port data => Sys2Proof.Machine.execLinkRetrain port data s
  | .trainClockDone d unlocked => Sys2Proof.Machine.execTrainClockDone d unlocked s
  | .trainDeskewDone d => Sys2Proof.Machine.execTrainDeskewDone d s
  | .trainFrameDone d fails => Sys2Proof.Machine.execTrainFrameDone d fails s
  | .linkUp d => Sys2Proof.Machine.execLinkUp d s
  | .packetStart d c => Sys2Proof.Machine.execPacketStart d c s
  | .flitReceive d noise => Sys2Proof.Machine.execFlitReceive d noise s
  | .sideWordReceive d c noise => Sys2Proof.Machine.execSideWordReceive d c noise s
  | .nakRepeatReplay d => Sys2Proof.Machine.execNakRepeatReplay d s
  | .ackStallReplay d => Sys2Proof.Machine.execAckStallReplay d s
  | .sideWordTimeout d => Sys2Proof.Machine.execSideWordTimeout d s
  | .retireReq d noise => Sys2Proof.Machine.execRetireReq d s noise
  | .retireDup d noise => Sys2Proof.Machine.execRetireDup d s noise
  | .retireDone d noise => Sys2Proof.Machine.execRetireDone d s noise
  | .retireReqRepeat d => Sys2Proof.Machine.execRetireReqRepeat d s
  | .spareErrorWindow => Sys2Proof.Machine.execSpareErrorWindow s
  | .fbPktRead d => Sys2Proof.Machine.execFbPktRead d s
  | .fbPktWrite d => Sys2Proof.Machine.execFbPktWrite d s
  | .fbPktAtomic d => Sys2Proof.Machine.execFbPktAtomic d s
  | .fbPktReadData d => Sys2Proof.Machine.execFbPktReadData d s
  | .fbPktWriteAck d => Sys2Proof.Machine.execFbPktWriteAck d s
  | .fbPktAtomicData d => Sys2Proof.Machine.execFbPktAtomicData d s
  | .fbPktSignal d => Sys2Proof.Machine.execFbPktSignal d s
  | .fbPktSignalAck d => Sys2Proof.Machine.execFbPktSignalAck d s
  | .fbPktRetire d => Sys2Proof.Machine.execFbPktRetire d s
  | .fbPktControl d => Sys2Proof.Machine.execFbPktControl d s
  | .fbPktStep d => Sys2Proof.Machine.execFbPktStep d s
  | .fbPktEvents d => Sys2Proof.Machine.execFbPktEvents d s
  | .idleTimeout r => Sys2Proof.Machine.execIdleTimeout r s
  | .retainTimeout r => Sys2Proof.Machine.execRetainTimeout r s
  | .offTimeout r => Sys2Proof.Machine.execOffTimeout r s
  | .stagerEdge => Sys2Proof.Machine.execStagerEdge s
  | .stagedStepStart r => Sys2Proof.Machine.execStagedStepStart r s
  | .stagedStepEnd r => Sys2Proof.Machine.execStagedStepEnd r s
  | .governorInterval h => Sys2Proof.Machine.execGovernorInterval h s
  | .pwrWakeReq port req hold => Sys2Proof.Machine.execPwrWakeReq port req hold s
  | .pwrWakeHold port hold req => Sys2Proof.Machine.execPwrWakeHold port hold req s
  | .pwrFclkWrite port h data => Sys2Proof.Machine.execPwrFclkWrite port h data s
  | .policyWrite port r which data => Sys2Proof.Machine.execPolicyWrite port r which data s
  | .fuseReadStart => Sys2Proof.Machine.execFuseReadStart s
  | .fuseAck data => Sys2Proof.Machine.execFuseAck data s
  | .fuseTimeout => Sys2Proof.Machine.execFuseTimeout s
  | .mgmtPortReady => Sys2Proof.Machine.execMgmtPortReady s
  | .fwStart port cpOpen => Sys2Proof.Machine.execFwStart port cpOpen s
  | .fwAbort port cpOpen => Sys2Proof.Machine.execFwAbort port cpOpen s
  | .fwDataWord port w => Sys2Proof.Machine.execFwDataWord port w s
  | .fwImageEnd => Sys2Proof.Machine.execFwImageEnd s
  | .cpOpen port v => Sys2Proof.Machine.execCpOpen port v s
  | .gatehouseSleep accs => Sys2Proof.Machine.execGatehouseSleep s accs
  | .gatehouseWake accs => Sys2Proof.Machine.execGatehouseWake accs s
  | .timerInterrupt => Sys2Proof.Machine.execTimerInterrupt s
  | .measureExtend port slot => Sys2Proof.Machine.execMeasureExtend port slot s
  | .mgmtLinkAccess port acc bad => Sys2Proof.Machine.execMgmtLinkAccess port acc bad s
  | .planStart port source abort => Sys2Proof.Machine.execPlanStart port source abort s
  | .planAbort port source => Sys2Proof.Machine.execPlanAbort port source s
  | .planDataWord port w => Sys2Proof.Machine.execPlanDataWord port w s
  | .planHeader => Sys2Proof.Machine.execPlanHeader s
  | .planSection => Sys2Proof.Machine.execPlanSection s
  | .stop port => Sys2Proof.Machine.execStop port s
  | .freeze port stopToo => Sys2Proof.Machine.execFreeze port stopToo s
  | .stopQuiescent => Sys2Proof.Machine.execStopQuiescent s
  | .eastFaultRaise => Sys2Proof.Machine.execEastFaultRaise s
  | .freezeReachHalf h => Sys2Proof.Machine.execFreezeReachHalf h s
  | .injected port v => Sys2Proof.Machine.execInjected port v s
  | .jobRestartGo port keepData release => Sys2Proof.Machine.execJobRestartGo port keepData release s
  | .restartClearsDone => Sys2Proof.Machine.execRestartClearsDone s
  | .jobRestartRelease port keepData => Sys2Proof.Machine.execJobRestartRelease port keepData s
  | .fenceSet port r w => Sys2Proof.Machine.execFenceSet port r w s
  | .fenceClear port r w => Sys2Proof.Machine.execFenceClear port r w s
  | .counterSample => Sys2Proof.Machine.execCounterSample s
  | .dumpNow port => Sys2Proof.Machine.execDumpNow port s
  | .dumpBodyWrite => Sys2Proof.Machine.execDumpBodyWrite s
  | .dumpHeaderClose => Sys2Proof.Machine.execDumpHeaderClose s
  | .dumpComplete => Sys2Proof.Machine.execDumpComplete s
  | .taggingEnable port en kind k => Sys2Proof.Machine.execTaggingEnable port en kind k s
  | .tagClear port en kind k => Sys2Proof.Machine.execTagClear port en kind k s
  | .counterWrite port c data => Sys2Proof.Machine.execCounterWrite port c data s
  | .wsBypass bit => Sys2Proof.Machine.execWsBypass bit s
  | .wsExtest cells => Sys2Proof.Machine.execWsExtest cells s
  | .plId => Sys2Proof.Machine.execPlId s
  | .plTctrl w => Sys2Proof.Machine.execPlTctrl w s
  | .plTstat => Sys2Proof.Machine.execPlTstat s
  | .plTresult => Sys2Proof.Machine.execPlTresult s
  | .plRepair => Sys2Proof.Machine.execPlRepair s
  | .selfTestStart => Sys2Proof.Machine.execSelfTestStart s
  | .selfTestDone res => Sys2Proof.Machine.execSelfTestDone res s
  | .rcRead port addr size64 => Sys2Proof.Machine.execRcRead port addr size64 s
  | .registerWrite port addr size64 data => Sys2Proof.Machine.execRegisterWrite port addr size64 data s
  | .slotExtendComplete => Sys2Proof.Machine.execSlotExtendComplete s

end Sys2Proof.Machine
end

