-- ==== Sys2Proof/Safety.lean ====
section
/-! DEFINITION. What every reachable state keeps, in the terms the claims use. -/

namespace Sys2Proof.Machine

/-- The canonical form of the data space: addresses strictly rising and no byte that reads as an unlisted one. -/
def memWf (s : State) : Bool := tok 0 s.mem

/-- The canonical form of the basins. -/
def basinWf (s : State) : Bool := tok 0 s.basin

/-- Both byte stores are in their canonical form. -/
def storesWf (s : State) : Bool := memWf s && basinWf s

/-- The state a command leaves whose effect made s: the clock handshake follows (R58, R409), and the next free value is due. -/
def after (s : State) : State := settle (step1 s)

/-- The same for a command that may change a semaphore, pair or barrier: met watches that waited for room in the message queue
give their messages, and Rill takes what it waits for (R261, R297, R300). -/
def afterSync (s : State) : State := after (rillPoll (drainPending s))

/-- The stores and the always-on logic stand, and no command was lost or added. -/
def kept (s t : State) : Prop := t.mem = s.mem ∧ t.basin = s.basin ∧ t.aon = s.aon ∧ t.pending = s.pending

/-- A request of port p with this operation and these fields, of which these beats have passed the write data channel and these have
still to pass, has joined the port's outstanding requests and
waits at the Sluice stage; no other port, no region, and neither freeze nor a fault register has changed (R111, R112). -/
def joined (s t : State) (p : EPort) (op : ReqOp) (q : ReqF) (got carry : List WBeat) : Prop :=
  kept s t ∧ t.regions = s.regions ∧ t.frz = s.frz ∧ t.flt = s.flt ∧ (∀ x, x ≠ p → ep t x = ep s x) ∧
    ∃ e, (ep t p).reqs = (ep s p).reqs ++ [e] ∧ e.seq = (ep s p).nextSeq ∧ e.op = op ∧ e.q = q ∧ e.got = got ∧ e.carry = carry ∧ e.stage = .sluice ∧
      e.broke = false ∧ e.taken = 0 ∧ e.res = List.replicate (answerBeats op q) none ∧
      e.stampAll = vget (ep s p).ret.issue 2 ∧
      e.stamp = vget (ep s p).ret.issue (if q.top = 2 then 0 else if q.top = 1 then 1 else 2)

/-- The byte of the data space at physical address a. -/
def memByte (s : State) (a : Nat) : Byte := tget 0 s.mem a
/-- Byte j of the basin of block b of region r. -/
def basinByte (s : State) (r : Region) (b : Blk) (j : Nat) : Byte := tget 0 s.basin (basinAddr r b + j)

/-- Outside the 64 bytes of one row of one cell, the data space reads as before; the basins and the rest stand. -/
def onlyRow (s t : State) (r : Region) (b : Blk) (cell : Fin 8) (row : BitVec 10) : Prop :=
  (∀ a, a < rowAddr r b cell row ∨ rowAddr r b cell row + 64 ≤ a → memByte t a = memByte s a) ∧ t.basin = s.basin ∧
    t.aon = s.aon ∧ t.pending = s.pending

/-- An integer saturated to signed 32 bits. -/
def clamp32 (v : Int) : W32 := BitVec.ofInt 32 (max (-(2 ^ 31)) (min (2 ^ 31 - 1) v))

/-- The sweep of block b, which was w, has gone on to its next instruction with these registers and flags; its program, epoch and
group stand, and so do the fault registers and freeze. -/
def sweptTo (s t : State) (r : Region) (b : Blk) (w : Sweep) (regs : Nat → Nat → W32) (flags : Nat → Bool) : Prop :=
  t.flt = s.flt ∧ t.frz = s.frz ∧ t.aon = s.aon ∧ t.pending = s.pending ∧
    ∃ w', (blk t r b).sweep = some w' ∧ w'.pc = w.pc.map (fun i => fin 33 (i.val + 1)) ∧ w'.prog = w.prog ∧ w'.epoch = w.epoch ∧
      w'.group = w.group ∧ w'.gcount = w.gcount ∧ w'.ended = w.ended ∧ (∀ k < 64, ∀ j < 8, laneReg w' k j = regs k j) ∧
      ∀ k < 64, laneFlag w' k = flags k

/-- An arithmetic sweep instruction x: RD of lane k takes the exact value e k saturated, ARITH_SAT is set if a lane saturates, and
no other register, no flag and no byte of memory changes (R230, R231). -/
def aluDone (s t : State) (r : Region) (b : Blk) (w : Sweep) (x : W32) (e : Nat → Int) : Prop :=
  kept s t ∧ sweptTo s t r b w (fun k j => if j = sweepRd x then clamp32 (e k) else laneReg w k j) (laneFlag w) ∧
    (rg t r).sweep.arithSat = ((rg s r).sweep.arithSat || (List.range 64).any (fun k => decide ((clamp32 (e k)).toInt ≠ e k)))

/-- The first byte of lane k's state word in row `row` of a block (R193, R225). -/
def stateAddr (r : Region) (b : Blk) (row : BitVec 10) (k : Nat) : Nat := rowAddr r b (fin 8 (k / 8)) row + 8 * (k % 8)

end Sys2Proof.Machine
end

