-- ==== Sys2Proof/Certificates/Slice0/Obligations.lean ====
section
/-! DEFINITION. The statements for the provers. after x and afterSync x are the state that a command leaves whose effect on the
state is x (Safety.lean): the clock handshake follows, the next free value is due, and nothing else changes. -/

open Sys2Proof
open Sys2Proof.Machine

/-- O1. A step runs the command at the front of the queue on the state with the queue's rest (derived; 95_what_each_step_holds.md). -/
def Obligations.FrontCommandRunsOnTheRest : Prop :=
  ∀ (c : Instr) (rest : List Instr) (s : State),
    step { s with pending := c :: rest } = exec c { s with pending := rest } ∧ (s.pending = [] → step s = .next s)

/-- O2. No command of the table stops the machine (derived; 95_what_each_step_holds.md, R451). -/
def Obligations.EveryCommandAnswersANextState : Prop :=
  ∀ (i : Instr) (s : State), ∃ t, exec i s = .next t

/-- O3. Every step keeps the byte stores of the data space and the basins in canonical form (derived; R21, R199). -/
def Obligations.StepKeepsByteStoresCanonical : Prop :=
  ∀ s t : State, storesWf s = true → step s = .next t → storesWf t = true

/-- O4. The byte stores are canonical after reset (derived; R16, R62). -/
def Obligations.ByteStoresCanonicalAfterReset : Prop := storesWf State.reset = true

/-- O5. Only RELEASE of a job restart, a reset or the loss of a rail ends freeze (derived; R441, R461, R60, R62, R64). -/
def Obligations.FreezeEndsOnlyByReleaseOrReset : Prop :=
  ∀ (i : Instr) (s t : State), exec i s = .next t → s.frz.asserted = true → t.frz.asserted = false →
    (∃ p k, i = .jobRestartRelease p k) ∨ (∃ p w d, i = .registerWrite p 0x03020 w d) ∨
      (∃ p, ∃ a ∈ (rport s p).queue, a.addr = 0x03020 ∧ a.wr.isSome = true ∧
        ((∃ x z, i = .rcRead p x z) ∨ (∃ x z d, i = .registerWrite p x z d) ∨ ∃ x z, i = .mgmtLinkAccess p x z)) ∨ i = .aonReset true ∨ i = .macroResetAssert ∨
      (∃ h r, i = .railLoss h r)

/-- O6. The always-on logic changes only by its own commands (derived; R60, R62, R187, R411, R412, R434, R462). -/
def Obligations.AlwaysOnStateKept : Prop :=
  ∀ (i : Instr) (s t : State), exec i s = .next t → (∀ a, i ≠ .aonReset a) → (∀ b, i ≠ .macroResetRelease b) →
    (∀ h r, i ≠ .railLoss h r) → (∀ h r, i ≠ .railUndervolt h r) → i ≠ .stagerEdge → t.aon = s.aon

/-- O7. What assertion and release of the resets leave (derived; R60, R62, R425, R434). -/
def Obligations.ResetsLeave : Prop :=
  ∀ s : State,
    (∃ t, exec (.aonReset true) s = .next t ∧ t.aon = aon0 ∧ t.pwr = pwr0 ∧ t.pins.rst = true ∧ (∀ r, (rg t r).power.st = .off) ∧
      t.frz.asserted = false ∧ t.frz.stopping = false ∧ irq t = 0 ∧ t.pending = s.pending) ∧
    (s.pins.rst = true → exec (.aonReset false) s = .next (after { s with aon := { s.aon with rst := false } })) ∧
    (∃ t, exec .macroResetAssert s = .next t ∧ t.aon = s.aon ∧
      (∀ h, (stager t h).rise = (stager s h).rise ∧ (stager t h).fall = (stager s h).fall) ∧ t.pins.rst = true ∧ (∀ r, (rg t r).power.st = .off) ∧
      t.frz.asserted = false ∧ t.frz.stopping = false ∧ irq t = 0 ∧ t.flt = faults0 ∧ t.meas = meas0 ∧ t.pending = s.pending) ∧
    (∀ src, s.pins.rst = true → s.aon.rst = false → s.aon.lost = false →
      ∃ t, exec (.macroResetRelease src) s = .next t ∧ t.pins.rst = false ∧ t.aon.bootCount = s.aon.bootCount + 1 ∧
        t.aon.bootWrap = (s.aon.bootWrap || s.aon.bootCount == BitVec.allOnes 32) ∧ t.gh.src = src ∧
        t.aon.sundial = s.aon.sundial ∧ t.mem = s.mem ∧ t.basin = s.basin)

/-- O8. Clock and rail events (derived; R58, R64, R365, R409, R411, R412). -/
def Obligations.ClockAndRailEvents : Prop :=
  ∀ (s : State) (h : Half) (rail : Rail),
    (vget s.pins.fclkOk h = false →
      ∃ t, exec (.fclkOkRise h) s = .next t ∧ vget t.pins.fclkOk h = true ∧ t.mem = s.mem ∧ t.basin = s.basin ∧ t.flt = s.flt ∧
        t.frz = s.frz) ∧
    (vget s.pins.fclkOk h = true →
      ∃ t, exec (.fclkOkFall h) s = .next t ∧ vget t.pins.fclkOk h = false ∧
        (live s = true → fclkNeed s h = true → (h = 0 → t.frz.asserted = true ∧ t.flt.firstValid = true) ∧
          (h = 1 → faultRec 0x13 3 1 1 0 0 ∈ t.frz.east))) ∧
    (∃ t, exec (.railLoss h rail) s = .next t ∧ (∀ r, (rg t r).power.st = .off) ∧ t.frz = freeze0 ∧ t.flt = faults0 ∧
      t.aon.sundial = 0 ∧ t.aon.lost = true ∧ (h, rail) ∈ t.aon.bleed ∧ t.mem = [] ∧ t.pending = s.pending) ∧
    (live s = true → rail ≠ .vddaon →
      ∃ t, exec (.railUndervolt h rail) s = .next t ∧ t.aon.rail = true ∧ t.mem = s.mem ∧ t.basin = s.basin)

/-- O9. Wrapper reset, test_mode and the wrapper instructions (derived; R54, R60, R505, R506, R507, R509). -/
def Obligations.WrapperInstructionsLoadTheirRegister : Prop :=
  ∀ (s : State) (v bit : Bool) (cells : List Bool) (w : W32),
    (s.wrp.busy = false → exec (.wrapperReset true) s = .next (after { s with wrp := wrapper0 })) ∧
    exec (.wrapperReset false) s = .next (after { s with wrp := { s.wrp with rst := false } }) ∧
    (s.pins.rst = true → exec (.testModeChange v) s = .next (after { s with pins := { s.pins with testMode := v } })) ∧
    (s.wrp.rst = false →
      exec (.wsBypass bit) s = .next (after { s with wrp := { s.wrp with instr := .bypass, bypass := bit } }) ∧
      (∃ l : List Bool, l.length = cells.length ∧
        exec (.wsExtest cells) s = .next (after { s with wrp := { s.wrp with instr := .extest, sampled := l, boundary := cells } })) ∧
      (∀ i ∈ [Instr.plId, Instr.plTctrl w, Instr.plTstat, Instr.plTresult, Instr.plRepair], s.pins.testMode = false →
        exec i s = .next (after { s with wrp := { s.wrp with instr := .bypass } })) ∧
      (s.pins.testMode = true →
        exec .plId s = .next (after { s with wrp := { s.wrp with instr := .id, captured := 0x00020003 } }) ∧
        exec (.plTctrl w) s = .next (after { s with wrp := { s.wrp with
          instr := .tctrl, mode := if w.extractLsb' 1 2 = 3 then s.wrp.mode else w.extractLsb' 1 2,
          regions := w.extractLsb' 8 8, wholeMem := w.getLsbD 16,
          startReq := w.getLsbD 0 && !s.wrp.busy && decide (w.extractLsb' 1 2 ≠ 3),
          startErr := if w.getLsbD 0 then s.wrp.busy || decide (w.extractLsb' 1 2 = 3) else s.wrp.startErr } }) ∧
        exec .plTstat s = .next (after { s with wrp := { s.wrp with instr := .tstat, captured :=
          ((0 : BitVec 17) ++ b1 s.wrp.imageFull ++ b1 s.wrp.wholeFail ++ s.wrp.regionFail ++ b1 s.wrp.startErr ++ b1 s.wrp.abort ++
            b1 s.wrp.pass ++ b1 s.wrp.done ++ b1 s.wrp.busy) } }) ∧
        exec .plTresult s = .next (after { s with wrp := { s.wrp with instr := .tresult } }) ∧
        exec .plRepair s = .next (after { s with wrp := { s.wrp with instr := .repair } })))

/-- O10. A self-test starts under the conditions of R508 and ends with its findings (derived; R507, R508, R509, R510). -/
def Obligations.SelfTestRunsAndEnds : Prop :=
  ∀ (s : State) (res : SelfTestResult),
    (s.wrp.startReq = true → s.pins.testMode = true → live s = true → s.gh.stage = .waitImage →
        vget s.pins.fclkOk 0 = true → vget s.pins.fclkOk 1 = true →
      ∃ t, exec .selfTestStart s = .next t ∧ t.wrp.busy = true ∧ t.wrp.done = false ∧ live t = false ∧ irq t = 0 ∧ t.mem = s.mem) ∧
    (s.wrp.busy = true →
      ∃ t, exec (.selfTestDone res) s = .next t ∧ t.wrp.busy = false ∧ t.wrp.done = true ∧ (∀ r, (rg t r).power.st = .off) ∧
        (res.columns = [] → res.blocks = [] → res.wholeFail = false → t.wrp.pass = true))

/-- O11. A policy timeout makes the region wait for a downward step (derived; R179, R399, R400). -/
def Obligations.PolicyTimeoutAsksForOneDownwardStep : Prop :=
  ∀ (s : State) (r : Region),
    let p := (rg s r).power
    let ask := Host.Outcome.next (after (modPw s r (fun p => { p with downWait := true })))
    exec (.idleTimeout r) s =
      (if policyOpen s r = true ∧ p.st = .run ∧ clocked s (halfOf r) = true ∧ p.idleAfter ≠ 0 ∧ p.deepest ≠ 0 ∧ hasWork s r = false
       then ask else .next s) ∧
    exec (.retainTimeout r) s =
      (if policyOpen s r = true ∧ p.st = .idle ∧ p.retainAfter ≠ 0 ∧ p.retainAfter.toNat ≤ p.ticks ∧ 2 ≤ p.deepest.toNat ∧
          holdsRows (rg s r) = false then ask else .next s) ∧
    exec (.offTimeout r) s =
      (if policyOpen s r = true ∧ p.st = .retain ∧ p.offAfter ≠ 0 ∧ p.offAfter.toNat ≤ p.ticks ∧ p.deepest = 3 ∧
          holdsRows (rg s r) = false then ask else .next s)

/-- O12. An sclk edge advances the Sundial; a governor interval takes the ceiling (derived; R60, R62, R187, R403, R405, R406, R414). -/
def Obligations.SclkEdgeAdvancesTheSundial : Prop :=
  ∀ (s : State) (h : Half),
    (s.aon.rst = false → s.aon.lost = false →
      ∃ t, exec .stagerEdge s = .next t ∧ t.aon = { s.aon with sundial := s.aon.sundial + 1 } ∧
        ((∀ r, (rg s r).power.steps = []) → t.mem = s.mem ∧ t.basin = s.basin ∧ t.flt = s.flt)) ∧
    (clocked s h = true →
      ∃ t, exec (.governorInterval h) s = .next t ∧ (stager t h).ceilEff = (if h = 0 then s.pwr.ceilW else s.pwr.ceilE) ∧
        (stager t h).ceilActive = ((gov s h).limited && (gov s h).byCeil) ∧
        t.pwr.ceiling = (s.pwr.ceiling || ((gov s h).limited && (gov s h).byCeil && !(stager s h).ceilActive)) ∧
        (∀ r, vget (gov t h).act (inHalf r) = 0) ∧ t.mem = s.mem ∧ t.basin = s.basin ∧ t.regions = s.regions)

/-- O13. Booking a staged step never takes a ledger above the half's limit (derived; R403, R404). -/
def Obligations.BookingKeepsLedgersWithinLimit : Prop :=
  ∀ (st st' : Stager) (now mhz t : Nat) (k : StepKind) (dc : Bool) (b : Booked),
    (∀ i, vget st.rise i ≤ ledgerL st ∧ vget st.fall i ≤ ledgerL st) → bookStep st now mhz t k dc = some (b, st') →
    st'.s = st.s ∧ (∀ i, vget st'.rise i ≤ ledgerL st ∧ vget st'.fall i ≤ ledgerL st) ∧ t ≤ b.start ∧ b.start ≤ b.stop ∧ b.kind = k

/-- O14. Staged steps start in their tick and end in the state the table gives (derived; R101, R400, R401, R402, R419). -/
def Obligations.StagedStepsStartAndEnd : Prop :=
  ∀ (s : State) (r : Region) (b : Booked) (bs : List Booked),
    live s = true → (rg s r).power.steps = b :: bs →
    (b.begun = false → b.start / 1000 ≤ s.aon.sundial.toNat → riseWaits s (halfOf r) b.kind = true →
      exec (.stagedStepStart r) s = .next s) ∧
    (b.begun = false → b.start / 1000 ≤ s.aon.sundial.toNat → riseWaits s (halfOf r) b.kind = false →
      exec (.stagedStepStart r) s = .next (after (modPw s r (fun p => { p with steps := { b with begun := true } :: bs })))) ∧
    (b.begun = true → b.stop / 1000 ≤ s.aon.sundial.toNat → bs = [] →
      ∃ t, exec (.stagedStepEnd r) s = .next t ∧
        (b.kind = .clockOff → (rg s r).power.waking = false → (rg t r).power.st = .idle) ∧
        (b.kind = .periphOff → (rg s r).power.waking = false → (rg t r).power.st = .retain) ∧
        (b.kind = .arrayOff → (rg s r).power.waking = false →
          (rg t r).power.st = .off ∧ planned t r = false ∧ (canWrite s = true → ∀ a, r.val * 2 ^ 24 ≤ a → a < (r.val + 1) * 2 ^ 24 → tget 0 t.mem a = 0)) ∧
        (b.kind = .clockOn → (rg s r).power.waking = true → (rg t r).power.st = .run ∧ bit8 t.pwr.wakeDone r = true))

/-- O15. Writes of PWR_WAKE, PWR_FCLK and the power policy (derived; R15, R24, R80, R400, R401, R408, R415, R417, R421). -/
def Obligations.PowerRegisterWrites : Prop :=
  ∀ (s : State) (port : RegPort) (req hold : Byte) (h : Half) (d : W32) (r : Region) (which : Fin 4),
    portReady s port = true →
    (isMgmt port = true →
      exec (.pwrWakeReq port req hold) s =
        .next (after (wakeAll { ack s port with pwr := { s.pwr with hold := hold } } (req ||| hold))) ∧
      exec (.pwrWakeHold port hold req) s =
        .next (after (wakeAll { ack s port with pwr := { s.pwr with hold := hold } } (req ||| hold))) ∧
      (vget s.pins.fclkOk h = false →
        (250 ≤ (d.extractLsb' 0 10).toNat → (d.extractLsb' 0 10).toNat ≤ 1000 →
          exec (.pwrFclkWrite port h d) s =
            .next (after (ack { s with pwr := { s.pwr with mhz := vset s.pwr.mhz h (d.extractLsb' 0 10) } } port))) ∧
        ((d.extractLsb' 0 10).toNat < 250 ∨ 1000 < (d.extractLsb' 0 10).toNat →
          exec (.pwrFclkWrite port h d) s = .next (after (ack s port)))) ∧
      (vget s.pins.fclkOk h = true → exec (.pwrFclkWrite port h d) s = .next (after (busErr s port))) ∧
      exec (.policyWrite port r which d) s =
        .next (after (applyPolicy (modPw (ack s port) r (fun p =>
          if which = 0 then (if d.extractLsb' 0 16 = 0 ∨ 16 ≤ (d.extractLsb' 0 16).toNat then { p with idleAfter := d.extractLsb' 0 16 } else p)
          else if which = 1 then { p with retainAfter := d }
          else if which = 2 then { p with offAfter := d }
          else { p with deepest := d.extractLsb' 0 2, rank := d.extractLsb' 4 3 })) r))) ∧
    (isMgmt port = false →
      exec (.pwrWakeReq port req hold) s = .next (after (busErr s port)) ∧
      exec (.pwrWakeHold port hold req) s = .next (after (busErr s port)) ∧
      exec (.pwrFclkWrite port h d) s = .next (after (busErr s port)) ∧
      exec (.policyWrite port r which d) s = .next (after (busErr s port)))

/-- O16. A request that transfers joins its port's outstanding requests (derived; R36, R108, R112, R115, R117, R119, R124, R294). -/
def Obligations.RequestJoinsItsPort : Prop :=
  ∀ (s : State) (p : EPort) (q : ReqF) (code : BitVec 2),
    (engineReady s p = true →
      (q.mgrp = 0 → ∃ t, exec (.read p q) s = .next t ∧ joined s t p .read q [] []) ∧
      (q.mgrp ≠ 0 → ∃ t, exec (.multicastRead p q) s = .next t ∧ joined s t p .read q [] []) ∧
      (q.top = 0 ∨ q.top = 3 → ∃ t, exec (.write p q) s = .next t ∧ joined s t p .write q [] []) ∧
      (q.top = 1 → ∃ t, exec (.writeBitSet p q) s = .next t ∧ joined s t p .write q [] []) ∧
      (q.top = 2 → ∃ t, exec (.writeBitClear p q) s = .next t ∧ joined s t p .write q [] []) ∧
      (∃ t, exec (.reservedOp p code q) s = .next t ∧ joined s t p (.reserved code) q [] [])) ∧
    ((ep s p).reqs.length = 64 →
      ∀ i ∈ [Instr.read p q, Instr.multicastRead p q, Instr.write p q, Instr.writeBitSet p q, Instr.writeBitClear p q,
        Instr.reservedOp p code q], exec i s = .next s)

/-- O17. Atomics, SEM and DOORBELL join with their one beat; a missing wd_last breaks them (derived; R108, R111, R112, R115, R120, R121, R123, R239, R294, R451). -/
def Obligations.AtomicOrSignalJoinsWithItsBeat : Prop :=
  ∀ (s : State) (p : EPort) (q : ReqF) (w : WBeat),
    engineReady s p = true →
    ∀ x ∈ ([(Instr.atomAddS8 p q w, ReqOp.atom .addS8), (Instr.atomAddI32 p q w, ReqOp.atom .addI32),
        (Instr.atomAddF32 p q w, ReqOp.atom .addF32), (Instr.atomMinI32 p q w, ReqOp.atom .minI32),
        (Instr.atomMaxI32 p q w, ReqOp.atom .maxI32), (Instr.atomSwap64 p q w, ReqOp.atom .swap64),
        (Instr.atomCas64 p q w, ReqOp.atom .cas64), (Instr.atomTrace p q w, ReqOp.atom .trace), (Instr.sem p q w, ReqOp.sem)] ++
        (if q.addr.getLsbD 12 then [(Instr.mailboxDoorbell p q w, ReqOp.doorbell)]
         else [(Instr.streamDoorbell p q w, ReqOp.doorbell)]) : List (Instr × ReqOp)),
      (needsData (ep s p) ≠ none → ∃ t, exec x.1 s = .next t ∧ joined s t p x.2 q [] [w]) ∧
      (needsData (ep s p) = none →
        (w.last = true → ∃ t, exec x.1 s = .next t ∧ joined s t p x.2 q [w] []) ∧
        (w.last = false → ∃ t, exec x.1 s = .next t ∧ kept s t ∧ t.regions = s.regions ∧
          (portHalf p = 0 → t.frz.asserted = true ∧ t.flt.firstValid = true) ∧
          (portHalf p = 1 → t.frz.east = s.frz.east ++ [faultRec 0x18 2 1 p.val 0 (q.id.setWidth 32)]) ∧
          ∃ e ∈ (ep t p).reqs, e.seq = (ep s p).nextSeq ∧ e.broke = true ∧ e.res = [some ⟨frozenC, 0⟩]))

/-- O18. A write data beat goes to the oldest request that needs one, and wd_last is checked (derived; R111, R132, R451). -/
def Obligations.WriteDataBeatGoesToTheOldestNeed : Prop :=
  ∀ (s : State) (p : EPort) (w : WBeat),
    clocked s (portHalf p) = true →
    (needsData (ep s p) = none → exec (.writeDataBeat p w) s = .next s) ∧
    (∀ e, needsData (ep s p) = some e →
      let u := takeBeat s p e w
      exec (.writeDataBeat p w) s = .next (after (pumpPort (passCarried u p) p)) ∧ kept s u ∧ u.regions = s.regions ∧
      (e.broke = false → w.last = decide (e.got.length + 1 = wdBeats e.op e.q) →
        u = modReq s p e.seq (fun x => { x with got := x.got ++ [w], carry := [] })) ∧
      (e.broke = false → w.last ≠ decide (e.got.length + 1 = wdBeats e.op e.q) →
        (portHalf p = 0 → u.frz.asserted = true ∧ u.flt.firstValid = true) ∧
        (portHalf p = 1 → u.frz.east = s.frz.east ++ [faultRec 0x18 2 1 p.val 0 (e.q.id.setWidth 32)]) ∧
        ∃ y ∈ (ep u p).reqs, y.seq = e.seq ∧ y.broke = true) ∧
      (e.broke = true → u.frz = s.frz ∧ u.flt = s.flt)) ∧
    (∀ seq e, findReq s p seq = some e → e.broke = true → forwardReq s p seq = s)

/-- O19. Taking the last response beat ends the request (derived; R33, R43, R112, R113, R125). -/
def Obligations.LastResponseBeatEndsTheRequest : Prop :=
  ∀ (s : State) (p : EPort) (ch : Channel) (id : BitVec 6),
    (clocked s (portHalf p) = true → ch = .rd ∨ ch = .wr →
      (nextResp (ep s p) ch id = none → exec (.responseBeatTaken p ch id) s = .next s) ∧
      (∀ e, nextResp (ep s p) ch id = some e →
        (respReady e = false → exec (.responseBeatTaken p ch id) s = .next s) ∧
        (respReady e = true →
          ((respBeat e).2.2 = true → ∃ t, exec (.responseBeatTaken p ch id) s = .next t ∧ kept s t ∧ ∀ y ∈ (ep t p).reqs, y.seq ≠ e.seq) ∧
          ((respBeat e).2.2 = false → e.gather = none →
            exec (.responseBeatTaken p ch id) s =
              .next (after (modEp (modReq s p e.seq (fun y => { y with taken := y.taken + 1 })) p (fun x => { x with cur := some e.seq }))))))) ∧
    (∀ port : RegPort,
      ((rport s port).rsps = [] → exec (.responseBeatTaken p (.reg port) id) s = .next s) ∧
      (∀ a more, live s = true → (rport s port).rsps = a :: more →
        exec (.responseBeatTaken p (.reg port) id) s = .next (after (modRport s port (fun x => { x with rsps := more })))))

/-- O20. A gather that times out starts its read for the members that have joined (derived; R124). -/
def Obligations.GatherTimeoutStartsTheRead : Prop :=
  ∀ (s : State) (r : Region) (g : BitVec 5),
    clocked s (halfOf r) = true →
    (frozen s (halfOf r) = true → exec (.gatherTimeout r g) s = .next s) ∧
    (frozen s (halfOf r) = false →
      ((rg s r).mcast.gathers.find? (fun x => x.g == g && !x.started) = none → exec (.gatherTimeout r g) s = .next s) ∧
      (∀ x, (rg s r).mcast.gathers.find? (fun x => x.g == g && !x.started) = some x →
        let s1 := modRg s r (fun m => { m with mcast := { m.mcast with
          gathers := m.mcast.gathers.map (fun y => if y.inst = x.inst then { y with started := true } else y) } })
        let s2 := x.joined.foldl (fun u m => modReq u m.1 m.2 (fun e => if e.stage = .gather then { e with stage := .sent } else e)) s1
        (gatherWaits s1 x (gatherBeats s1 x) = true → exec (.gatherTimeout r g) s = .next (after s1)) ∧
        (gatherWaits s1 x (gatherBeats s1 x) = false →
          exec (.gatherTimeout r g) s = .next (after (routeBeats s2 (.mcast r x.inst) .read x.hp (gatherBeats s2 x))))))

/-- O21. The Sluice test of the head request (derived; R110, R111, R349, R351, R353, R355). -/
def Obligations.SluiceTestsItsHead : Prop :=
  ∀ (s : State) (p : EPort) (urg : BitVec 2),
    clocked s (portHalf p) = true →
    (sluiceHead (ep s p) = none → exec (.sluiceRelease p urg) s = .next (after (pumpPort s p))) ∧
    ∀ e, sluiceHead (ep s p) = some e →
    (awaitsBeat e = true → exec (.sluiceRelease p urg) s = .next (after (pumpPort s p))) ∧
    (awaitsBeat e = false →
      let t := vget s.slu.eff (portHalf p)
      let c := classOf t (e.q.addr.toNat % 2 ^ 27)
      let i := sluIdx p c
      let bad := requestBad e.op e.q e.got.head? || multicastBad s p e.q
      let shut := closed s (portHalf p) || e.broke
      (shut = true → exec (.sluiceRelease p urg) s = .next (after (pumpPort (rejectHead s p e frozenC) p))) ∧
      (shut = false → bad = true → exec (.sluiceRelease p urg) s = .next (after (pumpPort (rejectHead s p e decodeC) p))) ∧
      (shut = false → bad = false →
        (chargeOf e.op e.q = 0 → exec (.sluiceRelease p urg) s = .next (after (pumpPort (releaseHead s p e c 0 false) p))) ∧
        (0 < chargeOf e.op e.q → vget t.budget i = 0 → exec (.sluiceRelease p urg) s = .next (after (pumpPort (rejectHead s p e barredC) p))) ∧
        (0 < chargeOf e.op e.q → vget t.budget i = 0xFFFF →
          exec (.sluiceRelease p urg) s = .next (after (pumpPort (releaseHead s p e c (chargeOf e.op e.q) false) p))) ∧
        (0 < chargeOf e.op e.q → hasCredit (vget t.budget i) = true →
          (-(urgExtra t urg : Int) < vget s.slu.credit i → ∃ u, exec (.sluiceRelease p urg) s = .next u ∧
            vget u.slu.credit i = vget s.slu.credit i - chargeOf e.op e.q ∧ u.mem = s.mem ∧ u.basin = s.basin) ∧
          (vget s.slu.credit i ≤ -(urgExtra t urg : Int) → ∃ u, exec (.sluiceRelease p urg) s = .next u ∧ kept s u ∧
            u = after (pumpPort (countHeld s p c) p) ∧ u.slu.credit = s.slu.credit ∧ bit32 u.slu.heldNow p = true))))

/-- O22. A Sluice window boundary refills every credit of its half (derived; R348, R349, R354, R361). -/
def Obligations.WindowBoundaryRefillsCredits : Prop :=
  ∀ (s : State) (h : Half),
    clocked s h = true →
    ∃ t, exec (.sluiceWindowBoundary h) s = .next t ∧ kept s t ∧ t.regions = s.regions ∧ t.ports = s.ports ∧
      vget t.slu.eff h = s.slu.regs ∧ vget t.slu.eff (other h) = vget s.slu.eff (other h) ∧ t.slu.regs = s.slu.regs ∧
      ∀ (p : EPort) (c : Fin 8), let i := sluIdx p c
        (portHalf p = h →
          (hasCredit (vget s.slu.regs.budget i) = true → vget t.slu.credit i =
            min (vget s.slu.credit i + (vget s.slu.regs.budget i).toNat) (vget s.slu.regs.budget i).toNat) ∧
          (hasCredit (vget s.slu.regs.budget i) = false → vget t.slu.credit i = 0) ∧
          (vget t.slu.used i).toNat = min (vget s.slu.acc i) 0xFFFF ∧ vget t.slu.acc i = 0) ∧
        (portHalf p ≠ h → vget t.slu.credit i = vget s.slu.credit i ∧ vget t.slu.used i = vget s.slu.used i ∧
          vget t.slu.acc i = vget s.slu.acc i)

/-- O23. Sluice configuration writes are checked and wait for the boundary (derived; R354, R356, R357, R360). -/
def Obligations.SluiceConfigurationWrites : Prop :=
  ∀ (s : State) (port : RegPort) (c : Fin 7) (k : Fin 128) (d : W32),
    portReady s port = true →
    let x := vget s.slu.regs.cls c
    let put := fun (t : SluTab) => ack { s with slu := { s.slu with regs := t } } port
    (x.en = true → exec (.sluiceConfigWrite port (.base c) d) s = .next (after (busErr s port)) ∧
      exec (.sluiceConfigWrite port (.limit c) d) s = .next (after (busErr s port))) ∧
    (x.en = false →
      exec (.sluiceConfigWrite port (.base c) d) s =
        .next (after (put { s.slu.regs with cls := vset s.slu.regs.cls c { x with base := d.extractLsb' 16 11 } })) ∧
      exec (.sluiceConfigWrite port (.limit c) d) s =
        .next (after (put { s.slu.regs with cls :=
          (vset s.slu.regs.cls c (if 0x800 < (d.extractLsb' 16 12).toNat then x else { x with limit := d.extractLsb' 16 12 })) }))) ∧
    (d.getLsbD 0 = true → mayEnable s.slu.regs c = false →
      exec (.sluiceConfigWrite port (.ctrl c) d) s = .next (after (busErr s port))) ∧
    (d.getLsbD 0 = false ∨ mayEnable s.slu.regs c = true →
      exec (.sluiceConfigWrite port (.ctrl c) d) s =
        .next (after (put { s.slu.regs with cls := vset s.slu.regs.cls c { x with en := d.getLsbD 0 } }))) ∧
    exec (.sluiceConfigWrite port .urgency d) s =
      .next (after (put { s.slu.regs with extra1 := d.extractLsb' 0 10, extra2 := d.extractLsb' 10 10, extra3 := d.extractLsb' 20 10 })) ∧
    (∃ t, exec (.sluiceConfigWrite port (.budget k) d) s = .next t ∧ kept s t ∧ t.slu.eff = s.slu.eff ∧
      (∀ j : Fin 256, j.val = 2 * k.val →
        vget t.slu.regs.budget j =
        (if 1024 < (d.extractLsb' 0 16).toNat ∧ (d.extractLsb' 0 16).toNat < 0xFFFF then vget s.slu.regs.budget j else d.extractLsb' 0 16)) ∧
      (∀ j : Fin 256, j.val = 2 * k.val + 1 →
        vget t.slu.regs.budget j =
        (if 1024 < (d.extractLsb' 16 16).toNat ∧ (d.extractLsb' 16 16).toNat < 0xFFFF then vget s.slu.regs.budget j else d.extractLsb' 16 16)))

/-- O24. Bit-set and bit-clear change exactly the enabled bits that are 1 in the write data (stated; R119). -/
def Obligations.BitSetAndBitClearAtTheCell : Prop :=
  (∀ (s : State) (r : Region) (b : Blk) (q : PBeat),
    canWrite s = true →
    let at_ := rowAddr r b q.cell q.row
    let set := (cellAccess s r b .setBits q).1
    let clr := (cellAccess s r b .clrBits q).1
    (∀ i < 64,
      memByte set (at_ + i) = (if q.strb.getLsbD i then memByte s (at_ + i) ||| q.data.extractLsb' (8 * i) 8 else memByte s (at_ + i)) ∧
      memByte clr (at_ + i) = (if q.strb.getLsbD i then memByte s (at_ + i) &&& ~~~(q.data.extractLsb' (8 * i) 8) else memByte s (at_ + i))) ∧
    onlyRow s set r b q.cell q.row ∧ onlyRow s clr r b q.cell q.row) ∧
  (∀ (e : EReq), e.op = .write → (e.q.top = 1 → reqCellOp e = .setBits) ∧ (e.q.top = 2 → reqCellOp e = .clrBits)) ∧
  (∀ (e : EReq), e.op = .read → reqCellOp e = .read) ∧ (∀ p : Packet, p.kind = 0 → packetOp p = .read) ∧
  (∀ (q q' : ReqF) (i : Nat), q.addr.extractLsb' 0 27 = q'.addr.extractLsb' 0 27 → beatAddr q i = beatAddr q' i)

/-- O25. ATOM_CAS_64 compares, swaps and returns the old word with the swap flag (stated; R121). -/
def Obligations.CompareAndSwapAtTheCell : Prop :=
  ∀ (s : State) (r : Region) (b : Blk) (q : PBeat),
    canWrite s = true →
    let word := rowAddr r b q.cell q.row + 8 * (q.off.toNat / 8)
    let old : W64 := wordOf 64 (tgets 0 s.mem word 8)
    let out := cellAccess s r b (.atom .cas64) q
    wordOf 64 (tgets 0 out.1.mem word 8) = (if old = q.data.extractLsb' 0 64 then q.data.extractLsb' 64 64 else old) ∧
    (∀ a, a < word ∨ word + 8 ≤ a → memByte out.1 a = memByte s a) ∧ out.1.basin = s.basin ∧
    out.2.data.extractLsb' 0 64 = old ∧ out.2.data.getLsbD 64 = decide (old = q.data.extractLsb' 0 64) ∧ out.2.data >>> 65 = 0 ∧
    ∀ strb, cellAccess s r b (.atom .cas64) { q with strb := strb } = out

/-- O26. The element atomics act on the enabled elements alone and return what they held (derived; R120). -/
def Obligations.ElementAtomicsAtTheCell : Prop :=
  (∀ (now : W32) (decay : Nat → BitVec 16) (off : BitVec 6) (old data : Beat) (strb : BitVec 64) (a : AtomOp) (e : Nat),
    a ≠ .cas64 → a ≠ .trace → e < 64 / atomWidth a →
    let w := atomWidth a
    let out := atomBeat a now decay off old data strb
    let o := beatBytes old (w * e) w
    let d := beatBytes data (w * e) w
    (elemOn strb w e = false → (out.1.drop (w * e)).take w = o ∧ ∀ i < w, out.2.1.extractLsb' (8 * (w * e + i)) 8 = 0) ∧
    (elemOn strb w e = true →
      (∀ i < w, out.2.1.extractLsb' (8 * (w * e + i)) 8 = old.extractLsb' (8 * (w * e + i)) 8) ∧
      (a = .addS8 → (out.1.drop e).take 1 =
        [BitVec.ofInt 8 (max (-128) (min 127 ((old.extractLsb' (8 * e) 8).toInt + (data.extractLsb' (8 * e) 8).toInt)))]) ∧
      (a = .addI32 → (wordOf 32 ((out.1.drop (4 * e)).take 4)).toInt =
        max (-(2 ^ 31)) (min (2 ^ 31 - 1) ((wordOf 32 o).toInt + (wordOf 32 d).toInt))) ∧
      (a = .minI32 → (wordOf 32 ((out.1.drop (4 * e)).take 4)).toInt = min (wordOf 32 o).toInt (wordOf 32 d).toInt) ∧
      (a = .maxI32 → (wordOf 32 ((out.1.drop (4 * e)).take 4)).toInt = max (wordOf 32 o).toInt (wordOf 32 d).toInt) ∧
      (a = .swap64 → (out.1.drop (8 * e)).take 8 = d) ∧
      (a = .addF32 → (out.1.drop (4 * e)).take 4 = bytesOf (f32Add (wordOf 32 o) (wordOf 32 d)).1 4))) ∧
  (∀ (s : State) (r : Region) (b : Blk) (q : PBeat) (a : AtomOp),
    onlyRow s (cellAccess s r b (.atom a) q).1 r b q.cell q.row ∧
    (canWrite s = true → readBytes (cellAccess s r b (.atom a) q).1 r b q.cell q.row =
      (atomBeat a (rg s r).ev.epoch (factorOf s r) q.off (readBeat s r b q.cell q.row) q.data q.strb).1))

/-- O27. A trace element decays by its age and takes DELTA, or is set (derived; R237, R239, R240, R84). -/
def Obligations.TraceElementDecaysAndAdds : Prop :=
  (∀ (now : W32) (decay : Nat → BitVec 16) (old opd : W64),
    let x := (traceElem now decay old opd).1
    let delta : Int := (opd.extractLsb' 0 32).toInt
    let f := decay (256 * (opd.extractLsb' 32 3).toNat + min (now - old.extractLsb' 32 32).toNat 255)
    let cut := fun v : Int => max (-(2 ^ 31)) (min (2 ^ 31 - 1) v)
    x.extractLsb' 32 32 = now ∧
    (opd.getLsbD 35 = true → x.extractLsb' 0 32 = opd.extractLsb' 0 32) ∧
    (opd.getLsbD 35 = false → (x.extractLsb' 0 32).toInt =
      cut (cut (((old.extractLsb' 0 32).toInt * (f.toNat : Int) + 2 ^ 14) / 2 ^ 15) + delta))) ∧
  (∀ (s : State) (r : Region) (i : Nat), planned s r = false → factorOf s r i = 0) ∧
  (∀ (s : State) (r : Region) (b : Blk) (q : PBeat), canWrite s = true →
    readBytes (cellAccess s r b (.atom .trace) q).1 r b q.cell q.row =
      (atomBeat .trace (rg s r).ev.epoch (factorOf s r) q.off (readBeat s r b q.cell q.row) q.data q.strb).1)

/-- O28. A read returns the stored beat and a write changes the enabled bytes alone (derived; R11, R118, R133, R412). -/
def Obligations.ReadsAndWritesAtTheCell : Prop :=
  ∀ (s : State) (r : Region) (b : Blk) (q : PBeat),
    let at_ := rowAddr r b q.cell q.row
    (cellAccess s r b .read q).1 = s ∧
    (∀ i < 64, (cellAccess s r b .read q).2.data.extractLsb' (8 * i) 8 = memByte s (at_ + i)) ∧
    onlyRow s (cellAccess s r b .write q).1 r b q.cell q.row ∧
    (canWrite s = false → (cellAccess s r b .write q).1 = s) ∧
    (canWrite s = true → ∀ i < 64, memByte (cellAccess s r b .write q).1 (at_ + i) =
      (if q.strb.getLsbD i then q.data.extractLsb' (8 * i) 8 else memByte s (at_ + i)))

/-- O29. A held grant issues its queue's head beat, and port A's access may stall it or leave it BUSY (derived; R118, R138, R139, R141, R143, R144, R451, R452). -/
def Obligations.HeldGrantIssuesTheHeadBeat : Prop :=
  ∀ (s : State) (r : Region) (b : Blk) (k : Requester) (used : Nat) (q : BReq) (m : Meet) (out : BitVec 6),
    pathOpen s r = true →
    exec (.blockGrant r b m (.xbarParity out)) s = .next (after (regionFault s r 0x0A (out.setWidth 32))) ∧
    (hTurn s r = none → xbarPick s r b = none → (blk s r b).grant = some (k, used) → headBeat s r b k = some q →
        maskedReq s r b k = false → grantOver s r b k used = false →
      (stalls (blk s r b) q m = false → busyBeat (blk s r b) q m = false →
        ∃ t, exec (.blockGrant r b m .good) s = .next t ∧ t.mem = (cellAccess s r b q.op q.beat).1.mem ∧ t.basin = s.basin) ∧
      (stalls (blk s r b) q m = true → ∃ t, exec (.blockGrant r b m .good) s = .next t ∧ kept s t ∧
        stopQ (blk t r b) k = stopQ (blk s r b) k ∧ (blk t r b).stalled = some q.beat.cell) ∧
      (busyBeat (blk s r b) q m = true → ∃ t, exec (.blockGrant r b m .good) s = .next t ∧ kept s t) ∧
      (stalls (blk s r b) q m = false → q.op ≠ .write →
        ∃ t, exec (.blockGrant r b m .arrayParity) s = .next t ∧ kept s t ∧ (halfOf r = 0 → t.frz.asserted = true)))

/-- O30. The arbiter grants the unmasked requester of highest priority, ties in the fixed order (derived; R141, R144). -/
def Obligations.ArbiterGrantsTheHighestPriority : Prop :=
  ∀ (s : State) (r : Region) (b : Blk),
    (∀ k, decideGrant s r b = some k → asks s r b k = true ∧ maskedReq s r b k = false ∧
      ∀ j, asks s r b j = true → maskedReq s r b j = false →
        (vget (blk s r b).prio (reqNo j)).val < (vget (blk s r b).prio (reqNo k)).val ∨
          ((vget (blk s r b).prio (reqNo j)).val = (vget (blk s r b).prio (reqNo k)).val ∧ (reqNo k).val ≤ (reqNo j).val)) ∧
    (bit32 (rg s r).arb.freeze b = true → decideGrant s r b = none) ∧
    (decideGrant s r b = none → bit32 (rg s r).arb.freeze b = true ∨ ∀ j, asks s r b j = true → maskedReq s r b j = true)

/-- O31. The slot counter advances every cycle, and an open slot issues nothing (derived; R105, R107, R145, R148, R451). -/
def Obligations.SlotCounterAdvances : Prop :=
  ∀ (s : State) (r : Region) (m : Meet) (chk : BeatChk),
    clocked s (halfOf r) = true → inRun s r = true →
    let g := rg s r
    let k := if g.model.fresh then g.model.slot.val else (g.model.slot.val + 1) % 1024
    (∃ t, exec (.timetableSlot r false m chk) s = .next t ∧ (rg t r).model.slot.val = k ∧ t.basin = s.basin) ∧
    (∃ t, exec (.timetableSlot r true m chk) s = .next t ∧ kept s t ∧ (rg t r).model.slot.val = k ∧ (rg t r).model.slotBad = true ∧
      (halfOf r = 0 → t.frz.asserted = true) ∧ (halfOf r = 1 → t.frz.east.length = s.frz.east.length + 1)) ∧
    ((slotEntry (advanceSlot g) k).getLsbD 47 = false →
      exec (.timetableSlot r false m chk) s = .next (after (modRg s r advanceSlot))) ∧
    (g.model.fresh = false → k = 0 → g.model.ttPending = true →
      (advanceSlot g).model.tt = (vget g.plan.descs (fin 64 g.model.active.toNat)).tt ∧ (advanceSlot g).model.ttPending = false ∧
        (advanceSlot g).model.switching = g.model.again ∧ (advanceSlot g).model.target = g.model.sel) ∧
    (g.model.fresh = true ∨ k ≠ 0 ∨ g.model.ttPending = false →
      (advanceSlot g).model.tt = g.model.tt ∧ (advanceSlot g).model.switching = g.model.switching) ∧
    (∀ w b q, (b, q) ∈ slotBeats g w →
      q ∈ (vget g.blocks b).sched ∧ slotOwns w b q.beat.cell = true ∧ ∃ seq, q.src = .engine (slotOwner w) seq)

/-- O32. Slipped beats, quota windows and starvation flags (derived; R138, R147, R150, R151, R154, R159, R160). -/
def Obligations.SlipsQuotasAndStarvation : Prop :=
  ∀ (s : State) (r : Region) (b : Blk),
    (pathOpen s r = true →
      let free := fun (q : BReq) => q.slipped && schedFree s r b q && cellFree s r b q && !otherOwns (rg s r) b q
      (∀ m chk, (blk s r b).sched.find? free = none → exec (.slotSlipIssue r b m chk) s = .next s) ∧
      (∀ q m chk, (blk s r b).sched.find? free = some q → (∀ out, chk ≠ .xbarParity out) →
        exec (.slotSlipIssue r b m chk) s = .next (after (issueSched s r b q m chk)) ∧
        (stalls (blk s r b) q m = true → kept s (issueSched s r b q m chk)) ∧
        (stalls (blk s r b) q m = false → busyBeat (blk s r b) q m = false → chk = .good →
          (issueSched s r b q m chk).mem = (cellAccess s r b q.op q.beat).1.mem))) ∧
    (clocked s (halfOf r) = true → inRun s r = true →
      exec (.quotaWindowEnd r) s =
        .next (after (modRg s r (fun g => { g with arb := { g.arb with quotaUsed := Vector.replicate 32 0, eff := g.arb.regs } }))) ∧
      (∀ src, (rg s r).arb.eff.mode = false ∨ atLimit (rg s r) src = false → exec (.starvationLimit r src) s = .next s) ∧
      (∀ src, (rg s r).arb.eff.mode = true → atLimit (rg s r) src = true → ∃ t, exec (.starvationLimit r src) s = .next t ∧ kept s t ∧
        (∀ i : Fin 4, src = .port i → (rg t r).arb.starvePort.getLsbD i.val = true ∧ vget (rg t r).arb.starve (fin 6 i.val) = 0) ∧
        (src = .halfLink → (rg t r).arb.starveHalf = true ∧ vget (rg t r).arb.starve 4 = 0) ∧
        (src = .eventEntry → (rg t r).arb.starveEntry = true ∧ vget (rg t r).arb.starve 5 = 0) ∧
        (src = .block b → bit32 (rg t r).arb.starveBlk b = true ∧
          ∀ k : Fin 4, starveLimit (rg s r) ≤ vget (blk s r b).starve k → vget (blk t r b).starve k = 0)))

/-- O33. An accepted event is routed and its copies are placed, none detached or dropped (derived; R38, R75, R153, R163, R164, R165, R166, R176, R451). -/
def Obligations.EventsAreRoutedAndPlaced : Prop :=
  (∀ (s : State) (n : EvPort) (w : W64),
    let m := routeMask s.map (evSrc w)
    (ingressReady s n = false → exec (.eventIngress n w) s = .next s) ∧
    (ingressReady s n = true → m = 0 → ∃ t, exec (.eventIngress n w) s = .next t ∧ kept s t ∧ t.ingress = s.ingress ∧ t.regions = s.regions) ∧
    (ingressReady s n = true → m ≠ 0 → ∃ t e, exec (.eventIngress n w) s = .next t ∧ kept s t ∧ t.regions = s.regions ∧
      t.ingress = vset s.ingress n (vget s.ingress n ++ [e]) ∧ e.ev = w ∧ e.near = m &&& halfMask (evHalf n) ∧
      e.far = m &&& halfMask (other (evHalf n)))) ∧
  (∀ (s : State) (n : EvPort) (e : InEvent) (es : List InEvent) (r : Region),
    clocked s (evHalf n) = true → frozen s (evHalf n) = false → vget s.ingress n = e :: es →
    let h := evHalf n
    let left := fun (near far : Byte) => vset s.ingress n
      (if e.near &&& near = 0 ∧ e.far &&& far = 0 then es else { e with near := e.near &&& near, far := e.far &&& far } :: es)
    (mayPlace s r e = false ∨ hTurn s r ≠ some (ingressSrc n) → ∀ bad, exec (.copyPlaced n (.region r) bad) s = .next s) ∧
    (mayPlace s r e = true → hTurn s r = some (ingressSrc n) →
      exec (.copyPlaced n (.region r) true) s = .next (after (halfFault s h 0x10 0 (BitVec.ofNat 32 (r.val % 4)))) ∧
      exec (.copyPlaced n (.region r) false) s = .next (after (flushSteps { modRg s r (fun g =>
          { g with ev := { g.ev with arriving := g.ev.arriving ++ [⟨e.ev, if e.tagRegion = r then e.tag else none⟩] },
                   arb := { g.arb with hlast := ingressSrc n } }) with
          ingress := left (~~~mask8 r) 0xFF } h))) ∧
    (e.far = 0 ∨ (vget s.fb.steps h).any (fun x => e.post.contains x.1) = true → ∀ bad, exec (.copyPlaced n .seam bad) s = .next s) ∧
    (e.far ≠ 0 → (vget s.fb.steps h).any (fun x => e.post.contains x.1) = false →
      exec (.copyPlaced n .seam true) s = .next (after (halfFault s h 0x10 0 9)) ∧
      exec (.copyPlaced n .seam false) s = .next (after (flushSteps { sendPkt s h (copyPkt e n) with ingress := left 0xFF 0 } h))))

/-- O34. Copies enter, expand and reach the event queues in order (derived; R149, R166, R167, R168, R173, R174, R175, R178, R188, R190, R451, R463). -/
def Obligations.CopiesExpandIntoTheQueues : Prop :=
  ∀ (s : State) (r : Region),
    (∀ (port : RegPort) (v : Bool), portReady s port = true →
      exec (.entryHold port r v) s = .next (after (ack (modEv (wakeReq s r) r (fun e => { e with hold := v })) port))) ∧
    (clocked s (halfOf r) = true →
      (∀ c cs, (rg s r).ev.arriving = c :: cs →
        let s1 := modEv s r (fun x => { x with arriving := cs })
        let taken := evCount (modEv (markTag s1 c.tag 1) r (fun x => { x with entry := x.entry ++ [c] })) r 0 1
        (inRun s r = true → exec (.copyAtEntry r) s = .next (after (wakeReq taken r))) ∧
        (inRun s r = false → loadingR s r = true → exec (.copyAtEntry r) s = .next (after taken)) ∧
        ((inRun s r || loadingR s r) = false →
          (planned s r = false → ∃ t, exec (.copyAtEntry r) s = .next t ∧ kept s t ∧ (rg t r).ev.entry = (rg s r).ev.entry ∧
            (rg t r).ev.arriving = cs ∧ vget (rg t r).ev.counts 1 = vget (rg s r).ev.counts 1 + 1) ∧
          (planned s r = true → evNoWake c.ev = true → ∃ t, exec (.copyAtEntry r) s = .next t ∧ kept s t ∧
            (rg t r).ev.entry = (rg s r).ev.entry ∧ (rg t r).ev.arriving = cs ∧ vget (rg t r).ev.counts 2 = vget (rg s r).ev.counts 2 + 1) ∧
          (planned s r = true → evNoWake c.ev = false → exec (.copyAtEntry r) s = .next (after (wakeReq taken r))))) ∧
      (∀ c cs, entryHeld s r = false → (rg s r).ev.groups = [] → (rg s r).ev.entry = c :: cs →
        let s1 := modEv (markTag s c.tag 2) r (fun x => { x with entry := cs })
        (indexOf s r c = none → ∀ chk, exec (.expandCopy r chk) s = .next (after (settleTag (evCount s1 r 1 1) r c.tag))) ∧
        (∀ i, indexOf s r c = some i →
          let ix := tget 0 (rg s r).plan.index i
          exec (.expandCopy r .good) s = .next (after (settleTag (expandRun s1 r c (indexFirst ix) (indexCount ix)) r c.tag)) ∧
          exec (.expandCopy r .index) s =
            .next (after (settleTag (regionFault s1 r 8 ((1 : W32) <<< 31 ||| BitVec.ofNat 32 i)) r c.tag)) ∧
          (∀ j, j < indexCount ix → exec (.expandCopy r (.entry j)) s = .next (after (settleTag
            (regionFault (expandRun s1 r c (indexFirst ix) j) r 8 (BitVec.ofNat 32 ((indexFirst ix + j) % 131072))) r c.tag))))) ∧
      (entryHeld s r = true → ∀ chk, exec (.expandCopy r chk) s = .next s) ∧
      (inRun s r = true → frozen s (halfOf r) = false →
        (∀ g gs, (rg s r).ev.groups = g :: gs →
          let s1 := entryServed (modEv s r (fun x => { x with groups := gs })) r g.block
          (groupFits s r g.block g.rows.length = true → (∀ k, candOf s r g.block k = none) → xbarTurn s r g.block = some 5) ∧
          (xbarTurn s r g.block ≠ some 5 → exec (.groupToQueue r) s = .next s) ∧
          (xbarTurn s r g.block = some 5 → fenced s r g.block = false →
            exec (.groupToQueue r) s = .next (after (modBlk (markRows s1 g.rows) r g.block (fun b => { b with evq := b.evq ++ g.rows }))) ∧
            (blk s r g.block).released = [] ∧ (blk s r g.block).evq.length + g.rows.length ≤ 256) ∧
          (xbarTurn s r g.block = some 5 → fenced s r g.block = true →
            exec (.groupToQueue r) s = .next (after (settleTag (evCount s1 r 3 g.rows.length) r ((g.rows.head?).bind (·.tag)))))) ∧
        (∀ b, (blk s r b).released ≠ [] → (blk s r b).evq.length < 256 →
          exec (.ringRowsToQueue r b) s = .next (after (modBlk (markRows s ((blk s r b).released.take (256 - (blk s r b).evq.length))) r b (fun x =>
            { x with evq := x.evq ++ x.released.take (256 - x.evq.length), released := x.released.drop (256 - x.evq.length) }))))))

/-- O35. A step close drains, sweeps and then advances the epoch (derived; R176, R178, R187, R218, R219, R221, R222, R389, R452). -/
def Obligations.StepCloseAdvancesTheEpoch : Prop :=
  ∀ (s : State) (r : Region) (c : Close),
    stepOpen s r = true →
    (closeAt s r .entry = some c →
      ((rg s r).ev.stepsSeen.contains c.uid = true → (rg s r).ev.arriving = [] → preNear s r c.uid = false →
        exec (.stepEntryComplete r) s = .next (after (moveClose s r .drain))) ∧
      ((rg s r).ev.stepsSeen.contains c.uid = false ∨ (rg s r).ev.arriving ≠ [] ∨ preNear s r c.uid = true →
        exec (.stepEntryComplete r) s = .next s)) ∧
    (closeAt s r .drain = some c →
      (queuesEmpty (rg s r) = true → ∃ t, exec (.stepDrained r none) s = .next t ∧ kept s t ∧
        closeAt t r .sweep = some { c with at_ := .sweep } ∧ ∀ b, (blk t r b).sweep = (sweepFor s r b).1) ∧
      (queuesEmpty (rg s r) = true → ∀ b, readsFirst s r b = true → ∃ t, exec (.stepDrained r (some b)) s = .next t ∧ kept s t ∧
        (blk t r b).sweep = none ∧ (blk t r b).halted = true ∧ (halfOf r = 0 → t.frz.asserted = true) ∧
        (halfOf r = 1 → t.frz.east.length = s.frz.east.length + 1)) ∧
      (queuesEmpty (rg s r) = false → ∀ bad, exec (.stepDrained r bad) s = .next s)) ∧
    (closeAt s r .sweep = some c → sweeping (rg s r) = true → exec (.stepSweepsDone r) s = .next s) ∧
    (closeAt s r .sweep = some c → sweeping (rg s r) = false →
      let u := advanceEpoch (sweepLength s r) r c
      exec (.stepSweepsDone r) s = .next (afterSync (retryRegion (countR (reportSweep u r c) r 0x2F 0 1) r)) ∧
      (let g := rg u r
       g.ev.epoch = (rg s r).ev.epoch + 1 ∧ g.ev.stepTime = s.aon.sundial ∧ g.ev.closes = (rg s r).ev.closes.drop 1 ∧
       (g.ev.epoch = 0 → g.ev.epochWrap = true) ∧
       ∀ b, let bin := fin 16 ((rg s r).ev.epoch + 1).toNat
         let rel := (blk s r b).released ++ vget (blk s r b).ring bin
         let room := 256 - (blk s r b).evq.length
         (vget g.blocks b).evq = (blk s r b).evq ++ rel.take room ∧ (vget g.blocks b).released = rel.drop room ∧
         vget (vget g.blocks b).ring bin = [] ∧ (∀ k, k ≠ bin → vget (vget g.blocks b).ring k = vget (blk s r b).ring k) ∧
         (vget g.blocks b).sweep = none))

/-- O36. Output events leave in order; a model switch holds the entry until its work ends (derived; R39, R76, R103, R105, R107, R153, R185, R235, R451). -/
def Obligations.EgressAndModelSwitch : Prop :=
  (∀ (s : State) (r : Region) (b : Blk) (w : W64) (ws : List W64),
    clocked s (halfOf r) = true → frozen s (halfOf r) = false → (blk s r b).emits = w :: ws →
    let n := egressOf s r b
    let h := halfOf r
    let j : Fin 256 := fin 256 (32 * r.val + b.val)
    let s1 := modBlk (emitServed s h n j) r b (fun x => { x with emits := ws })
    (emitTurn s h n j = false → ∀ bad, exec (.emitBufferPass r b bad) s = .next s) ∧
    (emitTurn s h n j = true →
      (evHalf n = h → 16 ≤ (vget s.egress n).buf.length → ∀ bad, exec (.emitBufferPass r b bad) s = .next s) ∧
      (evHalf n = h → (vget s.egress n).buf.length < 16 →
        exec (.emitBufferPass r b true) s = .next (after (halfFault s h 0x10 0 (BitVec.ofNat 32 (5 + n.val % 4)))) ∧
        exec (.emitBufferPass r b false) s = .next (after (toEgress s1 n w)) ∧
        (vget (toEgress s1 n w).egress n).buf = (vget s.egress n).buf ++ [w] ∧ (vget (toEgress s1 n w).egress n).presented = true) ∧
      (evHalf n ≠ h →
        exec (.emitBufferPass r b true) s = .next (after (halfFault s h 0x10 0 9)) ∧
        exec (.emitBufferPass r b false) s = .next (after (sendPkt s1 h (outputPkt r n w)))))) ∧
  (∀ (s : State) (n : EvPort) (w : W64) (ws : List W64),
    clocked s (evHalf n) = true → (vget s.egress n).buf = w :: ws →
    ((vget s.egress n).presented = false → exec (.egressEventTaken n) s = .next s) ∧
    ((vget s.egress n).presented = true → ∃ t, exec (.egressEventTaken n) s = .next t ∧ kept s t ∧
      (vget t.egress n).buf = ws ∧ (vget t.egress n).presented = (!ws.isEmpty && !frozen s (evHalf n)) ∧
      (∀ k, k ≠ n → vget t.egress k = vget s.egress k) ∧ t.regions = s.regions)) ∧
  (∀ (s : State) (port : RegPort) (r : Region) (d : W32),
    let k : BitVec 6 := d.extractLsb' 0 6
    let put := fun (f : Model → Model) => exec (.modelSwitch port r d) s = .next (after (ack (modRg s r (fun g => { g with model := f g.model })) port))
    (portReady s port = true → loadingR s r = true → exec (.modelSwitch port r d) s = .next (after (busErr s port))) ∧
    (portReady s port = true → loadingR s r = false →
      ((descOf (rg s r) k).valid = false → put (fun m => { m with invalid := true })) ∧
      ((descOf (rg s r) k).valid = true → inRun s r = true →
        ((rg s r).model.switching = false → put (fun m => { m with sel := k, target := k, switching := true, hold := true })) ∧
        ((rg s r).model.switching = true → put (fun m => { m with sel := k, again := true }))) ∧
      ((descOf (rg s r) k).valid = true → inRun s r = false → exec (.modelSwitch port r d) s =
        .next (after (ack (modRg s r (fun g => resort { g with model :=
          { g.model with sel := k, target := k, active := k, tt := (descOf g k).tt, ttPending := false, switching := false, hold := false,
                         again := false } })) port)))) ∧
    (stepOpen s r = true → (rg s r).model.switching = true → (rg s r).model.hold = true → (rg s r).ev.groups = [] →
        sweeping (rg s r) = false →
      let m := (rg s r).model
      let m' := (completeSwitch (rg s r)).model
      exec (.modelSwitchComplete r) s = .next (after (modRg s r completeSwitch)) ∧ m'.active = m.target ∧
      ((descOf (rg s r) m.target).tt ≠ m.tt → m'.ttPending = true ∧ m'.hold = false ∧ m'.switching = true ∧ m'.tt = m.tt) ∧
      ((descOf (rg s r) m.target).tt = m.tt → m'.ttPending = false ∧ m'.hold = m.again ∧ m'.switching = m.again ∧ m'.target = m.sel)))

/-- O37. The Trellis registers read and replace one word of a running region (derived; R44, R46, R170, R180, R181, R183, R184, R401). -/
def Obligations.TrellisRegisterAccesses : Prop :=
  ∀ (s : State) (port : RegPort) (r : Region) (d : W64) (x : W32),
    portReady s port = true →
    let e := (rg s r).ev
    let k := e.trEntry.toNat
    let sw := wideWrite s port d
    let sr := wideRead s port
    (trRefused s r false = true → ∀ bad, exec (.trellisDataRead port r bad) s = .next (after (busErr sr port))) ∧
    (trRefused s r true = true → exec (.trellisDataWrite port r d) s = .next (after (busErr sw port)) ∧
      exec (.trellisDelayWrite port r x) s = .next (after (busErr s port))) ∧
    (e.trSpace = false → (evenParity d && entryFieldsOk d) = false → exec (.trellisDataWrite port r d) s = .next (after (busErr sw port))) ∧
    (e.trSpace = true → d.extractLsb' 32 32 ≠ 0 → exec (.trellisDataWrite port r d) s = .next (after (busErr sw port))) ∧
    (e.trSpace = true → exec (.trellisDelayWrite port r x) s = .next (after (busErr s port))) ∧
    (trRefused s r false = false → inRun s r = false → ∀ bad,
      exec (.trellisDataRead port r bad) s = .next (after (wakeReq (holdAcc sr port (.trRead r bad)) r))) ∧
    (trRefused s r true = false → inRun s r = false →
      (e.trSpace = false → evenParity d = true → entryFieldsOk d = true →
        exec (.trellisDataWrite port r d) s = .next (after (wakeReq (holdAcc sw port (.trWrite r d)) r)) ∧
        exec (.trellisDelayWrite port r x) s = .next (after (wakeReq (holdAcc s port (.trDelay r x)) r))) ∧
      (e.trSpace = true → d.extractLsb' 32 32 = 0 →
        exec (.trellisDataWrite port r d) s = .next (after (wakeReq (holdAcc sw port (.trWrite r d)) r)))) ∧
    (trRefused s r false = false → inRun s r = true →
      exec (.trellisDataRead port r false) s = .next (after (reply (modEv (wakeReq sr r) r trStep) port
        (if e.trSpace then (tget 0 (rg s r).plan.index k).setWidth 64 else tget 0 (rg s r).plan.entry k))) ∧
      exec (.trellisDataRead port r true) s = .next (after (busErr (regionFault (wakeReq sr r) r 8
        ((b1 e.trSpace).setWidth 32 <<< 31 ||| e.trEntry.setWidth 32)) port))) ∧
    (trRefused s r true = false → inRun s r = true →
      (e.trSpace = false → evenParity d = true → entryFieldsOk d = true →
        exec (.trellisDataWrite port r d) s = .next (after (ack (modEv (modRg (wakeReq sw r) r (fun g =>
          { g with plan := { g.plan with entry := tset 0 g.plan.entry k d } })) r trStep) port))) ∧
      (e.trSpace = true → d.extractLsb' 32 32 = 0 →
        exec (.trellisDataWrite port r d) s = .next (after (ack (modEv (modRg (wakeReq sw r) r (fun g =>
          { g with plan := { g.plan with index := tset 0 g.plan.index k (lo32 d) } })) r trStep) port))) ∧
      (e.trSpace = false →
        exec (.trellisDelayWrite port r x) s = .next (after (ack (modEv (modRg (wakeReq s r) r (fun g =>
          { g with plan := { g.plan with entry :=
            (tset 0 g.plan.entry k (withDelay (tget 0 g.plan.entry k) (x.extractLsb' 0 4))) } })) r trStep) port)))) ∧
    (∀ (w : W64) (v : BitVec 4), evenParity (withDelay w v) = true ∧ (withDelay w v).extractLsb' 25 4 = v ∧
      (withDelay w v).extractLsb' 0 25 = w.extractLsb' 0 25 ∧ (withDelay w v).extractLsb' 29 34 = w.extractLsb' 29 34) ∧
    (port ≠ .cp → (rport sw port).hold = d.extractLsb' 32 32 ∧ (rport sr port).shape = .lower)

/-- O38. The arithmetic sweep instructions write RD in every lane (derived; R223, R229, R230, R231). -/
def Obligations.SweepArithmeticWritesRd : Prop :=
  ∀ (s : State) (r : Region) (b : Blk) (w : Sweep) (i : Nat) (x : W32),
    atInstr s r b = some (w, i, x) →
    let c : Int := (constOf (blk s r b) (sweepCidx x)).toInt
    let cw := constOf (blk s r b) (sweepCidx x)
    let a := fun k => (laneReg w k (sweepRa x)).toInt
    let y := fun k => (laneReg w k (sweepRb x)).toInt
    let n := ((sweepX x).extractLsb' 0 5).toNat
    (sweepOp i x = .ldi → ∃ t, exec (.ldi r b .good) s = .next t ∧ aluDone s t r b w x (fun _ => (x.extractLsb' 0 16).toInt)) ∧
    (sweepOp i x = .add → ∃ t, exec (.sweepAdd r b .good) s = .next t ∧ aluDone s t r b w x (fun k => a k + y k)) ∧
    (sweepOp i x = .sub → ∃ t, exec (.sweepSub r b .good) s = .next t ∧ aluDone s t r b w x (fun k => a k - y k)) ∧
    (sweepOp i x = .addc → ∃ t, exec (.addc r b .good) s = .next t ∧ aluDone s t r b w x (fun k => a k + c)) ∧
    (sweepOp i x = .mulc → ∃ t, exec (.mulc r b .good) s = .next t ∧ aluDone s t r b w x (fun k => (a k * c + 2 ^ 15) / 2 ^ 16)) ∧
    (sweepOp i x = .shri → ∃ t, exec (.shri r b .good) s = .next t ∧
      aluDone s t r b w x (fun k => if n = 0 then a k else (a k + 2 ^ (n - 1)) / 2 ^ n)) ∧
    (sweepOp i x = .max → ∃ t, exec (.max r b .good) s = .next t ∧ aluDone s t r b w x (fun k => max (a k) (y k))) ∧
    (sweepOp i x = .min → ∃ t, exec (.min r b .good) s = .next t ∧ aluDone s t r b w x (fun k => min (a k) (y k))) ∧
    (sweepOp i x = .sel → ∃ t, exec (.sel r b .good) s = .next t ∧
      aluDone s t r b w x (fun k => if laneFlag w k then a k else y k)) ∧
    (sweepOp i x = .rst → ∃ t, exec (.rst r b .good) s = .next t ∧
      aluDone s t r b w x (fun k => if laneFlag w k then cw.toInt else (laneReg w k (sweepRd x)).toInt))

/-- O39. TRC decays the trace in the RD pair and adds according to MODE (stated; R238). -/
def Obligations.TrcUpdatesTheTracePair : Prop :=
  ∀ (s : State) (r : Region) (b : Blk) (w : Sweep) (i : Nat) (x : W32),
    atInstr s r b = some (w, i, x) → sweepOp i x = .trc →
    let rd := sweepRd x / 2 * 2
    let mode : BitVec 2 := (sweepX x).extractLsb' 3 2
    let table : BitVec 3 := (sweepX x).extractLsb' 0 3
    let old := fun k => (laneReg w k rd).toInt
    let age := fun k => min (w.epoch - laneReg w k (rd + 1)).toNat 255
    let f := fun k => (factorOf s r (256 * table.toNat + age k)).toNat
    let decayed := fun k => clamp32 ((old k * (f k : Int) + 2 ^ 14) / 2 ^ 15)
    let value := fun k =>
      if mode = 0 ∨ (mode = 1 ∧ laneFlag w k = true) then clamp32 ((decayed k).toInt + (laneReg w k (sweepRa x)).toInt) else decayed k
    ∃ t, exec (.trc r b .good) s = .next t ∧ kept s t ∧
      sweptTo s t r b w (fun k j => if j = rd + 1 then w.epoch else if j = rd then value k else laneReg w k j) (laneFlag w)

/-- O40. RANGE, group start, END, CMP, EMIT and the invalid instruction (derived; R220, R222, R223, R226, R230, R233, R234, R235, R406, R452). -/
def Obligations.SweepControlAndEmission : Prop :=
  ∀ (s : State) (r : Region) (b : Blk) (w : Sweep),
    (sweepOpen s r b = true → (blk s r b).sweep = some w → w.ended = false →
      (w.gcount = 0 → exec (.range r b .good) s = .next (after (modSweep s r b (fun w =>
        { w with gcount := (sweepX (storeWord (blk s r b) w.prog 0)).toNat % 128 + 1 })))) ∧
      (0 < w.gcount → w.pc = none → mayAct s r Config.groupAmp.val = false →
        exec (.sweepGroupStart r b .good) s = .next (after (limitAct s r))) ∧
      (0 < w.gcount → w.pc = none → exec (.sweepGroupStart r b .instr) s = .next (after (storeFault s r b 0 (32 * w.prog.val)))) ∧
      (0 < w.gcount → w.pc = none → mayAct s r Config.groupAmp.val = true → ∃ t, exec (.sweepGroupStart r b .good) s = .next t ∧ kept s t ∧
        (blk t r b).sweep = some { w with pc := some 1, regs := Vector.replicate 512 0, flags := 0 }) ∧
      (w.gcount = 0 → exec (.range r b .instr) s = .next (after (storeFault s r b 0 (32 * w.prog.val))))) ∧
    (∀ (i : Nat) (x : W32), atInstr s r b = some (w, i, x) →
      (sweepOp i x = .endProg → exec (.endProg r b .good) s = .next (after (modSweep s r b (fun _ =>
        { w with pc := none, group := w.group + 1, rows := [], ended := decide (w.gcount ≤ w.group + 1) })))) ∧
      (sweepOp i x = .invalid → ∃ t, exec (.invalidInstruction r b .good) s = .next t ∧ kept s t ∧ (rg t r).sweep.badInstr = true ∧
        (blk t r b).sweep = some { w with pc := none, group := w.group + 1, rows := [], ended := decide (w.gcount ≤ w.group + 1) }) ∧
      (sweepOp i x = .cmp →
        let cond := ((sweepX x).extractLsb' 1 2).toNat
        let comb := ((sweepX x).extractLsb' 3 2).toNat
        let a := fun k => (laneReg w k (sweepRa x)).toInt
        let c := fun k => if (sweepX x).getLsbD 0 then (constOf (blk s r b) (sweepCidx x)).toInt else (laneReg w k (sweepRb x)).toInt
        let hit := fun k => if cond = 0 then decide (c k ≤ a k) else if cond = 1 then decide (c k < a k)
          else if cond = 2 then decide (a k = c k) else decide (a k < c k)
        ∃ t, exec (.cmp r b .good) s = .next t ∧ kept s t ∧ sweptTo s t r b w (laneReg w)
          (fun k => if comb = 0 then hit k else if comb = 1 then laneFlag w k && hit k else laneFlag w k || hit k)) ∧
      (sweepOp i x = .emit →
        let es := emitWords (blk s r b) w x
        let on := (vget s.map.egress (fin 256 (32 * r.val + b.val))).getLsbD 7
        (on = true → (blk s r b).emits.length + es.length ≤ 64 → ∃ t, exec (.emit r b .good) s = .next t ∧ kept s t ∧
          (blk t r b).emits = (blk s r b).emits ++ es ∧ (rg t r).sweep.emitted = (rg s r).sweep.emitted + BitVec.ofNat 32 es.length ∧
          sweptTo s t r b w (laneReg w) (laneFlag w)) ∧
        (on = true → 64 < (blk s r b).emits.length + es.length → exec (.emit r b .good) s =
          .next (after (modRg s r (fun g => { g with sweep := { g.sweep with emitStall := true } })))) ∧
        (on = false → ∃ t, exec (.emit r b .good) s = .next t ∧ kept s t ∧ (blk t r b).emits = (blk s r b).emits ∧
          (rg t r).sweep.suppressed = (rg s r).sweep.suppressed + BitVec.ofNat 32 es.length)) ∧
      (∀ (chk : SweepChk) (u : State), ∀ c ∈ [(Instr.endProg r b chk, SweepOp.endProg), (Instr.invalidInstruction r b chk, .invalid),
          (Instr.lds r b chk, .lds), (Instr.sts r b chk, .sts), (Instr.ldb r b chk, .ldb), (Instr.stb r b chk, .stb),
          (Instr.ldi r b chk, .ldi), (Instr.sweepAdd r b chk, .add), (Instr.sweepSub r b chk, .sub), (Instr.addc r b chk, .addc),
          (Instr.mulc r b chk, .mulc), (Instr.shri r b chk, .shri), (Instr.max r b chk, .max), (Instr.min r b chk, .min),
          (Instr.cmp r b chk, .cmp), (Instr.sel r b chk, .sel), (Instr.rst r b chk, .rst), (Instr.emit r b chk, .emit),
          (Instr.trc r b chk, .trc)],
        sweepOp i x = c.2 → chkFault s r b w i c.2 x chk = some u → exec c.1 s = .next (after u)) ∧
      (i < 32 → ∀ op, chkFault s r b w i op x .instr = some (storeFault s r b 0 (32 * w.prog.val + i)))) ∧
    (∀ sp n, (blk (storeFault s r b sp n) r b).halted = true ∧ kept s (storeFault s r b sp n))

/-- O41. The sweep's loads and stores of state rows and basin accumulators (derived; R193, R199, R209, R225, R227, R230, R232, R412). -/
def Obligations.SweepLoadsAndStores : Prop :=
  ∀ (s : State) (r : Region) (b : Blk) (w : Sweep) (i : Nat) (x : W32),
    atInstr s r b = some (w, i, x) →
    let row := stateRow w x
    let rd := sweepRd x / 2 * 2
    let ra := sweepRa x / 2 * 2
    let n := fmtWidth (sweepFmt x)
    let j := basinAt w x
    (sweepOp i x = .lds → ∃ t, exec (.lds r b .good) s = .next t ∧ kept s t ∧
      sweptTo s t r b w (fun k q => if q = rd then wordOf 32 (tgets 0 s.mem (stateAddr r b row k) 4)
        else if q = rd + 1 then wordOf 32 (tgets 0 s.mem (stateAddr r b row k + 4) 4) else laneReg w k q) (laneFlag w) ∧
      rowHeld (blk t r b) row = true) ∧
    (sweepOp i x = .sts → ∃ t, exec (.sts r b .good) s = .next t ∧ t.basin = s.basin ∧ sweptTo s t r b w (laneReg w) (laneFlag w) ∧
      rowHeld (blk t r b) row = false ∧
      (canWrite s = true → ∀ k < 64, wordOf 32 (tgets 0 t.mem (stateAddr r b row k) 4) = laneReg w k ra ∧
        wordOf 32 (tgets 0 t.mem (stateAddr r b row k + 4) 4) = laneReg w k (ra + 1)) ∧
      (∀ a, (∀ c : Fin 8, a < rowAddr r b c row ∨ rowAddr r b c row + 64 ≤ a) → memByte t a = memByte s a)) ∧
    (sweepOp i x = .ldb → ∃ t, exec (.ldb r b .good) s = .next t ∧ t.mem = s.mem ∧
      sweptTo s t r b w (fun k q => if q = sweepRd x then
          (if sweepFmt x = 0 then wordOf 32 (basinGet s r b (j + 4 * k) 4)
           else if sweepFmt x = 1 then (wordOf 16 (basinGet s r b (j + 2 * k) 2)).signExtend 32
           else (ldbValue 2 (sweepFscale x) (basinGet s r b (j + 4 * k) 4)).1) else laneReg w k q) (laneFlag w) ∧
      ((sweepX x).getLsbD 9 = false → t.basin = s.basin) ∧
      ((sweepX x).getLsbD 9 = true → canWrite s = true →
        (∀ q, j ≤ q → q < j + 64 * n → basinByte t r b q = 0) ∧
        ∀ a, a < basinAddr r b + j ∨ basinAddr r b + j + 64 * n ≤ a → tget 0 t.basin a = tget 0 s.basin a)) ∧
    (sweepOp i x = .stb → ∃ t, exec (.stb r b .good) s = .next t ∧ t.mem = s.mem ∧ sweptTo s t r b w (laneReg w) (laneFlag w) ∧
      (canWrite s = true → ∀ k < 64, basinGet t r b (j + n * k) n = (stbValue (sweepFmt x) (sweepFscale x) (laneReg w k (sweepRa x))).1) ∧
      ∀ a, a < basinAddr r b + j ∨ basinAddr r b + j + 64 * n ≤ a → tget 0 t.basin a = tget 0 s.basin a)

/-- O42. A row-event accumulates into its basin segments and retires, is replayed, or stops the block (derived; R141, R191, R199, R201, R204, R205, R206, R208, R406, R451, R452). -/
def Obligations.RowEventAccumulatesIntoItsSegments : Prop :=
  ∀ (s : State) (r : Region) (b : Blk) (x : RowEv) (xs : List RowEv) (used : Nat),
    (frozen s (halfOf r) = true ∨ (blk s r b).halted = true ∨ (blk s r b).evq = [] ∨ (∀ n, (blk s r b).grant ≠ some (.event, n)) →
      ∀ chk, exec (.rowEventIssue r b chk) s = .next s) ∧
    (pathOpen s r = true → frozen s (halfOf r) = false → (blk s r b).halted = false → (blk s r b).grant = some (.event, used) →
        used < burstOf (rg s r) .event → (blk s r b).evIssued = false → (blk s r b).evq = x :: xs →
      (mayAct s r Config.rowAmp.val = false → ∀ chk, exec (.rowEventIssue r b chk) s = .next (after (limitAct s r))) ∧
      (mayAct s r Config.rowAmp.val = true →
      (∃ t, exec (.rowEventIssue r b .good) s = .next t ∧ t.mem = s.mem ∧ t.aon = s.aon ∧ (blk t r b).evq = xs ∧
        (canWrite s = true → t.basin = tputs 0 s.basin (basinAddr r b + 1024 * firstSeg x) (rowResult s r b x).1) ∧
        (canWrite s = false → t.basin = s.basin) ∧ t.frz = s.frz ∧ t.flt = s.flt) ∧
      (x.tried = false → ∃ t, exec (.rowEventIssue r b .residue) s = .next t ∧ kept s t ∧ (blk t r b).evq = { x with tried := true } :: xs ∧
        t.frz = s.frz ∧ (rg t r).lanes.replayed = true ∧ (rg t r).lanes.replays = (rg s r).lanes.replays + 1) ∧
      (∀ c, (c = .residue ∧ x.tried = true) ∨ (∃ cell, c = .arrayParity cell) ∨ (∃ d, c = .basinParity d ∧ wordInRow x d = true) →
        ∃ t, exec (.rowEventIssue r b c) s = .next t ∧ kept s t ∧ (blk t r b).evq = x :: xs ∧ (blk t r b).halted = true ∧
          (halfOf r = 0 → t.frz.asserted = true))))

/-- O43. The basin registers and the sweep store register (derived; R46, R208, R210, R211, R215, R216, R217, R222, R246). -/
def Obligations.BasinAndSweepStoreRegisters : Prop :=
  ∀ (s : State) (port : RegPort) (r : Region) (m : W32) (d : W64),
    portReady s port = true →
    let l := (rg s r).lanes
    let sw := wideWrite s port d
    let sr := wideRead s port
    (loadingR s r = true ∨ frozen s (halfOf r) = true →
      exec (.basinClear port r m) s = .next (after (busErr s port)) ∧
      exec (.basinDataWrite port r d) s = .next (after (busErr sw port))) ∧
    (loadingR s r = true ∨ fenced s r l.block = true →
      exec (.basinDataWrite port r d) s = .next (after (busErr sw port)) ∧
      ∀ bad, exec (.basinDataRead port r bad) s = .next (after (busErr sr port))) ∧
    (loadingR s r = false → frozen s (halfOf r) = false →
      (inRun s r = false →
        exec (.basinClear port r m) s = .next (after (waitWake s port r (.basinClr r m))) ∧
        (fenced s r l.block = false → exec (.basinDataWrite port r d) s = .next (after (waitWake sw port r (.basinWr r d))))) ∧
      (inRun s r = true → closing s r = true →
        exec (.basinClear port r m) s = .next (after (holdAcc s port (.basinClr r m))) ∧
        (fenced s r l.block = false → exec (.basinDataWrite port r d) s = .next (after (holdAcc sw port (.basinWr r d))))) ∧
      (inRun s r = true → closing s r = false →
        (∃ t, exec (.basinClear port r m) s = .next t ∧ t.mem = s.mem ∧
          (canWrite s = true → ∀ (b : Blk) (j : Nat), j < 16384 → basinByte t r b j =
            if bit32 l.clrBlk b && !fenced s r b && m.getLsbD (j / 1024) then 0 else basinByte s r b j) ∧
          (canWrite s = false → t.basin = s.basin) ∧
          ∀ q, q ≠ r → ∀ (b : Blk) (j : Nat), j < 16384 → basinByte t q b j = basinByte s q b j) ∧
        (fenced s r l.block = false → exec (.basinDataWrite port r d) s =
          .next (after (ack (basinStep (basinPut (wakeReq sw r) r l.block (8 * l.word.toNat) (bytesOf d 8)) r) port))))) ∧
    (loadingR s r = false → fenced s r l.block = false →
      (inRun s r = false → ∀ bad, exec (.basinDataRead port r bad) s = .next (after (waitWake sr port r (.basinRd r bad)))) ∧
      (inRun s r = true → closing s r = true →
        ∀ bad, exec (.basinDataRead port r bad) s = .next (after (holdAcc sr port (.basinRd r bad)))) ∧
      (inRun s r = true → closing s r = false →
        exec (.basinDataRead port r false) s =
          .next (after (reply (basinStep (wakeReq sr r) r) port (wordOf 64 (basinGet s r l.block (8 * l.word.toNat) 8)))) ∧
        exec (.basinDataRead port r true) s =
          .next (after (busErr (blockFault (wakeReq sr r) r l.block 2 1 0 (l.word.setWidth 32)) port)))) ∧
    (let w := (rg s r).sweep
     let refused := loadingR s r || !planned s r || (w.space != 2 && fenced s r w.block) || decide (sweepWords w.space ≤ w.word.toNat)
     (refused = true → ∀ bad, exec (.sweepDataRead port r bad) s = .next (after (busErr s port))) ∧
     (refused = false → inRun s r = false → ∀ bad,
       exec (.sweepDataRead port r bad) s = .next (after (waitWake s port r (.sweepRd r bad)))) ∧
     (refused = false → inRun s r = true →
      exec (.sweepDataRead port r false) s = .next (after (reply (sweepStep (wakeReq s r) r) port ((sweepStored s r).setWidth 64))) ∧
      exec (.sweepDataRead port r true) s =
        .next (after (busErr (blockFault (wakeReq s r) r w.block 4 1 0 ((w.space.setWidth 32) <<< 16 ||| w.word.setWidth 32)) port))))

/-- O44. Doorbells, aborts and slot writes of streams, and the echo cache registers (derived; R15, R24, R249, R250, R251, R255, R256, R257, R268, R274, R276, R285). -/
def Obligations.StreamBellsAbortsSlotsAndEcho : Prop :=
  ∀ (s : State) (port : RegPort) (n : BitVec 12) (j : Fin 8) (d : W64) (a b : Bool) (k : RPort),
    let pair : Byte := (slotWord s n 0).extractLsb' 16 8
    let busy := (stream s n).st = .queued ∨ (stream s n).st = .running ∨ (stream s n).st = .halted
    let out := fun (t : Tile) => t.ctx == n && (rp s 0).outs.any (fun o => o.who.map Prod.fst == some t.uid)
    let stored := fun (t : State) (w : W64) => kept s t ∧ t.regions = s.regions ∧
      ∀ i, tget 0 t.rill.slots i = if i = 8 * n.toNat + j.val then w else tget 0 s.rill.slots i
    (portReady s port = true → isMgmt port = true →
      ∀ i ∈ [Instr.ringBell port n, Instr.streamAbort port n, Instr.streamSlotWrite port n j d],
        exec i s = .next (after (busErr s port))) ∧
    (portReady s .cp = true →
      (headOk s n = false ∨ closed s 0 = true → exec (.ringBell .cp n) s = .next (after (busErr s .cp))) ∧
      (headOk s n = true → closed s 0 = false → streamPort s n = 0 →
        ((stream s n).st = .queued → exec (.ringBell .cp n) s = .next (afterSync (ack s .cp))) ∧
        ((stream s n).st = .running →
          exec (.ringBell .cp n) s = .next (afterSync (ack (modStream s n (fun x => { x with waitSlot := false })) .cp))) ∧
        ((stream s n).st = .halted → exec (.ringBell .cp n) s = .next (afterSync (ack (modStream
          (modRp s 0 (fun p => { p with tiles := resumeTiles n false p.tiles, outs := oldOuts p n })) n
          (fun x => { x with st := .running, xkey := none })) .cp))) ∧
        ((stream s n).st = .idle ∨ (stream s n).st = .done ∨ (stream s n).st = .aborted →
          exec (.ringBell .cp n) s = .next (afterSync (ack (modStream s n (fun x =>
            { stream0 with st := .queued, xaddr := x.xaddr, posSlot := headFirst s n, next := some (headFirst s n) })) .cp)))) ∧
      (headOk s n = true → closed s 0 = false → streamPort s n = 1 → exec (.ringBell .cp n) s = .next (afterSync (ack (sendCtl
        (if (slotWord s n 0).getLsbD 8 then sendCtl s 0 (.pairValue pair (pairVal s pair) none) else s) 0 (.bell n false)) .cp))) ∧
      (slotKind s n ≠ 1 → exec (.streamAbort .cp n) s = .next (afterSync (ack s .cp))) ∧
      (slotKind s n = 1 → streamPort s n = 1 → exec (.streamAbort .cp n) s = .next (afterSync (ack (sendCtl s 0 (.bell n true)) .cp))) ∧
      (slotKind s n = 1 → streamPort s n = 0 → frozen s 0 = false → busy →
        ((rp s 0).tiles.any out = false → ∃ t, exec (.streamAbort .cp n) s = .next t ∧ kept s t ∧ (stream t n).st = .aborted ∧
          (rp t 0).tiles.all (fun t => t.ctx != n) = true) ∧
        ((rp s 0).tiles.any out = true → ∃ t, exec (.streamAbort .cp n) s = .next t ∧ kept s t ∧ (stream t n).aborting = true ∧
          (stream t n).st = (stream s n).st)) ∧
      (slotKind s n ≠ 1 ∨ (j.val < 3 ∧ headBusy s n = false) → ∃ t, exec (.streamSlotWrite .cp n j d) s = .next t ∧
        stored t (if j.val = 0 ∧ d.extractLsb' 0 2 = 3 then (d &&& ~~~3) ||| (slotWord s n 0 &&& 3) else d)) ∧
      (slotKind s n = 1 → 3 ≤ j.val → (j.val = 3 → d.getLsbD 0 = false ∧ d.getLsbD 1 = false ∧ d.getLsbD 35 = false) →
        ∃ t, exec (.streamSlotWrite .cp n j d) s = .next t ∧ stored t ((slotWord s n j.val &&& headBits j.val) ||| (d &&& ~~~headBits j.val))) ∧
      (headBusy s n = true → j.val < 3 → exec (.streamSlotWrite .cp n j d) s = .next (after (busErr s .cp)))) ∧
    (portReady s port = true →
      ((a = false ∨ (rp s 0).invBusy = false) → (b = false ∨ (rp s 1).invBusy = false) →
        ∃ t, exec (.echoInvalidate port a b) s = .next t ∧ kept s t ∧
          (rp t 0).invBusy = (a || (rp s 0).invBusy) ∧ (rp t 1).invBusy = (b || (rp s 1).invBusy) ∧
          (a = true → (rp t 0).invLo = s.rill.invAddr ∧ (rp t 0).invLen = s.rill.invLen) ∧
          (b = true → (rp t 1).invLo = s.rill.invAddr ∧ (rp t 1).invLen = s.rill.invLen)) ∧
      ((a = true ∧ (rp s 0).invBusy = true) ∨ (b = true ∧ (rp s 1).invBusy = true) →
        exec (.echoInvalidate port a b) s = .next (after (busErr s port))) ∧
      (∃ t, exec (.echoEnableWrite port a b) s = .next t ∧ kept s t ∧ (rp t 0).echoEn = a ∧ (rp t 1).echoEn = b ∧
        (rp t 0).echo = (if a then (rp s 0).echo else []) ∧ (rp t 1).echo = (if b then (rp s 1).echo else []))) ∧
    (clocked s k = true → (rp s k).invBusy = true → exec (.echoInvalidateDone k) s = .next (after (modRp s k (fun p =>
      { p with invBusy := false, echo := p.echo.filter (fun e => !inRange p.invLo p.invLen e.addr) }))))

/-- O45. Rill admits, issues, takes responses, moves pieces and completes tiles (derived; R41, R42, R254, R258, R259, R262, R264, R265, R267, R271, R273, R451). -/
def Obligations.RillMovesTiles : Prop :=
  ∀ (s : State) (k : RPort) (ctx slot : BitVec 12) (t : Tile),
    clocked s k = true →
    let d := readDesc s slot
    (∀ l, closed s k = false → (rp s k).queue = ctx :: l →
      ((stream s ctx).next = none → exec (.admitDescriptor k) s = .next (after (popAdmit s k))) ∧
      ((stream s ctx).next = some slot →
        (slotKind s slot = 0 → exec (.admitDescriptor k) s =
          .next (after (modStream (popAdmit s k) ctx (fun x => { x with asked := false, waitSlot := true })))) ∧
        (slotKind s slot ≠ 0 → descGood s slot = false → exec (.admitDescriptor k) s =
          .next (after (halfFault (popAdmit s k) k 0x1B k.val (slot.setWidth 32 ||| (ctx.setWidth 32 <<< 16))))) ∧
        (descGood s slot = true → depHolds s ctx slot = false → exec (.admitDescriptor k) s =
          .next (afterSync (modStream (popAdmit s k) ctx (fun x => { x with asked := false })))) ∧
        (descGood s slot = true → depHolds s ctx slot = true → d.rows * d.rowBeats = 1 →
          (∀ w, wicketFor s (some k) = some w → exec (.admitDescriptor k) s = .next (afterSync (admitTile s k ctx slot (some w)))) ∧
          (wicketFor s (some k) = none → exec (.admitDescriptor k) s =
            if (wicketLine s).contains (some k) then .next s else .next (after (wicketWait s (some k))))) ∧
        (descGood s slot = true → depHolds s ctx slot = true → 1 < d.rows * d.rowBeats → exec (.admitDescriptor k) s =
          if staged (rp s k) + d.rows * d.rowBeats ≤ 4096 then .next (afterSync (admitTile s k ctx slot none)) else .next s))) ∧
    (∀ chk, frozen s k = false →
      let u := fetchWait s k
      let st := (pickStream u k (rp u k).rr (fun c => (streamIssue u k c).isSome)).bind
        (fun c => (streamIssue u k c).map (fun x => (c, x.1, x.2)))
      let ready := (freeTag (rp u k)).isSome && st.isSome
      let issued := fun (t : Tile) i tag next => exec (.rillIssue k chk) s = .next (after
        (if chk = .staging ∧ isStaged (t.beats.getD i .done) = true then halfFault u k 0x1C k.val (stagingDetail u t)
          else next (issueBeat u k t i tag (chk == .echo))))
      ((rp u k).wicketRun.val < 3 ∨ ready = false →
        (∀ a kd w, fetchReady u k = some ((a, kd), w) → ∃ v, exec (.rillIssue k chk) s = .next v ∧ kept s v ∧
          ⟨w, kd, false, none, a, true⟩ ∈ (rp v k).outs) ∧
        (∀ i, fetchReady u k = none → wicketIssue u k = some (t, i) → issued t i (t.wtag.getD 0) (fun x => wicketWon x k true ready))) ∧
      (∀ c i tag, freeTag (rp u k) = some tag → st = some (c, t, i) →
        ((rp u k).wicketRun.val = 3 ∨ (fetchReady u k = none ∧ wicketIssue u k = none)) →
        issued t i tag (fun x => wicketWon (modRp x k (fun p => { p with rr := if isBound x c then p.rr else c })) k false false))) ∧
    (∀ i tag,
      let a := t.ext.getD i 0
      let o : ROut := ⟨tag, .tile, t.drain, some (t.uid, i), a, false⟩
      (isStaged (t.beats.getD i .done) = true ∨ t.share = false ∨ (rp s k).echoEn = false → ∀ bad, o ∈ (rp (issueBeat s k t i tag bad) k).outs) ∧
      (isStaged (t.beats.getD i .done) = false → t.share = true → (rp s k).echoEn = true →
        (∀ b, echoHit (rp s k) a = some b → issueBeat s k t i tag false =
          countM (setBeat (modRp s k (fun p => echoUse p a)) k t.uid i (.staged b)) 0x50 k.val 1) ∧
        (echoHit (rp s k) a = none → (rp s k).outs.any (fun o => !o.write && o.addr == a) = true → issueBeat s k t i tag false =
          countM (setBeat s k t.uid i .merged) 0x52 k.val 1) ∧
        (echoHit (rp s k) a = none → (rp s k).outs.any (fun o => !o.write && o.addr == a) = false →
          { o with alloc := echoOpen (rp s k) a } ∈ (rp (issueBeat s k t i tag false) k).outs))) ∧
    (∀ g x,
      let v := fun (w : BitVec 1) (g : BitVec 11) => halfFault s k 0x19 k.val (w.setWidth 32 <<< 12 ||| g.setWidth 32)
      ((rp s k).outs.find? (fun o => o.tag == g && !o.write) = none → ∀ b, exec (.rillReadResponse k g b x) s = .next (after (v 0 g))) ∧
      ((rp s k).outs.find? (fun o => o.tag == g && o.write) = none → exec (.rillWriteResponse k g x) s = .next (after (v 1 g)))) ∧
    (∀ g o b x, (rp s k).outs.find? (fun o => o.tag == g && !o.write) = some o →
      let u := dropOut s k o
      (o.who.isNone = true → exec (.rillReadResponse k g b x) s = .next (afterSync (settleAll (mergedRead
        (if frozen s k = true ∨ o.alloc = false then dropWicket u (some g) else ghFetched (dropWicket u (some g)) o.kind b (x == 0)) k o b x) k))) ∧
      (o.who.isSome = true →
        (2 ≤ x.toNat → exec (.rillReadResponse k g b x) s = .next (after (settleAll (placeBeats (rillError u k o) k o .idle) k))) ∧
        (x.toNat < 2 → frozen s k = true → exec (.rillReadResponse k g b x) s = .next (after (settleAll (placeBeats u k o .idle) k))) ∧
        (frozen s k = false → exec (.rillReadResponse k g b 1) s = .next (afterSync (settleAll (xlateBeats u k o) k))) ∧
        (frozen s k = false → exec (.rillReadResponse k g b 0) s = .next (afterSync (settleAll (placeBeats
          (if o.alloc && echoOpen (rp s k) o.addr then modRp u k (fun p => echoPut p o.addr b) else u) k o (.staged b)) k))))) ∧
    (∀ g o x, (rp s k).outs.find? (fun o => o.tag == g && o.write) = some o →
      let u := dropOut s k o
      exec (.rillWriteResponse k g 0) s = .next (afterSync (settleAll (placeBeats u k o .done) k)) ∧
      (2 ≤ x.toNat → exec (.rillWriteResponse k g x) s = .next (after (settleAll (placeBeats (rillError u k o) k o .idle) k))) ∧
      (frozen s k = true → exec (.rillWriteResponse k g 1) s = .next (after (settleAll (placeBeats u k o .idle) k))) ∧
      (frozen s k = false → exec (.rillWriteResponse k g 1) s = .next (afterSync (settleAll (xlateBeats u k o) k)))) ∧
    (∀ run turn, frozen s k = false →
      let there := halfFault s k 0x10 0 (BitVec.ofNat 32 (pieceOutput k run))
      let back := halfFault s k 0x10 0 4
      (pickPiece s k (streamMoves s) (fillPiece s) = some (t, run, turn) →
        exec (.fillPieceWrite k .good) s = .next (after (movePiece (modRp s k turn) k t .write run)) ∧
        exec (.fillPieceWrite k .staging) s = .next (after (halfFault s k 0x1C k.val (stagingDetail s t))) ∧
        exec (.fillPieceWrite k .there) s = .next (after there) ∧ exec (.fillPieceWrite k .back) s = .next (after back)) ∧
      (pickPiece s k (streamLive s) (drainPiece s) = some (t, run, turn) →
        exec (.drainPieceRead k .good) s = .next (after (movePiece (modRp s k turn) k t .read run)) ∧
        exec (.drainPieceRead k .there) s = .next (after there) ∧ exec (.drainPieceRead k .back) s = .next (after back))) ∧
    (streamPort s ctx = k → frozen s k = false → streamMoves s ctx = true → ((rp s k).tiles.filter (fun t => t.ctx == ctx)).head? = some t →
      (t.beats.all (· == .done) = false → exec (.tileComplete ctx) s = .next s) ∧
      (t.beats.all (· == .done) = true → exec (.tileComplete ctx) s = .next (afterSync (completeTile s k ctx t)) ∧
        (stream (completeTile s k ctx t) ctx).tiles = (stream s ctx).tiles + 1 ∧
        (t.last = true → (stream (completeTile s k ctx t) ctx).st = .done) ∧
        (rp (completeTile s k ctx t) k).tiles = (rp s k).tiles.filter (fun x => x.uid != t.uid)))

/-- O46. What the Bandstand operations do to semaphores, pairs and barriers (derived; R287, R289, R290, R291, R302, R303, R306). -/
def Obligations.BandstandOperations : Prop :=
  ∀ (s : State) (arr : Arrival) (o : Option WOwner) (n : BitVec 12) (w : W64),
    let out := bstPerform s arr o n w
    let v := bstN w
    let pb := bstPb w
    let x := bar s (fin 64 pb.toNat)
    (∀ m, m ≠ n → semVal out.1 m = semVal s m) ∧
    (∀ m, m ≠ pb → pairVal out.1 m = pairVal s m) ∧
    (out.2 = .refused → out.1 = refuseOp s (bstOp w) ∧ semVal out.1 n = semVal s n ∧ pairVal out.1 pb = pairVal s pb ∧
      out.1.bst.errCount = s.bst.errCount + 1 ∧ out.1.bst.bars = s.bst.bars) ∧
    ((bstWordOk w = false ∨ 12 ≤ (bstOp w).toNat) → out.2 = .refused) ∧
    (bstWordOk w = true →
      (bstOp w = 0 → if (semVal s n).toNat + v.toNat < 2 ^ 31 then out.2 = .ok ∧ (semVal out.1 n).toNat = (semVal s n).toNat + v.toNat
        else out.2 = .refused) ∧
      (bstOp w = 1 → if v.toNat ≤ (semVal s n).toNat then out.2 = .ok ∧ (semVal out.1 n).toNat = (semVal s n).toNat - v.toNat
        else out.2 = .refused) ∧
      (bstOp w = 3 → out.2 = .ok ∧ (semVal out.1 n).toNat = v.toNat) ∧
      (bstOp w = 4 → if (pairD (pairVal s pb) + v).toNat < 2 ^ 31 then out.2 = .ok ∧
          pairP (pairVal out.1 pb) = pairP (pairVal s pb) + v ∧ pairC (pairVal out.1 pb) = pairC (pairVal s pb) else out.2 = .refused) ∧
      (bstOp w = 5 → if (pairD (pairVal s pb) - v).toNat < 2 ^ 31 then out.2 = .ok ∧
          pairC (pairVal out.1 pb) = pairC (pairVal s pb) + v ∧ pairP (pairVal out.1 pb) = pairP (pairVal s pb) else out.2 = .refused) ∧
      (∀ c ∈ [((2 : BitVec 4), (0 : BitVec 3), n), (6, 1, pb.setWidth 12), (7, 2, pb.setWidth 12), (10, 3, pb.setWidth 12), (11, 4, pb.setWidth 12)],
        bstOp w = c.1 →
          (watchMet s c.2.1 c.2.2 v = true → out = (s, .ok)) ∧
          (watchMet s c.2.1 c.2.2 v = false → ∀ own, o = some own →
            (∀ i, freeWatch s.bst = some i → out.2 = .waits ∧ ∃ y ∈ out.1.bst.watches, y.w = i ∧ y.owner = own ∧ y.n = v) ∧
            (freeWatch s.bst = none → out.2 = .full ∧ out.1.bst.watchFull = true))) ∧
      (bstOp w = 8 ∨ bstOp w = 9 → arriveErr x arr = true → out.2 = .refused) ∧
      (bstOp w = 8 → arriveErr x arr = false → out.2 = .ok ∧ (x.chip = false →
        if nodeM (countArr x arr) = true then (bar out.1 (fin 64 pb.toNat)).gen = x.gen + 1 else bar out.1 (fin 64 pb.toNat) = countArr x arr)))

/-- O47. Operation words come from a register write or a released engine signal (derived; R24, R46, R123, R288, R290, R291, R294, R295, R298, R310). -/
def Obligations.OperationWordsArePresented : Prop :=
  ∀ (s : State) (src : BstSrc) (n : BitVec 12) (w : W64) (p : EPort) (row : Instr),
    let rows := [(Instr.add src n w, (0 : BitVec 4)), (.sub src n w, 1), (.wait src n w, 2), (.set src n w, 3), (.padd src n w, 4),
      (.cadd src n w, 5), (.pwaitFull src n w, 6), (.pwaitSpace src n w, 7), (.arrive src n w, 8), (.sync src n w, 9), (.bwait src n w, 10),
      (.swait src n w, 11), (.bstReservedOp src n w, 12), (.bstReservedOp src n w, 13), (.bstReservedOp src n w, 14),
      (.bstReservedOp src n w, 15)]
    let waits := bstOp w ∈ [(2 : BitVec 4), 6, 7, 9, 10, 11]
    (∀ op, (row, op) ∈ rows → bstOp w ≠ op → op.toNat < 12 → exec row s = .next s) ∧
    ((row, bstOp w) ∈ rows →
      (∀ port, src = .reg port → portReady s port = true →
        let u := wideWrite s port w
        let x := bstDo u .ctrl none n w
        (frozen s 0 = true ∨ (waits ∧ bstWordOk w = true) → exec row s = .next (after (busErr u port))) ∧
        (frozen s 0 = false → (¬ waits ∨ bstWordOk w = false) →
          exec row s = .next (afterSync (if x.2 = .ok then ack x.1 port else busErr x.1 port)))) ∧
      (src = .engine p →
        (frozen s 0 = true ∨ readySignal s p = none → exec row s = .next s) ∧
        (∀ h, live s = true → frozen s 0 = false → readySignal s p = some h → h.bell = false → h.word = w → h.addr.extractLsb' 0 12 = n →
          let u := scopeCheck (modEp s p (fun x => { x with held := x.held.drop 1 })) p h
          let x := bstDo u (.engine p) (some (.engine p h.seq)) n w
          exec row s = .next (afterSync
            (if x.2 = .ok then answerSignal x.1 p h.seq okay
             else if x.2 = .waits then (if x.1.frz.stopping then freezeWatches x.1 else x.1)
             else answerSignal x.1 p h.seq refusedC))))) ∧
    (frozen s 0 = true ∨ readySignal s p = none → exec (.signalHoldRelease p) s = .next s) ∧
    (∀ h, live s = true → frozen s 0 = false → readySignal s p = some h →
      exec (.signalHoldRelease p) s = .next (afterSync (releaseSignal s p)))

/-- O48. Watches, control messages, pairs, barriers and the role (derived; R15, R46, R299, R300, R301, R305, R310, R315, R318, R320, R322, R323). -/
def Obligations.WatchesMessagesPairsAndBarriers : Prop :=
  ∀ (s : State) (port : RegPort) (d : W64) (m : W32) (ck : BitVec 16) (pn : Byte) (b : Fin 64) (i : BitVec 10) (x : Watch),
    (live s = true → frozen s 0 = false → s.bst.watches.find? (fun x => x.w == i && x.pending.isNone) = some x →
      (x.timeout = 0 ∨ x.ticks < x.timeout.toNat → exec (.watchTimeout i) s = .next s) ∧
      (x.timeout ≠ 0 → x.timeout.toNat ≤ x.ticks →
        let s1 := { s with bst := { s.bst with timeout := true } }
        (∀ p q, x.owner = .engine p q → exec (.watchTimeout i) s = .next (afterSync (answerSignal (dropWatch s1 i) p q refusedC))) ∧
        (∀ c, x.owner = .control c →
          exec (.watchTimeout i) s = .next (afterSync (queueMsg s1 x (msgWord c x.target x.kind 0 true)))) ∧
        (∀ c, x.owner = .rill c → exec (.watchTimeout i) s = .next (afterSync { s with bst := { s.bst with
          timeout := true, watches := s.bst.watches.map (fun y => if y.w = i then { y with ticks := 0 } else y) } })))) ∧
    (portReady s port = true →
      let u := wideWrite s port d
      let kind : BitVec 3 := d.extractLsb' 12 3
      let target : BitVec 12 := d.extractLsb' 0 12
      let n : W32 := d.extractLsb' 16 32
      let cookie : BitVec 16 := d.extractLsb' 48 16
      (frozen s 0 = true → exec (.watchRegister port d) s = .next (after (busErr u port)) ∧
        exec (.watchCancel port ck) s = .next (after (busErr s port)) ∧ exec (.pairWrite port pn d) s = .next (after (busErr u port))) ∧
      (frozen s 0 = false →
        (wregOk d = false → exec (.watchRegister port d) s = .next (after (busErr u port))) ∧
        (wregOk d = true → freeWatch s.bst = none →
          exec (.watchRegister port d) s = .next (after (busErr { u with bst := { u.bst with watchFull := true } } port))) ∧
        (∀ j, wregOk d = true → freeWatch s.bst = some j →
          let y : Watch := ⟨j, .control cookie, kind, target, n, 0, s.bst.wtmo, none, false⟩
          let v := { u with bst := { u.bst with watches := addWatch u.bst.watches y } }
          let msg := msgWord cookie target kind ((watchVal s kind target).setWidth 31) false
          (watchMet s kind target n = false → exec (.watchRegister port d) s = .next (afterSync (ack v port))) ∧
          (watchMet s kind target n = true → exec (.watchRegister port d) s = .next (afterSync (ack (queueMsg v y msg) port)) ∧
            (s.bst.msgs.length < 64 → s.bst.pendOrder = [] →
              (queueMsg v y msg).bst.msgs = s.bst.msgs ++ [msg] ∧ ∀ z ∈ (queueMsg v y msg).bst.watches, z.w ≠ j))) ∧
        exec (.watchCancel port ck) s = .next (afterSync (ack { s with bst := { s.bst with
          watches := s.bst.watches.filter (fun x => !(x.owner == .control ck && x.pending.isNone)) } } port)) ∧
        (∃ t, exec (.pairWrite port pn d) s = .next t ∧ kept s t ∧ pairVal t pn = d ∧ ∀ q, q ≠ pn → pairVal t q = pairVal s q)) ∧
      (∀ w ws, s.bst.msgs = w :: ws → exec (.controlMessageTake port) s =
        .next (afterSync (reply { wideRead s port with bst := { s.bst with msgs := ws } } port w))) ∧
      (s.bst.msgs = [] → exec (.controlMessageTake port) s = .next (after (reply (wideRead s port) port 0))) ∧
      ((bar s b).armed = false →
        (∃ t, exec (.barrierConfigWrite port b .cnt d) s = .next t ∧ kept s t ∧ (bar t b).cnt = d ∧ ∀ c, c ≠ b → bar t c = bar s c) ∧
        (let y := withCfg (bar s b) (lo32 d)
         let v := modBar s b (fun z => withCfg z (lo32 d))
         (d.getLsbD 0 = false → exec (.barrierConfigWrite port b .cfg d) s = .next (afterSync (ack v port))) ∧
         (d.getLsbD 0 = true → (countsZero y = true ∧ d.getLsbD 1 = false) ∨ (d.getLsbD 1 = true ∧ s.bst.role = 0) →
           exec (.barrierConfigWrite port b .cfg d) s = .next (after (busErr s port))) ∧
         (d.getLsbD 0 = true → (countsZero y = false ∨ d.getLsbD 1 = true) → (d.getLsbD 1 = false ∨ s.bst.role ≠ 0) →
           exec (.barrierConfigWrite port b .cfg d) s = .next (afterSync (ack (lookBar v b) port)) ∧ bar v b = y ∧ y.armed = true))) ∧
      ((bar s b).armed = true → exec (.barrierConfigWrite port b .cnt d) s = .next (after (busErr u port)) ∧
        (d.getLsbD 0 = true → exec (.barrierConfigWrite port b .cfg d) s = .next (after (busErr s port))) ∧
        (d.getLsbD 0 = false → ∃ t, exec (.barrierConfigWrite port b .cfg d) s = .next t ∧ kept s t ∧
          (bar t b).armed = false ∧ (bar t b).inReg = Vector.replicate 8 0 ∧ (bar t b).inW = 0 ∧ (bar t b).inE = 0 ∧
          (bar t b).inCtrl = 0 ∧ (bar t b).chips = [] ∧ (bar t b).gen = (bar s b).gen)) ∧
      (chipArmed s = true → exec (.roleWrite port m) s = .next (after (busErr s port))) ∧
      (chipArmed s = false → ∃ t, exec (.roleWrite port m) s = .next t ∧ kept s t ∧
        t.bst.role = (if m.extractLsb' 0 2 = 3 then s.bst.role else m.extractLsb' 0 2) ∧ t.bst.chipId = m.extractLsb' 8 6 ∧
        t.bst.managerId = m.extractLsb' 16 6 ∧
        t.bst.chips = (if m.extractLsb' 24 7 = 0 ∨ 64 < (m.extractLsb' 24 7).toNat then s.bst.chips else m.extractLsb' 24 7)))

/-- O49. Sync messages between chips, and the mailboxes (derived; R303, R307, R308, R309, R310, R327, R328, R330, R334, R335, R338, R345). -/
def Obligations.SyncMessagesAndMailboxes : Prop :=
  ∀ (s : State) (port : RegPort) (n : Fin 64) (d w : W64),
    (live s = true →
      (s.bst.role = 0 ∨ frozen s 0 = true → exec .syncMessageSend s = .next s) ∧
      (∀ m ms, frozen s 0 = false → s.bst.role ≠ 0 → s.bst.txq = m :: ms →
        let v := syncSend { s with bst := { s.bst with txq := ms } } []
        exec .syncMessageSend s = .next (afterSync (drainSync 16 v)) ∧ v.bst.txq = (ms ++ s.bst.txWait).take 16 ∧
          v.bst.txWait = (ms ++ s.bst.txWait).drop 16) ∧
      (let recv := fun (o : Host.Outcome State Fault Refusal) =>
         (w.extractLsb' 0 4 ≠ 2 → exec (.syncArriveReceived w) s = o) ∧ (w.extractLsb' 0 4 = 2 → exec (.syncReleaseReceived w) s = o)
       (16 ≤ s.bst.rxq.length → recv (.next s)) ∧
       (s.bst.rxq.length < 16 → frozen s 0 = true → recv (.next (after s))) ∧
       (s.bst.rxq.length < 16 → frozen s 0 = false → s.bst.txWait ≠ [] →
         recv (.next (afterSync { s with bst := { s.bst with rxq := s.bst.rxq ++ [w] } }))) ∧
       (s.bst.rxq = [] → frozen s 0 = false → s.bst.txWait = [] → recv (.next (afterSync (drainSync 15 (takeSync s w)))))) ∧
      (let b : Fin 64 := fin 64 (w.extractLsb' 24 6).toNat
       let src : BitVec 6 := w.extractLsb' 8 6
       let arrive := s.bst.role = 1 ∧ w.extractLsb' 0 4 = 1 ∧ syncOk s w = true ∧ src ∉ (bar s b).chips
       let release := s.bst.role = 2 ∧ w.extractLsb' 0 4 = 2 ∧ syncOk s w = true
       (¬ arrive → ¬ release → takeSync s w = syncError s ∧ (syncError s).bst.syncErr = true ∧
         (syncError s).bst.errCount = s.bst.errCount + 1 ∧ (syncError s).bst.bars = s.bst.bars) ∧
       (arrive → chipCount (bar s b) + 1 < s.bst.chips.toNat → takeSync s w = modBar s b (fun x => { x with chips := src :: x.chips })) ∧
       (arrive → s.bst.chips.toNat ≤ chipCount (bar s b) + 1 → (bar (takeSync s w) b).gen = (bar s b).gen + 1) ∧
       (release → (bar (takeSync s w) b).gen = (bar s b).gen + 1)) ∧
      (∀ x xs, frozen s 0 = false → (box s n).deps = x :: xs →
        let s1 := modBox s n (fun y => { y with deps := xs })
        (x.landed = false → exec (.depositAnnounce n) s = .next s) ∧
        (∀ s2, x.landed = true → pairAdd s1 (box s n).pair true 1 none = some s2 →
          exec (.depositAnnounce n) s = .next (afterSync (answerSender (countM s2 0x60 4 1) x.sender true))) ∧
        (x.landed = true → pairAdd s1 (box s n).pair true 1 none = none → exec (.depositAnnounce n) s = .next (afterSync (answerSender
          (rejectSend (modBox (refuseOp s1 4) n (fun x => { x with suspended := true }))) x.sender false))))) ∧
    (portReady s port = true →
      let u := wideWrite s port d
      let v := wideRead s port
      (sendOpen s port n = false → exec (.mailboxSend port n d) s = .next (after (busErr u port))) ∧
      (sendOpen s port n = true → boxFull s (box s n) = true →
        ∃ t, exec (.mailboxSend port n d) s = .next t ∧ kept s t ∧ t.lod.boxes = s.lod.boxes ∧ t.lod.rejects = s.lod.rejects + 1 ∧
          t.lod.rejected = true) ∧
      (sendOpen s port n = true → (box s n).word = none → (box s n).recv ≠ 2 →
        ∃ t, exec (.mailboxSend port n d) s = .next t ∧ kept s t ∧ (box t n).word = some (d, port == .gh) ∧
          ((box s n).recv = 1 → t.gh.extIrq = true) ∧ ∀ m, m ≠ n → box t m = box s m) ∧
      (sendOpen s port n = true → boxFull s (box s n) = false → (box s n).recv = 2 →
        ∃ t, exec (.mailboxSend port n d) s = .next t ∧ kept s t ∧ (rport t port).held = some .deposit ∧
          (box t n).deps.length = (box s n).deps.length + 1) ∧
      (takeOpen s port n = false → exec (.mailboxTake port n) s = .next (after (busErr v port))) ∧
      (∀ c g, takeOpen s port n = true → (box s n).recv ≠ 2 → (box s n).word = some (c, g) →
        exec (.mailboxTake port n) s = .next (after (reply (modBox v n (fun x => { x with word := none })) port c))) ∧
      (takeOpen s port n = true → ((box s n).recv = 2 ∨ (box s n).word = none) →
        exec (.mailboxTake port n) s = .next (after (reply v port 0))) ∧
      (cfgOpen s (box s n) = false → exec (.mailboxConfigWrite port n d) s = .next (after (busErr u port))) ∧
      (cfgOpen s (box s n) = true → ∃ t, exec (.mailboxConfigWrite port n d) s = .next t ∧ kept s t ∧
        (box t n).wake = d.extractLsb' 8 8 ∧ (box t n).pair = d.extractLsb' 16 8 ∧ (box t n).ring = d.extractLsb' 24 8 ∧
        (box t n).depAddr = d.extractLsb' 32 21 ∧ (box t n).recv = recvAfter n (box s n).recv (d.extractLsb' 0 2) ∧
        (n.val < 2 → (box t n).recv = (box s n).recv) ∧ ∀ m, m ≠ n → box t m = box s m))

/-- O50. The boot: fuses, the management port and the firmware load (derived; R24, R51, R52, R62, R425, R426, R427, R428, R430, R447, R467, R508). -/
def Obligations.BootReadsFusesAndLoadsFirmware : Prop :=
  ∀ (s : State) (port : RegPort) (w : W32) (v : Bool),
    (live s = true →
      (s.gh.stage = .reset → exec .fuseReadStart s = .next (after
        { s with gh := { s.gh with stage := .fuses }, fuse := { s.fuse with words := [], req := some 0, ticks := 0 } })) ∧
      (s.gh.stage ≠ .reset → exec .fuseReadStart s = .next s) ∧
      (∀ a, s.fuse.req = some a → a ≠ 1023 → exec (.fuseAck w) s = .next (after
        { s with fuse := { s.fuse with words := s.fuse.words ++ [w], req := some (a + 1), ticks := 0 } })) ∧
      (s.fuse.req = some 1023 → s.fuse.reread = false → ∃ t, exec (.fuseAck w) s = .next t ∧ kept s t ∧ t.fuse.done = true ∧
        t.fuse.req = none ∧ t.meas.queue = s.meas.queue ++ [⟨1, sha384 ((s.fuse.words ++ [w]).flatMap (fun w => bytesOf w 4))⟩]) ∧
      (∀ q, s.fuse.req = some 1023 → s.fuse.reread = true → s.gh.req = some (.fuses q) → ∃ t, exec (.fuseAck w) s = .next t ∧
        t.fuse.done = true ∧ t.fuse.req = none ∧ t.meas.queue = s.meas.queue ∧ t.gh.req = some (.reply q 0 0)) ∧
      (∀ a, s.fuse.req = some a → 1000 ≤ s.fuse.ticks → s.fuse.reread = false → ∃ t, exec .fuseTimeout s = .next t ∧ kept s t ∧
        t.gh.stage = .failed ∧ t.gh.error = 1 ∧ t.fuse.timedOut = true ∧ t.fuse.sel = 0 ∧ t.fuse.steers = [] ∧ t.meas = s.meas) ∧
      (s.fuse.ticks < 1000 → exec .fuseTimeout s = .next s) ∧
      (s.gh.stage = .reset → exec .mgmtPortReady s = .next s) ∧
      (s.gh.stage ≠ .reset → exec .mgmtPortReady s = .next (after { s with gh := { s.gh with mpReady := true } })) ∧
      (s.gh.stage = .loading → s.gh.fwEnded = false → fwAll s = true →
        (16 ≤ s.gh.fwGot.length → ∃ t, exec .fwImageEnd s = .next t ∧ kept s t ∧ t.gh.fwEnded = true ∧ t.gh.data = [] ∧
          t.gh.entry = 0x00010000 + wd (words32 4 s.gh.fwGot) 2 ∧ t.meas.queue = s.meas.queue ++ [⟨0, sha384 s.gh.fwGot⟩] ∧
          ∀ i, tget 0 t.gh.code i = s.gh.fwGot.getD i 0) ∧
        (s.gh.fwGot.length < 16 → ∃ t, exec .fwImageEnd s = .next t ∧ kept s t ∧ t.gh.stage = .failed ∧ t.gh.error = 3 ∧
          t.meas.queue = s.meas.queue ++ [⟨0, sha384 s.gh.fwGot⟩]))) ∧
    (portReady s port = true → isMgmt port = false →
      ∀ i ∈ [Instr.fwStart port v, Instr.fwAbort port v, Instr.cpOpen port v, Instr.fwDataWord port w], exec i s = .next (after (busErr s port))) ∧
    (portReady s port = true → isMgmt port = true →
      (s.pins.testMode = true → ∀ i ∈ [Instr.fwStart port v, Instr.fwAbort port v, Instr.cpOpen port v], exec i s = .next (after (busErr s port))) ∧
      (s.pins.testMode = false →
        exec (.cpOpen port v) s = .next (after (ack { s with gh := { s.gh with cpOpen := v } } port)) ∧
        (fwRefused s = true → exec (.fwStart port v) s = .next (after (busErr s port))) ∧
        (fwRefused s = false → exec (.fwStart port v) s = .next (after (ack
          { s with gh := { s.gh with cpOpen := v, stage := .loading, fwGot := [], fwEnded := false } } port))) ∧
        (s.gh.stage = .loading → ∃ t, exec (.fwAbort port v) s = .next t ∧ t.gh.stage = .failed ∧ t.gh.error = 6 ∧ t.gh.cpOpen = v) ∧
        (s.gh.stage ≠ .loading → exec (.fwAbort port v) s = .next (after (ack { s with gh := { s.gh with cpOpen := v } } port)))) ∧
      (s.gh.stage ≠ .loading ∨ s.gh.src = true ∨ fwAll s = true → exec (.fwDataWord port w) s = .next (after (busErr s port))) ∧
      (s.gh.stage = .loading → s.gh.src = false → fwAll s = false →
        (s.meas.queue ≠ [] → exec (.fwDataWord port w) s = .next (after (holdAcc s port (.fwData w)))) ∧
        (s.meas.queue = [] → exec (.fwDataWord port w) s = .next (after (ack (fwTake s (bytesOf w 4)) port)) ∧
          (let got := (s.gh.fwGot ++ bytesOf w 4).take s.gh.fwLen.toNat
           (fwTake s (bytesOf w 4)).gh.fwGot = got ∧
           (fwError s.gh.fwLen got = none → (fwTake s (bytesOf w 4)).gh.stage = .loading) ∧
           (∀ e, fwError s.gh.fwLen got = some e →
             (fwTake s (bytesOf w 4)).gh.stage = .failed ∧ (fwTake s (bytesOf w 4)).gh.error = e)))))

/-- O51. The Gatehouse serves the request in mailbox 0 and replies (derived; R337, R338, R424, R431, R433, R436, R437, R438, R449, R467). -/
def Obligations.GatehouseServesRequests : Prop :=
  ∀ (s : State) (w : W64) (g present err : Bool) (port : RegPort) (slot : Fin 8) (ws : List W32),
    (live s = true → s.gh.req = none → s.gh.asleep = false → (box s 0).word = some (w, g) →
      let code : Byte := w.extractLsb' 0 8
      let bytes := reportBytes s (w.extractLsb' 32 32)
      let reported := fun (t : State) (q : GhReq) => kept s t ∧ t.gh.req = some q ∧ (box t 0).word = none ∧ t.meas.sigLen = 0 ∧
        t.meas.slots = s.meas.slots ∧ t.meas.report = fileOf 0 (words64 (words32 108 bytes))
      let ready := present && s.gh.stage == .running
      (code = 2 → exec .bootStatus s = .next (after (takeRequest s (.reply w 0 (bootStat s))))) ∧
      (code = 1 → s.meas.queue = [] → ∃ t, exec .measure s = .next t ∧ reported t (.reply w 0 s.aon.bootCount)) ∧
      (code = 1 → s.meas.queue ≠ [] → exec .measure s = .next (after (takeRequest s (.measure w false false)))) ∧
      (code = 4 → s.meas.queue = [] → ∃ t, exec (.signedMeasure present) s = .next t ∧
        reported t (if ready then .signing w (sha384 bytes) 0 else .reply w 3 s.aon.bootCount)) ∧
      (code = 4 → s.meas.queue ≠ [] → exec (.signedMeasure present) s = .next (after (takeRequest s (.measure w true ready)))) ∧
      (code = 3 → s.frz.asserted = false → exec .fuseReread s = .next (after (takeRequest s (.reply w 2 0)))) ∧
      (code = 3 → s.frz.asserted = true → s.fuse.req = none → s.gh.stage ≠ .reset → s.gh.stage ≠ .fuses →
        ∃ t, exec .fuseReread s = .next t ∧ kept s t ∧ t.gh.req = some (.fuses w) ∧ t.fuse.reread = true ∧ t.fuse.req = some 0 ∧
          t.fuse.words = [] ∧ (box t 0).word = none) ∧
      (code = 3 → s.frz.asserted = true → (s.fuse.req ≠ none ∨ s.gh.stage = .reset ∨ s.gh.stage = .fuses) →
        exec .fuseReread s = .next s) ∧
      (code = 0 ∨ 5 ≤ code.toNat → exec .unknownRequest s = .next (after (takeRequest s (.reply w 1 0)))) ∧
      (code ≠ 1 → exec .measure s = .next s) ∧ (code ≠ 2 → exec .bootStatus s = .next s) ∧ (code ≠ 3 → exec .fuseReread s = .next s) ∧
      (code ≠ 4 → exec (.signedMeasure present) s = .next s) ∧ (1 ≤ code.toNat → code.toNat ≤ 4 → exec .unknownRequest s = .next s)) ∧
    (s.gh.asleep = true → ∀ c ∈ [Instr.measure, .bootStatus, .fuseReread, .signedMeasure present, .unknownRequest, .gatehouseReply],
      exec c s = .next s) ∧
    (∀ st res, live s = true → s.gh.asleep = false → s.gh.req = some (.reply w st res) →
      let n := replyBox s w
      let word := res ++ (0 : Byte) ++ st ++ (w.extractLsb' 0 16)
      (boxFull s (box s n) = true ∨ (closed s 0 = true ∧ 32 ≤ n.val) → exec .gatehouseReply s = .next s) ∧
      (boxFull s (box s n) = false → (closed s 0 = false ∨ n.val < 32) →
        ((box s n).recv = 2 → exec .gatehouseReply s = .next (after (sendBox { s with gh := { s.gh with req := none } } n word .gatehouse).1)) ∧
        ((box s n).recv ≠ 2 → ∃ t, exec .gatehouseReply s = .next t ∧ kept s t ∧
          t.gh.req = none ∧ (box t n).word = some (word, true)))) ∧
    (∀ dg k, live s = true → s.gh.req = some (.signing w dg k) →
      (ws = [] → exec (.signingResponse ws err) s = .next s) ∧
      (ws ≠ [] → err = true ∨ 32 < ws.length → exec (.signingResponse ws err) s = .next (after
        { s with gh := { s.gh with req := some (.reply w 2 s.aon.bootCount), extIrq := true } })) ∧
      (ws ≠ [] → err = false → ws.length ≤ 32 → ∃ t, exec (.signingResponse ws err) s = .next t ∧ kept s t ∧
        t.gh.req = some (.reply w 0 s.aon.bootCount) ∧ t.gh.extIrq = true ∧ t.meas.sigLen.toNat = 4 * ws.length ∧
        ∀ j, j < ws.length → (vget t.meas.sig (fin 16 (j / 2))).extractLsb' (32 * (j % 2)) 32 = ws.getD j 0) ∧
      (k < 100000 → exec .signingTimeout s = .next s) ∧
      (100000 ≤ k → exec .signingTimeout s = .next (after { s with gh := { s.gh with req := some (.reply w 3 s.aon.bootCount) } }))) ∧
    (portReady s port = true →
      (isMgmt port = false ∨ slot.val < 4 → exec (.measureExtend port slot) s = .next (after (busErr s port))) ∧
      (isMgmt port = true → 4 ≤ slot.val → exec (.measureExtend port slot) s = .next (after (ack { s with meas := { s.meas with queue :=
        (s.meas.queue ++ [⟨slot, wordOf 384 (s.meas.extData.toList.flatMap (fun x => bytesOf x 8))⟩]) } } port))))

/-- O52. Extends change the measurement slots, nothing else does; sleep, interrupts and the core's accesses (derived; R422, R423, R424, R425, R427, R432, R433, R448). -/
def Obligations.SlotsChangeOnlyByExtends : Prop :=
  (∀ (s : State) (e : Extend) (es : List Extend),
    live s = true → s.meas.queue = e :: es →
    ∃ t, exec .slotExtendComplete s = .next t ∧ kept s t ∧
      vget t.meas.slots e.slot = sha384 (bytesOf (vget s.meas.slots e.slot) 48 ++ bytesOf e.digest 48) ∧
      vget t.meas.cnt e.slot = vget s.meas.cnt e.slot + 1 ∧ (vget s.meas.cnt e.slot = 0xFFFF → vget t.meas.wrap e.slot = true) ∧
      (∀ k, k ≠ e.slot → vget t.meas.slots k = vget s.meas.slots k ∧ vget t.meas.cnt k = vget s.meas.cnt k) ∧
      (e.slot = 1 → s.gh.stage = .fuses → s.fuse.done = true → t.gh.stage = .waitImage) ∧
      (e.slot = 0 → s.gh.stage = .loading → s.gh.fwEnded = true → t.gh.stage = .running ∧
        ∀ k, vget t.gh.regs k = if k = 10 then bootStat t else 0)) ∧
  (∀ (i : Instr) (s t : State), exec i s = .next t → i ≠ .slotExtendComplete → i ≠ .macroResetAssert → i ≠ .aonReset true →
    (∀ h r, i ≠ .railLoss h r) → t.meas.slots = s.meas.slots) ∧
  (∀ (s : State) (l : List CoreAcc), live s = true →
    let t := coreRuns s l
    (s.gh.stage = .running → s.gh.asleep = false → exec (.gatehouseSleep l) s = .next (after { t with gh := { t.gh with
      asleep := !(t.gh.extIrq || decide (t.gh.mtimecmp.toNat ≤ t.aon.sundial.toNat)) } })) ∧
    (s.gh.stage ≠ .running ∨ s.gh.asleep = true → exec (.gatehouseSleep l) s = .next s) ∧
    (s.gh.extIrq = true → exec (.gatehouseWake l) s = .next (after
      (coreRuns { s with gh := { s.gh with asleep := false, extIrq := false } } l))) ∧
    (s.gh.extIrq = false → exec (.gatehouseWake l) s = .next s) ∧
    (s.gh.mtimecmp.toNat ≤ s.aon.sundial.toNat → exec .timerInterrupt s = .next (after { s with gh := { s.gh with asleep := false } })) ∧
    (s.aon.sundial.toNat < s.gh.mtimecmp.toNat → exec .timerInterrupt s = .next s)) ∧
  (∀ (s : State) (a : CoreAcc) (d : W32) (l : List CoreAcc),
    let n := 2 ^ a.size.val
    let at_ := fun lo hi => lo ≤ a.addr.toNat ∧ a.addr.toNat + n ≤ hi
    let t := coreRuns s [a]
    coreRuns s [] = s ∧ coreRuns s (a :: l) = coreRuns t l ∧
    (a.data = some d → at_ 0x10000 0x30000 → ∀ j, j < n → tget 0 t.gh.code (a.addr.toNat - 0x10000 + j) = (bytesOf d 4).getD j 0) ∧
    (a.data = some d → at_ 0x30000 0x40000 → ∀ j, j < n → tget 0 t.gh.data (a.addr.toNat - 0x30000 + j) = (bytesOf d 4).getD j 0) ∧
    (a.data = some d → a.addr = 0x00040008 → a.size = 2 → t.gh.mtimecmp = (s.gh.mtimecmp.extractLsb' 32 32) ++ d) ∧
    (a.data = some d → a.addr = 0x0004000C → a.size = 2 → t.gh.mtimecmp = d ++ (s.gh.mtimecmp.extractLsb' 0 32)) ∧
    (a.data = none → a.bad = true → at_ 0x10000 0x30000 ∨ at_ 0x30000 0x40000 → t.frz.asserted = true) ∧
    (a.data = none → ¬ at_ 0 0x10000 → ¬ at_ 0x10000 0x30000 → ¬ at_ 0x30000 0x40000 → ¬ at_ 0x40000 0x40010 → ¬ at_ 0x10000000 0x10100000 →
      t = { s with gh := { s.gh with accFault := some a.addr } }) ∧
    (a.data = some d → ¬ at_ 0x10000 0x30000 → ¬ at_ 0x30000 0x40000 → ¬ at_ 0x40008 0x40010 → ¬ at_ 0x10000000 0x10100000 →
      t = { s with gh := { s.gh with accFault := some a.addr } }))

/-- O53. A Plan load starts, takes words, checks its header and sections, and ends (derived; R24, R67, R88, R91, R92, R94, R95, R99, R100, R508, R513, R514). -/
def Obligations.PlanLoadRunsToItsEnd : Prop :=
  ∀ (s : State) (port : RegPort) (src ab : Bool) (w : W32),
    (portReady s port = true → isMgmt port = false →
      ∀ i ∈ [Instr.planStart port src ab, Instr.planAbort port src, Instr.planDataWord port w], exec i s = .next (after (busErr s port))) ∧
    (portReady s port = true → isMgmt port = true →
      (startRefused s = true → exec (.planStart port src ab) s = .next (after (busErr s port))) ∧
      (startRefused s = false → exec (.planStart port src ab) s =
          .next (after (ack (if ab then abortLoad (beginLoad s src) else beginLoad s src) port)) ∧
        (beginLoad s src).pln.st = .loading ∧ (beginLoad s src).pln.hdr = none ∧ (beginLoad s src).pln.buf = []) ∧
      (s.pln.st ≠ .loading → exec (.planAbort port src) s = .next (after (ack { s with pln := { s.pln with source := src } } port))) ∧
      (s.pln.st = .loading → ∃ t, exec (.planAbort port src) s = .next t ∧ kept s t ∧ t.pln.st = .rejected ∧ t.pln.error = 0x0F ∧
        t.pln.section_ = cutSection s ∧ t.gh.extIrq = true ∧ t.meas.queue = (if s.pln.measured || (availBytes s).isEmpty then s.meas.queue
          else s.meas.queue ++ [⟨if s.pln.hdr.isNone then 2 else 3, sha384 (availBytes s)⟩])) ∧
      (s.pln.st ≠ .loading ∨ s.pln.source = true ∨ planTaken s = true → exec (.planDataWord port w) s = .next (after (busErr s port))) ∧
      (s.pln.st = .loading → s.pln.source = false → planTaken s = false →
        (loaderFull s = true → exec (.planDataWord port w) s = .next (after (holdAcc s port (.plnData w)))) ∧
        (loaderFull s = false → exec (.planDataWord port w) s =
          .next (after (ack (measureTaken { s with pln := { s.pln with buf := s.pln.buf ++ bytesOf w 4 } }) port))))) ∧
    (headerReady s = true → s.pln.measured = false →
      (measureTaken s).meas.queue = s.meas.queue ++ [⟨2, sha384 (s.pln.buf.take 32)⟩] ∧ (measureTaken s).pln.measured = true) ∧
    (sectionReady s = true → s.pln.measured = false →
      (measureTaken s).meas.queue = s.meas.queue ++ [⟨3, sha384 ((availBytes s).take (sectionSpan (availBytes s)))⟩]) ∧
    (live s = true → headerDue s = true →
      (∀ e, headerError s (s.pln.buf.take 32) = some e → ∃ t, exec .planHeader s = .next t ∧ kept s t ∧ t.pln.st = .rejected ∧
        t.pln.error = e ∧ t.pln.section_ = 0xFFFF ∧ t.pln.regions = s.pln.regions ∧ t.meas = s.meas) ∧
      (headerError s (s.pln.buf.take 32) = none →
        let h := headerOf (words32 8 (s.pln.buf.take 32))
        exec .planHeader s = .next (after (retryPln (measureTaken (startLoad { s with
          pln := { s.pln with hdr := some h, taken := 32, buf := s.pln.buf.drop 32, measured := false } } h)))))) ∧
    (∀ h, live s = true → sectionDue s = true → s.pln.hdr = some h →
      let n := sectionSpan (availBytes s)
      let x := sectionOf ((availBytes s).take n)
      (sectionLong s h = true → ∃ t, exec .planSection s = .next t ∧ kept s t ∧ t.pln.st = .rejected ∧ t.pln.error = 0x05 ∧
        t.pln.regions = s.pln.regions &&& ~~~h.mask) ∧
      (∀ e, sectionLong s h = false → sectionError s h x = some e → ∃ t, exec .planSection s = .next t ∧ kept s t ∧ t.pln.st = .rejected ∧
        t.pln.error = e ∧ t.pln.regions = s.pln.regions &&& ~~~h.mask ∧ t.pln.section_ = BitVec.ofNat 16 s.pln.secIdx ∧
        t.meas = s.meas) ∧
      (sectionLong s h = false → sectionError s h x = none → scopeRuns s h = false → exec .planSection s = .next s) ∧
      (sectionLong s h = false → sectionError s h x = none → scopeRuns s h = true →
        exec .planSection s = .next (after (retryPln (sectionDone (applySection s x) h n x))) ∧
        (h.count ≤ s.pln.secIdx + 1 → h.length ≤ s.pln.taken + n → ∃ t, exec .planSection s = .next t ∧ t.pln.st = .done ∧
          t.pln.regions = s.pln.regions ||| h.mask ∧ t.pln.planId = h.planId ∧ t.pln.everDone = true) ∧
        (∀ k, (s.pln.secIdx + 1 < h.count ∧ h.length ≤ s.pln.taken + n ∧ k = s.pln.secIdx + 1) ∨
            (h.count ≤ s.pln.secIdx + 1 ∧ s.pln.taken + n < h.length ∧ k = h.count) →
          ∃ t, exec .planSection s = .next t ∧ t.pln.st = .rejected ∧ t.pln.error = 0x05 ∧ t.pln.section_ = BitVec.ofNat 16 k)))

/-- O54. Training of a direction, wire retirement and the error window (derived; R24, R363, R364, R365, R366, R367, R368, R379, R380, R381, R382, R392). -/
def Obligations.TrainingAndWireRetirement : Prop :=
  ∀ (s : State) (port : RegPort) (m : W32) (d : Half) (fails : FrameFails) (noise : BitVec 304),
    let failed := fun (o : Host.Outcome State Fault Refusal) => ∃ t, o = .next t ∧ kept s t ∧ (dir t d).st = .fault ∧ t.fb.trainFailed = true
    (portReady s port = true → isMgmt port = false → exec (.linkRetrain port m) s = .next (after (busErr s port))) ∧
    (portReady s port = true → isMgmt port = true → ∃ t, exec (.linkRetrain port m) s = .next t ∧ kept s t ∧ t.fb.spareEn = m.getLsbD 1 ∧
      t.fb.replayLimit = (if m.extractLsb' 8 5 = 0 then s.fb.replayLimit else m.extractLsb' 8 5) ∧
      (m.getLsbD 0 = true → ∀ x, (dir t x).st = (if bothClocks s then .training 0 else .down) ∧ (dir t x).wire = []) ∧
      (m.getLsbD 0 = false → t.fb.dirs = s.fb.dirs)) ∧
    (live s = true → bothClocks s = true →
      ((dir s d).st = .training 0 →
        exec (.trainClockDone d []) s = .next (after (modDir s d (fun x => { x with st := .training 1 }))) ∧
        ∀ u, u ≠ [] → failed (exec (.trainClockDone d u) s)) ∧
      ((dir s d).st = .training 1 →
        exec (.trainDeskewDone d) s = .next (after (modDir s d (fun x => { x with st := .training 2 })))) ∧
      ((dir s d).st = .training 2 →
        (fails.side ≠ [] → failed (exec (.trainFrameDone d fails) s)) ∧
        (fails.side = [] → ∀ u ws v good, markSpares s d fails.spares = (u, ws) → placeWires u d (ws ++ fails.wires) = (v, good) →
          (good = true → exec (.trainFrameDone d fails) s = .next (after (modDir v d (fun x => { x with st := .training 3 })))) ∧
          (good = false → failed (exec (.trainFrameDone d fails) s)))) ∧
      (∀ g w, markSpares s d [] = (s, []) ∧ placeWires s d [] = (s, true) ∧
        (replaced (vget (dir s d).map g) w = false →
          (∀ i, freeSpare (vget (dir s d).map g) w = some i → placeWires s d [(g, w)] = (recordSpare s d g i (wireByte w), true)) ∧
          (freeSpare (vget (dir s d).map g) w = none → (placeWires s d [(g, w)]).2 = false))) ∧
      ((dir s d).st = .training 3 → (dir s d).sawUp = true → (dir s (other d)).sawUp = true →
        let u := startReplay (modDir s d (fun x => { x with st := .up })) d
        exec (.linkUp d) s = .next (after (if (dir u 0).st = .up ∧ (dir u 1).st = .up then { u with fb := { u.fb with trained := true } } else u)) ∧
        ((dir s d).replay = [] → (dir u d).st = .up)) ∧
      ((dir s d).st ≠ .training 3 ∨ (dir s d).sawUp = false ∨ (dir s (other d)).sawUp = false → exec (.linkUp d) s = .next s)) ∧
    (∀ c ∈ [(Instr.retireReq d noise, (1 : BitVec 4), other d), (.retireDup d noise, 2, d), (.retireDone d noise, 3, other d)],
      ∀ g0 x rest, linkOpen s c.2.2 = true → (dir s c.2.2).link = (g0, x) :: rest →
        let got := arrives s c.2.2 g0 x noise
        (linkType (flitPayload x) ≠ c.2.1 → exec c.1 s = .next s) ∧
        (linkType (flitPayload x) = c.2.1 → flitCrcOk got = false →
          exec c.1 s = .next (after (countCrc (linkPop s c.2.2) c.2.2)) ∧ (dir (linkPop s c.2.2) c.2.2).link = rest) ∧
        (linkType (flitPayload x) = c.2.1 → flitCrcOk got = true → flitLink got = false ∨ linkType (flitPayload got) ≠ c.2.1 →
          exec c.1 s = .next (after (linkPop s c.2.2)))) ∧
    (∀ g0 g w i rest x,
      let taken := fun (l : Half) (ty : BitVec 4) => linkOpen s l = true ∧ (dir s l).link = (g0, x) :: rest ∧ linkType (flitPayload x) = ty ∧
        flitCrcOk (arrives s l g0 x noise) = true ∧ flitLink (arrives s l g0 x noise) = true ∧
        linkType (flitPayload (arrives s l g0 x noise)) = ty ∧ linkArgs (flitPayload (arrives s l g0 x noise)) = (g, w, i)
      (taken (other d) 1 → ∃ t, exec (.retireReq d noise) s = .next t ∧ kept s t ∧ (dir t d).txDrive.contains (g, w, i) = true ∧
        (dir t d).link = (dir s d).link ++ [(g + 1, mkFlit linkTag (linkFlit 2 g w i))] ∧ (dir t (other d)).link = rest) ∧
      (taken d 2 → ∃ t, exec (.retireDup d noise) s = .next t ∧ kept s t ∧
        vget (dir t d).map g = setSpare (vget (dir s d).map g) i (wireByte w) ∧ (dir t d).retiring.contains (g, w, i) = false ∧
        (dir t (other d)).link = (dir s (other d)).link ++ [(0, mkFlit linkTag (linkFlit 3 g w i))] ∧ (dir t d).link = rest) ∧
      (taken (other d) 3 → ∃ t, exec (.retireDone d noise) s = .next t ∧ kept s t ∧ t.fb.retired = true ∧
        (dir t d).txDrive.contains (g, w, i) = false ∧ (dir t (other d)).link = rest)) ∧
    (linkOpen s (other d) = true → (dir s d).retiring ≠ [] → ∃ t, exec (.retireReqRepeat d) s = .next t ∧ kept s t ∧
      (dir t (other d)).link = (dir s (other d)).link ++ (dir s d).retiring.map (fun e => (0, mkFlit linkTag (linkFlit 1 e.1 e.2.1 e.2.2)))) ∧
    (live s = true →
      (s.fb.winTicks < s.fb.winEff.toNat → exec .spareErrorWindow s = .next s) ∧
      (s.fb.winEff.toNat ≤ s.fb.winTicks → ∃ t, exec .spareErrorWindow s = .next t ∧ kept s t ∧ (∀ x, (dir t x).errs = []) ∧
        t.fb.winTicks = 0 ∧ t.fb.winEff = s.fb.window ∧ t.fb.threshEff = s.fb.thresh))

/-- O55. Packets are cut into flits, carried in order, and replayed on an error (derived; R364, R366, R369, R371, R372, R373, R374, R375, R377, R382, R391, R396). -/
def Obligations.FlitsAreCarriedInOrderOrReplayed : Prop :=
  ∀ (s : State) (d : Half) (c : FbClass) (noise : BitVec 304) (sn : W32) (f : Flit) (fs : List Flit),
    (linkOpen s d = true →
      (nextPacket s d c = none ∨ nextClass s d ≠ some c → exec (.packetStart d c) s = .next s) ∧
      (∀ p, nextPacket s d c = some p → p ∈ vget (dir s d).txq c ∧ packetHeld s d c p = false ∧
        (nextClass s d = some c → flitCount p ≤ credit (dir s d) c ∧ (dir s d).replay.length + flitCount p ≤ 64 ∧
          ∃ t, exec (.packetStart d c) s = .next t ∧ kept s t ∧ vget (dir t d).txq c = (vget (dir s d).txq c).erase p ∧
            (dir t d).wire = (dir s d).wire ++ seqFlits p c (dir s d).nextSeq true (payloads p) ∧
            (dir t d).replay = (dir s d).replay ++ seqFlits p c (dir s d).nextSeq true (payloads p) ∧
            (dir t d).nextSeq = (dir s d).nextSeq + BitVec.ofNat 7 (flitCount p) ∧ (dir t d).clast = c ∧ vget (dir t d).plast c = p.via)) ∧
      ((dir s d).wire = f :: fs →
        let got := arrives s d (groupOf f.bits) f.bits noise
        (flitCrcOk got = true → flitLink got = false → flitSeq got = (dir s d).rxNext → ∃ t, exec (.flitReceive d noise) s = .next t ∧
          (dir t d).rxNext = (dir s d).rxNext + 1 ∧ (dir t d).nak = false ∧ (dir t d).wire = fs ∧ kept s t) ∧
        (flitCrcOk got = true → flitLink got = true ∨ flitSeq got ≠ (dir s d).rxNext →
          exec (.flitReceive d noise) s = .next (after (modDir s d (fun x => { x with wire := fs })))) ∧
        (flitCrcOk got = false → ∃ t, exec (.flitReceive d noise) s = .next t ∧ kept s t ∧ (dir t d).rxNext = (dir s d).rxNext ∧
          (dir t d).asm = (dir s d).asm ∧ (dir t d).crcErr = (dir s d).crcErr + 1 ∧
          (dir t d).nak = (decide (flitSeq f.bits = (dir s d).rxNext) || (dir s d).nak))) ∧
      ((dir s d).wire = [] → exec (.flitReceive d noise) s =
        .next (after (if flitCrcOk (arrives s d 0 idleFlit noise) then s else countCrc s d))) ∧
      ((dir s d).nak = true → (dir s d).replayOf.isSome = true → exec (.nakRepeatReplay d) s = .next (after (startReplay s d))) ∧
      ((dir s d).nak = false ∨ (dir s d).replayOf = none → exec (.nakRepeatReplay d) s = .next s) ∧
      ((dir s d).replay = [] → exec (.ackStallReplay d) s = .next s) ∧
      ((dir s d).replay ≠ [] → exec (.ackStallReplay d) s = .next (after (startReplay s d)) ∧
        ((dir s d).replayTimes < s.fb.replayLimit.toNat → (dir (startReplay s d) d).wire = (dir s d).wire ++ (dir s d).replay ∧
          (dir (startReplay s d) d).replay = (dir s d).replay ∧ (dir (startReplay s d) d).replayTimes = (dir s d).replayTimes + 1) ∧
        (s.fb.replayLimit.toNat ≤ (dir s d).replayTimes → (dir (startReplay s d) d).st = .fault)) ∧
      (∃ t, exec (.sideWordTimeout d) s = .next t ∧ kept s t ∧ (dir t d).st = .fault)) ∧
    (live s = true → bothClocks s = true →
      let w := sideWord (dir s (other d)) (shownState (dir s d).st) c ^^^ sn
      ((dir s d).st = .down ∨ (dir s d).st = .training 0 → exec (.sideWordReceive d c sn) s = .next s) ∧
      ((dir s d).st ≠ .down → (dir s d).st ≠ .training 0 →
        (sideOk w = false → exec (.sideWordReceive d c sn) s = .next (after s)) ∧
        (sideOk w = true → exec (.sideWordReceive d c sn) s = .next (after
          (takeSide (modDir s d (fun x => { x with sawUp := x.sawUp || w.extractLsb' 18 2 == 2 })) d w)))))

/-- O56. The twelve packet kinds act at the far half (derived; R28, R294, R310, R375, R384, R385, R386, R388, R389). -/
def Obligations.PacketKindsActAtTheFarHalf : Prop :=
  ∀ (s : State) (d : Half) (k : BitVec 4) (p : Packet),
    clocked s (other d) = true →
    let pop := rxPop s d p
    (rxHead s d k = some p → (dir pop d).rxq = vmod (dir s d).rxq (kindClass k) (List.drop 1) ∧
      vget (dir pop d).freed (kindClass k) = vget (dir s d).freed (kindClass k) + BitVec.ofNat 8 (flitCount p)) ∧
    (∀ c ∈ [(Instr.fbPktRead d, (0 : BitVec 4)), (.fbPktWrite d, 1)], rxHead s d c.2 = some p →
      (onePiece pop p = true → exec c.1 s = .next (afterSync (packetPiece pop p))) ∧
      (onePiece pop p = false → exec c.1 s = .next (afterSync (fbFault pop d 0x12 (0#25 ++ fv pop 1 7))))) ∧
    (rxHead s d 2 = some p → exec (.fbPktAtomic d) s = .next (afterSync (packetPiece pop p))) ∧
    (∀ c ∈ [(Instr.fbPktReadData d, (3 : BitVec 4)), (.fbPktWriteAck d, 4), (.fbPktAtomicData d, 5)],
      rxHead s d c.2 = some p → exec c.1 s = .next (afterSync (packetBack pop p))) ∧
    (rxHead s d 6 = some p → exec (.fbPktSignal d) s = .next (afterSync (arriveSignal pop p)) ∧
      ∀ port seq e, p.ref = some (.engine port seq) → findReq pop port seq = some e → e.stage ≠ .answered →
        (frozen s 0 = true → arriveSignal pop p = answerSignal pop port seq frozenC) ∧
        (frozen s 0 = false → (ep (arriveSignal pop p) port).held =
          (ep s port).held ++ [⟨seq, p.op == 0xB, p.addr, p.word, p.scope, p.stamp, e.stampAll⟩])) ∧
    (rxHead s d 7 = some p → ∀ port seq, p.ref = some (.engine port seq) →
      exec (.fbPktSignalAck d) s = .next (afterSync (answerAll pop port seq (p.bresp.extractLsb' 0 3)))) ∧
    (rxHead s d 8 = some p → exec (.fbPktRetire d) s = .next (afterSync (modEp pop (fin 32 p.src.toNat) (fun x => { x with
      seen := vset (vset (vset x.seen 0 (p.word.extractLsb' 0 32)) 1 (p.word.extractLsb' 32 32)) 2 p.stamp })))) ∧
    (rxHead s d 9 = some p → ∀ m, p.ctl = some m →
      exec (.fbPktControl d) s = .next (afterSync (if frozen s (other d) && !isWake m then pop else ctlAct pop m))) ∧
    (rxHead s d 0xA = some p → ∃ t, exec (.fbPktStep d) s = .next t ∧ kept s t ∧
      ∀ r, (rg t r).ev.stepsSeen = if halfOf r = other d ∧ p.word.getLsbD r.val = true then (rg s r).ev.stepsSeen ++ [p.first]
        else (rg s r).ev.stepsSeen) ∧
    (rxHead s d 0xB = some p →
      (p.events.all (entryFits s (other d)) = false → exec (.fbPktEvents d) s = .next s) ∧
      (p.events.all (entryFits s (other d)) = true →
        exec (.fbPktEvents d) s = .next (afterSync (p.events.foldl (fun s e => deliverEntry s (other d) p.first e) pop)))) ∧
    (∀ c ∈ [(Instr.fbPktRead d, (0 : BitVec 4)), (.fbPktWrite d, 1), (.fbPktAtomic d, 2), (.fbPktReadData d, 3), (.fbPktWriteAck d, 4),
        (.fbPktAtomicData d, 5), (.fbPktSignal d, 6), (.fbPktSignalAck d, 7), (.fbPktRetire d, 8), (.fbPktControl d, 9), (.fbPktStep d, 0xA),
        (.fbPktEvents d, 0xB)], rxHead s d c.2 = none → exec c.1 s = .next s)

/-- O57. A packet read back from its flits is the packet (derived; R383, R384, R385). -/
def Obligations.PacketRoundTrip : Prop :=
  ∀ p : Packet, packetOk p = true → readPacket (payloads p) = some p

/-- O58. Stop, freeze, faults, job restart and fences (derived; R24, R28, R310, R439, R440, R453, R454, R457, R460, R461, R463, R464). -/
def Obligations.StopFreezeFaultsRestartAndFences : Prop :=
  ∀ (s : State) (port : RegPort) (st keep rel : Bool) (v w : W32) (r : Region) (h : Half) (rec : W64) (more : List W64),
    (portReady s port = true →
      (isMgmt port = false →
        ∀ c ∈ [Instr.stop port, Instr.freeze port st, Instr.injected port v, Instr.jobRestartGo port keep rel,
            Instr.jobRestartRelease port keep, Instr.fenceSet port r w, Instr.fenceClear port r w],
          exec c s = .next (after (busErr s port))) ∧
      (isMgmt port = true →
        (s.frz.asserted = true → ∀ c ∈ [Instr.stop port, Instr.freeze port st], exec c s = .next (after (Machine.ack s port))) ∧
        (s.frz.asserted = false →
          (∃ t, exec (.freeze port st) s = .next t ∧ kept s t ∧ t.flt = s.flt ∧ t.regions = s.regions ∧ t.frz =
            { s.frz with asserted := true, cause := .command, stopping := false, reached := Vector.replicate 2 false }) ∧
          (s.frz.stopping = false → ∃ t, exec (.stop port) s = .next t ∧ kept s t ∧ t.flt = s.flt ∧ t.regions = s.regions ∧
            t.frz = { s.frz with stopping := true, stopped := true } ∧ (∀ h, closed t h = true) ∧ ∀ x ∈ t.bst.watches, ∀ p q, x.owner ≠ .engine p q)) ∧
        (∃ t, exec (.injected port v) s = .next t ∧ kept s t ∧ t.regions = s.regions ∧
          t.flt = logFault s.flt s.aon.sundial (faultRec 0x1F 4 0 0 0 v) ∧ (s.frz.asserted = true → t.frz = s.frz) ∧
          (s.frz.asserted = false → t.frz.asserted = true ∧ t.frz.cause = .fault ∧ t.frz.stopping = false)) ∧
        (s.frz.asserted = false ∨ drained s = false ∨ s.rs.st = .clearing ∨ s.aon.rail = true ∨ rel = true →
          exec (.jobRestartGo port keep rel) s = .next (after (busErr s port))) ∧
        (s.frz.asserted = true → drained s = true → s.rs.st ≠ .clearing → s.aon.rail = false → (∀ p, (rport s p).held = none) →
          ∃ t, exec (.jobRestartGo port keep false) s = .next t ∧ t.mem = s.mem ∧ t.aon = s.aon ∧ t.pending = s.pending ∧
            t.frz = s.frz ∧ t.rs.st = .clearing ∧ t.rs.keep = keep ∧ t.flt = { faults0 with irqIe := s.flt.irqIe } ∧ t.bst.sem = [] ∧
            t.lod.rejects = 0 ∧ (∀ p, (ep t p).reqs = []) ∧ (∀ q, (rg t q).ev.epoch = 0 ∧ (rg t q).fence = (rg s q).fence) ∧
            (∀ n, (box t n).word = if n.val < 2 then (box s n).word else none) ∧
            ∀ q b j, j < 16384 → basinByte t q b j =
              (if (rg s q).power.st = .run ∧ (rg s q).power.down = false ∧ (rg s q).power.waking = false then 0
               else basinByte s q b j)) ∧
        (s.rs.st ≠ .done → exec (.jobRestartRelease port keep) s = .next (after (busErr s port))) ∧
        (s.rs.st = .done → exec (.jobRestartRelease port keep) s = .next (afterSync (Machine.ack (releaseFreeze s keep) port)) ∧
          (releaseFreeze s keep).frz = { freeze0 with east := s.frz.east } ∧
          (releaseFreeze s keep).rs = { s.rs with st := .idle, keep := keep } ∧ kept s (releaseFreeze s keep)) ∧
        (fenceRefused s r w = true →
          ∀ c ∈ [Instr.fenceSet port r w, Instr.fenceClear port r w], exec c s = .next (after (busErr s port))) ∧
        ((∃ b, bit32 w b = true ∧ fenced s r b = false ∧ s.frz.asserted = false ∧ bit32 (rg s r).arb.freeze b = false) →
          fenceRefused s r w = true) ∧
        (fenceRefused s r w = false → ∀ c ∈ [Instr.fenceSet port r w, Instr.fenceClear port r w],
          ∃ t, exec c s = .next t ∧ t.mem = s.mem ∧ t.basin = s.basin ∧ t.aon = s.aon ∧ t.pending = s.pending ∧ (rg t r).fence = w ∧
            (∀ q, q ≠ r → (rg t q).fence = (rg s q).fence) ∧
            ∀ b, bit32 w b = true → fenced s r b = false →
              (blk t r b).sweep = none ∧ (s.frz.asserted = false → (blk t r b).evq = [] ∧ (blk t r b).released = [])))) ∧
    (live s = true →
      (s.frz.east = rec :: more → ∃ t, exec .eastFaultRaise s = .next t ∧ kept s t ∧ t.regions = s.regions ∧ t.frz.east = more ∧
        t.frz.asserted = true ∧ t.flt.irq = true ∧ (s.rs.st = .clearing → t.rs.st = .failed) ∧
        (s.flt.firstValid = false → t.flt.first = rec ∧ t.flt.firstTime = s.aon.sundial ∧ t.flt.firstValid = true ∧
          t.flt.log = s.flt.log ∧ t.flt.more = s.flt.more) ∧
        (s.flt.firstValid = true → t.flt.first = s.flt.first ∧ t.flt.firstTime = s.flt.firstTime ∧ t.flt.more = s.flt.more + 1 ∧
          t.flt.log = if rec = s.flt.first ∨ rec ∈ s.flt.log ∨ 16 ≤ s.flt.log.length then s.flt.log else s.flt.log ++ [rec])) ∧
      (s.frz.stopping = true → s.frz.asserted = false →
        (quiet s 0 = true → quiet s 1 = true → ∃ t, exec .stopQuiescent s = .next t ∧ kept s t ∧ t.regions = s.regions ∧
          t.frz.asserted = true ∧ t.frz.cause = .stop ∧ t.frz.stopping = false ∧ t.frz.quiescent = Vector.replicate 2 true) ∧
        (quiet s h = false → exec .stopQuiescent s = .next s)) ∧
      (s.frz.asserted = true → vget s.frz.reached h = false →
        ∃ t, exec (.freezeReachHalf h) s = .next t ∧ t.mem = s.mem ∧ t.aon = s.aon ∧ t.pending = s.pending ∧ frozen t h = true ∧
          (h = 0 → (∀ p, (ep t p).held = []) ∧ (∀ n, (box t n).deps = []) ∧ ∀ x ∈ t.bst.watches, ∀ p q, x.owner ≠ .engine p q)) ∧
      (s.rs.st = .clearing →
        (s.rs.clearing = 0 → s.rs.wakeBasin = 0 → (∀ d, vget s.rs.train d = true → (dir s d).st = .up) →
          exec .restartClearsDone s = .next (after { s with rs := { s.rs with st := .done } })) ∧
        (s.rs.clearing ≠ 0 → exec .restartClearsDone s = .next s)))

/-- O59. Samples, dumps, tagging and counter writes (derived; R12, R24, R477, R482, R483, R484, R485, R487, R488, R491, R494, R496). -/
def Obligations.SamplesDumpsTagsAndCounterWrites : Prop :=
  ∀ (s : State) (port : RegPort) (d : Dump) (en kind : Bool) (k : BitVec 4) (data : W64) (x : CntRef) (n : Fin 16) (r : Region)
      (i : Fin 8) (b : Blk) (c : Fin 4),
    (portReady s port = true →
      (isMgmt port = false →
        ∀ c ∈ [Instr.dumpNow port, Instr.taggingEnable port en kind k, Instr.tagClear port en kind k, Instr.counterWrite port x data],
          exec c s = .next (after (busErr s port))) ∧
      (isMgmt port = true →
        (∃ t, exec (.dumpNow port) s = .next t ∧ kept s t ∧ t.regions = s.regions ∧ t.cnt = { s.cnt with dumpNow := true }) ∧
        (∃ t, exec (.taggingEnable port en kind k) s = .next t ∧ kept s t ∧ t.regions = s.regions ∧
          t.cnt = { s.cnt with tagEn := en, tagKind := kind, tagK := k, lfsr := s.cnt.seed }) ∧
        (∃ t, exec (.tagClear port en kind k) s = .next t ∧ kept s t ∧ t.regions = s.regions ∧
          t.cnt = { s.cnt with tagEn := en, tagKind := kind, tagK := k, lfsr := s.cnt.seed, tags := [] }) ∧
        (∃ t, exec (.counterWrite port (.whole n) data) s = .next t ∧ kept s t ∧ t.regions = s.regions ∧
          ∀ m, vget t.cnt.counters m = (if m = n then
            { vget s.cnt.counters n with val := data.extractLsb' 0 48, wrap := (vget s.cnt.counters n).wrap && !data.getLsbD 63 }
            else vget s.cnt.counters m)) ∧
        ((rg s r).power.st = .off → ∀ y ∈ [CntRef.region r i, CntRef.block r b c], exec (.counterWrite port y data) s =
          .next (after (wakeReq (Machine.ack (wideWrite s port data) port) r))) ∧
        ((rg s r).power.st ≠ .off →
          (∃ t, exec (.counterWrite port (.region r i) data) s = .next t ∧ kept s t ∧ t.cnt = s.cnt ∧
            (∀ q m, vget (rg t q).counters m = if q = r ∧ m = i then
              { vget (rg s r).counters i with val := data.extractLsb' 0 48, wrap := (vget (rg s r).counters i).wrap && !data.getLsbD 63 }
              else vget (rg s q).counters m) ∧
            ∀ q a, (blk t q a).counters = (blk s q a).counters) ∧
          (∃ t, exec (.counterWrite port (.block r b c) data) s = .next t ∧ kept s t ∧ t.cnt = s.cnt ∧
            (∀ q a m, vget (blk t q a).counters m = if q = r ∧ a = b ∧ m = c then
              { vget (blk s r b).counters c with val := data.extractLsb' 0 48, wrap := (vget (blk s r b).counters c).wrap && !data.getLsbD 63 }
              else vget (blk s q a).counters m) ∧
            ∀ q, (rg t q).counters = (rg s q).counters)))) ∧
    (live s = true →
      (sampleDue s.cnt = false → exec .counterSample s = .next s) ∧
      (sampleDue s.cnt = true →
        (s.cnt.dump.isSome = true ∨ closed s 0 = true →
          ∃ t, exec .counterSample s = .next t ∧ kept s t ∧ t.regions = s.regions ∧ t.cnt.dumpSkip = true ∧ t.cnt.skipNext = true ∧
            t.cnt.dump = s.cnt.dump ∧ t.cnt.counters = s.cnt.counters ∧ t.cnt.dumpDue = false) ∧
        (s.cnt.dump = none → closed s 0 = false →
          ∃ t e, exec .counterSample s = .next t ∧ kept s t ∧ t.cnt.dump = some e ∧ e.seq = s.cnt.seq + 1 ∧ e.time = s.aon.sundial ∧
            e.skipped = s.cnt.skipNext ∧ e.addr = s.cnt.addr ∧ e.phase = .headerOut ∧ t.cnt.skipNext = false ∧
            (vget t.cnt.counters n).shadow = b1 (vget s.cnt.counters n).wrap ++ (0 : BitVec 15) ++ (vget s.cnt.counters n).val ∧
            (vget (blk t r b).counters c).shadow = (if (rg s r).power.st = .off then 0
              else b1 (vget (blk s r b).counters c).wrap ++ (0 : BitVec 15) ++ (vget (blk s r b).counters c).val)))) ∧
    (dumpAt s .headerOut = some d → ∃ t e, exec .dumpBodyWrite s = .next t ∧ kept s t ∧ t.cnt.dump = some e ∧ e.phase = .bodyOut ∧
      e.seq = d.seq ∧ e.addr = d.addr) ∧
    (dumpAt s .bodyOut = some d → ∃ t e, exec .dumpHeaderClose s = .next t ∧ kept s t ∧ t.cnt.dump = some e ∧ e.phase = .closing ∧
      e.seq = d.seq ∧ e.addr = d.addr) ∧
    (dumpAt s .closing = some d →
      (s.cnt.semEn = false →
        exec .dumpComplete s = .next (afterSync { s with cnt := { s.cnt with seq := d.seq, dumpDone := true, dump := none } })) ∧
      (s.cnt.semEn = true → semVal s s.cnt.sem = BitVec.allOnes 31 → exec .dumpComplete s = .next (afterSync (refuseOp
        { s with cnt := { s.cnt with seq := d.seq, dumpDone := true, dump := none } } 0))) ∧
      (s.cnt.semEn = true → semVal s s.cnt.sem ≠ BitVec.allOnes 31 →
        exec .dumpComplete s = .next (afterSync (countM (putSem
          { s with cnt := { s.cnt with seq := d.seq, dumpDone := true, dump := none } } s.cnt.sem (semVal s s.cnt.sem + 1)) 0x60 0 1))))

/-- O60. Register accesses: refusals, widths, read-clear counters, the holding register and the management link (derived; R12, R13, R17, R24, R33, R43, R44, R46, R401, R442, R499, R500). -/
def Obligations.RegisterAccesses : Prop :=
  ∀ (s : State) (port : RegPort) (a : BitVec 20) (z : Bool) (d : W64) (r : Region),
    (portTakes s port = false →
      ∀ c ∈ [Instr.rcRead port a z, Instr.registerWrite port a z d, Instr.mgmtLinkAccess port (.read a z) false],
        exec c s = .next s) ∧
    (portTakes s port = true → (rport s port).held.isSome = true →
      let waits : Option W64 → Host.Outcome State Fault Refusal := fun wr => .next (after (modRport s port (fun x =>
        { roomFor (portDepth port) x with queue := x.queue ++ [⟨a, z, wr, if 0xC0000 ≤ a.toNat then some false else none⟩] })))
      exec (.rcRead port a z) s = waits none ∧ exec (.registerWrite port a z d) s = waits (some d)) ∧
    (portReady s port = true →
      ((a.toNat % 4 ≠ 0 ∨ (port = .cp ∧ z = true ∧ a.toNat % 8 ≠ 0) ∨ regHalf a.toNat = none) →
        exec (.rcRead port a z) s = .next (after (busErr s port)) ∧ exec (.registerWrite port a z d) s = .next (after (busErr s port))) ∧
      ((port = .cp ∧ 0x1000 ≤ a.toNat ∧ a.toNat < 0x5000) ∨
          (port ≠ .cp ∧ (a.toNat < 0x1000 ∨ (0x30000 ≤ a.toNat ∧ a.toNat < 0x70000))) →
        exec (.registerWrite port a z d) s = .next (after (busErr s port))) ∧
      exec (.rcRead port 0 false) s = .next (after (reply s port 0x00020003)) ∧
      (∀ o : BitVec 20, o.toNat = 0x8020C + 0x10000 * r.val →
        (∃ t, exec (.registerWrite port o false d) s = .next t ∧ kept s t ∧ (rg t r).arb.freeze = lo32 d ∧
          (∀ q, q ≠ r → (rg t q).arb = (rg s q).arb)) ∧
        exec (.rcRead port o false) s = .next (after (reply (wakeReq s r) port ((rg s r).arb.freeze.setWidth 64)))) ∧
      exec (.rcRead port 0x20414 false) s =
        .next (after (reply { s with lod := { s.lod with rejects := 0 } } port (s.lod.rejects.setWidth 64))) ∧
      (overLink a.toNat = false → exec (.mgmtLinkAccess port (.read a z) false) s = .next s ∧
        exec (.mgmtLinkAccess port (.write a z d) false) s = .next s) ∧
      (overLink a.toNat = true →
        exec (.mgmtLinkAccess port (.read a z) true) s = .next (after (busErr (wholeFault s 0x1E (a.setWidth 32)) port)) ∧
        exec (.mgmtLinkAccess port (.write a z d) true) s = .next (after (busErr (wholeFault s 0x1E (a.setWidth 32)) port)) ∧
        exec (.mgmtLinkAccess port (.read a z) false) s = exec (.rcRead port a z) s ∧
        exec (.mgmtLinkAccess port (.write a z d) false) s = exec (.registerWrite port a z d) s)) ∧
    (portReady s .cp = true →
      exec (.rcRead .cp 0x20408 false) s = .next (after (busErr s .cp)) ∧
      exec (.registerWrite .cp 0x20408 false d) s = .next (after (busErr s .cp)) ∧
      exec (.registerWrite .cp 0x20408 true d) s = .next (after (Machine.ack { s with lod := { s.lod with ie := d } } .cp))) ∧
    (portReady s .mp = true →
      exec (.registerWrite .mp 0x2040C false d) s = .next (after (Machine.ack { s with mp := { s.mp with hold := lo32 d } } .mp)) ∧
      exec (.registerWrite .mp 0x20408 false d) s =
        .next (after (Machine.ack { s with lod := { s.lod with ie := s.mp.hold ++ lo32 d } } .mp)) ∧
      (∃ t, exec (.rcRead .mp 0x20408 false) s = .next t ∧ kept s t ∧ t.lod = s.lod ∧
        t.mp.rsps = [⟨(lo32 s.lod.ie).setWidth 64, false⟩] ∧ t.mp.hold = s.lod.ie.extractLsb' 32 32) ∧
      exec (.rcRead .mp 0x2040C false) s = .next (after (reply s .mp (s.mp.hold.setWidth 64))))
end

