-- ==== Sys2Proof/Laws/State.lean ====
section
/-! SUPPORT. What each elementary update of the state leaves in each field. -/

namespace Sys2Proof.Machine

/-! ## step1 -/

@[simp] theorem step1_pending (s : State) : (step1 s).pending = s.pending := rfl
@[simp] theorem step1_free (s : State) : (step1 s).free = s.free + 1 := rfl
@[simp] theorem step1_aon (s : State) : (step1 s).aon = s.aon := rfl
@[simp] theorem step1_pins (s : State) : (step1 s).pins = s.pins := rfl
@[simp] theorem step1_frz (s : State) : (step1 s).frz = s.frz := rfl
@[simp] theorem step1_flt (s : State) : (step1 s).flt = s.flt := rfl
@[simp] theorem step1_rs (s : State) : (step1 s).rs = s.rs := rfl
@[simp] theorem step1_gh (s : State) : (step1 s).gh = s.gh := rfl
@[simp] theorem step1_meas (s : State) : (step1 s).meas = s.meas := rfl
@[simp] theorem step1_pln (s : State) : (step1 s).pln = s.pln := rfl
@[simp] theorem step1_pwr (s : State) : (step1 s).pwr = s.pwr := rfl
@[simp] theorem step1_map (s : State) : (step1 s).map = s.map := rfl
@[simp] theorem step1_slu (s : State) : (step1 s).slu = s.slu := rfl
@[simp] theorem step1_fb (s : State) : (step1 s).fb = s.fb := rfl
@[simp] theorem step1_rill (s : State) : (step1 s).rill = s.rill := rfl
@[simp] theorem step1_cnt (s : State) : (step1 s).cnt = s.cnt := rfl
@[simp] theorem step1_bst (s : State) : (step1 s).bst = s.bst := rfl
@[simp] theorem step1_lod (s : State) : (step1 s).lod = s.lod := rfl
@[simp] theorem step1_fuse (s : State) : (step1 s).fuse = s.fuse := rfl
@[simp] theorem step1_wrp (s : State) : (step1 s).wrp = s.wrp := rfl
@[simp] theorem step1_mem (s : State) : (step1 s).mem = s.mem := rfl
@[simp] theorem step1_basin (s : State) : (step1 s).basin = s.basin := rfl
@[simp] theorem step1_regions (s : State) : (step1 s).regions = s.regions := rfl
@[simp] theorem step1_ports (s : State) : (step1 s).ports = s.ports := rfl
@[simp] theorem step1_ingress (s : State) : (step1 s).ingress = s.ingress := rfl
@[simp] theorem step1_egress (s : State) : (step1 s).egress = s.egress := rfl
@[simp] theorem step1_cp (s : State) : (step1 s).cp = s.cp := rfl
@[simp] theorem step1_mp (s : State) : (step1 s).mp = s.mp := rfl
@[simp] theorem step1_ghp (s : State) : (step1 s).ghp = s.ghp := rfl

/-! ## modRg -/

@[simp] theorem modRg_pending (s : State) (r : Region) (f : RegionSt → RegionSt) : (modRg s r f).pending = s.pending := rfl
@[simp] theorem modRg_free (s : State) (r : Region) (f : RegionSt → RegionSt) : (modRg s r f).free = s.free := rfl
@[simp] theorem modRg_aon (s : State) (r : Region) (f : RegionSt → RegionSt) : (modRg s r f).aon = s.aon := rfl
@[simp] theorem modRg_pins (s : State) (r : Region) (f : RegionSt → RegionSt) : (modRg s r f).pins = s.pins := rfl
@[simp] theorem modRg_frz (s : State) (r : Region) (f : RegionSt → RegionSt) : (modRg s r f).frz = s.frz := rfl
@[simp] theorem modRg_flt (s : State) (r : Region) (f : RegionSt → RegionSt) : (modRg s r f).flt = s.flt := rfl
@[simp] theorem modRg_rs (s : State) (r : Region) (f : RegionSt → RegionSt) : (modRg s r f).rs = s.rs := rfl
@[simp] theorem modRg_gh (s : State) (r : Region) (f : RegionSt → RegionSt) : (modRg s r f).gh = s.gh := rfl
@[simp] theorem modRg_meas (s : State) (r : Region) (f : RegionSt → RegionSt) : (modRg s r f).meas = s.meas := rfl
@[simp] theorem modRg_pln (s : State) (r : Region) (f : RegionSt → RegionSt) : (modRg s r f).pln = s.pln := rfl
@[simp] theorem modRg_pwr (s : State) (r : Region) (f : RegionSt → RegionSt) : (modRg s r f).pwr = s.pwr := rfl
@[simp] theorem modRg_map (s : State) (r : Region) (f : RegionSt → RegionSt) : (modRg s r f).map = s.map := rfl
@[simp] theorem modRg_slu (s : State) (r : Region) (f : RegionSt → RegionSt) : (modRg s r f).slu = s.slu := rfl
@[simp] theorem modRg_fb (s : State) (r : Region) (f : RegionSt → RegionSt) : (modRg s r f).fb = s.fb := rfl
@[simp] theorem modRg_rill (s : State) (r : Region) (f : RegionSt → RegionSt) : (modRg s r f).rill = s.rill := rfl
@[simp] theorem modRg_cnt (s : State) (r : Region) (f : RegionSt → RegionSt) : (modRg s r f).cnt = s.cnt := rfl
@[simp] theorem modRg_bst (s : State) (r : Region) (f : RegionSt → RegionSt) : (modRg s r f).bst = s.bst := rfl
@[simp] theorem modRg_lod (s : State) (r : Region) (f : RegionSt → RegionSt) : (modRg s r f).lod = s.lod := rfl
@[simp] theorem modRg_fuse (s : State) (r : Region) (f : RegionSt → RegionSt) : (modRg s r f).fuse = s.fuse := rfl
@[simp] theorem modRg_wrp (s : State) (r : Region) (f : RegionSt → RegionSt) : (modRg s r f).wrp = s.wrp := rfl
@[simp] theorem modRg_mem (s : State) (r : Region) (f : RegionSt → RegionSt) : (modRg s r f).mem = s.mem := rfl
@[simp] theorem modRg_basin (s : State) (r : Region) (f : RegionSt → RegionSt) : (modRg s r f).basin = s.basin := rfl
@[simp] theorem modRg_regions (s : State) (r : Region) (f : RegionSt → RegionSt) : (modRg s r f).regions = vmod s.regions r f := rfl
@[simp] theorem modRg_ports (s : State) (r : Region) (f : RegionSt → RegionSt) : (modRg s r f).ports = s.ports := rfl
@[simp] theorem modRg_ingress (s : State) (r : Region) (f : RegionSt → RegionSt) : (modRg s r f).ingress = s.ingress := rfl
@[simp] theorem modRg_egress (s : State) (r : Region) (f : RegionSt → RegionSt) : (modRg s r f).egress = s.egress := rfl
@[simp] theorem modRg_cp (s : State) (r : Region) (f : RegionSt → RegionSt) : (modRg s r f).cp = s.cp := rfl
@[simp] theorem modRg_mp (s : State) (r : Region) (f : RegionSt → RegionSt) : (modRg s r f).mp = s.mp := rfl
@[simp] theorem modRg_ghp (s : State) (r : Region) (f : RegionSt → RegionSt) : (modRg s r f).ghp = s.ghp := rfl

/-! ## modBlk -/

@[simp] theorem modBlk_pending (s : State) (r : Region) (b : Blk) (f : Block → Block) : (modBlk s r b f).pending = s.pending := rfl
@[simp] theorem modBlk_free (s : State) (r : Region) (b : Blk) (f : Block → Block) : (modBlk s r b f).free = s.free := rfl
@[simp] theorem modBlk_aon (s : State) (r : Region) (b : Blk) (f : Block → Block) : (modBlk s r b f).aon = s.aon := rfl
@[simp] theorem modBlk_pins (s : State) (r : Region) (b : Blk) (f : Block → Block) : (modBlk s r b f).pins = s.pins := rfl
@[simp] theorem modBlk_frz (s : State) (r : Region) (b : Blk) (f : Block → Block) : (modBlk s r b f).frz = s.frz := rfl
@[simp] theorem modBlk_flt (s : State) (r : Region) (b : Blk) (f : Block → Block) : (modBlk s r b f).flt = s.flt := rfl
@[simp] theorem modBlk_rs (s : State) (r : Region) (b : Blk) (f : Block → Block) : (modBlk s r b f).rs = s.rs := rfl
@[simp] theorem modBlk_gh (s : State) (r : Region) (b : Blk) (f : Block → Block) : (modBlk s r b f).gh = s.gh := rfl
@[simp] theorem modBlk_meas (s : State) (r : Region) (b : Blk) (f : Block → Block) : (modBlk s r b f).meas = s.meas := rfl
@[simp] theorem modBlk_pln (s : State) (r : Region) (b : Blk) (f : Block → Block) : (modBlk s r b f).pln = s.pln := rfl
@[simp] theorem modBlk_pwr (s : State) (r : Region) (b : Blk) (f : Block → Block) : (modBlk s r b f).pwr = s.pwr := rfl
@[simp] theorem modBlk_map (s : State) (r : Region) (b : Blk) (f : Block → Block) : (modBlk s r b f).map = s.map := rfl
@[simp] theorem modBlk_slu (s : State) (r : Region) (b : Blk) (f : Block → Block) : (modBlk s r b f).slu = s.slu := rfl
@[simp] theorem modBlk_fb (s : State) (r : Region) (b : Blk) (f : Block → Block) : (modBlk s r b f).fb = s.fb := rfl
@[simp] theorem modBlk_rill (s : State) (r : Region) (b : Blk) (f : Block → Block) : (modBlk s r b f).rill = s.rill := rfl
@[simp] theorem modBlk_cnt (s : State) (r : Region) (b : Blk) (f : Block → Block) : (modBlk s r b f).cnt = s.cnt := rfl
@[simp] theorem modBlk_bst (s : State) (r : Region) (b : Blk) (f : Block → Block) : (modBlk s r b f).bst = s.bst := rfl
@[simp] theorem modBlk_lod (s : State) (r : Region) (b : Blk) (f : Block → Block) : (modBlk s r b f).lod = s.lod := rfl
@[simp] theorem modBlk_fuse (s : State) (r : Region) (b : Blk) (f : Block → Block) : (modBlk s r b f).fuse = s.fuse := rfl
@[simp] theorem modBlk_wrp (s : State) (r : Region) (b : Blk) (f : Block → Block) : (modBlk s r b f).wrp = s.wrp := rfl
@[simp] theorem modBlk_mem (s : State) (r : Region) (b : Blk) (f : Block → Block) : (modBlk s r b f).mem = s.mem := rfl
@[simp] theorem modBlk_basin (s : State) (r : Region) (b : Blk) (f : Block → Block) : (modBlk s r b f).basin = s.basin := rfl
@[simp] theorem modBlk_regions (s : State) (r : Region) (b : Blk) (f : Block → Block) : (modBlk s r b f).regions = vmod s.regions r (fun g => { g with blocks := vmod g.blocks b f }) := rfl
@[simp] theorem modBlk_ports (s : State) (r : Region) (b : Blk) (f : Block → Block) : (modBlk s r b f).ports = s.ports := rfl
@[simp] theorem modBlk_ingress (s : State) (r : Region) (b : Blk) (f : Block → Block) : (modBlk s r b f).ingress = s.ingress := rfl
@[simp] theorem modBlk_egress (s : State) (r : Region) (b : Blk) (f : Block → Block) : (modBlk s r b f).egress = s.egress := rfl
@[simp] theorem modBlk_cp (s : State) (r : Region) (b : Blk) (f : Block → Block) : (modBlk s r b f).cp = s.cp := rfl
@[simp] theorem modBlk_mp (s : State) (r : Region) (b : Blk) (f : Block → Block) : (modBlk s r b f).mp = s.mp := rfl
@[simp] theorem modBlk_ghp (s : State) (r : Region) (b : Blk) (f : Block → Block) : (modBlk s r b f).ghp = s.ghp := rfl

/-! ## modEp -/

@[simp] theorem modEp_pending (s : State) (p : EPort) (f : PortSt → PortSt) : (modEp s p f).pending = s.pending := rfl
@[simp] theorem modEp_free (s : State) (p : EPort) (f : PortSt → PortSt) : (modEp s p f).free = s.free := rfl
@[simp] theorem modEp_aon (s : State) (p : EPort) (f : PortSt → PortSt) : (modEp s p f).aon = s.aon := rfl
@[simp] theorem modEp_pins (s : State) (p : EPort) (f : PortSt → PortSt) : (modEp s p f).pins = s.pins := rfl
@[simp] theorem modEp_frz (s : State) (p : EPort) (f : PortSt → PortSt) : (modEp s p f).frz = s.frz := rfl
@[simp] theorem modEp_flt (s : State) (p : EPort) (f : PortSt → PortSt) : (modEp s p f).flt = s.flt := rfl
@[simp] theorem modEp_rs (s : State) (p : EPort) (f : PortSt → PortSt) : (modEp s p f).rs = s.rs := rfl
@[simp] theorem modEp_gh (s : State) (p : EPort) (f : PortSt → PortSt) : (modEp s p f).gh = s.gh := rfl
@[simp] theorem modEp_meas (s : State) (p : EPort) (f : PortSt → PortSt) : (modEp s p f).meas = s.meas := rfl
@[simp] theorem modEp_pln (s : State) (p : EPort) (f : PortSt → PortSt) : (modEp s p f).pln = s.pln := rfl
@[simp] theorem modEp_pwr (s : State) (p : EPort) (f : PortSt → PortSt) : (modEp s p f).pwr = s.pwr := rfl
@[simp] theorem modEp_map (s : State) (p : EPort) (f : PortSt → PortSt) : (modEp s p f).map = s.map := rfl
@[simp] theorem modEp_slu (s : State) (p : EPort) (f : PortSt → PortSt) : (modEp s p f).slu = s.slu := rfl
@[simp] theorem modEp_fb (s : State) (p : EPort) (f : PortSt → PortSt) : (modEp s p f).fb = s.fb := rfl
@[simp] theorem modEp_rill (s : State) (p : EPort) (f : PortSt → PortSt) : (modEp s p f).rill = s.rill := rfl
@[simp] theorem modEp_cnt (s : State) (p : EPort) (f : PortSt → PortSt) : (modEp s p f).cnt = s.cnt := rfl
@[simp] theorem modEp_bst (s : State) (p : EPort) (f : PortSt → PortSt) : (modEp s p f).bst = s.bst := rfl
@[simp] theorem modEp_lod (s : State) (p : EPort) (f : PortSt → PortSt) : (modEp s p f).lod = s.lod := rfl
@[simp] theorem modEp_fuse (s : State) (p : EPort) (f : PortSt → PortSt) : (modEp s p f).fuse = s.fuse := rfl
@[simp] theorem modEp_wrp (s : State) (p : EPort) (f : PortSt → PortSt) : (modEp s p f).wrp = s.wrp := rfl
@[simp] theorem modEp_mem (s : State) (p : EPort) (f : PortSt → PortSt) : (modEp s p f).mem = s.mem := rfl
@[simp] theorem modEp_basin (s : State) (p : EPort) (f : PortSt → PortSt) : (modEp s p f).basin = s.basin := rfl
@[simp] theorem modEp_regions (s : State) (p : EPort) (f : PortSt → PortSt) : (modEp s p f).regions = s.regions := rfl
@[simp] theorem modEp_ports (s : State) (p : EPort) (f : PortSt → PortSt) : (modEp s p f).ports = vmod s.ports p f := rfl
@[simp] theorem modEp_ingress (s : State) (p : EPort) (f : PortSt → PortSt) : (modEp s p f).ingress = s.ingress := rfl
@[simp] theorem modEp_egress (s : State) (p : EPort) (f : PortSt → PortSt) : (modEp s p f).egress = s.egress := rfl
@[simp] theorem modEp_cp (s : State) (p : EPort) (f : PortSt → PortSt) : (modEp s p f).cp = s.cp := rfl
@[simp] theorem modEp_mp (s : State) (p : EPort) (f : PortSt → PortSt) : (modEp s p f).mp = s.mp := rfl
@[simp] theorem modEp_ghp (s : State) (p : EPort) (f : PortSt → PortSt) : (modEp s p f).ghp = s.ghp := rfl

/-! ## modEv -/

@[simp] theorem modEv_pending (s : State) (r : Region) (f : REvents → REvents) : (modEv s r f).pending = s.pending := rfl
@[simp] theorem modEv_free (s : State) (r : Region) (f : REvents → REvents) : (modEv s r f).free = s.free := rfl
@[simp] theorem modEv_aon (s : State) (r : Region) (f : REvents → REvents) : (modEv s r f).aon = s.aon := rfl
@[simp] theorem modEv_pins (s : State) (r : Region) (f : REvents → REvents) : (modEv s r f).pins = s.pins := rfl
@[simp] theorem modEv_frz (s : State) (r : Region) (f : REvents → REvents) : (modEv s r f).frz = s.frz := rfl
@[simp] theorem modEv_flt (s : State) (r : Region) (f : REvents → REvents) : (modEv s r f).flt = s.flt := rfl
@[simp] theorem modEv_rs (s : State) (r : Region) (f : REvents → REvents) : (modEv s r f).rs = s.rs := rfl
@[simp] theorem modEv_gh (s : State) (r : Region) (f : REvents → REvents) : (modEv s r f).gh = s.gh := rfl
@[simp] theorem modEv_meas (s : State) (r : Region) (f : REvents → REvents) : (modEv s r f).meas = s.meas := rfl
@[simp] theorem modEv_pln (s : State) (r : Region) (f : REvents → REvents) : (modEv s r f).pln = s.pln := rfl
@[simp] theorem modEv_pwr (s : State) (r : Region) (f : REvents → REvents) : (modEv s r f).pwr = s.pwr := rfl
@[simp] theorem modEv_map (s : State) (r : Region) (f : REvents → REvents) : (modEv s r f).map = s.map := rfl
@[simp] theorem modEv_slu (s : State) (r : Region) (f : REvents → REvents) : (modEv s r f).slu = s.slu := rfl
@[simp] theorem modEv_fb (s : State) (r : Region) (f : REvents → REvents) : (modEv s r f).fb = s.fb := rfl
@[simp] theorem modEv_rill (s : State) (r : Region) (f : REvents → REvents) : (modEv s r f).rill = s.rill := rfl
@[simp] theorem modEv_cnt (s : State) (r : Region) (f : REvents → REvents) : (modEv s r f).cnt = s.cnt := rfl
@[simp] theorem modEv_bst (s : State) (r : Region) (f : REvents → REvents) : (modEv s r f).bst = s.bst := rfl
@[simp] theorem modEv_lod (s : State) (r : Region) (f : REvents → REvents) : (modEv s r f).lod = s.lod := rfl
@[simp] theorem modEv_fuse (s : State) (r : Region) (f : REvents → REvents) : (modEv s r f).fuse = s.fuse := rfl
@[simp] theorem modEv_wrp (s : State) (r : Region) (f : REvents → REvents) : (modEv s r f).wrp = s.wrp := rfl
@[simp] theorem modEv_mem (s : State) (r : Region) (f : REvents → REvents) : (modEv s r f).mem = s.mem := rfl
@[simp] theorem modEv_basin (s : State) (r : Region) (f : REvents → REvents) : (modEv s r f).basin = s.basin := rfl
@[simp] theorem modEv_regions (s : State) (r : Region) (f : REvents → REvents) : (modEv s r f).regions = vmod s.regions r (fun g => { g with ev := f g.ev }) := rfl
@[simp] theorem modEv_ports (s : State) (r : Region) (f : REvents → REvents) : (modEv s r f).ports = s.ports := rfl
@[simp] theorem modEv_ingress (s : State) (r : Region) (f : REvents → REvents) : (modEv s r f).ingress = s.ingress := rfl
@[simp] theorem modEv_egress (s : State) (r : Region) (f : REvents → REvents) : (modEv s r f).egress = s.egress := rfl
@[simp] theorem modEv_cp (s : State) (r : Region) (f : REvents → REvents) : (modEv s r f).cp = s.cp := rfl
@[simp] theorem modEv_mp (s : State) (r : Region) (f : REvents → REvents) : (modEv s r f).mp = s.mp := rfl
@[simp] theorem modEv_ghp (s : State) (r : Region) (f : REvents → REvents) : (modEv s r f).ghp = s.ghp := rfl

/-! ## modPw -/

@[simp] theorem modPw_pending (s : State) (r : Region) (f : RPower → RPower) : (modPw s r f).pending = s.pending := rfl
@[simp] theorem modPw_free (s : State) (r : Region) (f : RPower → RPower) : (modPw s r f).free = s.free := rfl
@[simp] theorem modPw_aon (s : State) (r : Region) (f : RPower → RPower) : (modPw s r f).aon = s.aon := rfl
@[simp] theorem modPw_pins (s : State) (r : Region) (f : RPower → RPower) : (modPw s r f).pins = s.pins := rfl
@[simp] theorem modPw_frz (s : State) (r : Region) (f : RPower → RPower) : (modPw s r f).frz = s.frz := rfl
@[simp] theorem modPw_flt (s : State) (r : Region) (f : RPower → RPower) : (modPw s r f).flt = s.flt := rfl
@[simp] theorem modPw_rs (s : State) (r : Region) (f : RPower → RPower) : (modPw s r f).rs = s.rs := rfl
@[simp] theorem modPw_gh (s : State) (r : Region) (f : RPower → RPower) : (modPw s r f).gh = s.gh := rfl
@[simp] theorem modPw_meas (s : State) (r : Region) (f : RPower → RPower) : (modPw s r f).meas = s.meas := rfl
@[simp] theorem modPw_pln (s : State) (r : Region) (f : RPower → RPower) : (modPw s r f).pln = s.pln := rfl
@[simp] theorem modPw_pwr (s : State) (r : Region) (f : RPower → RPower) : (modPw s r f).pwr = s.pwr := rfl
@[simp] theorem modPw_map (s : State) (r : Region) (f : RPower → RPower) : (modPw s r f).map = s.map := rfl
@[simp] theorem modPw_slu (s : State) (r : Region) (f : RPower → RPower) : (modPw s r f).slu = s.slu := rfl
@[simp] theorem modPw_fb (s : State) (r : Region) (f : RPower → RPower) : (modPw s r f).fb = s.fb := rfl
@[simp] theorem modPw_rill (s : State) (r : Region) (f : RPower → RPower) : (modPw s r f).rill = s.rill := rfl
@[simp] theorem modPw_cnt (s : State) (r : Region) (f : RPower → RPower) : (modPw s r f).cnt = s.cnt := rfl
@[simp] theorem modPw_bst (s : State) (r : Region) (f : RPower → RPower) : (modPw s r f).bst = s.bst := rfl
@[simp] theorem modPw_lod (s : State) (r : Region) (f : RPower → RPower) : (modPw s r f).lod = s.lod := rfl
@[simp] theorem modPw_fuse (s : State) (r : Region) (f : RPower → RPower) : (modPw s r f).fuse = s.fuse := rfl
@[simp] theorem modPw_wrp (s : State) (r : Region) (f : RPower → RPower) : (modPw s r f).wrp = s.wrp := rfl
@[simp] theorem modPw_mem (s : State) (r : Region) (f : RPower → RPower) : (modPw s r f).mem = s.mem := rfl
@[simp] theorem modPw_basin (s : State) (r : Region) (f : RPower → RPower) : (modPw s r f).basin = s.basin := rfl
@[simp] theorem modPw_regions (s : State) (r : Region) (f : RPower → RPower) : (modPw s r f).regions = vmod s.regions r (fun g => { g with power := f g.power }) := rfl
@[simp] theorem modPw_ports (s : State) (r : Region) (f : RPower → RPower) : (modPw s r f).ports = s.ports := rfl
@[simp] theorem modPw_ingress (s : State) (r : Region) (f : RPower → RPower) : (modPw s r f).ingress = s.ingress := rfl
@[simp] theorem modPw_egress (s : State) (r : Region) (f : RPower → RPower) : (modPw s r f).egress = s.egress := rfl
@[simp] theorem modPw_cp (s : State) (r : Region) (f : RPower → RPower) : (modPw s r f).cp = s.cp := rfl
@[simp] theorem modPw_mp (s : State) (r : Region) (f : RPower → RPower) : (modPw s r f).mp = s.mp := rfl
@[simp] theorem modPw_ghp (s : State) (r : Region) (f : RPower → RPower) : (modPw s r f).ghp = s.ghp := rfl

/-! ## modDir -/

@[simp] theorem modDir_pending (s : State) (d : Half) (f : FbDir → FbDir) : (modDir s d f).pending = s.pending := rfl
@[simp] theorem modDir_free (s : State) (d : Half) (f : FbDir → FbDir) : (modDir s d f).free = s.free := rfl
@[simp] theorem modDir_aon (s : State) (d : Half) (f : FbDir → FbDir) : (modDir s d f).aon = s.aon := rfl
@[simp] theorem modDir_pins (s : State) (d : Half) (f : FbDir → FbDir) : (modDir s d f).pins = s.pins := rfl
@[simp] theorem modDir_frz (s : State) (d : Half) (f : FbDir → FbDir) : (modDir s d f).frz = s.frz := rfl
@[simp] theorem modDir_flt (s : State) (d : Half) (f : FbDir → FbDir) : (modDir s d f).flt = s.flt := rfl
@[simp] theorem modDir_rs (s : State) (d : Half) (f : FbDir → FbDir) : (modDir s d f).rs = s.rs := rfl
@[simp] theorem modDir_gh (s : State) (d : Half) (f : FbDir → FbDir) : (modDir s d f).gh = s.gh := rfl
@[simp] theorem modDir_meas (s : State) (d : Half) (f : FbDir → FbDir) : (modDir s d f).meas = s.meas := rfl
@[simp] theorem modDir_pln (s : State) (d : Half) (f : FbDir → FbDir) : (modDir s d f).pln = s.pln := rfl
@[simp] theorem modDir_pwr (s : State) (d : Half) (f : FbDir → FbDir) : (modDir s d f).pwr = s.pwr := rfl
@[simp] theorem modDir_map (s : State) (d : Half) (f : FbDir → FbDir) : (modDir s d f).map = s.map := rfl
@[simp] theorem modDir_slu (s : State) (d : Half) (f : FbDir → FbDir) : (modDir s d f).slu = s.slu := rfl
@[simp] theorem modDir_fb (s : State) (d : Half) (f : FbDir → FbDir) : (modDir s d f).fb = { s.fb with dirs := vmod s.fb.dirs d f } := rfl
@[simp] theorem modDir_rill (s : State) (d : Half) (f : FbDir → FbDir) : (modDir s d f).rill = s.rill := rfl
@[simp] theorem modDir_cnt (s : State) (d : Half) (f : FbDir → FbDir) : (modDir s d f).cnt = s.cnt := rfl
@[simp] theorem modDir_bst (s : State) (d : Half) (f : FbDir → FbDir) : (modDir s d f).bst = s.bst := rfl
@[simp] theorem modDir_lod (s : State) (d : Half) (f : FbDir → FbDir) : (modDir s d f).lod = s.lod := rfl
@[simp] theorem modDir_fuse (s : State) (d : Half) (f : FbDir → FbDir) : (modDir s d f).fuse = s.fuse := rfl
@[simp] theorem modDir_wrp (s : State) (d : Half) (f : FbDir → FbDir) : (modDir s d f).wrp = s.wrp := rfl
@[simp] theorem modDir_mem (s : State) (d : Half) (f : FbDir → FbDir) : (modDir s d f).mem = s.mem := rfl
@[simp] theorem modDir_basin (s : State) (d : Half) (f : FbDir → FbDir) : (modDir s d f).basin = s.basin := rfl
@[simp] theorem modDir_regions (s : State) (d : Half) (f : FbDir → FbDir) : (modDir s d f).regions = s.regions := rfl
@[simp] theorem modDir_ports (s : State) (d : Half) (f : FbDir → FbDir) : (modDir s d f).ports = s.ports := rfl
@[simp] theorem modDir_ingress (s : State) (d : Half) (f : FbDir → FbDir) : (modDir s d f).ingress = s.ingress := rfl
@[simp] theorem modDir_egress (s : State) (d : Half) (f : FbDir → FbDir) : (modDir s d f).egress = s.egress := rfl
@[simp] theorem modDir_cp (s : State) (d : Half) (f : FbDir → FbDir) : (modDir s d f).cp = s.cp := rfl
@[simp] theorem modDir_mp (s : State) (d : Half) (f : FbDir → FbDir) : (modDir s d f).mp = s.mp := rfl
@[simp] theorem modDir_ghp (s : State) (d : Half) (f : FbDir → FbDir) : (modDir s d f).ghp = s.ghp := rfl

/-! ## modRp -/

@[simp] theorem modRp_pending (s : State) (k : RPort) (f : RillPort → RillPort) : (modRp s k f).pending = s.pending := rfl
@[simp] theorem modRp_free (s : State) (k : RPort) (f : RillPort → RillPort) : (modRp s k f).free = s.free := rfl
@[simp] theorem modRp_aon (s : State) (k : RPort) (f : RillPort → RillPort) : (modRp s k f).aon = s.aon := rfl
@[simp] theorem modRp_pins (s : State) (k : RPort) (f : RillPort → RillPort) : (modRp s k f).pins = s.pins := rfl
@[simp] theorem modRp_frz (s : State) (k : RPort) (f : RillPort → RillPort) : (modRp s k f).frz = s.frz := rfl
@[simp] theorem modRp_flt (s : State) (k : RPort) (f : RillPort → RillPort) : (modRp s k f).flt = s.flt := rfl
@[simp] theorem modRp_rs (s : State) (k : RPort) (f : RillPort → RillPort) : (modRp s k f).rs = s.rs := rfl
@[simp] theorem modRp_gh (s : State) (k : RPort) (f : RillPort → RillPort) : (modRp s k f).gh = s.gh := rfl
@[simp] theorem modRp_meas (s : State) (k : RPort) (f : RillPort → RillPort) : (modRp s k f).meas = s.meas := rfl
@[simp] theorem modRp_pln (s : State) (k : RPort) (f : RillPort → RillPort) : (modRp s k f).pln = s.pln := rfl
@[simp] theorem modRp_pwr (s : State) (k : RPort) (f : RillPort → RillPort) : (modRp s k f).pwr = s.pwr := rfl
@[simp] theorem modRp_map (s : State) (k : RPort) (f : RillPort → RillPort) : (modRp s k f).map = s.map := rfl
@[simp] theorem modRp_slu (s : State) (k : RPort) (f : RillPort → RillPort) : (modRp s k f).slu = s.slu := rfl
@[simp] theorem modRp_fb (s : State) (k : RPort) (f : RillPort → RillPort) : (modRp s k f).fb = s.fb := rfl
@[simp] theorem modRp_rill (s : State) (k : RPort) (f : RillPort → RillPort) : (modRp s k f).rill = { s.rill with ports := vmod s.rill.ports k f } := rfl
@[simp] theorem modRp_cnt (s : State) (k : RPort) (f : RillPort → RillPort) : (modRp s k f).cnt = s.cnt := rfl
@[simp] theorem modRp_bst (s : State) (k : RPort) (f : RillPort → RillPort) : (modRp s k f).bst = s.bst := rfl
@[simp] theorem modRp_lod (s : State) (k : RPort) (f : RillPort → RillPort) : (modRp s k f).lod = s.lod := rfl
@[simp] theorem modRp_fuse (s : State) (k : RPort) (f : RillPort → RillPort) : (modRp s k f).fuse = s.fuse := rfl
@[simp] theorem modRp_wrp (s : State) (k : RPort) (f : RillPort → RillPort) : (modRp s k f).wrp = s.wrp := rfl
@[simp] theorem modRp_mem (s : State) (k : RPort) (f : RillPort → RillPort) : (modRp s k f).mem = s.mem := rfl
@[simp] theorem modRp_basin (s : State) (k : RPort) (f : RillPort → RillPort) : (modRp s k f).basin = s.basin := rfl
@[simp] theorem modRp_regions (s : State) (k : RPort) (f : RillPort → RillPort) : (modRp s k f).regions = s.regions := rfl
@[simp] theorem modRp_ports (s : State) (k : RPort) (f : RillPort → RillPort) : (modRp s k f).ports = s.ports := rfl
@[simp] theorem modRp_ingress (s : State) (k : RPort) (f : RillPort → RillPort) : (modRp s k f).ingress = s.ingress := rfl
@[simp] theorem modRp_egress (s : State) (k : RPort) (f : RillPort → RillPort) : (modRp s k f).egress = s.egress := rfl
@[simp] theorem modRp_cp (s : State) (k : RPort) (f : RillPort → RillPort) : (modRp s k f).cp = s.cp := rfl
@[simp] theorem modRp_mp (s : State) (k : RPort) (f : RillPort → RillPort) : (modRp s k f).mp = s.mp := rfl
@[simp] theorem modRp_ghp (s : State) (k : RPort) (f : RillPort → RillPort) : (modRp s k f).ghp = s.ghp := rfl

/-! ## modStream -/

@[simp] theorem modStream_pending (s : State) (c : BitVec 12) (f : StreamSt → StreamSt) : (modStream s c f).pending = s.pending := rfl
@[simp] theorem modStream_free (s : State) (c : BitVec 12) (f : StreamSt → StreamSt) : (modStream s c f).free = s.free := rfl
@[simp] theorem modStream_aon (s : State) (c : BitVec 12) (f : StreamSt → StreamSt) : (modStream s c f).aon = s.aon := rfl
@[simp] theorem modStream_pins (s : State) (c : BitVec 12) (f : StreamSt → StreamSt) : (modStream s c f).pins = s.pins := rfl
@[simp] theorem modStream_frz (s : State) (c : BitVec 12) (f : StreamSt → StreamSt) : (modStream s c f).frz = s.frz := rfl
@[simp] theorem modStream_flt (s : State) (c : BitVec 12) (f : StreamSt → StreamSt) : (modStream s c f).flt = s.flt := rfl
@[simp] theorem modStream_rs (s : State) (c : BitVec 12) (f : StreamSt → StreamSt) : (modStream s c f).rs = s.rs := rfl
@[simp] theorem modStream_gh (s : State) (c : BitVec 12) (f : StreamSt → StreamSt) : (modStream s c f).gh = s.gh := rfl
@[simp] theorem modStream_meas (s : State) (c : BitVec 12) (f : StreamSt → StreamSt) : (modStream s c f).meas = s.meas := rfl
@[simp] theorem modStream_pln (s : State) (c : BitVec 12) (f : StreamSt → StreamSt) : (modStream s c f).pln = s.pln := rfl
@[simp] theorem modStream_pwr (s : State) (c : BitVec 12) (f : StreamSt → StreamSt) : (modStream s c f).pwr = s.pwr := rfl
@[simp] theorem modStream_map (s : State) (c : BitVec 12) (f : StreamSt → StreamSt) : (modStream s c f).map = s.map := rfl
@[simp] theorem modStream_slu (s : State) (c : BitVec 12) (f : StreamSt → StreamSt) : (modStream s c f).slu = s.slu := rfl
@[simp] theorem modStream_fb (s : State) (c : BitVec 12) (f : StreamSt → StreamSt) : (modStream s c f).fb = s.fb := rfl
@[simp] theorem modStream_rill (s : State) (c : BitVec 12) (f : StreamSt → StreamSt) : (modStream s c f).rill = { s.rill with streams := tset stream0 s.rill.streams c.toNat (f (stream s c)) } := rfl
@[simp] theorem modStream_cnt (s : State) (c : BitVec 12) (f : StreamSt → StreamSt) : (modStream s c f).cnt = s.cnt := rfl
@[simp] theorem modStream_bst (s : State) (c : BitVec 12) (f : StreamSt → StreamSt) : (modStream s c f).bst = s.bst := rfl
@[simp] theorem modStream_lod (s : State) (c : BitVec 12) (f : StreamSt → StreamSt) : (modStream s c f).lod = s.lod := rfl
@[simp] theorem modStream_fuse (s : State) (c : BitVec 12) (f : StreamSt → StreamSt) : (modStream s c f).fuse = s.fuse := rfl
@[simp] theorem modStream_wrp (s : State) (c : BitVec 12) (f : StreamSt → StreamSt) : (modStream s c f).wrp = s.wrp := rfl
@[simp] theorem modStream_mem (s : State) (c : BitVec 12) (f : StreamSt → StreamSt) : (modStream s c f).mem = s.mem := rfl
@[simp] theorem modStream_basin (s : State) (c : BitVec 12) (f : StreamSt → StreamSt) : (modStream s c f).basin = s.basin := rfl
@[simp] theorem modStream_regions (s : State) (c : BitVec 12) (f : StreamSt → StreamSt) : (modStream s c f).regions = s.regions := rfl
@[simp] theorem modStream_ports (s : State) (c : BitVec 12) (f : StreamSt → StreamSt) : (modStream s c f).ports = s.ports := rfl
@[simp] theorem modStream_ingress (s : State) (c : BitVec 12) (f : StreamSt → StreamSt) : (modStream s c f).ingress = s.ingress := rfl
@[simp] theorem modStream_egress (s : State) (c : BitVec 12) (f : StreamSt → StreamSt) : (modStream s c f).egress = s.egress := rfl
@[simp] theorem modStream_cp (s : State) (c : BitVec 12) (f : StreamSt → StreamSt) : (modStream s c f).cp = s.cp := rfl
@[simp] theorem modStream_mp (s : State) (c : BitVec 12) (f : StreamSt → StreamSt) : (modStream s c f).mp = s.mp := rfl
@[simp] theorem modStream_ghp (s : State) (c : BitVec 12) (f : StreamSt → StreamSt) : (modStream s c f).ghp = s.ghp := rfl

/-! ## modBar -/

@[simp] theorem modBar_pending (s : State) (b : Fin 64) (f : Barrier → Barrier) : (modBar s b f).pending = s.pending := rfl
@[simp] theorem modBar_free (s : State) (b : Fin 64) (f : Barrier → Barrier) : (modBar s b f).free = s.free := rfl
@[simp] theorem modBar_aon (s : State) (b : Fin 64) (f : Barrier → Barrier) : (modBar s b f).aon = s.aon := rfl
@[simp] theorem modBar_pins (s : State) (b : Fin 64) (f : Barrier → Barrier) : (modBar s b f).pins = s.pins := rfl
@[simp] theorem modBar_frz (s : State) (b : Fin 64) (f : Barrier → Barrier) : (modBar s b f).frz = s.frz := rfl
@[simp] theorem modBar_flt (s : State) (b : Fin 64) (f : Barrier → Barrier) : (modBar s b f).flt = s.flt := rfl
@[simp] theorem modBar_rs (s : State) (b : Fin 64) (f : Barrier → Barrier) : (modBar s b f).rs = s.rs := rfl
@[simp] theorem modBar_gh (s : State) (b : Fin 64) (f : Barrier → Barrier) : (modBar s b f).gh = s.gh := rfl
@[simp] theorem modBar_meas (s : State) (b : Fin 64) (f : Barrier → Barrier) : (modBar s b f).meas = s.meas := rfl
@[simp] theorem modBar_pln (s : State) (b : Fin 64) (f : Barrier → Barrier) : (modBar s b f).pln = s.pln := rfl
@[simp] theorem modBar_pwr (s : State) (b : Fin 64) (f : Barrier → Barrier) : (modBar s b f).pwr = s.pwr := rfl
@[simp] theorem modBar_map (s : State) (b : Fin 64) (f : Barrier → Barrier) : (modBar s b f).map = s.map := rfl
@[simp] theorem modBar_slu (s : State) (b : Fin 64) (f : Barrier → Barrier) : (modBar s b f).slu = s.slu := rfl
@[simp] theorem modBar_fb (s : State) (b : Fin 64) (f : Barrier → Barrier) : (modBar s b f).fb = s.fb := rfl
@[simp] theorem modBar_rill (s : State) (b : Fin 64) (f : Barrier → Barrier) : (modBar s b f).rill = s.rill := rfl
@[simp] theorem modBar_cnt (s : State) (b : Fin 64) (f : Barrier → Barrier) : (modBar s b f).cnt = s.cnt := rfl
@[simp] theorem modBar_bst (s : State) (b : Fin 64) (f : Barrier → Barrier) : (modBar s b f).bst = { s.bst with bars := vmod s.bst.bars b f } := rfl
@[simp] theorem modBar_lod (s : State) (b : Fin 64) (f : Barrier → Barrier) : (modBar s b f).lod = s.lod := rfl
@[simp] theorem modBar_fuse (s : State) (b : Fin 64) (f : Barrier → Barrier) : (modBar s b f).fuse = s.fuse := rfl
@[simp] theorem modBar_wrp (s : State) (b : Fin 64) (f : Barrier → Barrier) : (modBar s b f).wrp = s.wrp := rfl
@[simp] theorem modBar_mem (s : State) (b : Fin 64) (f : Barrier → Barrier) : (modBar s b f).mem = s.mem := rfl
@[simp] theorem modBar_basin (s : State) (b : Fin 64) (f : Barrier → Barrier) : (modBar s b f).basin = s.basin := rfl
@[simp] theorem modBar_regions (s : State) (b : Fin 64) (f : Barrier → Barrier) : (modBar s b f).regions = s.regions := rfl
@[simp] theorem modBar_ports (s : State) (b : Fin 64) (f : Barrier → Barrier) : (modBar s b f).ports = s.ports := rfl
@[simp] theorem modBar_ingress (s : State) (b : Fin 64) (f : Barrier → Barrier) : (modBar s b f).ingress = s.ingress := rfl
@[simp] theorem modBar_egress (s : State) (b : Fin 64) (f : Barrier → Barrier) : (modBar s b f).egress = s.egress := rfl
@[simp] theorem modBar_cp (s : State) (b : Fin 64) (f : Barrier → Barrier) : (modBar s b f).cp = s.cp := rfl
@[simp] theorem modBar_mp (s : State) (b : Fin 64) (f : Barrier → Barrier) : (modBar s b f).mp = s.mp := rfl
@[simp] theorem modBar_ghp (s : State) (b : Fin 64) (f : Barrier → Barrier) : (modBar s b f).ghp = s.ghp := rfl

/-! ## modBox -/

@[simp] theorem modBox_pending (s : State) (n : Fin 64) (f : Mailbox → Mailbox) : (modBox s n f).pending = s.pending := rfl
@[simp] theorem modBox_free (s : State) (n : Fin 64) (f : Mailbox → Mailbox) : (modBox s n f).free = s.free := rfl
@[simp] theorem modBox_aon (s : State) (n : Fin 64) (f : Mailbox → Mailbox) : (modBox s n f).aon = s.aon := rfl
@[simp] theorem modBox_pins (s : State) (n : Fin 64) (f : Mailbox → Mailbox) : (modBox s n f).pins = s.pins := rfl
@[simp] theorem modBox_frz (s : State) (n : Fin 64) (f : Mailbox → Mailbox) : (modBox s n f).frz = s.frz := rfl
@[simp] theorem modBox_flt (s : State) (n : Fin 64) (f : Mailbox → Mailbox) : (modBox s n f).flt = s.flt := rfl
@[simp] theorem modBox_rs (s : State) (n : Fin 64) (f : Mailbox → Mailbox) : (modBox s n f).rs = s.rs := rfl
@[simp] theorem modBox_gh (s : State) (n : Fin 64) (f : Mailbox → Mailbox) : (modBox s n f).gh = s.gh := rfl
@[simp] theorem modBox_meas (s : State) (n : Fin 64) (f : Mailbox → Mailbox) : (modBox s n f).meas = s.meas := rfl
@[simp] theorem modBox_pln (s : State) (n : Fin 64) (f : Mailbox → Mailbox) : (modBox s n f).pln = s.pln := rfl
@[simp] theorem modBox_pwr (s : State) (n : Fin 64) (f : Mailbox → Mailbox) : (modBox s n f).pwr = s.pwr := rfl
@[simp] theorem modBox_map (s : State) (n : Fin 64) (f : Mailbox → Mailbox) : (modBox s n f).map = s.map := rfl
@[simp] theorem modBox_slu (s : State) (n : Fin 64) (f : Mailbox → Mailbox) : (modBox s n f).slu = s.slu := rfl
@[simp] theorem modBox_fb (s : State) (n : Fin 64) (f : Mailbox → Mailbox) : (modBox s n f).fb = s.fb := rfl
@[simp] theorem modBox_rill (s : State) (n : Fin 64) (f : Mailbox → Mailbox) : (modBox s n f).rill = s.rill := rfl
@[simp] theorem modBox_cnt (s : State) (n : Fin 64) (f : Mailbox → Mailbox) : (modBox s n f).cnt = s.cnt := rfl
@[simp] theorem modBox_bst (s : State) (n : Fin 64) (f : Mailbox → Mailbox) : (modBox s n f).bst = s.bst := rfl
@[simp] theorem modBox_lod (s : State) (n : Fin 64) (f : Mailbox → Mailbox) : (modBox s n f).lod = { s.lod with boxes := vmod s.lod.boxes n f } := rfl
@[simp] theorem modBox_fuse (s : State) (n : Fin 64) (f : Mailbox → Mailbox) : (modBox s n f).fuse = s.fuse := rfl
@[simp] theorem modBox_wrp (s : State) (n : Fin 64) (f : Mailbox → Mailbox) : (modBox s n f).wrp = s.wrp := rfl
@[simp] theorem modBox_mem (s : State) (n : Fin 64) (f : Mailbox → Mailbox) : (modBox s n f).mem = s.mem := rfl
@[simp] theorem modBox_basin (s : State) (n : Fin 64) (f : Mailbox → Mailbox) : (modBox s n f).basin = s.basin := rfl
@[simp] theorem modBox_regions (s : State) (n : Fin 64) (f : Mailbox → Mailbox) : (modBox s n f).regions = s.regions := rfl
@[simp] theorem modBox_ports (s : State) (n : Fin 64) (f : Mailbox → Mailbox) : (modBox s n f).ports = s.ports := rfl
@[simp] theorem modBox_ingress (s : State) (n : Fin 64) (f : Mailbox → Mailbox) : (modBox s n f).ingress = s.ingress := rfl
@[simp] theorem modBox_egress (s : State) (n : Fin 64) (f : Mailbox → Mailbox) : (modBox s n f).egress = s.egress := rfl
@[simp] theorem modBox_cp (s : State) (n : Fin 64) (f : Mailbox → Mailbox) : (modBox s n f).cp = s.cp := rfl
@[simp] theorem modBox_mp (s : State) (n : Fin 64) (f : Mailbox → Mailbox) : (modBox s n f).mp = s.mp := rfl
@[simp] theorem modBox_ghp (s : State) (n : Fin 64) (f : Mailbox → Mailbox) : (modBox s n f).ghp = s.ghp := rfl

/-! ## modStager -/

@[simp] theorem modStager_pending (s : State) (h : Half) (f : Stager → Stager) : (modStager s h f).pending = s.pending := rfl
@[simp] theorem modStager_free (s : State) (h : Half) (f : Stager → Stager) : (modStager s h f).free = s.free := rfl
@[simp] theorem modStager_aon (s : State) (h : Half) (f : Stager → Stager) : (modStager s h f).aon = s.aon := rfl
@[simp] theorem modStager_pins (s : State) (h : Half) (f : Stager → Stager) : (modStager s h f).pins = s.pins := rfl
@[simp] theorem modStager_frz (s : State) (h : Half) (f : Stager → Stager) : (modStager s h f).frz = s.frz := rfl
@[simp] theorem modStager_flt (s : State) (h : Half) (f : Stager → Stager) : (modStager s h f).flt = s.flt := rfl
@[simp] theorem modStager_rs (s : State) (h : Half) (f : Stager → Stager) : (modStager s h f).rs = s.rs := rfl
@[simp] theorem modStager_gh (s : State) (h : Half) (f : Stager → Stager) : (modStager s h f).gh = s.gh := rfl
@[simp] theorem modStager_meas (s : State) (h : Half) (f : Stager → Stager) : (modStager s h f).meas = s.meas := rfl
@[simp] theorem modStager_pln (s : State) (h : Half) (f : Stager → Stager) : (modStager s h f).pln = s.pln := rfl
@[simp] theorem modStager_pwr (s : State) (h : Half) (f : Stager → Stager) : (modStager s h f).pwr = { s.pwr with stagers := vmod s.pwr.stagers h f } := rfl
@[simp] theorem modStager_map (s : State) (h : Half) (f : Stager → Stager) : (modStager s h f).map = s.map := rfl
@[simp] theorem modStager_slu (s : State) (h : Half) (f : Stager → Stager) : (modStager s h f).slu = s.slu := rfl
@[simp] theorem modStager_fb (s : State) (h : Half) (f : Stager → Stager) : (modStager s h f).fb = s.fb := rfl
@[simp] theorem modStager_rill (s : State) (h : Half) (f : Stager → Stager) : (modStager s h f).rill = s.rill := rfl
@[simp] theorem modStager_cnt (s : State) (h : Half) (f : Stager → Stager) : (modStager s h f).cnt = s.cnt := rfl
@[simp] theorem modStager_bst (s : State) (h : Half) (f : Stager → Stager) : (modStager s h f).bst = s.bst := rfl
@[simp] theorem modStager_lod (s : State) (h : Half) (f : Stager → Stager) : (modStager s h f).lod = s.lod := rfl
@[simp] theorem modStager_fuse (s : State) (h : Half) (f : Stager → Stager) : (modStager s h f).fuse = s.fuse := rfl
@[simp] theorem modStager_wrp (s : State) (h : Half) (f : Stager → Stager) : (modStager s h f).wrp = s.wrp := rfl
@[simp] theorem modStager_mem (s : State) (h : Half) (f : Stager → Stager) : (modStager s h f).mem = s.mem := rfl
@[simp] theorem modStager_basin (s : State) (h : Half) (f : Stager → Stager) : (modStager s h f).basin = s.basin := rfl
@[simp] theorem modStager_regions (s : State) (h : Half) (f : Stager → Stager) : (modStager s h f).regions = s.regions := rfl
@[simp] theorem modStager_ports (s : State) (h : Half) (f : Stager → Stager) : (modStager s h f).ports = s.ports := rfl
@[simp] theorem modStager_ingress (s : State) (h : Half) (f : Stager → Stager) : (modStager s h f).ingress = s.ingress := rfl
@[simp] theorem modStager_egress (s : State) (h : Half) (f : Stager → Stager) : (modStager s h f).egress = s.egress := rfl
@[simp] theorem modStager_cp (s : State) (h : Half) (f : Stager → Stager) : (modStager s h f).cp = s.cp := rfl
@[simp] theorem modStager_mp (s : State) (h : Half) (f : Stager → Stager) : (modStager s h f).mp = s.mp := rfl
@[simp] theorem modStager_ghp (s : State) (h : Half) (f : Stager → Stager) : (modStager s h f).ghp = s.ghp := rfl

/-! ## modRport -/

@[simp] theorem modRport_pending (s : State) (p : RegPort) (f : RegPortSt → RegPortSt) : (modRport s p f).pending = s.pending := by cases p <;> rfl
@[simp] theorem modRport_free (s : State) (p : RegPort) (f : RegPortSt → RegPortSt) : (modRport s p f).free = s.free := by cases p <;> rfl
@[simp] theorem modRport_aon (s : State) (p : RegPort) (f : RegPortSt → RegPortSt) : (modRport s p f).aon = s.aon := by cases p <;> rfl
@[simp] theorem modRport_pins (s : State) (p : RegPort) (f : RegPortSt → RegPortSt) : (modRport s p f).pins = s.pins := by cases p <;> rfl
@[simp] theorem modRport_frz (s : State) (p : RegPort) (f : RegPortSt → RegPortSt) : (modRport s p f).frz = s.frz := by cases p <;> rfl
@[simp] theorem modRport_flt (s : State) (p : RegPort) (f : RegPortSt → RegPortSt) : (modRport s p f).flt = s.flt := by cases p <;> rfl
@[simp] theorem modRport_rs (s : State) (p : RegPort) (f : RegPortSt → RegPortSt) : (modRport s p f).rs = s.rs := by cases p <;> rfl
@[simp] theorem modRport_gh (s : State) (p : RegPort) (f : RegPortSt → RegPortSt) : (modRport s p f).gh = s.gh := by cases p <;> rfl
@[simp] theorem modRport_meas (s : State) (p : RegPort) (f : RegPortSt → RegPortSt) : (modRport s p f).meas = s.meas := by cases p <;> rfl
@[simp] theorem modRport_pln (s : State) (p : RegPort) (f : RegPortSt → RegPortSt) : (modRport s p f).pln = s.pln := by cases p <;> rfl
@[simp] theorem modRport_pwr (s : State) (p : RegPort) (f : RegPortSt → RegPortSt) : (modRport s p f).pwr = s.pwr := by cases p <;> rfl
@[simp] theorem modRport_map (s : State) (p : RegPort) (f : RegPortSt → RegPortSt) : (modRport s p f).map = s.map := by cases p <;> rfl
@[simp] theorem modRport_slu (s : State) (p : RegPort) (f : RegPortSt → RegPortSt) : (modRport s p f).slu = s.slu := by cases p <;> rfl
@[simp] theorem modRport_fb (s : State) (p : RegPort) (f : RegPortSt → RegPortSt) : (modRport s p f).fb = s.fb := by cases p <;> rfl
@[simp] theorem modRport_rill (s : State) (p : RegPort) (f : RegPortSt → RegPortSt) : (modRport s p f).rill = s.rill := by cases p <;> rfl
@[simp] theorem modRport_cnt (s : State) (p : RegPort) (f : RegPortSt → RegPortSt) : (modRport s p f).cnt = s.cnt := by cases p <;> rfl
@[simp] theorem modRport_bst (s : State) (p : RegPort) (f : RegPortSt → RegPortSt) : (modRport s p f).bst = s.bst := by cases p <;> rfl
@[simp] theorem modRport_lod (s : State) (p : RegPort) (f : RegPortSt → RegPortSt) : (modRport s p f).lod = s.lod := by cases p <;> rfl
@[simp] theorem modRport_fuse (s : State) (p : RegPort) (f : RegPortSt → RegPortSt) : (modRport s p f).fuse = s.fuse := by cases p <;> rfl
@[simp] theorem modRport_wrp (s : State) (p : RegPort) (f : RegPortSt → RegPortSt) : (modRport s p f).wrp = s.wrp := by cases p <;> rfl
@[simp] theorem modRport_mem (s : State) (p : RegPort) (f : RegPortSt → RegPortSt) : (modRport s p f).mem = s.mem := by cases p <;> rfl
@[simp] theorem modRport_basin (s : State) (p : RegPort) (f : RegPortSt → RegPortSt) : (modRport s p f).basin = s.basin := by cases p <;> rfl
@[simp] theorem modRport_regions (s : State) (p : RegPort) (f : RegPortSt → RegPortSt) : (modRport s p f).regions = s.regions := by cases p <;> rfl
@[simp] theorem modRport_ports (s : State) (p : RegPort) (f : RegPortSt → RegPortSt) : (modRport s p f).ports = s.ports := by cases p <;> rfl
@[simp] theorem modRport_ingress (s : State) (p : RegPort) (f : RegPortSt → RegPortSt) : (modRport s p f).ingress = s.ingress := by cases p <;> rfl
@[simp] theorem modRport_egress (s : State) (p : RegPort) (f : RegPortSt → RegPortSt) : (modRport s p f).egress = s.egress := by cases p <;> rfl

/-! ## settle -/

@[simp] theorem settle_pending (s : State) : (settle s).pending = s.pending := by unfold settle; split <;> rfl
@[simp] theorem settle_free (s : State) : (settle s).free = s.free := by unfold settle; split <;> rfl
@[simp] theorem settle_aon (s : State) : (settle s).aon = s.aon := by unfold settle; split <;> rfl
@[simp] theorem settle_frz (s : State) : (settle s).frz = s.frz := by unfold settle; split <;> rfl
@[simp] theorem settle_flt (s : State) : (settle s).flt = s.flt := by unfold settle; split <;> rfl
@[simp] theorem settle_rs (s : State) : (settle s).rs = s.rs := by unfold settle; split <;> rfl
@[simp] theorem settle_gh (s : State) : (settle s).gh = s.gh := by unfold settle; split <;> rfl
@[simp] theorem settle_meas (s : State) : (settle s).meas = s.meas := by unfold settle; split <;> rfl
@[simp] theorem settle_pln (s : State) : (settle s).pln = s.pln := by unfold settle; split <;> rfl
@[simp] theorem settle_map (s : State) : (settle s).map = s.map := by unfold settle; split <;> rfl
@[simp] theorem settle_slu (s : State) : (settle s).slu = s.slu := by unfold settle; split <;> rfl
@[simp] theorem settle_fb (s : State) : (settle s).fb = s.fb := by unfold settle; split <;> rfl
@[simp] theorem settle_rill (s : State) : (settle s).rill = s.rill := by unfold settle; split <;> rfl
@[simp] theorem settle_cnt (s : State) : (settle s).cnt = s.cnt := by unfold settle; split <;> rfl
@[simp] theorem settle_bst (s : State) : (settle s).bst = s.bst := by unfold settle; split <;> rfl
@[simp] theorem settle_lod (s : State) : (settle s).lod = s.lod := by unfold settle; split <;> rfl
@[simp] theorem settle_fuse (s : State) : (settle s).fuse = s.fuse := by unfold settle; split <;> rfl
@[simp] theorem settle_wrp (s : State) : (settle s).wrp = s.wrp := by unfold settle; split <;> rfl
@[simp] theorem settle_mem (s : State) : (settle s).mem = s.mem := by unfold settle; split <;> rfl
@[simp] theorem settle_basin (s : State) : (settle s).basin = s.basin := by unfold settle; split <;> rfl
@[simp] theorem settle_regions (s : State) : (settle s).regions = s.regions := by unfold settle; split <;> rfl
@[simp] theorem settle_ports (s : State) : (settle s).ports = s.ports := by unfold settle; split <;> rfl
@[simp] theorem settle_ingress (s : State) : (settle s).ingress = s.ingress := by unfold settle; split <;> rfl
@[simp] theorem settle_egress (s : State) : (settle s).egress = s.egress := by unfold settle; split <;> rfl
@[simp] theorem settle_cp (s : State) : (settle s).cp = s.cp := by unfold settle; split <;> rfl
@[simp] theorem settle_mp (s : State) : (settle s).mp = s.mp := by unfold settle; split <;> rfl
@[simp] theorem settle_ghp (s : State) : (settle s).ghp = s.ghp := by unfold settle; split <;> rfl

/-! ## Files of registers -/

@[simp] theorem vget_vset_same {α : Type} {n : Nat} (v : Vector α n) (i : Fin n) (x : α) : vget (vset v i x) i = x := by
  simp [vget, vset]

theorem vget_vset_other {α : Type} {n : Nat} (v : Vector α n) {i j : Fin n} (x : α) (h : i ≠ j) :
    vget (vset v i x) j = vget v j := by
  have h' : i.val ≠ j.val := fun e => h (Fin.ext e)
  simp [vget, vset, Vector.getElem_set_ne, h']

theorem vget_vset {α : Type} {n : Nat} (v : Vector α n) (i j : Fin n) (x : α) :
    vget (vset v i x) j = if i = j then x else vget v j := by
  split
  · subst j; simp
  · exact vget_vset_other v x ‹_›

@[simp] theorem vget_vmod_same {α : Type} {n : Nat} (v : Vector α n) (i : Fin n) (f : α → α) :
    vget (vmod v i f) i = f (vget v i) := by simp [vmod]

theorem vget_vmod_other {α : Type} {n : Nat} (v : Vector α n) {i j : Fin n} (f : α → α) (h : i ≠ j) :
    vget (vmod v i f) j = vget v j := by simp [vmod, vget_vset_other _ _ h]

theorem vget_vmod {α : Type} {n : Nat} (v : Vector α n) (i j : Fin n) (f : α → α) :
    vget (vmod v i f) j = if i = j then f (vget v j) else vget v j := by
  split
  · subst j; simp
  · exact vget_vmod_other v f ‹_›

@[simp] theorem vget_replicate {α : Type} {n : Nat} (x : α) (i : Fin n) : vget (Vector.replicate n x) i = x := by simp [vget]

@[simp] theorem vget_vmap {α β : Type} {n : Nat} (f : Fin n → α → β) (v : Vector α n) (i : Fin n) :
    vget (vmap f v) i = f i (vget v i) := by simp [vmap, vget]

/-! ## Accessors after updates -/

@[simp] theorem rg_modRg_same (s : State) (r : Region) (f : RegionSt → RegionSt) : rg (modRg s r f) r = f (rg s r) := by
  simp [rg]

theorem rg_modRg (s : State) (r q : Region) (f : RegionSt → RegionSt) :
    rg (modRg s r f) q = if r = q then f (rg s q) else rg s q := by
  simp [rg, vget_vmod]

@[simp] theorem ep_modEp_same (s : State) (p : EPort) (f : PortSt → PortSt) : ep (modEp s p f) p = f (ep s p) := by simp [ep]

theorem ep_modEp (s : State) (p q : EPort) (f : PortSt → PortSt) :
    ep (modEp s p f) q = if p = q then f (ep s q) else ep s q := by
  simp [ep, vget_vmod]

@[simp] theorem dir_modDir_same (s : State) (d : Half) (f : FbDir → FbDir) : dir (modDir s d f) d = f (dir s d) := by simp [dir]

@[simp] theorem rp_modRp_same (s : State) (k : RPort) (f : RillPort → RillPort) : rp (modRp s k f) k = f (rp s k) := by simp [rp]

@[simp] theorem bar_modBar_same (s : State) (b : Fin 64) (f : Barrier → Barrier) : bar (modBar s b f) b = f (bar s b) := by
  simp [bar]

@[simp] theorem box_modBox_same (s : State) (n : Fin 64) (f : Mailbox → Mailbox) : box (modBox s n f) n = f (box s n) := by
  simp [box]

@[simp] theorem rport_modRport_same (s : State) (p : RegPort) (f : RegPortSt → RegPortSt) :
    rport (modRport s p f) p = f (rport s p) := by cases p <;> rfl

/-- An update of one register port leaves the other two. -/
theorem rport_modRport_other (s : State) {p q : RegPort} (f : RegPortSt → RegPortSt) (h : p ≠ q) :
    rport (modRport s p f) q = rport s q := by
  cases p <;> cases q <;> first | rfl | exact absurd rfl h

/-! ## The clock handshake -/

@[simp] theorem settle_rst (s : State) : (settle s).pins.rst = s.pins.rst := by unfold settle; split <;> rfl
@[simp] theorem settle_testMode (s : State) : (settle s).pins.testMode = s.pins.testMode := by unfold settle; split <;> rfl
@[simp] theorem settle_fclkOk (s : State) : (settle s).pins.fclkOk = s.pins.fclkOk := by unfold settle; split <;> rfl

/-- settle writes fclk_need and FCLK_REQ and nothing else (R58, R409). -/
theorem settle_eq (s : State) : ∃ n q, settle s = { s with pins := { s.pins with fclkNeed := n }, pwr := { s.pwr with fclkReq := q } } := by
  unfold settle
  split
  · exact ⟨s.pins.fclkNeed, s.pwr.fclkReq, rfl⟩
  · exact ⟨_, _, rfl⟩

@[simp] theorem live_settle (s : State) : live (settle s) = live s := by
  obtain ⟨n, q, e⟩ := settle_eq s; simp [e, live]

@[simp] theorem live_step1 (s : State) : live (step1 s) = live s := rfl

/-! ## Answers of a register port -/

@[simp] theorem ack_mem (s : State) (p : RegPort) : (ack s p).mem = s.mem := by simp [ack, reply]
@[simp] theorem ack_basin (s : State) (p : RegPort) : (ack s p).basin = s.basin := by simp [ack, reply]
@[simp] theorem busErr_mem (s : State) (p : RegPort) : (busErr s p).mem = s.mem := by simp [busErr]
@[simp] theorem busErr_basin (s : State) (p : RegPort) : (busErr s p).basin = s.basin := by simp [busErr]

end Sys2Proof.Machine
end

