-- ==== Sys2Proof/Laws/Table.lean ====
section
/-! SUPPORT. The sparse stores: what a read gives after a write, and that every write keeps the canonical form. -/

namespace Sys2Proof.Machine

variable {α : Type}

/-! ## Reads after writes -/

theorem tget_append_left (d : α) (t u : Table α) (n : Nat) (h : ∀ e ∈ t, e.1 ≠ n) : tget d (t ++ u) n = tget d u n := by
  induction t with
  | nil => rfl
  | cons e t ih =>
    have he := h e (by simp)
    simp [tget, he, ih (fun x hx => h x (by simp [hx]))]

/-- A filter on keys leaves the reads of the keys it keeps. -/
theorem tget_filter_pos (d : α) (t : Table α) (p : Nat → Bool) (n : Nat) (h : p n = true) :
    tget d (t.filter (fun e => p e.1)) n = tget d t n := by
  induction t with
  | nil => rfl
  | cons e t ih =>
    by_cases hp : p e.1 = true
    · simp [List.filter, hp, tget, ih]
    · have : e.1 ≠ n := fun he => hp (he ▸ h)
      simp [List.filter, hp, tget, ih, this]

/-- A filter on keys makes the keys it drops unlisted. -/
theorem tget_filter_neg (d : α) (t : Table α) (p : Nat → Bool) (n : Nat) (h : p n = false) :
    tget d (t.filter (fun e => p e.1)) n = d := by
  induction t with
  | nil => rfl
  | cons e t ih =>
    by_cases hp : p e.1 = true
    · have : e.1 ≠ n := fun he => by rw [he, h] at hp; cases hp
      simp [List.filter, hp, tget, ih, this]
    · simp [List.filter, hp, ih]

/-- Every key the list holds satisfies p, and n does not: the list may be dropped in front. -/
theorem tget_skip (d : α) (t u : Table α) (p : Nat → Bool) (n : Nat) (h : p n = false) :
    tget d (t.filter (fun e => p e.1) ++ u) n = tget d u n :=
  tget_append_left d _ u n (fun e he hn => by
    have := (List.mem_filter.mp he).2
    rw [hn, h] at this; cases this)

/-- The front part of the list answers for a key it may hold, if the rest does not hold it. -/
theorem tget_front (d : α) (t u : Table α) (n : Nat) (h : ∀ e ∈ u, e.1 ≠ n) : tget d (t ++ u) n = tget d t n := by
  induction t with
  | nil => simpa [tget] using tget_append_left d u [] n h
  | cons e t ih => by_cases he : e.1 = n <;> simp [tget, he, ih]

/-- A read after a write. -/
theorem tget_tset [DecidableEq α] (d : α) (t : Table α) (k : Nat) (v : α) (n : Nat) :
    tget d (tset d t k v) n = if n = k then v else tget d t n := by
  unfold tset
  have hi : ∀ e ∈ t.filter (fun e => decide (k < e.1)), n ≤ k → e.1 ≠ n := by
    intro e he hn; have := (List.mem_filter.mp he).2; simp at this; omega
  by_cases h1 : n < k
  · rw [List.append_assoc, tget_front, tget_filter_pos d t (fun x => decide (x < k)) n (by simp [h1])]
    · simp [Nat.ne_of_lt h1]
    · intro e he
      simp only [List.mem_append] at he
      rcases he with he | he
      · split at he
        · cases he
        · simp at he; simp [he]; omega
      · exact hi e he (by omega)
  · rw [List.append_assoc, tget_skip d t _ (fun x => decide (x < k)) n (by simp; omega)]
    by_cases h2 : n = k
    · subst h2
      split
      · rename_i hv
        simp [tget_filter_neg d t (fun x => decide (n < x)) n (by simp), hv]
      · simp [tget]
    · have e1 : tget d (t.filter (fun e => decide (k < e.1))) n = tget d t n :=
        tget_filter_pos d t (fun x => decide (k < x)) n (by simp; omega)
      split <;> simp [tget, Ne.symm h2, e1]

/-- A read after a range is cleared. -/
theorem tget_tclear (d : α) (t : Table α) (lo hi n : Nat) :
    tget d (tclear t lo hi) n = if lo ≤ n ∧ n < hi then d else tget d t n := by
  unfold tclear
  by_cases h : lo ≤ n ∧ n < hi
  · simp only [h, and_self, if_true]
    exact tget_filter_neg d t (fun x => decide (x < lo) || decide (hi ≤ x)) n (by simp; omega)
  · simp only [h, if_false]
    exact tget_filter_pos d t (fun x => decide (x < lo) || decide (hi ≤ x)) n (by simp; omega)

theorem trun_bounds [DecidableEq α] (d : α) (vs : List α) : ∀ k, ∀ e ∈ trun d k vs, k ≤ e.1 ∧ e.1 < k + vs.length := by
  induction vs with
  | nil => intro k e he; cases he
  | cons v vs ih =>
    intro k e he
    unfold trun at he
    split at he
    · have := ih (k + 1) e he; simp; omega
    · rcases List.mem_cons.mp he with rfl | he
      · simp
      · have := ih (k + 1) e he; simp; omega

theorem tget_trun [DecidableEq α] (d : α) (vs : List α) : ∀ k i (h : i < vs.length), tget d (trun d k vs) (k + i) = vs[i] := by
  induction vs with
  | nil => intro k i h; simp at h
  | cons v vs ih =>
    intro k i h
    have out : ∀ e ∈ trun d (k + 1) vs, e.1 ≠ k := fun e he => by have := (trun_bounds d vs (k + 1) e he).1; omega
    unfold trun
    cases i with
    | zero =>
      split
      · rename_i hv
        have := tget_append_left d (trun d (k + 1) vs) [] k out
        simpa [tget, hv] using this
      · simp [tget]
    | succ i =>
      have e : k + (i + 1) = k + 1 + i := by omega
      have := ih (k + 1) i (by simpa using h)
      split <;> simp_all [tget]
      intro hk; omega

/-- A read after a run is put. -/
theorem tget_tputs [DecidableEq α] (d : α) (t : Table α) (k : Nat) (vs : List α) (n : Nat) :
    tget d (tputs d t k vs) n = if h : k ≤ n ∧ n < k + vs.length then vs[n - k]'(by omega) else tget d t n := by
  unfold tputs
  by_cases h1 : n < k
  · rw [dif_neg (by omega), List.append_assoc, tget_front, tget_filter_pos d t (fun x => decide (x < k)) n (by simp [h1])]
    intro e he
    rcases List.mem_append.mp he with he | he
    · have := (trun_bounds d vs k e he).1; omega
    · have := (List.mem_filter.mp he).2; simp at this; omega
  · rw [List.append_assoc, tget_skip d t _ (fun x => decide (x < k)) n (by simp; omega)]
    by_cases h2 : n < k + vs.length
    · rw [dif_pos ⟨by omega, h2⟩, tget_front]
      · have := tget_trun d vs k (n - k) (by omega)
        rwa [show k + (n - k) = n by omega] at this
      · intro e he; have := (List.mem_filter.mp he).2; simp at this; omega
    · rw [dif_neg (by omega), tget_append_left, tget_filter_pos d t (fun x => decide (k + vs.length ≤ x)) n (by simp; omega)]
      intro e he; have := (trun_bounds d vs k e he).2; omega

theorem tgets_length (d : α) (t : Table α) (n : Nat) : ∀ k, (tgets d t k n).length = n := by
  induction n with
  | zero => intro k; rfl
  | succ n ih => intro k; simp [tgets, ih]

theorem tgets_getElem (d : α) (t : Table α) (n : Nat) : ∀ k i (h : i < (tgets d t k n).length), (tgets d t k n)[i] = tget d t (k + i) := by
  induction n with
  | zero => intro k i h; simp [tgets] at h
  | succ n ih =>
    intro k i h
    cases i with
    | zero => simp [tgets]
    | succ i => simp [tgets, ih]; congr 1; omega

/-! ## The canonical form -/

/-- The canonical form says: keys rise strictly, and no listed value is the unlisted one. -/
theorem tok_iff [DecidableEq α] (d : α) (t : Table α) :
    tok d t = true ↔ t.Pairwise (fun a b => a.1 < b.1) ∧ ∀ e ∈ t, e.2 ≠ d := by
  have gen : ∀ (t : Table α) (b : Option Nat), tokFrom d b t = true ↔
      (t.Pairwise (fun a b => a.1 < b.1) ∧ ∀ e ∈ t, e.2 ≠ d) ∧ ∀ j, b = some j → ∀ e ∈ t, j < e.1 := by
    intro t
    induction t with
    | nil => intro b; simp [tokFrom]
    | cons e t ih =>
      intro b
      obtain ⟨k, v⟩ := e
      simp only [tokFrom, Bool.and_eq_true, decide_eq_true_eq, ih, List.pairwise_cons, List.forall_mem_cons]
      cases b with
      | none => simp; grind
      | some j => simp; grind
  simp [tok, gen]

theorem tok_filter [DecidableEq α] (d : α) (t : Table α) (p : Nat × α → Bool) (h : tok d t = true) : tok d (t.filter p) = true := by
  rw [tok_iff] at *
  exact ⟨h.1.filter p, fun e he => h.2 e (List.mem_filter.mp he).1⟩

/-- Clearing a range keeps the canonical form. -/
theorem tok_tclear [DecidableEq α] (d : α) (t : Table α) (lo hi : Nat) (h : tok d t = true) : tok d (tclear t lo hi) = true :=
  tok_filter d t _ h

theorem trun_ok [DecidableEq α] (d : α) (vs : List α) : ∀ k, (trun d k vs).Pairwise (fun a b => a.1 < b.1) ∧ ∀ e ∈ trun d k vs, e.2 ≠ d := by
  induction vs with
  | nil => intro k; simp [trun]
  | cons v vs ih =>
    intro k
    unfold trun
    split
    · exact ih (k + 1)
    · rename_i hv
      refine ⟨List.pairwise_cons.mpr ⟨fun e he => ?_, (ih (k + 1)).1⟩, ?_⟩
      · have := (trun_bounds d vs (k + 1) e he).1; simp; omega
      · intro e he
        rcases List.mem_cons.mp he with rfl | he
        · exact hv
        · exact (ih (k + 1)).2 e he

/-- Putting a run keeps the canonical form. -/
theorem tok_tputs [DecidableEq α] (d : α) (t : Table α) (k : Nat) (vs : List α) (h : tok d t = true) : tok d (tputs d t k vs) = true := by
  rw [tok_iff] at *
  obtain ⟨r1, r2⟩ := trun_ok d vs k
  have rb := trun_bounds d vs k
  refine ⟨?_, ?_⟩
  · simp only [tputs, List.append_assoc, List.pairwise_append, List.mem_append, List.mem_filter, decide_eq_true_eq]
    exact ⟨h.1.filter _, ⟨r1, h.1.filter _, fun a ha b hb => by have := rb a ha; omega⟩,
      fun a ha b hb => by rcases hb with hb | hb; (have := rb b hb; omega); omega⟩
  · simp only [tputs, List.mem_append, List.mem_filter]
    rintro e ((he | he) | he)
    · exact h.2 e he.1
    · exact r2 e he
    · exact h.2 e he.1

/-- Writing one entry is putting a run of one. -/
theorem tset_eq_tputs [DecidableEq α] (d : α) (t : Table α) (k : Nat) (v : α) : tset d t k v = tputs d t k [v] := by
  unfold tset tputs trun trun
  simp

/-- Writing one entry keeps the canonical form. -/
theorem tok_tset [DecidableEq α] (d : α) (t : Table α) (k : Nat) (v : α) (h : tok d t = true) : tok d (tset d t k v) = true := by
  rw [tset_eq_tputs]; exact tok_tputs d t k [v] h

/-- Equal reads make equal stores: the canonical form is one list for each content. -/
theorem tok_ext [DecidableEq α] (d : α) (t u : Table α) (ht : tok d t = true) (hu : tok d u = true) (h : ∀ n, tget d t n = tget d u n) :
    t = u := by
  rw [tok_iff] at ht hu
  have low : ∀ (t : Table α) n, (∀ e ∈ t, n < e.1) → tget d t n = d := by
    intro t n ht
    have := tget_append_left d t [] n (fun e he => by have := ht e he; omega)
    simpa [tget] using this
  induction t generalizing u with
  | nil =>
    cases u with
    | nil => rfl
    | cons f u =>
      have := h f.1
      simp [tget] at this
      exact absurd this.symm (hu.2 f (by simp))
  | cons e t ih =>
    cases u with
    | nil =>
      have := h e.1
      simp [tget] at this
      exact absurd this (ht.2 e (by simp))
    | cons f u =>
      have pt := List.pairwise_cons.mp ht.1
      have pu := List.pairwise_cons.mp hu.1
      have hk : e.1 = f.1 := by
        by_contra hne
        rcases Nat.lt_or_gt_of_ne hne with hl | hl
        · have := h e.1
          rw [low (f :: u) e.1 (by intro x hx; rcases List.mem_cons.mp hx with rfl | hx; exact hl; exact hl.trans (pu.1 x hx))] at this
          simp [tget] at this
          exact ht.2 e (by simp) this
        · have := h f.1
          rw [low (e :: t) f.1 (by intro x hx; rcases List.mem_cons.mp hx with rfl | hx; exact hl; exact hl.trans (pt.1 x hx))] at this
          simp [tget] at this
          exact hu.2 f (by simp) this.symm
      have hv : e.2 = f.2 := by have := h e.1; simpa [tget, hk] using this
      have he : e = f := Prod.ext hk hv
      subst he
      rw [ih u ⟨pt.2, fun x hx => ht.2 x (by simp [hx])⟩ ⟨pu.2, fun x hx => hu.2 x (by simp [hx])⟩]
      intro n
      by_cases hn : e.1 = n
      · subst hn; rw [low t _ pt.1, low u _ pu.1]
      · have := h n; simpa [tget, hn] using this

end Sys2Proof.Machine
end

