-- ==== Sys2Proof/Laws/Keeps.lean ====
section
/-! SUPPORT. The operations that write neither byte store, nor the always-on logic, nor the queue: one lemma each. -/

namespace Sys2Proof.Machine

/-- The two byte stores, the always-on logic and the queue. -/
def store (s : State) : List (Nat × Byte) × List (Nat × Byte) × Aon × List Instr := (s.mem, s.basin, s.aon, s.pending)

theorem kept_of_store {s t : State} (h : store t = store s) : kept s t := by
  simpa [store, kept] using h

theorem foldl_store {α : Type} (f : State → α → State) (l : List α) (s : State) (h : ∀ s a, store (f s a) = store s) :
    store (l.foldl f s) = store s := by
  induction l generalizing s with
  | nil => rfl
  | cons a l ih => simp [ih, h]

theorem modRg_store (s r f) : store (modRg s r f) = store s := rfl
theorem modBlk_store (s r b f) : store (modBlk s r b f) = store s := rfl
theorem modEp_store (s p f) : store (modEp s p f) = store s := rfl
theorem modEv_store (s r f) : store (modEv s r f) = store s := rfl
theorem modPw_store (s r f) : store (modPw s r f) = store s := rfl
theorem modDir_store (s d f) : store (modDir s d f) = store s := rfl
theorem modRp_store (s k f) : store (modRp s k f) = store s := rfl
theorem modStream_store (s k f) : store (modStream s k f) = store s := rfl
theorem modBar_store (s b f) : store (modBar s b f) = store s := rfl
theorem modBox_store (s n f) : store (modBox s n f) = store s := rfl
theorem modStager_store (s h f) : store (modStager s h f) = store s := rfl
theorem step1_store (s) : store (step1 s) = store s := rfl
theorem modRport_store (s p f) : store (modRport s p f) = store s := by cases p <;> rfl
theorem settle_store (s) : store (settle s) = store s := by obtain ⟨n, q, e⟩ := settle_eq s; rw [e]; rfl

theorem wrapFlag_store : ∀ x0 x1, store (wrapFlag x0 x1) = store x0 := by
  intros; unfold wrapFlag; grind [store, foldl_store]
theorem countM_store : ∀ x0 x1 x2 x3, store (countM x0 x1 x2 x3) = store x0 := by
  intros; unfold countM; grind [store, foldl_store, wrapFlag_store]
theorem countMs_store : ∀ x0 x1 x2, store (countMs x0 x1 x2) = store x0 := by
  intros; unfold countMs; grind [store, foldl_store, wrapFlag_store]
theorem countR_store : ∀ x0 x1 x2 x3 x4, store (countR x0 x1 x2 x3 x4) = store x0 := by
  intros; unfold countR; grind [store, foldl_store, wrapFlag_store, modRg_store]
theorem countBs_store : ∀ x0 x1 x2 x3 x4, store (countBs x0 x1 x2 x3 x4) = store x0 := by
  intros; unfold countBs; grind [store, foldl_store, wrapFlag_store, modRg_store]
theorem countB_store : ∀ x0 x1 x2 x3 x4 x5, store (countB x0 x1 x2 x3 x4 x5) = store x0 := by
  intros; unfold countB; grind [store, foldl_store, countBs_store]
theorem assertFreeze_store : ∀ x0 x1, store (assertFreeze x0 x1) = store x0 := by
  intros; unfold assertFreeze; grind [store, foldl_store]
theorem recordFault_store : ∀ x0 x1, store (recordFault x0 x1) = store x0 := by
  intros; unfold recordFault; grind [store, foldl_store, assertFreeze_store]
theorem raise_store : ∀ x0 x1 x2, store (raise x0 x1 x2) = store x0 := by
  intros; unfold raise; grind [store, foldl_store, recordFault_store]
theorem blockFault_store : ∀ x0 x1 x2 x3 x4 x5 x6, store (blockFault x0 x1 x2 x3 x4 x5 x6) = store x0 := by
  intros; unfold blockFault; grind [store, foldl_store, raise_store]
theorem regionFault_store : ∀ x0 x1 x2 x3, store (regionFault x0 x1 x2 x3) = store x0 := by
  intros; unfold regionFault; grind [store, foldl_store, raise_store]
theorem halfFault_store : ∀ x0 x1 x2 x3 x4, store (halfFault x0 x1 x2 x3 x4) = store x0 := by
  intros; unfold halfFault; grind [store, foldl_store, raise_store]
theorem wholeFault_store : ∀ x0 x1 x2, store (wholeFault x0 x1 x2) = store x0 := by
  intros; unfold wholeFault; grind [store, foldl_store, recordFault_store]
theorem reply_store : ∀ x0 x1 x2, store (reply x0 x1 x2) = store x0 := by
  intros; unfold reply; grind [store, foldl_store, modRport_store]
theorem ack_store : ∀ x0 x1, store (ack x0 x1) = store x0 := by
  intros; unfold ack; grind [store, foldl_store, reply_store]
theorem busErr_store : ∀ x0 x1, store (busErr x0 x1) = store x0 := by
  intros; unfold busErr; grind [store, foldl_store, modRport_store]
theorem holdAcc_store : ∀ x0 x1 x2, store (holdAcc x0 x1 x2) = store x0 := by
  intros; unfold holdAcc; grind [store, foldl_store, modRport_store]
theorem wideWrite_store : ∀ x0 x1 x2, store (wideWrite x0 x1 x2) = store x0 := by
  intros; unfold wideWrite; grind [store, foldl_store, modRport_store]
theorem wideRead_store : ∀ x0 x1, store (wideRead x0 x1) = store x0 := by
  intros; unfold wideRead; grind [store, foldl_store, modRport_store]
theorem grantWake_store : ∀ x0 x1 x2, ∀ t, grantWake x0 x1 x2 = some t → store t = store x0 := by
  intros; rename_i hh; unfold grantWake at hh; grind [store, foldl_store, modPw_store, modStager_store]
theorem grantBetween_store : ∀ x0 x1, ∀ t, grantBetween x0 x1 = some t → store t = store x0 := by
  intros; rename_i hh; unfold grantBetween at hh; grind [store, foldl_store, grantWake_store, countM_store, modStager_store]
theorem wakeReq_store : ∀ x0 x1, store (wakeReq x0 x1) = store x0 := by
  intros; unfold wakeReq; grind [store, foldl_store, modPw_store, grantBetween_store]
theorem sendLink_store : ∀ x0 x1 x2 x3, store (sendLink x0 x1 x2 x3) = store x0 := by
  intros; unfold sendLink; grind [store, foldl_store, modDir_store]
theorem sendPkt_store : ∀ x0 x1 x2, store (sendPkt x0 x1 x2) = store x0 := by
  intros; unfold sendPkt; grind [store, foldl_store, modDir_store]
theorem sendCtl_store : ∀ x0 x1 x2, store (sendCtl x0 x1 x2) = store x0 := by
  intros; unfold sendCtl; grind [store, foldl_store, sendPkt_store]
theorem rxPop_store : ∀ x0 x1 x2, store (rxPop x0 x1 x2) = store x0 := by
  intros; unfold rxPop; grind [store, foldl_store, modDir_store]
theorem recordSpare_store : ∀ x0 x1 x2 x3 x4, store (recordSpare x0 x1 x2 x3 x4) = store x0 := by
  intros; unfold recordSpare; grind [store, foldl_store, modDir_store]
theorem fbFault_store : ∀ x0 x1 x2 x3, store (fbFault x0 x1 x2 x3) = store x0 := by
  intros; unfold fbFault; grind [store, foldl_store, halfFault_store]
theorem linkFault_store : ∀ x0 x1 x2 x3 x4, store (linkFault x0 x1 x2 x3 x4) = store x0 := by
  intros; unfold linkFault; grind [store, foldl_store, fbFault_store, modDir_store]
theorem startReplay_store : ∀ x0 x1, store (startReplay x0 x1) = store x0 := by
  intros; unfold startReplay; grind [store, foldl_store, linkFault_store, countM_store, modDir_store]
theorem train_store : ∀ x0 x1, store (train x0 x1) = store x0 := by
  intros; unfold train; grind [store, foldl_store, modDir_store]
theorem candidate_store : ∀ x0, store (candidate x0).1 = store x0 := by
  intros; unfold candidate; grind [store, foldl_store]
theorem putTag_store : ∀ x0 x1, store (putTag x0 x1) = store x0 := by
  intros; unfold putTag; grind [store, foldl_store]
theorem markTag_store : ∀ x0 x1 x2, store (markTag x0 x1 x2) = store x0 := by
  intros; unfold markTag; grind [store, foldl_store]
theorem markRows_store : ∀ x0 x1, store (markRows x0 x1) = store x0 := by
  intros; unfold markRows; grind [store, foldl_store, markTag_store]
theorem issueWrite_store : ∀ x0 x1 x2 x3, store (issueWrite x0 x1 x2 x3) = store x0 := by
  intros; unfold issueWrite; grind [store, foldl_store, modEp_store]
theorem retireWrite_store : ∀ x0 x1 x2, store (retireWrite x0 x1 x2) = store x0 := by
  intros; unfold retireWrite; grind [store, foldl_store, modEp_store, modDir_store, sendPkt_store]
theorem wakeAll_store : ∀ x0 x1, store (wakeAll x0 x1) = store x0 := by
  intros; unfold wakeAll; grind [store, foldl_store, wakeReq_store, sendCtl_store]
theorem enterRegion_store : ∀ x0 x1 x2 x3, store (enterRegion x0 x1 x2 x3) = store x0 := by
  intros; unfold enterRegion; grind [store, foldl_store, modRg_store, wakeReq_store]
theorem routePiece_store : ∀ x0 x1 x2, store (routePiece x0 x1 x2) = store x0 := by
  intros; unfold routePiece; grind [store, foldl_store, enterRegion_store, sendPkt_store]
theorem routeBeats_store : ∀ x0 x1 x2 x3 x4, store (routeBeats x0 x1 x2 x3 x4) = store x0 := by
  intros; unfold routeBeats; grind [store, foldl_store, routePiece_store]
theorem routeOne_store : ∀ x0 x1 x2 x3 x4, store (routeOne x0 x1 x2 x3 x4) = store x0 := by
  intros; unfold routeOne; grind [store, foldl_store, routeBeats_store]
theorem forwardReq_store : ∀ x0 x1 x2, store (forwardReq x0 x1 x2) = store x0 := by
  intros; unfold forwardReq; grind [store, foldl_store, routePiece_store, modEp_store, modReq]
theorem launchGather_store : ∀ x0 x1 x2, store (launchGather x0 x1 x2) = store x0 := by
  intros; unfold launchGather; grind [store, foldl_store, routeBeats_store, modEp_store, modReq]
theorem pumpReq_store : ∀ x0 x1 x2, store (pumpReq x0 x1 x2) = store x0 := by
  intros; unfold pumpReq; grind [store, foldl_store, launchGather_store, forwardReq_store]
theorem pumpPort_store : ∀ x0 x1, store (pumpPort x0 x1) = store x0 := by
  intros; unfold pumpPort; grind [store, foldl_store, pumpReq_store]
theorem closeReq_store : ∀ x0 x1 x2, store (closeReq x0 x1 x2) = store x0 := by
  intros; unfold closeReq; grind [store, foldl_store, retireWrite_store, modEp_store, modReq]
theorem setRes_store : ∀ x0 x1 x2 x3 x4, store (setRes x0 x1 x2 x3 x4) = store x0 := by
  intros; unfold setRes; grind [store, foldl_store, closeReq_store, modEp_store, modReq]
theorem unhold_store : ∀ x0 x1 x2, store (unhold x0 x1 x2) = store x0 := by
  intros; unfold unhold; grind [store, foldl_store]
theorem tagRequest_store : ∀ x0 x1 x2 x3, store (tagRequest x0 x1 x2 x3) = store x0 := by
  intros; unfold tagRequest; grind [store, foldl_store, putTag_store]
theorem tagError_store : ∀ x0 x1 x2 x3, store (tagError x0 x1 x2 x3) = store x0 := by
  intros; unfold tagError; grind [store, foldl_store, tagRequest_store, modEp_store, modReq]
theorem answerAll_store : ∀ x0 x1 x2 x3, store (answerAll x0 x1 x2 x3) = store x0 := by
  intros; unfold answerAll; grind [store, foldl_store, unhold_store, closeReq_store, tagError_store, modEp_store, modReq]
theorem answerSignal_store : ∀ x0 x1 x2 x3, store (answerSignal x0 x1 x2 x3) = store x0 := by
  intros; unfold answerSignal; grind [store, foldl_store, answerAll_store, sendPkt_store]
theorem pieceBack_store : ∀ x0 x1 x2 x3 x4, store (pieceBack x0 x1 x2 x3 x4) = store x0 := by
  intros; unfold pieceBack; grind [store, foldl_store, setRes_store, sendPkt_store, modStream_store, modBox_store, modRp_store, modTile]
theorem pieceDone_store : ∀ x0 x1 x2, store (pieceDone x0 x1 x2) = store x0 := by
  intros; unfold pieceDone; grind [store, foldl_store, modRg_store, pieceBack_store, sendPkt_store]
theorem beatDone_store : ∀ x0 x1 x2 x3 x4 x5, store (beatDone x0 x1 x2 x3 x4 x5) = store x0 := by
  intros; unfold beatDone; grind [store, foldl_store, modRg_store, pieceDone_store]
theorem countPB_store : ∀ x0 x1 x2 x3 x4, store (countPB x0 x1 x2 x3 x4) = store x0 := by
  intros; unfold countPB; grind [store, foldl_store, countBs_store]
theorem stallBeat_store : ∀ x0 x1 x2 x3, store (stallBeat x0 x1 x2 x3) = store x0 := by
  intros; unfold stallBeat; grind [store, foldl_store, countPB_store, modBlk_store]
theorem beatFault_store : ∀ x0 x1 x2 x3 x4, ∀ t, beatFault x0 x1 x2 x3 x4 = some t → store t = store x0 := by
  intros; rename_i hh; unfold beatFault at hh; grind [store, foldl_store, blockFault_store]
theorem markBegun_store : ∀ x0 x1, store (markBegun x0 x1) = store x0 := by
  intros; unfold markBegun; grind [store, foldl_store, modEp_store, modReq]
theorem markStage_store : ∀ x0 x1 x2, store (markStage x0 x1 x2) = store x0 := by
  intros; unfold markStage; grind [store, foldl_store, modEp_store, modReq]
theorem halfCycle_store : ∀ x0 x1, store (halfCycle x0 x1) = store x0 := by
  intros; unfold halfCycle; grind [store, foldl_store, modRg_store, markStage_store]
theorem deliver_store : ∀ x0 x1 x2, store (deliver x0 x1 x2) = store x0 := by
  intros; unfold deliver; grind [store, foldl_store, modRg_store, markStage_store, modBlk_store, beatDone_store]
theorem age_store : ∀ x0 x1 x2 x3 x4, store (age x0 x1 x2 x3 x4) = store x0 := by
  intros; unfold age; grind [store, foldl_store, modBlk_store]
theorem grantCycle_store : ∀ x0 x1 x2, store (grantCycle x0 x1 x2).1 = store x0 := by
  intros; unfold grantCycle; grind [store, foldl_store, modRg_store, modBlk_store, countB_store, age_store]
theorem starveSources_store : ∀ x0 x1 x2 x3, store (starveSources x0 x1 x2 x3) = store x0 := by
  intros; unfold starveSources; grind [store, foldl_store, modRg_store]
theorem starveBlock_store : ∀ x0 x1 x2 x3, store (starveBlock x0 x1 x2 x3) = store x0 := by
  intros; unfold starveBlock; grind [store, foldl_store, modBlk_store]
theorem packetPiece_store : ∀ x0 x1, store (packetPiece x0 x1) = store x0 := by
  intros; unfold packetPiece; grind [store, foldl_store, enterRegion_store]
theorem packetBack_store : ∀ x0 x1, store (packetBack x0 x1) = store x0 := by
  intros; unfold packetBack; grind [store, foldl_store, pieceBack_store]
theorem slip_store : ∀ x0 x1 x2 x3, store (slip x0 x1 x2 x3) = store x0 := by
  intros; unfold slip; grind [store, foldl_store, modBlk_store]
theorem idleCells_store : ∀ x0 x1 x2, store (idleCells x0 x1 x2) = store x0 := by
  intros; unfold idleCells; grind [store, foldl_store, countPB_store]
theorem setSem_store : ∀ x0 x1 x2, store (setSem x0 x1 x2) = store x0 := by
  intros; unfold setSem; grind [store, foldl_store]
theorem regWatch_store : ∀ x0 x1 x2 x3 x4 x5, ∀ t, regWatch x0 x1 x2 x3 x4 x5 = some t → store t = store x0 := by
  intros; rename_i hh; unfold regWatch at hh; grind [store, foldl_store]
theorem dropWatch_store : ∀ x0 x1, store (dropWatch x0 x1) = store x0 := by
  intros; unfold dropWatch; grind [store, foldl_store]
theorem queueMsg_store : ∀ x0 x1 x2, store (queueMsg x0 x1 x2) = store x0 := by
  intros; unfold queueMsg; grind [store, foldl_store, dropWatch_store]
theorem drainPending_store : ∀ x0, store (drainPending x0) = store x0 := by
  intros; unfold drainPending; grind [store, foldl_store, dropWatch_store]
theorem tellRill_store : ∀ x0 x1, store (tellRill x0 x1) = store x0 := by
  intros; unfold tellRill; grind [store, foldl_store, sendCtl_store, modStream_store]
theorem meetWatch_store : ∀ x0 x1, store (meetWatch x0 x1) = store x0 := by
  intros; unfold meetWatch; grind [store, foldl_store, answerSignal_store, dropWatch_store, queueMsg_store, tellRill_store]
theorem testWatches_store : ∀ x0 x1 x2, store (testWatches x0 x1 x2) = store x0 := by
  intros; unfold testWatches; grind [store, foldl_store, meetWatch_store]
theorem countErr_store : ∀ x0, store (countErr x0) = store x0 := by
  intros; unfold countErr; grind [store, foldl_store]
theorem refuseOp_store : ∀ x0 x1, store (refuseOp x0 x1) = store x0 := by
  intros; unfold refuseOp; grind [store, foldl_store, countErr_store, countM_store]
theorem flushStep_store : ∀ x0 x1, store (flushStep x0 x1) = store x0 := by
  intros; unfold flushStep; grind [store, foldl_store, sendPkt_store]
theorem flushSteps_store : ∀ x0 x1, store (flushSteps x0 x1) = store x0 := by
  intro s h; unfold flushSteps
  induction (vget s.fb.steps h).length generalizing s with
  | zero => rfl
  | succ n ih => rw [Function.iterate_succ_apply, ih, flushStep_store]
theorem startCloses_store : ∀ x0 x1 x2 x3 x4, store (startCloses x0 x1 x2 x3 x4) = store x0 := by
  intros; unfold startCloses; grind [store, foldl_store, wakeReq_store, modEv_store, flushSteps_store]
theorem syncSend_store : ∀ x0 x1, store (syncSend x0 x1) = store x0 := by
  intros; unfold syncSend; grind [store, foldl_store]
theorem releaseBar_store : ∀ x0 x1, store (releaseBar x0 x1) = store x0 := by
  intros; unfold releaseBar; grind [store, foldl_store, modBar_store, testWatches_store, startCloses_store, sendCtl_store, syncSend_store]
theorem macroDone_store : ∀ x0 x1, store (macroDone x0 x1) = store x0 := by
  intros; unfold macroDone; grind [store, foldl_store, modBar_store, syncSend_store]
theorem releaseChip_store : ∀ x0 x1, store (releaseChip x0 x1) = store x0 := by
  intros; unfold releaseChip; grind [store, foldl_store, macroDone_store, releaseBar_store]
theorem lookChip_store : ∀ x0 x1, store (lookChip x0 x1) = store x0 := by
  intros; unfold lookChip; grind [store, foldl_store, releaseChip_store]
theorem lookBar_store : ∀ x0 x1, store (lookBar x0 x1) = store x0 := by
  intros; unfold lookBar; grind [store, foldl_store, releaseBar_store, lookChip_store, macroDone_store]
theorem tellPair_store : ∀ x0 x1 x2, store (tellPair x0 x1 x2) = store x0 := by
  intros; unfold tellPair; grind [store, foldl_store, sendCtl_store]
theorem setPair_store : ∀ x0 x1 x2 x3, store (setPair x0 x1 x2 x3) = store x0 := by
  intros; unfold setPair; grind [store, foldl_store, tellPair_store, testWatches_store]
theorem pairAdd_store : ∀ x0 x1 x2 x3 x4, ∀ t, pairAdd x0 x1 x2 x3 x4 = some t → store t = store x0 := by
  intros; rename_i hh; unfold pairAdd at hh; grind [store, foldl_store, setPair_store]
theorem putSem_store : ∀ x0 x1 x2, store (putSem x0 x1 x2) = store x0 := by
  intros; unfold putSem; grind [store, foldl_store, testWatches_store, setSem_store]
theorem waitOp_store : ∀ x0 x1 x2 x3 x4, store (waitOp x0 x1 x2 x3 x4).1 = store x0 := by
  intros; unfold waitOp; grind [store, foldl_store, regWatch_store]
theorem bstPerform_store : ∀ x0 x1 x2 x3 x4, store (bstPerform x0 x1 x2 x3 x4).1 = store x0 := by
  intros; unfold bstPerform; grind [store, foldl_store, refuseOp_store, putSem_store, waitOp_store, pairAdd_store, lookBar_store, modBar_store, regWatch_store]
theorem bstDo_store : ∀ x0 x1 x2 x3 x4, store (bstDo x0 x1 x2 x3 x4).1 = store x0 := by
  intros; unfold bstDo; grind [store, foldl_store, bstPerform_store, countM_store]
theorem rillArrive_store : ∀ x0 x1 x2, store (rillArrive x0 x1 x2) = store x0 := by
  intros; unfold rillArrive; grind [store, foldl_store, countErr_store, lookBar_store, modBar_store]
theorem sweepReport_store : ∀ x0 x1 x2 x3, store (sweepReport x0 x1 x2 x3) = store x0 := by
  intros; unfold sweepReport; grind [store, foldl_store, modBar_store, testWatches_store]
theorem pollStream_store : ∀ x0 x1, store (pollStream x0 x1) = store x0 := by
  intros; unfold pollStream; grind [store, foldl_store, modStream_store, modRp_store, sendCtl_store, regWatch_store]
theorem rillPoll_store : ∀ x0, store (rillPoll x0) = store x0 := by
  intros; unfold rillPoll; grind [store, foldl_store, pollStream_store]
theorem bellAct_store : ∀ x0 x1, store (bellAct x0 x1) = store x0 := by
  intros; unfold bellAct; grind [store, foldl_store, modStream_store, modRp_store]
theorem ringStream_store : ∀ x0 x1, ∀ t, ringStream x0 x1 = some t → store t = store x0 := by
  intros; rename_i hh; unfold ringStream at hh; grind [store, foldl_store, bellAct_store, sendCtl_store]
theorem rejectSend_store : ∀ x0, store (rejectSend x0) = store x0 := by
  intros; unfold rejectSend; grind [store, foldl_store]
theorem sendBox_store : ∀ x0 x1 x2 x3, store (sendBox x0 x1 x2 x3).1 = store x0 := by
  intros; unfold sendBox; grind [store, foldl_store, rejectSend_store, modBox_store, routeOne_store, wakeAll_store]
theorem scopeCheck_store : ∀ x0 x1 x2, store (scopeCheck x0 x1 x2) = store x0 := by
  intros; unfold scopeCheck; grind [store, foldl_store]
theorem freezeWatches_store : ∀ x0, store (freezeWatches x0) = store x0 := by
  intros; unfold freezeWatches; grind [store, foldl_store, answerSignal_store, dropWatch_store]
theorem signalEffect_store : ∀ x0 x1 x2, store (signalEffect x0 x1 x2) = store x0 := by
  intros; unfold signalEffect; grind [store, foldl_store, bstDo_store, answerSignal_store, freezeWatches_store, ringStream_store, sendBox_store]
theorem releaseSignal_store : ∀ x0 x1, store (releaseSignal x0 x1) = store x0 := by
  intros; unfold releaseSignal; grind [store, foldl_store, signalEffect_store, scopeCheck_store, modEp_store]
theorem disarm_store : ∀ x0 x1, store (disarm x0 x1) = store x0 := by
  intros; unfold disarm; grind [store, foldl_store, answerSignal_store, dropWatch_store, modBar_store]
theorem writeBar_store : ∀ x0 x1 x2 x3, ∀ t, writeBar x0 x1 x2 x3 = some t → store t = store x0 := by
  intros; rename_i hh; unfold writeBar at hh; grind [store, foldl_store, disarm_store, modBar_store, lookBar_store]
theorem syncError_store : ∀ x0, store (syncError x0) = store x0 := by
  intros; unfold syncError; grind [store, foldl_store, countErr_store]
theorem takeSync_store : ∀ x0 x1, store (takeSync x0 x1) = store x0 := by
  intros; unfold takeSync; grind [store, foldl_store, lookChip_store, modBar_store, releaseChip_store, syncError_store]
theorem drainSync_store : ∀ x0 x1, store (drainSync x0 x1) = store x1 := by
  intro n
  induction n with
  | zero => intro s; rfl
  | succ n ih => intro s; unfold drainSync; split <;> first | rfl | (rw [ih, takeSync_store]; rfl)
theorem answerSender_store : ∀ x0 x1 x2, store (answerSender x0 x1 x2) = store x0 := by
  intros; unfold answerSender; grind [store, foldl_store, answerSignal_store, ack_store, busErr_store]
theorem engineProtocol_store : ∀ x0 x1 x2, store (engineProtocol x0 x1 x2) = store x0 := by
  intros; unfold engineProtocol; grind [store, foldl_store, raise_store]
theorem frozenAll_store : ∀ x0 x1 x2, store (frozenAll x0 x1 x2) = store x0 := by
  intros; unfold frozenAll; grind [store, foldl_store, answerAll_store, modEp_store, modReq]
theorem checkBeat_store : ∀ x0 x1 x2 x3 x4, store (checkBeat x0 x1 x2 x3 x4) = store x0 := by
  intros; unfold checkBeat; grind [store, foldl_store, engineProtocol_store, frozenAll_store, modEp_store, modReq]
theorem takeBeat_store : ∀ x0 x1 x2 x3, store (takeBeat x0 x1 x2 x3) = store x0 := by
  intros; unfold takeBeat; grind [store, foldl_store, checkBeat_store, modEp_store, modReq]
theorem takeCarried_store : ∀ x0 x1 x2, store (takeCarried x0 x1 x2) = store x1 := by
  intro n
  induction n with
  | zero => intro s p; rfl
  | succ n ih => intro s p; unfold takeCarried; split <;> first | rfl | (split <;> first | rfl | rw [ih, takeBeat_store])
theorem passCarried_store : ∀ x0 x1, store (passCarried x0 x1) = store x0 := by
  intros; unfold passCarried; grind [store, foldl_store, takeCarried_store]
theorem takeReq_store : ∀ x0 x1 x2 x3 x4, store (takeReq x0 x1 x2 x3 x4) = store x0 := by
  intros; unfold takeReq; grind [store, foldl_store, issueWrite_store, candidate_store, modEp_store, checkBeat_store]
theorem detachSlow_store : ∀ x0 x1 x2, store (detachSlow x0 x1 x2) = store x0 := by
  intros; unfold detachSlow; grind [store, foldl_store, modRg_store, modEp_store, modReq]
theorem closeGather_store : ∀ x0 x1 x2, store (closeGather x0 x1 x2) = store x0 := by
  intros; unfold closeGather; grind [store, foldl_store, modRg_store]
theorem startGather_store : ∀ x0 x1 x2, store (startGather x0 x1 x2) = store x0 := by
  intros; unfold startGather; grind [store, foldl_store, launchGather_store, modRg_store]
theorem joinGather_store : ∀ x0 x1 x2, store (joinGather x0 x1 x2) = store x0 := by
  intros; unfold joinGather; grind [store, foldl_store, modRg_store, startGather_store, modEp_store, modReq]
theorem sendSignal_store : ∀ x0 x1 x2, store (sendSignal x0 x1 x2) = store x0 := by
  intros; unfold sendSignal; grind [store, foldl_store, modEp_store, sendPkt_store, modReq]
theorem launch_store : ∀ x0 x1 x2, store (launch x0 x1 x2) = store x0 := by
  intros; unfold launch; grind [store, foldl_store, sendSignal_store, joinGather_store, modEp_store, modReq]
theorem countRelease_store : ∀ x0 x1 x2 x3, store (countRelease x0 x1 x2 x3) = store x0 := by
  intros; unfold countRelease; grind [store, foldl_store, countM_store]
theorem countHeld_store : ∀ x0 x1 x2, store (countHeld x0 x1 x2) = store x0 := by
  intros; unfold countHeld; grind [store, foldl_store, countM_store]
theorem releaseHead_store : ∀ x0 x1 x2 x3 x4 x5, store (releaseHead x0 x1 x2 x3 x4 x5) = store x0 := by
  intros; unfold releaseHead; grind [store, foldl_store, countRelease_store, countM_store, launch_store, modEp_store, modReq]
theorem rejectHead_store : ∀ x0 x1 x2 x3, store (rejectHead x0 x1 x2 x3) = store x0 := by
  intros; unfold rejectHead; grind [store, foldl_store, answerAll_store]
theorem sluiceTest_store : ∀ x0 x1 x2 x3, store (sluiceTest x0 x1 x2 x3) = store x0 := by
  intros; unfold sluiceTest; grind [store, foldl_store, rejectHead_store, releaseHead_store, countHeld_store]
theorem waitWake_store : ∀ x0 x1 x2 x3, store (waitWake x0 x1 x2 x3) = store x0 := by
  intros; unfold waitWake; grind [store, foldl_store, wakeReq_store, holdAcc_store]
theorem trWrite_store : ∀ x0 x1 x2 x3, store (trWrite x0 x1 x2 x3) = store x0 := by
  intros; unfold trWrite; grind [store, foldl_store, busErr_store, waitWake_store, modRg_store, wakeReq_store, ack_store, modEv_store]
theorem trRead_store : ∀ x0 x1 x2 x3, store (trRead x0 x1 x2 x3) = store x0 := by
  intros; unfold trRead; grind [store, foldl_store, busErr_store, waitWake_store, regionFault_store, wakeReq_store, reply_store, modEv_store]
theorem trDelay_store : ∀ x0 x1 x2 x3, store (trDelay x0 x1 x2 x3) = store x0 := by
  intros; unfold trDelay; grind [store, foldl_store, busErr_store, waitWake_store, modRg_store, wakeReq_store, ack_store, modEv_store]
theorem basinStep_store : ∀ x0 x1, store (basinStep x0 x1) = store x0 := by
  intros; unfold basinStep; grind [store, foldl_store, modRg_store]
theorem basinClrRd_store : ∀ x0 x1 x2, store (basinClrRd x0 x1 x2) = store x0 := by
  intros; unfold basinClrRd; grind [store, foldl_store, busErr_store, waitWake_store, holdAcc_store, reply_store, wakeReq_store]
theorem basinRd_store : ∀ x0 x1 x2 x3, store (basinRd x0 x1 x2 x3) = store x0 := by
  intros; unfold basinRd; grind [store, foldl_store, busErr_store, waitWake_store, holdAcc_store, blockFault_store, wakeReq_store, reply_store, basinStep_store]
theorem sweepStep_store : ∀ x0 x1, store (sweepStep x0 x1) = store x0 := by
  intros; unfold sweepStep; grind [store, foldl_store, modRg_store]
theorem sweepRdAcc_store : ∀ x0 x1 x2 x3, store (sweepRdAcc x0 x1 x2 x3) = store x0 := by
  intros; unfold sweepRdAcc; grind [store, foldl_store, busErr_store, waitWake_store, blockFault_store, wakeReq_store, reply_store, sweepStep_store]
theorem evCount_store : ∀ x0 x1 x2 x3, store (evCount x0 x1 x2 x3) = store x0 := by
  intros; unfold evCount; grind [store, foldl_store, countR_store, modEv_store]
theorem settleTag_store : ∀ x0 x1 x2, store (settleTag x0 x1 x2) = store x0 := by
  intros; unfold settleTag; grind [store, foldl_store, putTag_store]
theorem noteBlock_store : ∀ x0 x1 x2, store (noteBlock x0 x1 x2) = store x0 := by
  intros; unfold noteBlock; grind [store, foldl_store]
theorem expandWord_store : ∀ x0 x1 x2 x3, store (expandWord x0 x1 x2 x3) = store x0 := by
  intros; unfold expandWord; grind [store, foldl_store, noteBlock_store, evCount_store, modEv_store, modBlk_store]
theorem expandRun_store : ∀ x0 x1 x2 x3 x4, store (expandRun x0 x1 x2 x3 x4) = store x0 := by
  intros; unfold expandRun; grind [store, foldl_store, expandWord_store]
theorem entryServed_store : ∀ x0 x1 x2, store (entryServed x0 x1 x2) = store x0 := by
  intros; unfold entryServed; grind [store, foldl_store, modBlk_store, modRg_store]
theorem moveClose_store : ∀ x0 x1 x2, store (moveClose x0 x1 x2) = store x0 := by
  intros; unfold moveClose; grind [store, foldl_store, modEv_store]
theorem firstFault_store : ∀ x0 x1 x2, store (firstFault x0 x1 x2) = store x0 := by
  intros; unfold firstFault; grind [store, foldl_store, modBlk_store, blockFault_store]
theorem startSweeps_store : ∀ x0 x1, store (startSweeps x0 x1) = store x0 := by
  intros; unfold startSweeps; grind [store, foldl_store, modRg_store]
theorem sweepLength_store : ∀ x0 x1, store (sweepLength x0 x1) = store x0 := by
  intros; unfold sweepLength; grind [store, foldl_store, modRg_store]
theorem advanceEpoch_store : ∀ x0 x1 x2, store (advanceEpoch x0 x1 x2) = store x0 := by
  intros; unfold advanceEpoch; grind [store, foldl_store, modRg_store, markRows_store]
theorem reportSweep_store : ∀ x0 x1 x2, store (reportSweep x0 x1 x2) = store x0 := by
  intros; unfold reportSweep; grind [store, foldl_store, sweepReport_store, sendCtl_store]
theorem toEgress_store : ∀ x0 x1 x2, store (toEgress x0 x1 x2) = store x0 := by
  intros; unfold toEgress; grind [store, foldl_store]
theorem emitServed_store : ∀ x0 x1 x2 x3, store (emitServed x0 x1 x2 x3) = store x0 := by
  intros; unfold emitServed; grind [store, foldl_store, modDir_store]
theorem selectModel_store : ∀ x0 x1 x2, store (selectModel x0 x1 x2) = store x0 := by
  intros; unfold selectModel; grind [store, foldl_store, modRg_store]
theorem addAct_store : ∀ x0 x1 x2, store (addAct x0 x1 x2) = store x0 := by
  intros; unfold addAct; grind [store, foldl_store, modStager_store, modGov]
theorem limitAct_store : ∀ x0 x1, store (limitAct x0 x1) = store x0 := by
  intros; unfold limitAct; grind [store, foldl_store, modStager_store, modGov]
theorem laneFlags_store : ∀ x0 x1 x2 x3, store (laneFlags x0 x1 x2 x3) = store x0 := by
  intros; unfold laneFlags; grind [store, foldl_store, modRg_store, countB_store]
theorem popRow_store : ∀ x0 x1 x2, store (popRow x0 x1 x2) = store x0 := by
  intros; unfold popRow; grind [store, foldl_store, modBlk_store]
theorem replayRow_store : ∀ x0 x1 x2, store (replayRow x0 x1 x2) = store x0 := by
  intros; unfold replayRow; grind [store, foldl_store, modBlk_store, countB_store, modRg_store]
theorem haltBlock_store : ∀ x0 x1 x2, store (haltBlock x0 x1 x2) = store x0 := by
  intros; unfold haltBlock; grind [store, foldl_store, modBlk_store]
theorem storeFault_store : ∀ x0 x1 x2 x3 x4, store (storeFault x0 x1 x2 x3 x4) = store x0 := by
  intros; unfold storeFault; grind [store, foldl_store, haltBlock_store, blockFault_store]
theorem chkFault_store : ∀ x0 x1 x2 x3 x4 x5 x6 x7, ∀ t, chkFault x0 x1 x2 x3 x4 x5 x6 x7 = some t → store t = store x0 := by
  intros; rename_i hh; unfold chkFault at hh; grind [store, foldl_store, storeFault_store, haltBlock_store, blockFault_store]
theorem putSweep_store : ∀ x0 x1 x2 x3, store (putSweep x0 x1 x2 x3) = store x0 := by
  intros; unfold putSweep; grind [store, foldl_store, modBlk_store, modSweep]
theorem arithSat_store : ∀ x0 x1 x2, store (arithSat x0 x1 x2) = store x0 := by
  intros; unfold arithSat; grind [store, foldl_store, modRg_store]
theorem queueExtend_store : ∀ x0 x1 x2, store (queueExtend x0 x1 x2) = store x0 := by
  intros; unfold queueExtend; grind [store, foldl_store]
theorem defaultMacro_store : ∀ x0, store (defaultMacro x0) = store x0 := by
  intros; unfold defaultMacro; grind [store, foldl_store]
theorem endLoad_store : ∀ x0 x1 x2 x3, store (endLoad x0 x1 x2 x3) = store x0 := by
  intros; unfold endLoad; grind [store, foldl_store, modPw_store, overRegions]
theorem rejectLoad_store : ∀ x0 x1 x2, store (rejectLoad x0 x1 x2) = store x0 := by
  intros; unfold rejectLoad; grind [store, foldl_store, endLoad_store]
theorem finishLoad_store : ∀ x0 x1, store (finishLoad x0 x1) = store x0 := by
  intros; unfold finishLoad; grind [store, foldl_store, endLoad_store]
theorem applyMacro_store : ∀ x0 x1 x2, store (applyMacro x0 x1 x2) = store x0 := by
  intros; unfold applyMacro; grind [store, foldl_store]
theorem applySection_store : ∀ x0 x1, store (applySection x0 x1) = store x0 := by
  intros; unfold applySection; grind [store, foldl_store, applyMacro_store, modRg_store, overRegions]
theorem measureTaken_store : ∀ x0, store (measureTaken x0) = store x0 := by
  intros; unfold measureTaken; grind [store, foldl_store, queueExtend_store]
theorem plnWord_store : ∀ x0 x1 x2, store (plnWord x0 x1 x2) = store x0 := by
  intros; unfold plnWord; grind [store, foldl_store, busErr_store, holdAcc_store, ack_store, measureTaken_store]
theorem retryPlnAt_store : ∀ x0 x1, store (retryPlnAt x0 x1) = store x0 := by
  intros; unfold retryPlnAt; grind [store, foldl_store, plnWord_store]
theorem retryPln_store : ∀ x0, store (retryPln x0) = store x0 := by
  intros; unfold retryPln; grind [store, foldl_store, retryPlnAt_store]
theorem beginLoad_store : ∀ x0 x1, store (beginLoad x0 x1) = store x0 := by
  intros; unfold beginLoad; grind [store, foldl_store]
theorem dropFetch_store : ∀ x0 x1, store (dropFetch x0 x1) = store x0 := by
  intros; unfold dropFetch; grind [store, foldl_store, modRp_store]
theorem measureCut_store : ∀ x0, store (measureCut x0) = store x0 := by
  intros; unfold measureCut; grind [store, foldl_store, queueExtend_store]
theorem abortLoad_store : ∀ x0, store (abortLoad x0) = store x0 := by
  intros; unfold abortLoad; grind [store, foldl_store, retryPln_store, rejectLoad_store, measureCut_store, dropFetch_store]
theorem plnCtrl_store : ∀ x0 x1 x2 x3 x4, store (plnCtrl x0 x1 x2 x3 x4) = store x0 := by
  intros; unfold plnCtrl; grind [store, foldl_store, busErr_store, beginLoad_store, ack_store, abortLoad_store]
theorem sectionDone_store : ∀ x0 x1 x2 x3, store (sectionDone x0 x1 x2 x3) = store x0 := by
  intros; unfold sectionDone; grind [store, foldl_store, rejectLoad_store, measureTaken_store, finishLoad_store]
theorem planFetched_store : ∀ x0 x1 x2, store (planFetched x0 x1 x2) = store x0 := by
  intros; unfold planFetched; grind [store, foldl_store, measureTaken_store, rejectLoad_store, measureCut_store]
theorem fwFail_store : ∀ x0 x1, store (fwFail x0 x1) = store x0 := by
  intros; unfold fwFail; grind [store, foldl_store, dropFetch_store, queueExtend_store]
theorem fwTake_store : ∀ x0 x1, store (fwTake x0 x1) = store x0 := by
  intros; unfold fwTake; grind [store, foldl_store, fwFail_store]
theorem fwWord_store : ∀ x0 x1 x2, store (fwWord x0 x1 x2) = store x0 := by
  intros; unfold fwWord; grind [store, foldl_store, busErr_store, holdAcc_store, ack_store, fwTake_store]
theorem retryFwAt_store : ∀ x0 x1, store (retryFwAt x0 x1) = store x0 := by
  intros; unfold retryFwAt; grind [store, foldl_store, fwWord_store]
theorem retryWords_store : ∀ x0, store (retryWords x0) = store x0 := by
  intros; unfold retryWords; grind [store, foldl_store, retryPln_store, retryFwAt_store]
theorem ghCtrl_store : ∀ x0 x1 x2 x3 x4, store (ghCtrl x0 x1 x2 x3 x4) = store x0 := by
  intros; unfold ghCtrl; grind [store, foldl_store, busErr_store, ack_store, retryWords_store, fwFail_store]
theorem ghFetched_store : ∀ x0 x1 x2 x3, store (ghFetched x0 x1 x2 x3) = store x0 := by
  intros; unfold ghFetched; grind [store, foldl_store, planFetched_store, fwTake_store, fwFail_store]
theorem accFaults_store : ∀ x0 x1, store (accFaults x0 x1) = store x0 := by
  intros; unfold accFaults; grind [store, foldl_store]
theorem coreRead_store : ∀ x0 x1, store (coreRead x0 x1) = store x0 := by
  intros; unfold coreRead; grind [store, foldl_store, wholeFault_store, accFaults_store]
theorem coreWrite_store : ∀ x0 x1 x2, store (coreWrite x0 x1 x2) = store x0 := by
  intros; unfold coreWrite; grind [store, foldl_store, accFaults_store]
theorem coreRuns_store : ∀ x0 x1, store (coreRuns x0 x1) = store x0 := by
  intros; unfold coreRuns; grind [store, foldl_store, coreRead_store, coreWrite_store]
theorem snapshot_store : ∀ x0 x1, store (snapshot x0 x1) = store x0 := by
  intros; unfold snapshot; grind [store, foldl_store]
theorem takeReport_store : ∀ x0 x1 x2 x3, store (takeReport x0 x1 x2 x3) = store x0 := by
  intros; unfold takeReport; grind [store, foldl_store, snapshot_store]
theorem jumped_store : ∀ x0, store (jumped x0) = store x0 := by
  intros; unfold jumped; grind [store, foldl_store]
theorem takeRequest_store : ∀ x0 x1, store (takeRequest x0 x1) = store x0 := by
  intros; unfold takeRequest; grind [store, foldl_store, modBox_store]
theorem measureRequest_store : ∀ x0 x1 x2 x3, store (measureRequest x0 x1 x2 x3) = store x0 := by
  intros; unfold measureRequest; grind [store, foldl_store, takeRequest_store, takeReport_store]
theorem dropWicket_store : ∀ x0 x1, store (dropWicket x0 x1) = store x0 := by
  intros; unfold dropWicket; grind [store, foldl_store]
theorem wicketWait_store : ∀ x0 x1, store (wicketWait x0 x1) = store x0 := by
  intros; unfold wicketWait; grind [store, foldl_store]
theorem wicketTake_store : ∀ x0 x1 x2, store (wicketTake x0 x1 x2) = store x0 := by
  intros; unfold wicketTake; grind [store, foldl_store]
theorem settleAbort_store : ∀ x0 x1 x2, store (settleAbort x0 x1 x2) = store x0 := by
  intros; unfold settleAbort; grind [store, foldl_store, dropWicket_store, modRp_store, modStream_store]
theorem abortStream_store : ∀ x0 x1, store (abortStream x0 x1) = store x0 := by
  intros; unfold abortStream; grind [store, foldl_store, modRp_store, modStream_store, dropWatch_store, settleAbort_store]
theorem askAbort_store : ∀ x0 x1, store (askAbort x0 x1) = store x0 := by
  intros; unfold askAbort; grind [store, foldl_store, abortStream_store, sendCtl_store]
theorem setSlot_store : ∀ x0 x1 x2 x3, store (setSlot x0 x1 x2 x3) = store x0 := by
  intros; unfold setSlot; grind [store, foldl_store]
theorem writeSlot_store : ∀ x0 x1 x2 x3 x4, ∀ t, writeSlot x0 x1 x2 x3 x4 = some t → store t = store x0 := by
  intros; rename_i hh; unfold writeSlot at hh; grind [store, foldl_store, setSlot_store, modStream_store, askAbort_store, ringStream_store]
theorem popAdmit_store : ∀ x0 x1, store (popAdmit x0 x1) = store x0 := by
  intros; unfold popAdmit; grind [store, foldl_store, modRp_store]
theorem admitTile_store : ∀ x0 x1 x2 x3 x4, store (admitTile x0 x1 x2 x3 x4) = store x0 := by
  intros; unfold admitTile; grind [store, foldl_store, modRp_store, popAdmit_store, wicketTake_store, modStream_store]
theorem setBeat_store : ∀ x0 x1 x2 x3 x4, store (setBeat x0 x1 x2 x3 x4) = store x0 := by
  intros; unfold setBeat; grind [store, foldl_store, modRp_store, modTile]
theorem sendOut_store : ∀ x0 x1 x2 x3, store (sendOut x0 x1 x2 x3) = store x0 := by
  intros; unfold sendOut; grind [store, foldl_store, modRp_store]
theorem issueOut_store : ∀ x0 x1 x2 x3 x4 x5 x6, store (issueOut x0 x1 x2 x3 x4 x5 x6) = store x0 := by
  intros; unfold issueOut; grind [store, foldl_store, setBeat_store, sendOut_store, countM_store]
theorem issueBeat_store : ∀ x0 x1 x2 x3 x4 x5, store (issueBeat x0 x1 x2 x3 x4 x5) = store x0 := by
  intros; unfold issueBeat; grind [store, foldl_store, issueOut_store, countM_store, setBeat_store, modRp_store]
theorem issueFetch_store : ∀ x0 x1 x2 x3, store (issueFetch x0 x1 x2 x3) = store x0 := by
  intros; unfold issueFetch; grind [store, foldl_store, countM_store, wicketTake_store, sendOut_store]
theorem fetchWait_store : ∀ x0 x1, store (fetchWait x0 x1) = store x0 := by
  intros; unfold fetchWait; grind [store, foldl_store, wicketWait_store]
theorem wicketWon_store : ∀ x0 x1 x2 x3, store (wicketWon x0 x1 x2 x3) = store x0 := by
  intros; unfold wicketWon; grind [store, foldl_store, modRp_store]
theorem haltStream_store : ∀ x0 x1 x2 x3, store (haltStream x0 x1 x2 x3) = store x0 := by
  intros; unfold haltStream; grind [store, foldl_store, modRp_store, modStream_store]
theorem placeBeats_store : ∀ x0 x1 x2 x3, store (placeBeats x0 x1 x2 x3) = store x0 := by
  intros; unfold placeBeats; grind [store, foldl_store, modRp_store]
theorem settleAll_store : ∀ x0 x1, store (settleAll x0 x1) = store x0 := by
  intros; unfold settleAll; grind [store, foldl_store, settleAbort_store]
theorem xlateBeats_store : ∀ x0 x1 x2, store (xlateBeats x0 x1 x2) = store x0 := by
  intros; unfold xlateBeats; grind [store, foldl_store, haltStream_store, placeBeats_store]
theorem rillError_store : ∀ x0 x1 x2, store (rillError x0 x1 x2) = store x0 := by
  intros; unfold rillError; grind [store, foldl_store, halfFault_store]
theorem dropOut_store : ∀ x0 x1 x2, store (dropOut x0 x1 x2) = store x0 := by
  intros; unfold dropOut; grind [store, foldl_store, modRp_store]
theorem mergedRead_store : ∀ x0 x1 x2 x3 x4, store (mergedRead x0 x1 x2 x3 x4) = store x0 := by
  intros; unfold mergedRead; grind [store, foldl_store, placeBeats_store, xlateBeats_store]
theorem movePiece_store : ∀ x0 x1 x2 x3 x4, store (movePiece x0 x1 x2 x3 x4) = store x0 := by
  intros; unfold movePiece; grind [store, foldl_store, routePiece_store, modRp_store, modTile]
theorem rillPair_store : ∀ x0 x1 x2 x3, store (rillPair x0 x1 x2 x3) = store x0 := by
  intros; unfold rillPair; grind [store, foldl_store, pairAdd_store, countM_store, refuseOp_store, tellPair_store]
theorem pairTold_store : ∀ x0 x1 x2 x3, store (pairTold x0 x1 x2 x3) = store x0 := by
  intros; unfold pairTold; grind [store, foldl_store]
theorem postPair_store : ∀ x0 x1 x2 x3, store (postPair x0 x1 x2 x3) = store x0 := by
  intros; unfold postPair; grind [store, foldl_store, rillPair_store, sendCtl_store]
theorem rillSem_store : ∀ x0 x1, store (rillSem x0 x1) = store x0 := by
  intros; unfold rillSem; grind [store, foldl_store, refuseOp_store, countM_store, putSem_store]
theorem endStream_store : ∀ x0 x1 x2, store (endStream x0 x1 x2) = store x0 := by
  intros; unfold endStream; grind [store, foldl_store, modStream_store, rillSem_store, rillArrive_store, sendCtl_store, postOr]
theorem completeTile_store : ∀ x0 x1 x2 x3, store (completeTile x0 x1 x2 x3) = store x0 := by
  intros; unfold completeTile; grind [store, foldl_store, modRp_store, dropWicket_store, modStream_store, postPair_store, endStream_store]
theorem startInv_store : ∀ x0 x1, store (startInv x0 x1) = store x0 := by
  intros; unfold startInv; grind [store, foldl_store, modRp_store]
theorem echInv_store : ∀ x0 x1 x2, ∀ t, echInv x0 x1 x2 = some t → store t = store x0 := by
  intros; rename_i hh; unfold echInv at hh; grind [store, foldl_store, startInv_store]
theorem setEcho_store : ∀ x0 x1 x2, store (setEcho x0 x1 x2) = store x0 := by
  intros; unfold setEcho; grind [store, foldl_store, modRp_store]
theorem writeFbCtrl_store : ∀ x0 x1, store (writeFbCtrl x0 x1) = store x0 := by
  intros; unfold writeFbCtrl; grind [store, foldl_store, train_store]
theorem failTraining_store : ∀ x0 x1, store (failTraining x0 x1) = store x0 := by
  intros; unfold failTraining; grind [store, foldl_store, linkFault_store]
theorem markSpare_store : ∀ x0 x1 x2 x3, store (markSpare x0 x1 x2 x3).1 = store x0 := by
  intros; unfold markSpare; grind [store, foldl_store, recordSpare_store]
theorem markSpares_store : ∀ x0 x1 x2, store (markSpares x0 x1 x2).1 = store x0 := by
  intro s d l
  induction l generalizing s with
  | nil => rfl
  | cons x l ih => simp only [markSpares, ih]; exact markSpare_store _ _ _ _
theorem placeWires_store : ∀ x0 x1 x2, store (placeWires x0 x1 x2).1 = store x0 := by
  intro s d l
  induction l generalizing s with
  | nil => rfl
  | cons x l ih =>
    simp only [placeWires]
    split
    · exact ih s
    · split
      · rw [ih]; exact recordSpare_store _ _ _ _ _
      · rfl
theorem takeAck_store : ∀ x0 x1 x2, store (takeAck x0 x1 x2) = store x0 := by
  intros; unfold takeAck; grind [store, foldl_store, modDir_store]
theorem takeSide_store : ∀ x0 x1 x2, store (takeSide x0 x1 x2) = store x0 := by
  intros; unfold takeSide; grind [store, foldl_store, takeAck_store, fbFault_store, modDir_store, startReplay_store]
theorem retireWire_store : ∀ x0 x1 x2 x3, store (retireWire x0 x1 x2 x3) = store x0 := by
  intros; unfold retireWire; grind [store, foldl_store, modDir_store, sendLink_store]
theorem countWire_store : ∀ x0 x1 x2 x3, store (countWire x0 x1 x2 x3) = store x0 := by
  intros; unfold countWire; grind [store, foldl_store, modDir_store, retireWire_store]
theorem compareFlits_store : ∀ x0 x1 x2 x3, store (compareFlits x0 x1 x2 x3) = store x0 := by
  intros; unfold compareFlits; grind [store, foldl_store, countWire_store]
theorem protocolFault_store : ∀ x0 x1 x2, store (protocolFault x0 x1 x2) = store x0 := by
  intros; unfold protocolFault; grind [store, foldl_store, fbFault_store, modDir_store]
theorem gatherFlit_store : ∀ x0 x1 x2, store (gatherFlit x0 x1 x2) = store x0 := by
  intros; unfold gatherFlit; grind [store, foldl_store, protocolFault_store, modDir_store]
theorem acceptFlit_store : ∀ x0 x1 x2, store (acceptFlit x0 x1 x2) = store x0 := by
  intros; unfold acceptFlit; grind [store, foldl_store, modDir_store, compareFlits_store, gatherFlit_store]
theorem countCrc_store : ∀ x0 x1, store (countCrc x0 x1) = store x0 := by
  intros; unfold countCrc; grind [store, foldl_store, countM_store, modDir_store]
theorem badFlit_store : ∀ x0 x1 x2 x3, store (badFlit x0 x1 x2 x3) = store x0 := by
  intros; unfold badFlit; grind [store, foldl_store, countCrc_store, modDir_store]
theorem linkPop_store : ∀ x0 x1, store (linkPop x0 x1) = store x0 := by
  intros; unfold linkPop; grind [store, foldl_store, modDir_store]
theorem takePiece_store : ∀ x0 x1 x2, store (takePiece x0 x1 x2) = store x0 := by
  intros; unfold takePiece; grind [store, foldl_store, packetPiece_store, fbFault_store]
theorem arriveSignal_store : ∀ x0 x1, store (arriveSignal x0 x1) = store x0 := by
  intros; unfold arriveSignal; grind [store, foldl_store, answerSignal_store, modEp_store]
theorem ackSignal_store : ∀ x0 x1, store (ackSignal x0 x1) = store x0 := by
  intros; unfold ackSignal; grind [store, foldl_store, answerAll_store]
theorem takeCounts_store : ∀ x0 x1, store (takeCounts x0 x1) = store x0 := by
  intros; unfold takeCounts; grind [store, foldl_store, modEp_store]
theorem askDep_store : ∀ x0 x1 x2 x3, store (askDep x0 x1 x2 x3) = store x0 := by
  intros; unfold askDep; grind [store, foldl_store, sendCtl_store, regWatch_store]
theorem ctlAct_store : ∀ x0 x1, store (ctlAct x0 x1) = store x0 := by
  intros; unfold ctlAct; grind [store, foldl_store, startCloses_store, sweepReport_store, rillArrive_store, rillSem_store, rillPair_store, abortStream_store, bellAct_store, pairTold_store, askDep_store, modStream_store, wakeReq_store]
theorem markSteps_store : ∀ x0 x1 x2, store (markSteps x0 x1 x2) = store x0 := by
  intros; unfold markSteps; grind [store, foldl_store, modEv_store]
theorem deliverEntry_store : ∀ x0 x1 x2 x3, store (deliverEntry x0 x1 x2 x3) = store x0 := by
  intros; unfold deliverEntry; grind [store, foldl_store, toEgress_store, modEv_store]
theorem askDown_store : ∀ x0 x1, store (askDown x0 x1) = store x0 := by
  intros; unfold askDown; grind [store, foldl_store, modPw_store]
theorem turnStager_store : ∀ x0 x1, store (turnStager x0 x1) = store x0 := by
  intros; unfold turnStager; grind [store, foldl_store, modStager_store]
theorem grantFirsts_store : ∀ x0 x1 x2, store (grantFirsts x0 x1 x2).1 = store x0 := by
  intro s h l
  induction l generalizing s with
  | nil => rfl
  | cons r l ih => unfold grantFirsts; grind [modStager_store]
theorem bookRest_store : ∀ x0 x1 x2, store (bookRest x0 x1 x2) = store x0 := by
  intros; unfold bookRest; grind [store, foldl_store, modStager_store, modPw_store]
theorem setReserve_store : ∀ x0 x1, store (setReserve x0 x1) = store x0 := by
  intros; unfold setReserve; grind [store, foldl_store, modStager_store]
theorem setAllowance_store : ∀ x0 x1, store (setAllowance x0 x1) = store x0 := by
  intros; unfold setAllowance; grind [store, foldl_store, modStager_store]
theorem closeGathers_store : ∀ x0 x1, store (closeGathers x0 x1) = store x0 := by
  intros; unfold closeGathers; grind [store, foldl_store, startGather_store]
theorem grantDown_store : ∀ x0 x1, store (grantDown x0 x1) = store x0 := by
  intros; unfold grantDown; grind [store, foldl_store, modPw_store, closeGathers_store, modStager_store]
theorem edgeHalf_store : ∀ x0 x1, store (edgeHalf x0 x1) = store x0 := by
  intros; unfold edgeHalf; grind [store, foldl_store, turnStager_store, grantFirsts_store, setReserve_store, bookRest_store, setAllowance_store, countM_store, grantDown_store]
theorem tickPolicy_store : ∀ x0 x1, store (tickPolicy x0 x1) = store x0 := by
  intros; unfold tickPolicy; grind [store, foldl_store, modPw_store]
theorem tickCounts_store : ∀ x0, store (tickCounts x0) = store x0 := by
  intros; unfold tickCounts; grind [store, foldl_store]
theorem writeWake_store : ∀ x0 x1 x2, store (writeWake x0 x1 x2) = store x0 := by
  intros; unfold writeWake; grind [store, foldl_store, wakeAll_store]
theorem applyPolicy_store : ∀ x0 x1, store (applyPolicy x0 x1) = store x0 := by
  intros; unfold applyPolicy; grind [store, foldl_store, modPw_store, wakeReq_store]
theorem frozenHead_store : ∀ x0 x1 x2, store (frozenHead x0 x1 x2) = store x0 := by
  intros; unfold frozenHead; grind [store, foldl_store, answerAll_store]
theorem freezeRequests_store : ∀ x0, store (freezeRequests x0) = store x0 := by
  intros; unfold freezeRequests; grind [store, foldl_store, frozenHead_store]
theorem freezeHeld_store : ∀ x0, store (freezeHeld x0) = store x0 := by
  intros; unfold freezeHeld; grind [store, foldl_store, answerSignal_store, modEp_store]
theorem freezeDeposits_store : ∀ x0, store (freezeDeposits x0) = store x0 := by
  intros; unfold freezeDeposits; grind [store, foldl_store, answerSignal_store, busErr_store, modBox_store]
theorem releaseFreeze_store : ∀ x0 x1, store (releaseFreeze x0 x1) = store x0 := by
  intros; unfold releaseFreeze; grind [store, foldl_store]
theorem fenceStop_store : ∀ x0 x1 x2, store (fenceStop x0 x1 x2) = store x0 := by
  intros; unfold fenceStop; grind [store, foldl_store, beatDone_store, modBlk_store]
theorem fenceRows_store : ∀ x0 x1 x2, store (fenceRows x0 x1 x2) = store x0 := by
  intros; unfold fenceRows; grind [store, foldl_store, modBlk_store, settleTag_store, evCount_store]
theorem fenceBlock_store : ∀ x0 x1 x2, store (fenceBlock x0 x1 x2) = store x0 := by
  intros; unfold fenceBlock; grind [store, foldl_store, modRg_store, modBlk_store, fenceStop_store, fenceRows_store]
theorem writeFence_store : ∀ x0 x1 x2, store (writeFence x0 x1 x2) = store x0 := by
  intros; unfold writeFence; grind [store, foldl_store, fenceBlock_store, modRg_store]
theorem dumpBeat_store : ∀ x0 x1 x2 x3, store (dumpBeat x0 x1 x2 x3) = store x0 := by
  intros; unfold dumpBeat; grind [store, foldl_store, routeOne_store]
theorem takeSample_store : ∀ x0, store (takeSample x0) = store x0 := by
  intros; unfold takeSample; grind [store, foldl_store, dumpBeat_store]
theorem dumpMove_store : ∀ x0 x1 x2 x3, store (dumpMove x0 x1 x2 x3) = store x0 := by
  intros; unfold dumpMove; grind [store, foldl_store]
theorem writeTag_store : ∀ x0 x1 x2 x3 x4, store (writeTag x0 x1 x2 x3 x4) = store x0 := by
  intros; unfold writeTag; grind [store, foldl_store]
theorem wakeCnt_store : ∀ x0 x1, store (wakeCnt x0 x1) = store x0 := by
  intros; unfold wakeCnt; grind [store, foldl_store, wakeReq_store]
theorem rcClear_store : ∀ x0 x1, store (rcClear x0 x1) = store x0 := by
  intros; unfold rcClear; grind [store, foldl_store, modDir_store, modEv_store, modRg_store]
theorem touch_store : ∀ x0 x1, store (touch x0 x1) = store x0 := by
  intros; unfold touch; grind [store, foldl_store, wakeReq_store]
theorem plainWrite_store : ∀ x0 x1 x2, store (plainWrite x0 x1 x2) = store x0 := by
  intros; unfold plainWrite; grind [store, foldl_store, modDir_store, modRp_store, modRg_store, modEv_store, whenPowered]
theorem shaped_store : ∀ x0 x1 x2, store (shaped x0 x1 x2) = store x0 := by
  intros; unfold shaped; grind [store, foldl_store, modRport_store]
theorem withRsps_store : ∀ x0 x1 x2, store (withRsps x0 x1 x2) = store x0 := by
  intros; unfold withRsps; grind [store, foldl_store, modRport_store]
theorem behind_store : ∀ x0 x1 x2, store (behind x0 x1 x2) = store x0 := by
  intros; unfold behind; grind [store, foldl_store, modRport_store]
theorem withQueue_store : ∀ x0 x1 x2, store (withQueue x0 x1 x2) = store x0 := by
  intros; unfold withQueue; grind [store, foldl_store, modRport_store]

end Sys2Proof.Machine
end

