-- ==== Sys2Proof/Laws/PerInstr.lean ====
section
/-! SUPPORT. Per command: which operands make the term the row its constructor names (WellFormed.lean). -/

namespace Sys2Proof.Laws

/-- The command is well-formed exactly when its payload is its row's: a condition for each row that shares a payload with
another, none for the others. -/
def WellFormed.Statement (i : Instr) : Prop :=
  match i with
  | .railUndervolt x0 rail => Instr.wf (.railUndervolt x0 rail) = true ↔ rail ≠ .vddaon
  | .read x0 q => Instr.wf (.read x0 q) = true ↔ q.mgrp = 0
  | .write x0 q => Instr.wf (.write x0 q) = true ↔ (q.top = 0 ∨ q.top = 3)
  | .writeBitSet x0 q => Instr.wf (.writeBitSet x0 q) = true ↔ q.top = 1
  | .writeBitClear x0 q => Instr.wf (.writeBitClear x0 q) = true ↔ q.top = 2
  | .streamDoorbell x0 q x2 => Instr.wf (.streamDoorbell x0 q x2) = true ↔ q.addr.getLsbD 12 = false
  | .mailboxDoorbell x0 q x2 => Instr.wf (.mailboxDoorbell x0 q x2) = true ↔ q.addr.getLsbD 12 = true
  | .multicastRead x0 q => Instr.wf (.multicastRead x0 q) = true ↔ q.mgrp ≠ 0
  | .gatherTimeout x0 g => Instr.wf (.gatherTimeout x0 g) = true ↔ g ≠ 0
  | .sweepGroupStart x0 x1 c => Instr.wf (.sweepGroupStart x0 x1 c) = true ↔ (c = .good ∨ c = .instr)
  | .endProg x0 x1 c => Instr.wf (.endProg x0 x1 c) = true ↔ (c = .good ∨ c = .instr)
  | .range x0 x1 c => Instr.wf (.range x0 x1 c) = true ↔ (c = .good ∨ c = .instr)
  | .lds x0 x1 c => Instr.wf (.lds x0 x1 c) = true ↔ (c = .good ∨ c = .instr ∨ (∃ i, c = .array i))
  | .sts x0 x1 c => Instr.wf (.sts x0 x1 c) = true ↔ (c = .good ∨ c = .instr)
  | .ldb x0 x1 c => Instr.wf (.ldb x0 x1 c) = true ↔ (c = .good ∨ c = .instr ∨ (∃ i, c = .basin i))
  | .stb x0 x1 c => Instr.wf (.stb x0 x1 c) = true ↔ (c = .good ∨ c = .instr)
  | .ldi x0 x1 c => Instr.wf (.ldi x0 x1 c) = true ↔ (c = .good ∨ c = .instr)
  | .add x0 x1 w => Instr.wf (.add x0 x1 w) = true ↔ bstOp w = 0
  | .sweepAdd x0 x1 c => Instr.wf (.sweepAdd x0 x1 c) = true ↔ (c = .good ∨ c = .instr)
  | .sweepSub x0 x1 c => Instr.wf (.sweepSub x0 x1 c) = true ↔ (c = .good ∨ c = .instr)
  | .addc x0 x1 c => Instr.wf (.addc x0 x1 c) = true ↔ (c = .good ∨ c = .instr ∨ c = .const)
  | .mulc x0 x1 c => Instr.wf (.mulc x0 x1 c) = true ↔ (c = .good ∨ c = .instr ∨ c = .const)
  | .shri x0 x1 c => Instr.wf (.shri x0 x1 c) = true ↔ (c = .good ∨ c = .instr)
  | .max x0 x1 c => Instr.wf (.max x0 x1 c) = true ↔ (c = .good ∨ c = .instr)
  | .min x0 x1 c => Instr.wf (.min x0 x1 c) = true ↔ (c = .good ∨ c = .instr)
  | .cmp x0 x1 c => Instr.wf (.cmp x0 x1 c) = true ↔ (c = .good ∨ c = .instr ∨ c = .const)
  | .sel x0 x1 c => Instr.wf (.sel x0 x1 c) = true ↔ (c = .good ∨ c = .instr)
  | .rst x0 x1 c => Instr.wf (.rst x0 x1 c) = true ↔ (c = .good ∨ c = .instr ∨ c = .const)
  | .emit x0 x1 c => Instr.wf (.emit x0 x1 c) = true ↔ (c = .good ∨ c = .instr ∨ c = .const)
  | .trc x0 x1 c => Instr.wf (.trc x0 x1 c) = true ↔ (c = .good ∨ c = .instr ∨ (∃ i, c = .factor i))
  | .invalidInstruction x0 x1 c => Instr.wf (.invalidInstruction x0 x1 c) = true ↔ (c = .good ∨ c = .instr)
  | .sub x0 x1 w => Instr.wf (.sub x0 x1 w) = true ↔ bstOp w = 1
  | .wait x0 x1 w => Instr.wf (.wait x0 x1 w) = true ↔ bstOp w = 2
  | .set x0 x1 w => Instr.wf (.set x0 x1 w) = true ↔ bstOp w = 3
  | .padd x0 x1 w => Instr.wf (.padd x0 x1 w) = true ↔ bstOp w = 4
  | .cadd x0 x1 w => Instr.wf (.cadd x0 x1 w) = true ↔ bstOp w = 5
  | .pwaitFull x0 x1 w => Instr.wf (.pwaitFull x0 x1 w) = true ↔ bstOp w = 6
  | .pwaitSpace x0 x1 w => Instr.wf (.pwaitSpace x0 x1 w) = true ↔ bstOp w = 7
  | .arrive x0 x1 w => Instr.wf (.arrive x0 x1 w) = true ↔ bstOp w = 8
  | .sync x0 x1 w => Instr.wf (.sync x0 x1 w) = true ↔ bstOp w = 9
  | .bwait x0 x1 w => Instr.wf (.bwait x0 x1 w) = true ↔ bstOp w = 10
  | .swait x0 x1 w => Instr.wf (.swait x0 x1 w) = true ↔ bstOp w = 11
  | .bstReservedOp x0 x1 w => Instr.wf (.bstReservedOp x0 x1 w) = true ↔ 12 ≤ (bstOp w).toNat
  | .syncArriveReceived w => Instr.wf (.syncArriveReceived w) = true ↔ w.extractLsb' 0 4 ≠ 2
  | .syncReleaseReceived w => Instr.wf (.syncReleaseReceived w) = true ↔ w.extractLsb' 0 4 = 2
  | .signingResponse ws x1 => Instr.wf (.signingResponse ws x1) = true ↔ ws ≠ []
  | i => i.wf = true

theorem WellFormed.aonReset (a0) : WellFormed.Statement (.aonReset a0) := rfl
theorem WellFormed.macroResetAssert : WellFormed.Statement (.macroResetAssert) := rfl
theorem WellFormed.macroResetRelease (a0) : WellFormed.Statement (.macroResetRelease a0) := rfl
theorem WellFormed.wrapperReset (a0) : WellFormed.Statement (.wrapperReset a0) := rfl
theorem WellFormed.testModeChange (a0) : WellFormed.Statement (.testModeChange a0) := rfl
theorem WellFormed.fclkOkRise (a0) : WellFormed.Statement (.fclkOkRise a0) := rfl
theorem WellFormed.fclkOkFall (a0) : WellFormed.Statement (.fclkOkFall a0) := rfl
theorem WellFormed.railLoss (a0 a1) : WellFormed.Statement (.railLoss a0 a1) := rfl
theorem WellFormed.railUndervolt (a0 a1) : WellFormed.Statement (.railUndervolt a0 a1) := by
  show (a1 != .vddaon) = true ↔ a1 ≠ .vddaon
  simp
theorem WellFormed.read (a0 a1) : WellFormed.Statement (.read a0 a1) := by
  show (a1.mgrp == 0) = true ↔ a1.mgrp = 0
  simp
theorem WellFormed.write (a0 a1) : WellFormed.Statement (.write a0 a1) := by
  show (a1.top == 0 || a1.top == 3) = true ↔ (a1.top = 0 ∨ a1.top = 3)
  simp
theorem WellFormed.writeBitSet (a0 a1) : WellFormed.Statement (.writeBitSet a0 a1) := by
  show (a1.top == 1) = true ↔ a1.top = 1
  simp
theorem WellFormed.writeBitClear (a0 a1) : WellFormed.Statement (.writeBitClear a0 a1) := by
  show (a1.top == 2) = true ↔ a1.top = 2
  simp
theorem WellFormed.atomAddS8 (a0 a1 a2) : WellFormed.Statement (.atomAddS8 a0 a1 a2) := rfl
theorem WellFormed.atomAddI32 (a0 a1 a2) : WellFormed.Statement (.atomAddI32 a0 a1 a2) := rfl
theorem WellFormed.atomAddF32 (a0 a1 a2) : WellFormed.Statement (.atomAddF32 a0 a1 a2) := rfl
theorem WellFormed.atomMinI32 (a0 a1 a2) : WellFormed.Statement (.atomMinI32 a0 a1 a2) := rfl
theorem WellFormed.atomMaxI32 (a0 a1 a2) : WellFormed.Statement (.atomMaxI32 a0 a1 a2) := rfl
theorem WellFormed.atomSwap64 (a0 a1 a2) : WellFormed.Statement (.atomSwap64 a0 a1 a2) := rfl
theorem WellFormed.atomCas64 (a0 a1 a2) : WellFormed.Statement (.atomCas64 a0 a1 a2) := rfl
theorem WellFormed.atomTrace (a0 a1 a2) : WellFormed.Statement (.atomTrace a0 a1 a2) := rfl
theorem WellFormed.sem (a0 a1 a2) : WellFormed.Statement (.sem a0 a1 a2) := rfl
theorem WellFormed.streamDoorbell (a0 a1 a2) : WellFormed.Statement (.streamDoorbell a0 a1 a2) := by
  show (!a1.addr.getLsbD 12) = true ↔ a1.addr.getLsbD 12 = false
  simp
theorem WellFormed.mailboxDoorbell (a0 a1 a2) : WellFormed.Statement (.mailboxDoorbell a0 a1 a2) := by
  show (a1.addr.getLsbD 12) = true ↔ a1.addr.getLsbD 12 = true
  simp
theorem WellFormed.reservedOp (a0 a1 a2) : WellFormed.Statement (.reservedOp a0 a1 a2) := rfl
theorem WellFormed.writeDataBeat (a0 a1) : WellFormed.Statement (.writeDataBeat a0 a1) := rfl
theorem WellFormed.responseBeatTaken (a0 a1 a2) : WellFormed.Statement (.responseBeatTaken a0 a1 a2) := rfl
theorem WellFormed.multicastRead (a0 a1) : WellFormed.Statement (.multicastRead a0 a1) := by
  show (a1.mgrp != 0) = true ↔ a1.mgrp ≠ 0
  simp
theorem WellFormed.gatherTimeout (a0 a1) : WellFormed.Statement (.gatherTimeout a0 a1) := by
  show (a1 != 0) = true ↔ a1 ≠ 0
  simp
theorem WellFormed.sluiceRelease (a0 a1) : WellFormed.Statement (.sluiceRelease a0 a1) := rfl
theorem WellFormed.sluiceWindowBoundary (a0) : WellFormed.Statement (.sluiceWindowBoundary a0) := rfl
theorem WellFormed.sluiceConfigWrite (a0 a1 a2) : WellFormed.Statement (.sluiceConfigWrite a0 a1 a2) := rfl
theorem WellFormed.blockGrant (a0 a1 a2 a3) : WellFormed.Statement (.blockGrant a0 a1 a2 a3) := rfl
theorem WellFormed.timetableSlot (a0 a1 a2 a3) : WellFormed.Statement (.timetableSlot a0 a1 a2 a3) := rfl
theorem WellFormed.slotSlipIssue (a0 a1 a2 a3) : WellFormed.Statement (.slotSlipIssue a0 a1 a2 a3) := rfl
theorem WellFormed.quotaWindowEnd (a0) : WellFormed.Statement (.quotaWindowEnd a0) := rfl
theorem WellFormed.starvationLimit (a0 a1) : WellFormed.Statement (.starvationLimit a0 a1) := rfl
theorem WellFormed.eventIngress (a0 a1) : WellFormed.Statement (.eventIngress a0 a1) := rfl
theorem WellFormed.copyPlaced (a0 a1 a2) : WellFormed.Statement (.copyPlaced a0 a1 a2) := rfl
theorem WellFormed.copyAtEntry (a0) : WellFormed.Statement (.copyAtEntry a0) := rfl
theorem WellFormed.entryHold (a0 a1 a2) : WellFormed.Statement (.entryHold a0 a1 a2) := rfl
theorem WellFormed.expandCopy (a0 a1) : WellFormed.Statement (.expandCopy a0 a1) := rfl
theorem WellFormed.groupToQueue (a0) : WellFormed.Statement (.groupToQueue a0) := rfl
theorem WellFormed.rowEventIssue (a0 a1 a2) : WellFormed.Statement (.rowEventIssue a0 a1 a2) := rfl
theorem WellFormed.ringRowsToQueue (a0 a1) : WellFormed.Statement (.ringRowsToQueue a0 a1) := rfl
theorem WellFormed.stepEntryComplete (a0) : WellFormed.Statement (.stepEntryComplete a0) := rfl
theorem WellFormed.stepDrained (a0 a1) : WellFormed.Statement (.stepDrained a0 a1) := rfl
theorem WellFormed.stepSweepsDone (a0) : WellFormed.Statement (.stepSweepsDone a0) := rfl
theorem WellFormed.emitBufferPass (a0 a1 a2) : WellFormed.Statement (.emitBufferPass a0 a1 a2) := rfl
theorem WellFormed.egressEventTaken (a0) : WellFormed.Statement (.egressEventTaken a0) := rfl
theorem WellFormed.modelSwitch (a0 a1 a2) : WellFormed.Statement (.modelSwitch a0 a1 a2) := rfl
theorem WellFormed.modelSwitchComplete (a0) : WellFormed.Statement (.modelSwitchComplete a0) := rfl
theorem WellFormed.trellisDataWrite (a0 a1 a2) : WellFormed.Statement (.trellisDataWrite a0 a1 a2) := rfl
theorem WellFormed.trellisDataRead (a0 a1 a2) : WellFormed.Statement (.trellisDataRead a0 a1 a2) := rfl
theorem WellFormed.trellisDelayWrite (a0 a1 a2) : WellFormed.Statement (.trellisDelayWrite a0 a1 a2) := rfl
theorem WellFormed.basinClear (a0 a1 a2) : WellFormed.Statement (.basinClear a0 a1 a2) := rfl
theorem WellFormed.basinDataWrite (a0 a1 a2) : WellFormed.Statement (.basinDataWrite a0 a1 a2) := rfl
theorem WellFormed.basinDataRead (a0 a1 a2) : WellFormed.Statement (.basinDataRead a0 a1 a2) := rfl
theorem WellFormed.sweepGroupStart (a0 a1 a2) : WellFormed.Statement (.sweepGroupStart a0 a1 a2) := by
  show a2.ok false false false false = true ↔ (a2 = SweepChk.good ∨ a2 = .instr)
  cases a2 <;> simp [SweepChk.ok]
theorem WellFormed.endProg (a0 a1 a2) : WellFormed.Statement (.endProg a0 a1 a2) := by
  show a2.ok false false false false = true ↔ (a2 = SweepChk.good ∨ a2 = .instr)
  cases a2 <;> simp [SweepChk.ok]
theorem WellFormed.range (a0 a1 a2) : WellFormed.Statement (.range a0 a1 a2) := by
  show a2.ok false false false false = true ↔ (a2 = SweepChk.good ∨ a2 = .instr)
  cases a2 <;> simp [SweepChk.ok]
theorem WellFormed.lds (a0 a1 a2) : WellFormed.Statement (.lds a0 a1 a2) := by
  show a2.ok true false false false = true ↔ (a2 = SweepChk.good ∨ a2 = .instr ∨ (∃ i, a2 = .array i))
  cases a2 <;> simp [SweepChk.ok]
theorem WellFormed.sts (a0 a1 a2) : WellFormed.Statement (.sts a0 a1 a2) := by
  show a2.ok false false false false = true ↔ (a2 = SweepChk.good ∨ a2 = .instr)
  cases a2 <;> simp [SweepChk.ok]
theorem WellFormed.ldb (a0 a1 a2) : WellFormed.Statement (.ldb a0 a1 a2) := by
  show a2.ok false true false false = true ↔ (a2 = SweepChk.good ∨ a2 = .instr ∨ (∃ i, a2 = .basin i))
  cases a2 <;> simp [SweepChk.ok]
theorem WellFormed.stb (a0 a1 a2) : WellFormed.Statement (.stb a0 a1 a2) := by
  show a2.ok false false false false = true ↔ (a2 = SweepChk.good ∨ a2 = .instr)
  cases a2 <;> simp [SweepChk.ok]
theorem WellFormed.ldi (a0 a1 a2) : WellFormed.Statement (.ldi a0 a1 a2) := by
  show a2.ok false false false false = true ↔ (a2 = SweepChk.good ∨ a2 = .instr)
  cases a2 <;> simp [SweepChk.ok]
theorem WellFormed.add (a0 a1 a2) : WellFormed.Statement (.add a0 a1 a2) := by
  show (bstOp a2 == 0) = true ↔ bstOp a2 = 0
  simp
theorem WellFormed.sweepAdd (a0 a1 a2) : WellFormed.Statement (.sweepAdd a0 a1 a2) := by
  show a2.ok false false false false = true ↔ (a2 = SweepChk.good ∨ a2 = .instr)
  cases a2 <;> simp [SweepChk.ok]
theorem WellFormed.sweepSub (a0 a1 a2) : WellFormed.Statement (.sweepSub a0 a1 a2) := by
  show a2.ok false false false false = true ↔ (a2 = SweepChk.good ∨ a2 = .instr)
  cases a2 <;> simp [SweepChk.ok]
theorem WellFormed.addc (a0 a1 a2) : WellFormed.Statement (.addc a0 a1 a2) := by
  show a2.ok false false true false = true ↔ (a2 = SweepChk.good ∨ a2 = .instr ∨ a2 = .const)
  cases a2 <;> simp [SweepChk.ok]
theorem WellFormed.mulc (a0 a1 a2) : WellFormed.Statement (.mulc a0 a1 a2) := by
  show a2.ok false false true false = true ↔ (a2 = SweepChk.good ∨ a2 = .instr ∨ a2 = .const)
  cases a2 <;> simp [SweepChk.ok]
theorem WellFormed.shri (a0 a1 a2) : WellFormed.Statement (.shri a0 a1 a2) := by
  show a2.ok false false false false = true ↔ (a2 = SweepChk.good ∨ a2 = .instr)
  cases a2 <;> simp [SweepChk.ok]
theorem WellFormed.max (a0 a1 a2) : WellFormed.Statement (.max a0 a1 a2) := by
  show a2.ok false false false false = true ↔ (a2 = SweepChk.good ∨ a2 = .instr)
  cases a2 <;> simp [SweepChk.ok]
theorem WellFormed.min (a0 a1 a2) : WellFormed.Statement (.min a0 a1 a2) := by
  show a2.ok false false false false = true ↔ (a2 = SweepChk.good ∨ a2 = .instr)
  cases a2 <;> simp [SweepChk.ok]
theorem WellFormed.cmp (a0 a1 a2) : WellFormed.Statement (.cmp a0 a1 a2) := by
  show a2.ok false false true false = true ↔ (a2 = SweepChk.good ∨ a2 = .instr ∨ a2 = .const)
  cases a2 <;> simp [SweepChk.ok]
theorem WellFormed.sel (a0 a1 a2) : WellFormed.Statement (.sel a0 a1 a2) := by
  show a2.ok false false false false = true ↔ (a2 = SweepChk.good ∨ a2 = .instr)
  cases a2 <;> simp [SweepChk.ok]
theorem WellFormed.rst (a0 a1 a2) : WellFormed.Statement (.rst a0 a1 a2) := by
  show a2.ok false false true false = true ↔ (a2 = SweepChk.good ∨ a2 = .instr ∨ a2 = .const)
  cases a2 <;> simp [SweepChk.ok]
theorem WellFormed.emit (a0 a1 a2) : WellFormed.Statement (.emit a0 a1 a2) := by
  show a2.ok false false true false = true ↔ (a2 = SweepChk.good ∨ a2 = .instr ∨ a2 = .const)
  cases a2 <;> simp [SweepChk.ok]
theorem WellFormed.trc (a0 a1 a2) : WellFormed.Statement (.trc a0 a1 a2) := by
  show a2.ok false false false true = true ↔ (a2 = SweepChk.good ∨ a2 = .instr ∨ (∃ i, a2 = .factor i))
  cases a2 <;> simp [SweepChk.ok]
theorem WellFormed.invalidInstruction (a0 a1 a2) : WellFormed.Statement (.invalidInstruction a0 a1 a2) := by
  show a2.ok false false false false = true ↔ (a2 = SweepChk.good ∨ a2 = .instr)
  cases a2 <;> simp [SweepChk.ok]
theorem WellFormed.sweepDataRead (a0 a1 a2) : WellFormed.Statement (.sweepDataRead a0 a1 a2) := rfl
theorem WellFormed.ringBell (a0 a1) : WellFormed.Statement (.ringBell a0 a1) := rfl
theorem WellFormed.streamAbort (a0 a1) : WellFormed.Statement (.streamAbort a0 a1) := rfl
theorem WellFormed.streamSlotWrite (a0 a1 a2 a3) : WellFormed.Statement (.streamSlotWrite a0 a1 a2 a3) := rfl
theorem WellFormed.admitDescriptor (a0) : WellFormed.Statement (.admitDescriptor a0) := rfl
theorem WellFormed.rillIssue (a0 a1) : WellFormed.Statement (.rillIssue a0 a1) := rfl
theorem WellFormed.rillReadResponse (a0 a1 a2 a3) : WellFormed.Statement (.rillReadResponse a0 a1 a2 a3) := rfl
theorem WellFormed.rillWriteResponse (a0 a1 a2) : WellFormed.Statement (.rillWriteResponse a0 a1 a2) := rfl
theorem WellFormed.fillPieceWrite (a0 a1) : WellFormed.Statement (.fillPieceWrite a0 a1) := rfl
theorem WellFormed.drainPieceRead (a0 a1) : WellFormed.Statement (.drainPieceRead a0 a1) := rfl
theorem WellFormed.tileComplete (a0) : WellFormed.Statement (.tileComplete a0) := rfl
theorem WellFormed.echoInvalidate (a0 a1 a2) : WellFormed.Statement (.echoInvalidate a0 a1 a2) := rfl
theorem WellFormed.echoInvalidateDone (a0) : WellFormed.Statement (.echoInvalidateDone a0) := rfl
theorem WellFormed.echoEnableWrite (a0 a1 a2) : WellFormed.Statement (.echoEnableWrite a0 a1 a2) := rfl
theorem WellFormed.sub (a0 a1 a2) : WellFormed.Statement (.sub a0 a1 a2) := by
  show (bstOp a2 == 1) = true ↔ bstOp a2 = 1
  simp
theorem WellFormed.wait (a0 a1 a2) : WellFormed.Statement (.wait a0 a1 a2) := by
  show (bstOp a2 == 2) = true ↔ bstOp a2 = 2
  simp
theorem WellFormed.set (a0 a1 a2) : WellFormed.Statement (.set a0 a1 a2) := by
  show (bstOp a2 == 3) = true ↔ bstOp a2 = 3
  simp
theorem WellFormed.padd (a0 a1 a2) : WellFormed.Statement (.padd a0 a1 a2) := by
  show (bstOp a2 == 4) = true ↔ bstOp a2 = 4
  simp
theorem WellFormed.cadd (a0 a1 a2) : WellFormed.Statement (.cadd a0 a1 a2) := by
  show (bstOp a2 == 5) = true ↔ bstOp a2 = 5
  simp
theorem WellFormed.pwaitFull (a0 a1 a2) : WellFormed.Statement (.pwaitFull a0 a1 a2) := by
  show (bstOp a2 == 6) = true ↔ bstOp a2 = 6
  simp
theorem WellFormed.pwaitSpace (a0 a1 a2) : WellFormed.Statement (.pwaitSpace a0 a1 a2) := by
  show (bstOp a2 == 7) = true ↔ bstOp a2 = 7
  simp
theorem WellFormed.arrive (a0 a1 a2) : WellFormed.Statement (.arrive a0 a1 a2) := by
  show (bstOp a2 == 8) = true ↔ bstOp a2 = 8
  simp
theorem WellFormed.sync (a0 a1 a2) : WellFormed.Statement (.sync a0 a1 a2) := by
  show (bstOp a2 == 9) = true ↔ bstOp a2 = 9
  simp
theorem WellFormed.bwait (a0 a1 a2) : WellFormed.Statement (.bwait a0 a1 a2) := by
  show (bstOp a2 == 10) = true ↔ bstOp a2 = 10
  simp
theorem WellFormed.swait (a0 a1 a2) : WellFormed.Statement (.swait a0 a1 a2) := by
  show (bstOp a2 == 11) = true ↔ bstOp a2 = 11
  simp
theorem WellFormed.bstReservedOp (a0 a1 a2) : WellFormed.Statement (.bstReservedOp a0 a1 a2) := by
  show (decide (12 ≤ (bstOp a2).toNat)) = true ↔ 12 ≤ (bstOp a2).toNat
  simp
theorem WellFormed.signalHoldRelease (a0) : WellFormed.Statement (.signalHoldRelease a0) := rfl
theorem WellFormed.watchTimeout (a0) : WellFormed.Statement (.watchTimeout a0) := rfl
theorem WellFormed.watchRegister (a0 a1) : WellFormed.Statement (.watchRegister a0 a1) := rfl
theorem WellFormed.watchCancel (a0 a1) : WellFormed.Statement (.watchCancel a0 a1) := rfl
theorem WellFormed.controlMessageTake (a0) : WellFormed.Statement (.controlMessageTake a0) := rfl
theorem WellFormed.barrierConfigWrite (a0 a1 a2 a3) : WellFormed.Statement (.barrierConfigWrite a0 a1 a2 a3) := rfl
theorem WellFormed.pairWrite (a0 a1 a2) : WellFormed.Statement (.pairWrite a0 a1 a2) := rfl
theorem WellFormed.roleWrite (a0 a1) : WellFormed.Statement (.roleWrite a0 a1) := rfl
theorem WellFormed.syncMessageSend : WellFormed.Statement (.syncMessageSend) := rfl
theorem WellFormed.syncArriveReceived (a0) : WellFormed.Statement (.syncArriveReceived a0) := by
  show (a0.extractLsb' 0 4 != 2) = true ↔ a0.extractLsb' 0 4 ≠ 2
  simp
theorem WellFormed.syncReleaseReceived (a0) : WellFormed.Statement (.syncReleaseReceived a0) := by
  show (a0.extractLsb' 0 4 == 2) = true ↔ a0.extractLsb' 0 4 = 2
  simp
theorem WellFormed.mailboxSend (a0 a1 a2) : WellFormed.Statement (.mailboxSend a0 a1 a2) := rfl
theorem WellFormed.depositAnnounce (a0) : WellFormed.Statement (.depositAnnounce a0) := rfl
theorem WellFormed.mailboxTake (a0 a1) : WellFormed.Statement (.mailboxTake a0 a1) := rfl
theorem WellFormed.mailboxConfigWrite (a0 a1 a2) : WellFormed.Statement (.mailboxConfigWrite a0 a1 a2) := rfl
theorem WellFormed.measure : WellFormed.Statement (.measure) := rfl
theorem WellFormed.bootStatus : WellFormed.Statement (.bootStatus) := rfl
theorem WellFormed.fuseReread : WellFormed.Statement (.fuseReread) := rfl
theorem WellFormed.signedMeasure (a0) : WellFormed.Statement (.signedMeasure a0) := rfl
theorem WellFormed.unknownRequest : WellFormed.Statement (.unknownRequest) := rfl
theorem WellFormed.gatehouseReply : WellFormed.Statement (.gatehouseReply) := rfl
theorem WellFormed.signingResponse (a0 a1) : WellFormed.Statement (.signingResponse a0 a1) := by
  show (decide (0 < a0.length)) = true ↔ a0 ≠ []
  simp [List.length_pos_iff]
theorem WellFormed.signingTimeout : WellFormed.Statement (.signingTimeout) := rfl
theorem WellFormed.linkRetrain (a0 a1) : WellFormed.Statement (.linkRetrain a0 a1) := rfl
theorem WellFormed.trainClockDone (a0 a1) : WellFormed.Statement (.trainClockDone a0 a1) := rfl
theorem WellFormed.trainDeskewDone (a0) : WellFormed.Statement (.trainDeskewDone a0) := rfl
theorem WellFormed.trainFrameDone (a0 a1) : WellFormed.Statement (.trainFrameDone a0 a1) := rfl
theorem WellFormed.linkUp (a0) : WellFormed.Statement (.linkUp a0) := rfl
theorem WellFormed.packetStart (a0 a1) : WellFormed.Statement (.packetStart a0 a1) := rfl
theorem WellFormed.flitReceive (a0 a1) : WellFormed.Statement (.flitReceive a0 a1) := rfl
theorem WellFormed.sideWordReceive (a0 a1 a2) : WellFormed.Statement (.sideWordReceive a0 a1 a2) := rfl
theorem WellFormed.nakRepeatReplay (a0) : WellFormed.Statement (.nakRepeatReplay a0) := rfl
theorem WellFormed.ackStallReplay (a0) : WellFormed.Statement (.ackStallReplay a0) := rfl
theorem WellFormed.sideWordTimeout (a0) : WellFormed.Statement (.sideWordTimeout a0) := rfl
theorem WellFormed.retireReq (a0 a1) : WellFormed.Statement (.retireReq a0 a1) := rfl
theorem WellFormed.retireDup (a0 a1) : WellFormed.Statement (.retireDup a0 a1) := rfl
theorem WellFormed.retireDone (a0 a1) : WellFormed.Statement (.retireDone a0 a1) := rfl
theorem WellFormed.retireReqRepeat (a0) : WellFormed.Statement (.retireReqRepeat a0) := rfl
theorem WellFormed.spareErrorWindow : WellFormed.Statement (.spareErrorWindow) := rfl
theorem WellFormed.fbPktRead (a0) : WellFormed.Statement (.fbPktRead a0) := rfl
theorem WellFormed.fbPktWrite (a0) : WellFormed.Statement (.fbPktWrite a0) := rfl
theorem WellFormed.fbPktAtomic (a0) : WellFormed.Statement (.fbPktAtomic a0) := rfl
theorem WellFormed.fbPktReadData (a0) : WellFormed.Statement (.fbPktReadData a0) := rfl
theorem WellFormed.fbPktWriteAck (a0) : WellFormed.Statement (.fbPktWriteAck a0) := rfl
theorem WellFormed.fbPktAtomicData (a0) : WellFormed.Statement (.fbPktAtomicData a0) := rfl
theorem WellFormed.fbPktSignal (a0) : WellFormed.Statement (.fbPktSignal a0) := rfl
theorem WellFormed.fbPktSignalAck (a0) : WellFormed.Statement (.fbPktSignalAck a0) := rfl
theorem WellFormed.fbPktRetire (a0) : WellFormed.Statement (.fbPktRetire a0) := rfl
theorem WellFormed.fbPktControl (a0) : WellFormed.Statement (.fbPktControl a0) := rfl
theorem WellFormed.fbPktStep (a0) : WellFormed.Statement (.fbPktStep a0) := rfl
theorem WellFormed.fbPktEvents (a0) : WellFormed.Statement (.fbPktEvents a0) := rfl
theorem WellFormed.idleTimeout (a0) : WellFormed.Statement (.idleTimeout a0) := rfl
theorem WellFormed.retainTimeout (a0) : WellFormed.Statement (.retainTimeout a0) := rfl
theorem WellFormed.offTimeout (a0) : WellFormed.Statement (.offTimeout a0) := rfl
theorem WellFormed.stagerEdge : WellFormed.Statement (.stagerEdge) := rfl
theorem WellFormed.stagedStepStart (a0) : WellFormed.Statement (.stagedStepStart a0) := rfl
theorem WellFormed.stagedStepEnd (a0) : WellFormed.Statement (.stagedStepEnd a0) := rfl
theorem WellFormed.governorInterval (a0) : WellFormed.Statement (.governorInterval a0) := rfl
theorem WellFormed.pwrWakeReq (a0 a1 a2) : WellFormed.Statement (.pwrWakeReq a0 a1 a2) := rfl
theorem WellFormed.pwrWakeHold (a0 a1 a2) : WellFormed.Statement (.pwrWakeHold a0 a1 a2) := rfl
theorem WellFormed.pwrFclkWrite (a0 a1 a2) : WellFormed.Statement (.pwrFclkWrite a0 a1 a2) := rfl
theorem WellFormed.policyWrite (a0 a1 a2 a3) : WellFormed.Statement (.policyWrite a0 a1 a2 a3) := rfl
theorem WellFormed.fuseReadStart : WellFormed.Statement (.fuseReadStart) := rfl
theorem WellFormed.fuseAck (a0) : WellFormed.Statement (.fuseAck a0) := rfl
theorem WellFormed.fuseTimeout : WellFormed.Statement (.fuseTimeout) := rfl
theorem WellFormed.mgmtPortReady : WellFormed.Statement (.mgmtPortReady) := rfl
theorem WellFormed.fwStart (a0 a1) : WellFormed.Statement (.fwStart a0 a1) := rfl
theorem WellFormed.fwAbort (a0 a1) : WellFormed.Statement (.fwAbort a0 a1) := rfl
theorem WellFormed.fwDataWord (a0 a1) : WellFormed.Statement (.fwDataWord a0 a1) := rfl
theorem WellFormed.fwImageEnd : WellFormed.Statement (.fwImageEnd) := rfl
theorem WellFormed.cpOpen (a0 a1) : WellFormed.Statement (.cpOpen a0 a1) := rfl
theorem WellFormed.gatehouseSleep (a0) : WellFormed.Statement (.gatehouseSleep a0) := rfl
theorem WellFormed.gatehouseWake (a0) : WellFormed.Statement (.gatehouseWake a0) := rfl
theorem WellFormed.timerInterrupt : WellFormed.Statement (.timerInterrupt) := rfl
theorem WellFormed.measureExtend (a0 a1) : WellFormed.Statement (.measureExtend a0 a1) := rfl
theorem WellFormed.mgmtLinkAccess (a0 a1 a2) : WellFormed.Statement (.mgmtLinkAccess a0 a1 a2) := rfl
theorem WellFormed.planStart (a0 a1 a2) : WellFormed.Statement (.planStart a0 a1 a2) := rfl
theorem WellFormed.planAbort (a0 a1) : WellFormed.Statement (.planAbort a0 a1) := rfl
theorem WellFormed.planDataWord (a0 a1) : WellFormed.Statement (.planDataWord a0 a1) := rfl
theorem WellFormed.planHeader : WellFormed.Statement (.planHeader) := rfl
theorem WellFormed.planSection : WellFormed.Statement (.planSection) := rfl
theorem WellFormed.stop (a0) : WellFormed.Statement (.stop a0) := rfl
theorem WellFormed.freeze (a0 a1) : WellFormed.Statement (.freeze a0 a1) := rfl
theorem WellFormed.stopQuiescent : WellFormed.Statement (.stopQuiescent) := rfl
theorem WellFormed.eastFaultRaise : WellFormed.Statement (.eastFaultRaise) := rfl
theorem WellFormed.freezeReachHalf (a0) : WellFormed.Statement (.freezeReachHalf a0) := rfl
theorem WellFormed.injected (a0 a1) : WellFormed.Statement (.injected a0 a1) := rfl
theorem WellFormed.jobRestartGo (a0 a1 a2) : WellFormed.Statement (.jobRestartGo a0 a1 a2) := rfl
theorem WellFormed.restartClearsDone : WellFormed.Statement (.restartClearsDone) := rfl
theorem WellFormed.jobRestartRelease (a0 a1) : WellFormed.Statement (.jobRestartRelease a0 a1) := rfl
theorem WellFormed.fenceSet (a0 a1 a2) : WellFormed.Statement (.fenceSet a0 a1 a2) := rfl
theorem WellFormed.fenceClear (a0 a1 a2) : WellFormed.Statement (.fenceClear a0 a1 a2) := rfl
theorem WellFormed.counterSample : WellFormed.Statement (.counterSample) := rfl
theorem WellFormed.dumpNow (a0) : WellFormed.Statement (.dumpNow a0) := rfl
theorem WellFormed.dumpBodyWrite : WellFormed.Statement (.dumpBodyWrite) := rfl
theorem WellFormed.dumpHeaderClose : WellFormed.Statement (.dumpHeaderClose) := rfl
theorem WellFormed.dumpComplete : WellFormed.Statement (.dumpComplete) := rfl
theorem WellFormed.taggingEnable (a0 a1 a2 a3) : WellFormed.Statement (.taggingEnable a0 a1 a2 a3) := rfl
theorem WellFormed.tagClear (a0 a1 a2 a3) : WellFormed.Statement (.tagClear a0 a1 a2 a3) := rfl
theorem WellFormed.counterWrite (a0 a1 a2) : WellFormed.Statement (.counterWrite a0 a1 a2) := rfl
theorem WellFormed.wsBypass (a0) : WellFormed.Statement (.wsBypass a0) := rfl
theorem WellFormed.wsExtest (a0) : WellFormed.Statement (.wsExtest a0) := rfl
theorem WellFormed.plId : WellFormed.Statement (.plId) := rfl
theorem WellFormed.plTctrl (a0) : WellFormed.Statement (.plTctrl a0) := rfl
theorem WellFormed.plTstat : WellFormed.Statement (.plTstat) := rfl
theorem WellFormed.plTresult : WellFormed.Statement (.plTresult) := rfl
theorem WellFormed.plRepair : WellFormed.Statement (.plRepair) := rfl
theorem WellFormed.selfTestStart : WellFormed.Statement (.selfTestStart) := rfl
theorem WellFormed.selfTestDone (a0) : WellFormed.Statement (.selfTestDone a0) := rfl
theorem WellFormed.rcRead (a0 a1 a2) : WellFormed.Statement (.rcRead a0 a1 a2) := rfl
theorem WellFormed.registerWrite (a0 a1 a2 a3) : WellFormed.Statement (.registerWrite a0 a1 a2 a3) := rfl
theorem WellFormed.slotExtendComplete : WellFormed.Statement (.slotExtendComplete) := rfl

end Sys2Proof.Laws
end

