-- ==== Sys2Proof/Laws/Stores.lean ====
section
/-! SUPPORT. The operations that write a byte store: each keeps the canonical form of both, the always-on logic and the queue. -/

namespace Sys2Proof.Machine

/-- The canonical form of both stores, said of what store returns. -/
def formOf (x : List (Nat × Byte) × List (Nat × Byte) × Aon × List Instr) : Bool := tok 0 x.1 && tok 0 x.2.1
/-- The always-on logic and the queue. -/
def rest (s : State) : Aon × List Instr := (store s).2.2

theorem storesWf_eq (s : State) : storesWf s = formOf (store s) := rfl

theorem storesWf_of_store {s t : State} (h : store t = store s) : storesWf t = storesWf s := by rw [storesWf_eq, storesWf_eq, h]
theorem rest_of_store {s t : State} (h : store t = store s) : rest t = rest s := by rw [rest, rest, h]

theorem foldl_wf {α : Type} (f : State → α → State) (l : List α) (s : State) (hs : storesWf s = true)
    (h : ∀ s a, storesWf s = true → storesWf (f s a) = true) : storesWf (l.foldl f s) = true := by
  induction l generalizing s with
  | nil => exact hs
  | cons a l ih => exact ih _ (h _ _ hs)

theorem foldl_rest {α : Type} (f : State → α → State) (l : List α) (s : State) (h : ∀ s a, rest (f s a) = rest s) :
    rest (l.foldl f s) = rest s := by
  induction l generalizing s with
  | nil => rfl
  | cons a l ih => simp [ih, h]

theorem writeBeat_wf : ∀ x0 x1 x2 x3 x4 x5 x6, storesWf x0 = true → storesWf (writeBeat x0 x1 x2 x3 x4 x5 x6) = true := by
  intros; unfold writeBeat; grind [store, foldl_wf, storesWf_eq, formOf, tok_tputs, tok_tclear, storesWf_of_store]
theorem writeBeat_rest : ∀ x0 x1 x2 x3 x4 x5 x6, rest (writeBeat x0 x1 x2 x3 x4 x5 x6) = rest x0 := by
  intros; unfold writeBeat; grind [store, rest, foldl_rest, rest_of_store]
theorem basinPut_wf : ∀ x0 x1 x2 x3 x4, storesWf x0 = true → storesWf (basinPut x0 x1 x2 x3 x4) = true := by
  intros; unfold basinPut; grind [store, foldl_wf, storesWf_eq, formOf, tok_tputs, tok_tclear, storesWf_of_store]
theorem basinPut_rest : ∀ x0 x1 x2 x3 x4, rest (basinPut x0 x1 x2 x3 x4) = rest x0 := by
  intros; unfold basinPut; grind [store, rest, foldl_rest, rest_of_store]
theorem basinZero_wf : ∀ x0 x1 x2 x3 x4, storesWf x0 = true → storesWf (basinZero x0 x1 x2 x3 x4) = true := by
  intros; unfold basinZero; grind [store, foldl_wf, storesWf_eq, formOf, tok_tputs, tok_tclear, storesWf_of_store]
theorem basinZero_rest : ∀ x0 x1 x2 x3 x4, rest (basinZero x0 x1 x2 x3 x4) = rest x0 := by
  intros; unfold basinZero; grind [store, rest, foldl_rest, rest_of_store]
theorem basinZeroRegion_wf : ∀ x0 x1, storesWf x0 = true → storesWf (basinZeroRegion x0 x1) = true := by
  intros; unfold basinZeroRegion; grind [store, foldl_wf, storesWf_eq, formOf, tok_tputs, tok_tclear, storesWf_of_store]
theorem basinZeroRegion_rest : ∀ x0 x1, rest (basinZeroRegion x0 x1) = rest x0 := by
  intros; unfold basinZeroRegion; grind [store, rest, foldl_rest, rest_of_store]
theorem memZeroRegion_wf : ∀ x0 x1, storesWf x0 = true → storesWf (memZeroRegion x0 x1) = true := by
  intros; unfold memZeroRegion; grind [store, foldl_wf, storesWf_eq, formOf, tok_tputs, tok_tclear, storesWf_of_store]
theorem memZeroRegion_rest : ∀ x0 x1, rest (memZeroRegion x0 x1) = rest x0 := by
  intros; unfold memZeroRegion; grind [store, rest, foldl_rest, rest_of_store]
theorem putRow_wf : ∀ x0 x1 x2 x3 x4 x5, storesWf x0 = true → storesWf (putRow x0 x1 x2 x3 x4 x5) = true := by
  intros; unfold putRow; grind [store, foldl_wf, storesWf_eq, formOf, tok_tputs, tok_tclear, storesWf_of_store]
theorem putRow_rest : ∀ x0 x1 x2 x3 x4 x5, rest (putRow x0 x1 x2 x3 x4 x5) = rest x0 := by
  intros; unfold putRow; grind [store, rest, foldl_rest, rest_of_store]
theorem cellAccess_wf : ∀ x0 x1 x2 x3 x4, storesWf x0 = true → storesWf (cellAccess x0 x1 x2 x3 x4).1 = true := by
  intros; unfold cellAccess; grind [store, foldl_wf, storesWf_eq, formOf, tok_tputs, tok_tclear, storesWf_of_store, writeBeat_wf, putRow_wf, modRg_store]
theorem cellAccess_rest : ∀ x0 x1 x2 x3 x4, rest (cellAccess x0 x1 x2 x3 x4).1 = rest x0 := by
  intros; unfold cellAccess; grind [store, rest, foldl_rest, rest_of_store, writeBeat_rest, putRow_rest, modRg_store]
theorem portB_wf : ∀ x0 x1 x2 x3 x4 x5, storesWf x0 = true → storesWf (portB x0 x1 x2 x3 x4 x5).1 = true := by
  intros; unfold portB; grind [store, foldl_wf, storesWf_eq, formOf, tok_tputs, tok_tclear, storesWf_of_store, modBlk_store, countB_store, beatFault_store, countPB_store, cellAccess_wf]
theorem portB_rest : ∀ x0 x1 x2 x3 x4 x5, rest (portB x0 x1 x2 x3 x4 x5).1 = rest x0 := by
  intros; unfold portB; grind [store, rest, foldl_rest, rest_of_store, modBlk_store, countB_store, beatFault_store, countPB_store, cellAccess_rest]
theorem issueHead_wf : ∀ x0 x1 x2 x3 x4 x5 x6, storesWf x0 = true → storesWf (issueHead x0 x1 x2 x3 x4 x5 x6) = true := by
  intros; unfold issueHead; grind [store, foldl_wf, storesWf_eq, formOf, tok_tputs, tok_tclear, storesWf_of_store, countB_store, markBegun_store, stallBeat_store, portB_wf, modBlk_store, age_store, beatDone_store, markStage_store]
theorem issueHead_rest : ∀ x0 x1 x2 x3 x4 x5 x6, rest (issueHead x0 x1 x2 x3 x4 x5 x6) = rest x0 := by
  intros; unfold issueHead; grind [store, rest, foldl_rest, rest_of_store, countB_store, markBegun_store, stallBeat_store, portB_rest, modBlk_store, age_store, beatDone_store, markStage_store]
theorem blockCycle_wf : ∀ x0 x1 x2 x3 x4, storesWf x0 = true → storesWf (blockCycle x0 x1 x2 x3 x4) = true := by
  intros; unfold blockCycle; grind [store, foldl_wf, storesWf_eq, formOf, tok_tputs, tok_tclear, storesWf_of_store, halfCycle_store, starveSources_store, modBlk_store, deliver_store, grantCycle_store, issueHead_wf, starveBlock_store]
theorem blockCycle_rest : ∀ x0 x1 x2 x3 x4, rest (blockCycle x0 x1 x2 x3 x4) = rest x0 := by
  intros; unfold blockCycle; grind [store, rest, foldl_rest, rest_of_store, halfCycle_store, starveSources_store, modBlk_store, deliver_store, grantCycle_store, issueHead_rest, starveBlock_store]
theorem issueSched_wf : ∀ x0 x1 x2 x3 x4 x5, storesWf x0 = true → storesWf (issueSched x0 x1 x2 x3 x4 x5) = true := by
  intros; unfold issueSched; grind [store, foldl_wf, storesWf_eq, formOf, tok_tputs, tok_tclear, storesWf_of_store, markBegun_store, slip_store, stallBeat_store, portB_wf, countB_store, modBlk_store, beatDone_store, markStage_store]
theorem issueSched_rest : ∀ x0 x1 x2 x3 x4 x5, rest (issueSched x0 x1 x2 x3 x4 x5) = rest x0 := by
  intros; unfold issueSched; grind [store, rest, foldl_rest, rest_of_store, markBegun_store, slip_store, stallBeat_store, portB_rest, countB_store, modBlk_store, beatDone_store, markStage_store]
theorem serveSlot_wf : ∀ x0 x1 x2 x3 x4, storesWf x0 = true → storesWf (serveSlot x0 x1 x2 x3 x4) = true := by
  intros; unfold serveSlot; grind [store, foldl_wf, storesWf_eq, formOf, tok_tputs, tok_tclear, storesWf_of_store, idleCells_store, issueSched_wf, slip_store]
theorem serveSlot_rest : ∀ x0 x1 x2 x3 x4, rest (serveSlot x0 x1 x2 x3 x4) = rest x0 := by
  intros; unfold serveSlot; grind [store, rest, foldl_rest, rest_of_store, idleCells_store, issueSched_rest, slip_store]
theorem basinClearSegs_wf : ∀ x0 x1 x2, storesWf x0 = true → storesWf (basinClearSegs x0 x1 x2) = true := by
  intros; unfold basinClearSegs; grind [store, foldl_wf, storesWf_eq, formOf, tok_tputs, tok_tclear, storesWf_of_store, basinZero_wf]
theorem basinClearSegs_rest : ∀ x0 x1 x2, rest (basinClearSegs x0 x1 x2) = rest x0 := by
  intros; unfold basinClearSegs; grind [store, rest, foldl_rest, rest_of_store, basinZero_rest]
theorem basinClr_wf : ∀ x0 x1 x2 x3, storesWf x0 = true → storesWf (basinClr x0 x1 x2 x3) = true := by
  intros; unfold basinClr; grind [store, foldl_wf, storesWf_eq, formOf, tok_tputs, tok_tclear, storesWf_of_store, busErr_store, waitWake_store, holdAcc_store, ack_store, basinClearSegs_wf, wakeReq_store]
theorem basinClr_rest : ∀ x0 x1 x2 x3, rest (basinClr x0 x1 x2 x3) = rest x0 := by
  intros; unfold basinClr; grind [store, rest, foldl_rest, rest_of_store, busErr_store, waitWake_store, holdAcc_store, ack_store, basinClearSegs_rest, wakeReq_store]
theorem basinWr_wf : ∀ x0 x1 x2 x3, storesWf x0 = true → storesWf (basinWr x0 x1 x2 x3) = true := by
  intros; unfold basinWr; grind [store, foldl_wf, storesWf_eq, formOf, tok_tputs, tok_tclear, storesWf_of_store, busErr_store, waitWake_store, holdAcc_store, ack_store, basinStep_store, basinPut_wf, wakeReq_store]
theorem basinWr_rest : ∀ x0 x1 x2 x3, rest (basinWr x0 x1 x2 x3) = rest x0 := by
  intros; unfold basinWr; grind [store, rest, foldl_rest, rest_of_store, busErr_store, waitWake_store, holdAcc_store, ack_store, basinStep_store, basinPut_rest, wakeReq_store]
theorem retryAcc_wf : ∀ x0 x1 x2, storesWf x0 = true → storesWf (retryAcc x0 x1 x2) = true := by
  intros; unfold retryAcc; grind [store, foldl_wf, storesWf_eq, formOf, tok_tputs, tok_tclear, storesWf_of_store, trRead_store, trWrite_store, trDelay_store, basinClr_wf, basinWr_wf, basinRd_store, basinClrRd_store, sweepRdAcc_store]
theorem retryAcc_rest : ∀ x0 x1 x2, rest (retryAcc x0 x1 x2) = rest x0 := by
  intros; unfold retryAcc; grind [store, rest, foldl_rest, rest_of_store, trRead_store, trWrite_store, trDelay_store, basinClr_rest, basinWr_rest, basinRd_store, basinClrRd_store, sweepRdAcc_store]
theorem retryRegion_wf : ∀ x0 x1, storesWf x0 = true → storesWf (retryRegion x0 x1) = true := by
  intros; unfold retryRegion; grind [store, foldl_wf, storesWf_eq, formOf, tok_tputs, tok_tclear, storesWf_of_store, retryAcc_wf]
theorem retryRegion_rest : ∀ x0 x1, rest (retryRegion x0 x1) = rest x0 := by
  intros; unfold retryRegion; grind [store, rest, foldl_rest, rest_of_store, retryAcc_rest]
theorem retireRow_wf : ∀ x0 x1 x2 x3, storesWf x0 = true → storesWf (retireRow x0 x1 x2 x3) = true := by
  intros; unfold retireRow; grind [store, foldl_wf, storesWf_eq, formOf, tok_tputs, tok_tclear, storesWf_of_store, laneFlags_store, basinPut_wf, settleTag_store, markTag_store, countB_store, popRow_store]
theorem retireRow_rest : ∀ x0 x1 x2 x3, rest (retireRow x0 x1 x2 x3) = rest x0 := by
  intros; unfold retireRow; grind [store, rest, foldl_rest, rest_of_store, laneFlags_store, basinPut_rest, settleTag_store, markTag_store, countB_store, popRow_store]
theorem rowChecked_wf : ∀ x0 x1 x2 x3 x4, storesWf x0 = true → storesWf (rowChecked x0 x1 x2 x3 x4) = true := by
  intros; unfold rowChecked; grind [store, foldl_wf, storesWf_eq, formOf, tok_tputs, tok_tclear, storesWf_of_store, retireRow_wf, haltBlock_store, blockFault_store, replayRow_store]
theorem rowChecked_rest : ∀ x0 x1 x2 x3 x4, rest (rowChecked x0 x1 x2 x3 x4) = rest x0 := by
  intros; unfold rowChecked; grind [store, rest, foldl_rest, rest_of_store, retireRow_rest, haltBlock_store, blockFault_store, replayRow_store]
theorem putRows_wf : ∀ x0 x1 x2 x3 x4, storesWf x0 = true → storesWf (putRows x0 x1 x2 x3 x4) = true := by
  intros; unfold putRows; grind [store, foldl_wf, storesWf_eq, formOf, tok_tputs, tok_tclear, storesWf_of_store, putRow_wf]
theorem putRows_rest : ∀ x0 x1 x2 x3 x4, rest (putRows x0 x1 x2 x3 x4) = rest x0 := by
  intros; unfold putRows; grind [store, rest, foldl_rest, rest_of_store, putRow_rest]
theorem startLoad_wf : ∀ x0 x1, storesWf x0 = true → storesWf (startLoad x0 x1) = true := by
  intros; unfold startLoad; grind [store, foldl_wf, storesWf_eq, formOf, tok_tputs, tok_tclear, storesWf_of_store, defaultMacro_store, wakeReq_store, basinZeroRegion_wf, modRg_store, overRegions]
theorem startLoad_rest : ∀ x0 x1, rest (startLoad x0 x1) = rest x0 := by
  intros; unfold startLoad; grind [store, rest, foldl_rest, rest_of_store, defaultMacro_store, wakeReq_store, basinZeroRegion_rest, modRg_store, overRegions]
theorem loseCell_wf : ∀ x0 x1 x2 x3, storesWf x0 = true → storesWf (loseCell x0 x1 x2 x3) = true := by
  intros; unfold loseCell; grind [store, foldl_wf, storesWf_eq, formOf, tok_tputs, tok_tclear, storesWf_of_store]
theorem loseCell_rest : ∀ x0 x1 x2 x3, rest (loseCell x0 x1 x2 x3) = rest x0 := by
  intros; unfold loseCell; grind [store, rest, foldl_rest, rest_of_store]
theorem loseBlock_wf : ∀ x0 x1 x2, storesWf x0 = true → storesWf (loseBlock x0 x1 x2) = true := by
  intros; unfold loseBlock; grind [store, foldl_wf, storesWf_eq, formOf, tok_tputs, tok_tclear, storesWf_of_store, loseCell_wf, modBlk_store]
theorem loseBlock_rest : ∀ x0 x1 x2, rest (loseBlock x0 x1 x2) = rest x0 := by
  intros; unfold loseBlock; grind [store, rest, foldl_rest, rest_of_store, loseCell_rest, modBlk_store]
theorem loseChanged_wf : ∀ x0 x1, storesWf x0 = true → storesWf (loseChanged x0 x1) = true := by
  intros; unfold loseChanged; grind [store, foldl_wf, storesWf_eq, formOf, tok_tputs, tok_tclear, storesWf_of_store, loseBlock_wf, loseCell_wf]
theorem loseChanged_rest : ∀ x0 x1, rest (loseChanged x0 x1) = rest x0 := by
  intros; unfold loseChanged; grind [store, rest, foldl_rest, rest_of_store, loseBlock_rest, loseCell_rest]
theorem fuseDone_wf : ∀ x0, storesWf x0 = true → storesWf (fuseDone x0) = true := by
  intros; unfold fuseDone; grind [store, foldl_wf, storesWf_eq, formOf, tok_tputs, tok_tclear, storesWf_of_store, loseChanged_wf, queueExtend_store]
theorem fuseDone_rest : ∀ x0, rest (fuseDone x0) = rest x0 := by
  intros; unfold fuseDone; grind [store, rest, foldl_rest, rest_of_store, loseChanged_rest, queueExtend_store]
theorem clearRegion_wf : ∀ x0 x1, storesWf x0 = true → storesWf (clearRegion x0 x1) = true := by
  intros; unfold clearRegion; grind [store, foldl_wf, storesWf_eq, formOf, tok_tputs, tok_tclear, storesWf_of_store, basinZeroRegion_wf, memZeroRegion_wf, modRg_store]
theorem clearRegion_rest : ∀ x0 x1, rest (clearRegion x0 x1) = rest x0 := by
  intros; unfold clearRegion; grind [store, rest, foldl_rest, rest_of_store, basinZeroRegion_rest, memZeroRegion_rest, modRg_store]
theorem enterOff_wf : ∀ x0 x1, storesWf x0 = true → storesWf (enterOff x0 x1) = true := by
  intros; unfold enterOff; grind [store, foldl_wf, storesWf_eq, formOf, tok_tputs, tok_tclear, storesWf_of_store, clearRegion_wf]
theorem enterOff_rest : ∀ x0 x1, rest (enterOff x0 x1) = rest x0 := by
  intros; unfold enterOff; grind [store, rest, foldl_rest, rest_of_store, clearRegion_rest]
theorem stepEffect_wf : ∀ x0 x1 x2, storesWf x0 = true → storesWf (stepEffect x0 x1 x2) = true := by
  intros; unfold stepEffect; grind [store, foldl_wf, storesWf_eq, formOf, tok_tputs, tok_tclear, storesWf_of_store, memZeroRegion_wf, clearRegion_wf, basinZeroRegion_wf, modPw_store, enterOff_wf]
theorem stepEffect_rest : ∀ x0 x1 x2, rest (stepEffect x0 x1 x2) = rest x0 := by
  intros; unfold stepEffect; grind [store, rest, foldl_rest, rest_of_store, memZeroRegion_rest, clearRegion_rest, basinZeroRegion_rest, modPw_store, enterOff_rest]
theorem reachRun_wf : ∀ x0 x1, storesWf x0 = true → storesWf (reachRun x0 x1) = true := by
  intros; unfold reachRun; grind [store, foldl_wf, storesWf_eq, formOf, tok_tputs, tok_tclear, storesWf_of_store, modRg_store, countMs_store, basinZeroRegion_wf]
theorem reachRun_rest : ∀ x0 x1, rest (reachRun x0 x1) = rest x0 := by
  intros; unfold reachRun; grind [store, rest, foldl_rest, rest_of_store, modRg_store, countMs_store, basinZeroRegion_rest]
theorem endStep_wf : ∀ x0 x1 x2 x3, storesWf x0 = true → storesWf (endStep x0 x1 x2 x3) = true := by
  intros; unfold endStep; grind [store, foldl_wf, storesWf_eq, formOf, tok_tputs, tok_tclear, storesWf_of_store, stepEffect_wf, modPw_store, reachRun_wf, wakeReq_store]
theorem endStep_rest : ∀ x0 x1 x2 x3, rest (endStep x0 x1 x2 x3) = rest x0 := by
  intros; unfold endStep; grind [store, rest, foldl_rest, rest_of_store, stepEffect_rest, modPw_store, reachRun_rest, wakeReq_store]
theorem passSteps_wf : ∀ x0 x1 x2, storesWf x1 = true → storesWf (passSteps x0 x1 x2) = true := by
  intro n
  induction n with
  | zero => intro s r h; exact h
  | succ n ih => intro s r h; unfold passSteps; grind [store, storesWf_of_store, modPw_store, retryRegion_wf, endStep_wf]
theorem passSteps_rest : ∀ x0 x1 x2, rest (passSteps x0 x1 x2) = rest x1 := by
  intro n
  induction n with
  | zero => intro s r; rfl
  | succ n ih => intro s r; unfold passSteps; grind [store, rest, rest_of_store, modPw_store, retryRegion_rest, endStep_rest]
theorem reachHalf_wf : ∀ x0 x1, storesWf x0 = true → storesWf (reachHalf x0 x1) = true := by
  intros; unfold reachHalf; grind [store, foldl_wf, storesWf_eq, formOf, tok_tputs, tok_tclear, storesWf_of_store, freezeDeposits_store, freezeHeld_store, freezeWatches_store, retryRegion_wf, freezeRequests_store]
theorem reachHalf_rest : ∀ x0 x1, rest (reachHalf x0 x1) = rest x0 := by
  intros; unfold reachHalf; grind [store, rest, foldl_rest, rest_of_store, freezeDeposits_store, freezeHeld_store, freezeWatches_store, retryRegion_rest, freezeRequests_store]
theorem restartGo_wf : ∀ x0 x1, storesWf x0 = true → storesWf (restartGo x0 x1) = true := by
  intros; unfold restartGo; grind [store, foldl_wf, storesWf_eq, formOf, tok_tputs, tok_tclear, storesWf_of_store, freezeDeposits_store, basinZeroRegion_wf, retryRegion_wf, train_store]
theorem restartGo_rest : ∀ x0 x1, rest (restartGo x0 x1) = rest x0 := by
  intros; unfold restartGo; grind [store, rest, foldl_rest, rest_of_store, freezeDeposits_store, basinZeroRegion_rest, retryRegion_rest, train_store]
theorem loseArrays_wf : ∀ x0, storesWf x0 = true → storesWf (loseArrays x0) = true := by
  intros; unfold loseArrays; grind [store, foldl_wf, storesWf_eq, formOf, tok_tputs, tok_tclear, storesWf_of_store, enterOff_wf, modPw_store]
theorem loseArrays_rest : ∀ x0, rest (loseArrays x0) = rest x0 := by
  intros; unfold loseArrays; grind [store, rest, foldl_rest, rest_of_store, enterOff_rest, modPw_store]
theorem abortRun_wf : ∀ x0, storesWf x0 = true → storesWf (abortRun x0) = true := by
  intros; unfold abortRun; grind [store, foldl_wf, storesWf_eq, formOf, tok_tputs, tok_tclear, storesWf_of_store, loseArrays_wf, modWrp]
theorem abortRun_rest : ∀ x0, rest (abortRun x0) = rest x0 := by
  intros; unfold abortRun; grind [store, rest, foldl_rest, rest_of_store, loseArrays_rest, modWrp]
theorem macroReset_wf : ∀ x0, storesWf x0 = true → storesWf (macroReset x0) = true := fun _ _ => rfl
theorem macroReset_rest : ∀ x0, rest (macroReset x0) = rest x0 := by
  intros; unfold macroReset; grind [store, rest, foldl_rest, rest_of_store]

end Sys2Proof.Machine
end

