-- ==== Sys2Proof/Tests/Slice0.lean ====
section
/-! SUPPORT. Tests: an ill-formed term for each check of WellFormed, steps whose result the spec gives, and for every statement
with hypotheses a state and operands that meet them. -/

namespace Sys2Proof.Tests

set_option Elab.async false

open Sys2Proof.Machine

/-! ## Small states -/

/-- The block in service: resets released, clocks running, the ports open, every region in Run. -/
def up : State :=
  { State.reset with
    pins := ⟨false, false, Vector.replicate 2 true, Vector.replicate 2 true⟩
    aon := { aon0 with rst := false }
    gh := { gatehouse0 with cpOpen := true, mpReady := true }
    regions := Vector.replicate 8 { region0 with power := { power0 with st := .run } } }

/-- The block in service with region 0 changed. -/
def upR (f : RegionSt → RegionSt) : State := modRg up 0 f
/-- The block in service with block 0 of region 0 changed. -/
def upB (f : Block → Block) : State := modBlk up 0 0 f
/-- The block in service with engine port 0 changed. -/
def upP (f : PortSt → PortSt) : State := modEp up 0 f
/-- The block in service under freeze that has reached both halves. -/
def upF : State := { up with frz := { freeze0 with asserted := true, reached := Vector.replicate 2 true, cause := .command } }

theorem test_up_runs : live up = true ∧ clocked up 0 = true ∧ clocked up 1 = true ∧ portReady up .cp = true ∧ portReady up .mp = true ∧
    portReady up .gh = true ∧ canWrite up = true ∧ engineReady up 0 = true ∧ pathOpen up 0 = true ∧ inRun up 0 = true := by decide +kernel

theorem test_upF_frozen : frozen upF 0 = true ∧ frozen upF 1 = true ∧ live upF = true ∧ portReady upF .mp = true := by decide +kernel

/-! ## Operands -/

/-- A request of one beat at address 0. -/
def q0 : ReqF := ⟨0, 0, 0, 0, false⟩
/-- A write beat with every byte enabled. -/
def w0 : WBeat := ⟨5, BitVec.allOnes 64, true⟩
/-- Request 0 of a port, waiting at the Sluice stage. -/
def e0 (op : ReqOp) : EReq := ⟨0, op, q0, .sluice, [], [], false, false, 0, List.replicate (answerBeats op q0) none, 0, false, none, 0, 0, false, 0⟩
/-- A row-event. -/
def row0 : RowEv := ⟨0, 0, 0, 0, 0, 1, false, false, none⟩
/-- A watch. -/
def watch0 (o : WOwner) (ticks : Nat) (limit : BitVec 24) : Watch := ⟨0, o, 0, 0, 1, ticks, limit, none, false⟩
/-- A running sweep, group 0 of 1, at instruction k of program 0. -/
def sweepAt (k : Fin 33) : Sweep := ⟨0, 0, 1, 0, some k, Vector.replicate 512 0, 0, [], false⟩
/-- A block with word x at instruction 1 of program 0, its sweep at that instruction. -/
def atWord (x : W32) : State := upB (fun b => { b with sweep := some (sweepAt 1), store := tset 0 [] 1 x })
/-- The state of an outcome. -/
def got (o : Host.Outcome State Fault Refusal) : State :=
  match o with
  | .next s => s
  | .fault _ => up
  | .refused _ => up

/-! ## Ill-formed terms (WellFormed.lean) -/

theorem test_illformed_requests : Instr.wf (.read 0 { q0 with mgrp := 1 }) = false ∧ Instr.wf (.multicastRead 0 q0) = false ∧
    Instr.wf (.write 0 { q0 with addr := 0x8000000 }) = false ∧ Instr.wf (.writeBitSet 0 q0) = false ∧
    Instr.wf (.writeBitClear 0 { q0 with addr := 0x8000000 }) = false := by decide +kernel

theorem test_illformed_signals : Instr.wf (.streamDoorbell 0 { q0 with addr := 0x1000 } w0) = false ∧
    Instr.wf (.mailboxDoorbell 0 q0 w0) = false ∧ Instr.wf (.gatherTimeout 0 0) = false ∧ Instr.wf (.railUndervolt 0 .vddaon) = false ∧
    Instr.wf (.syncArriveReceived 2) = false ∧ Instr.wf (.syncReleaseReceived 1) = false ∧ Instr.wf (.signingResponse [] true) = false := by
  decide +kernel

theorem test_illformed_operation_words : ∀ i ∈ ([.add, .sub, .wait, .set, .padd, .cadd, .pwaitFull, .pwaitSpace, .arrive, .sync, .bwait,
    .swait] : List (BstSrc → BitVec 12 → W64 → Instr)), Instr.wf (i (.reg .cp) 0 0xF00000000) = false := by decide +kernel

theorem test_illformed_reserved_word : Instr.wf (.bstReservedOp (.reg .cp) 0 0) = false := by decide +kernel

theorem test_illformed_sweep_checks : (∀ i ∈ ([.sweepGroupStart, .endProg, .range, .sts, .stb, .ldi, .sweepAdd, .sweepSub, .shri, .max, .min,
    .sel, .invalidInstruction, .ldb, .lds, .trc] : List (Region → Blk → SweepChk → Instr)), Instr.wf (i 0 0 .const) = false) ∧
    (∀ i ∈ ([.addc, .mulc, .cmp, .rst, .emit] : List (Region → Blk → SweepChk → Instr)), Instr.wf (i 0 0 (.array 0)) = false) := by decide +kernel

/-! ## Steps -/

/-- R120: ATOM_ADD_S8 saturates at 127 and returns the old value. -/
theorem test_atom_add_s8_saturates :
    let out := atomBeat .addS8 0 (fun _ => 0) 0 (0x7F : Beat) (0x01 : Beat) 1
    out.1.head? = some (0x7F : Byte) ∧ out.2.1.extractLsb' 0 8 = 0x7F := by decide +kernel

/-- R121: a compare that fails leaves the word and clears the swap flag. -/
theorem test_cas_keeps_word_on_mismatch :
    let out := atomBeat .cas64 0 (fun _ => 0) 0 (7 : Beat) (6 : Beat) (BitVec.allOnes 64)
    out.1.head? = some (7 : Byte) ∧ out.2.1.extractLsb' 0 65 = 7 := by decide +kernel

/-- R289, R290: SUB below 0 is refused and counted. -/
theorem test_sub_below_zero_refused :
    let t := got (exec (.sub (.reg .mp) 3 0x100000001) up)
    t.bst.semErr = true ∧ t.bst.errCount = 1 ∧ semVal t 3 = 0 ∧ (rport t .mp).rsps = [⟨0, true⟩] := by decide +kernel

/-- R289: ADD 5 to semaphore 3. -/
theorem test_add_to_semaphore :
    let t := got (exec (.add (.reg .mp) 3 0x000000005) up)
    semVal t 3 = 5 ∧ (rport t .mp).rsps = [⟨0, false⟩] := by decide +kernel

/-- R440: CAUSE keeps the first cause. -/
theorem test_cause_keeps_first :
    (got (exec (.freeze .mp false) up)).frz.cause = .command ∧ (got (exec (.injected .mp 1) upF)).frz.cause = .command ∧
      (got (exec (.injected .mp 1) up)).frz.cause = .fault := by decide +kernel

/-- R455: the record of FLT_INJECT: code 0x1F, level Macro, DETAIL as written. -/
theorem test_injected_record : (got (exec (.injected .mp 0xABCD) up)).flt.first = 0x0000ABCD0000041F := by decide +kernel

/-- R24: the control port may not write PWR_STEP; R413: 4 is below the range and is not taken, 120 is. -/
theorem test_power_step_writes :
    (rport (got (exec (.registerWrite .cp 0x02000 false 0x00160505) up)) .cp).rsps = [⟨0, true⟩] ∧
      (got (exec (.registerWrite .mp 0x02000 false 0x00160478) up)).pwr.stepW = 120 ∧
      (got (exec (.registerWrite .mp 0x02000 false 0x00160204) up)).pwr.stepW = 30 := by decide +kernel

/-- R12: a flag is cleared by writing a 1 to it. -/
theorem test_fault_interrupt_cleared_by_one :
    (got (exec (.registerWrite .mp 0x03014 false 0x00010001) { up with flt := { faults0 with irq := true } })).flt.irq = false ∧
      (got (exec (.registerWrite .mp 0x03014 false 0x00010000) { up with flt := { faults0 with irq := true } })).flt.irq = true := by decide +kernel

/-- R187: the Sundial counts sclk edges. -/
theorem test_sundial_counts : (got (exec .stagerEdge up)).aon.sundial = 1 := by decide +kernel

/-- R229, R230: ADD of two lanes at the top of the range saturates. -/
theorem test_sat32_top : (sat32 (2 ^ 31)).1 = 0x7FFFFFFF ∧ (sat32 (2 ^ 31)).2 = true ∧ (sat32 (-(2 ^ 31))).2 = false := by decide +kernel

/-- A read sees the write before it, byte 0 first (R11, R133). -/
theorem test_write_then_read :
    let q : PBeat := ⟨0, 1, 0, 0x0201, 3⟩
    let t := (cellAccess up 0 0 .write q).1
    t.mem = [(64, 1), (65, 2)] ∧ memWf t = true ∧ (cellAccess t 0 0 .read q).2.data.extractLsb' 0 16 = 0x0201 := by decide +kernel

/-- Writing the value an unlisted byte reads as removes the entry. -/
theorem test_zero_write_removes_entry :
    let q : PBeat := ⟨0, 1, 0, 0x0201, 3⟩
    (cellAccess (cellAccess up 0 0 .write q).1 0 0 .write { q with data := 0 }).1.mem = [] := by decide +kernel

/-! ## Witnesses of the statements' hypotheses -/

/-- FreezeEndsOnlyByReleaseOrReset, AlwaysOnStateKept, StepKeepsByteStoresCanonical. -/
theorem test_w_whole_block_rules :
    upF.frz.asserted = true ∧ (got (exec (.jobRestartRelease .mp false) { upF with rs := { restart0 with st := .done } })).frz.asserted = false ∧
      (got (exec (.add (.reg .mp) 3 1) up)).aon = up.aon ∧ storesWf up = true := by decide +kernel

/-- ResetsLeave: the reset state itself, and the state with aon_rst_n released. -/
theorem test_w_ResetsLeave : State.reset.pins.rst = true ∧ { State.reset with aon := { aon0 with rst := false } }.aon.lost = false := by
  decide +kernel

/-- ClockAndRailEvents. -/
theorem test_w_ClockAndRailEvents : vget State.reset.pins.fclkOk 0 = false ∧ vget up.pins.fclkOk 0 = true ∧ fclkNeed up 0 = true ∧
    live up = true ∧ Rail.vddl ≠ Rail.vddaon := by decide +kernel

/-- The wrapper with WRSTN released, in test mode or not. -/
def wrapped (test : Bool) : State :=
  { State.reset with pins := { State.reset.pins with testMode := test }, wrp := { wrapper0 with rst := false } }

theorem test_w_WrapperInstructionsLoadTheirRegister : (wrapped true).wrp.rst = false ∧ (wrapped true).wrp.busy = false ∧
    (wrapped true).pins.testMode = true ∧ (wrapped false).pins.testMode = false ∧ (wrapped true).pins.rst = true ∧
    (0 : W32).extractLsb' 1 2 ≠ 3 := by decide +kernel

/-- The block ready for a self-test, and running one. -/
def tested (busy : Bool) : State :=
  { up with pins := { up.pins with testMode := true }, gh := { up.gh with stage := .waitImage }, wrp := { wrapper0 with startReq := true, busy := busy } }

theorem test_w_SelfTestRunsAndEnds : live (tested false) = true ∧ (tested false).gh.stage = .waitImage ∧ (tested false).wrp.startReq = true ∧
    (tested true).wrp.busy = true := by decide +kernel

/-- Region 0 with a power controller in this state, its timeouts passed. -/
def policied (st : PState) (deepest : BitVec 2) : State :=
  upR (fun g => { g with power := { g.power with st := st, deepest := deepest, retainAfter := 5, offAfter := 5, ticks := 5 } })

theorem test_w_PolicyTimeoutAsksForOneDownwardStep :
    policyOpen (policied .run 1) 0 = true ∧ hasWork (policied .run 1) 0 = false ∧ (rg (policied .run 1) 0).power.idleAfter ≠ 0 ∧
      policyOpen (policied .idle 2) 0 = true ∧ holdsRows (rg (policied .idle 2) 0) = false ∧ policyOpen (policied .retain 3) 0 = true ∧
      hasWork (upR (fun g => { g with ev := { g.ev with entry := [⟨0, none⟩] } })) 0 = true ∧
      policyOpen (upR (fun g => { g with ev := { g.ev with entry := [⟨0, none⟩] } })) 0 = true ∧
      holdsRows (rg (upB (fun b => { b with evq := [row0] })) 0) = true := by decide +kernel

theorem test_w_SclkEdgeAdvancesTheSundial : up.aon.rst = false ∧ up.aon.lost = false ∧ clocked up 1 = true ∧
    (∀ r, (rg up r).power.steps = []) := by decide +kernel

theorem test_w_BookingKeepsLedgersWithinLimit : (bookStep stager0 0 1000 0 .clockOn false).isSome = true ∧
    (∀ i, vget stager0.rise i ≤ ledgerL stager0 ∧ vget stager0.fall i ≤ ledgerL stager0) := by decide +kernel

/-- The least ceiling in force in the West half. -/
def modStagerCeil (p : Power) : Power := { p with stagers := vmod p.stagers 0 (fun st => { st with ceilEff := 1 }) }
/-- Region 0 with one booked step. -/
def stepping (k : StepKind) (begun waking : Bool) : State :=
  upR (fun g => { g with power := { g.power with steps := [⟨k, 0, 0, begun, false⟩], waking := waking } })

theorem test_w_StagedStepsStartAndEnd : live (stepping .clockOff true false) = true ∧
    (∀ k ∈ [StepKind.clockOff, .periphOff, .arrayOff], (rg (stepping k true false) 0).power.steps = [⟨k, 0, 0, true, false⟩] ∧
      (rg (stepping k true false) 0).power.waking = false) ∧ (rg (stepping .clockOn true true) 0).power.waking = true ∧
    (rg (stepping .clockOff false false) 0).power.steps = [⟨.clockOff, 0, 0, false, false⟩] ∧
    riseWaits (stepping .clockOff false false) 0 .clockOff = false ∧
    (let s := stepping .clockOn false true
     riseWaits { s with pwr := modStagerCeil s.pwr } 0 .clockOn = true) := by decide +kernel

theorem test_w_PowerRegisterWrites : portReady State.reset .mp = false ∧ portReady up .mp = true ∧ isMgmt .mp = true ∧ isMgmt .cp = false ∧
    portReady { up with pins := { up.pins with fclkOk := Vector.replicate 2 false } } .mp = true ∧
    ((250 : W32).extractLsb' 0 10).toNat = 250 ∧ ((1000 : W32).extractLsb' 0 10).toNat = 1000 ∧ ((249 : W32).extractLsb' 0 10).toNat < 250 ∧
    1000 < ((1001 : W32).extractLsb' 0 10).toNat := by decide +kernel

theorem test_w_RequestJoinsItsPort : engineReady up 31 = true ∧ q0.mgrp = 0 ∧ { q0 with mgrp := 1 }.mgrp ≠ 0 ∧ q0.top = 0 ∧
    { q0 with addr := 0x18000000 }.top = 3 ∧ { q0 with addr := 0x08000000 }.top = 1 ∧ { q0 with addr := 0x10000000 }.top = 2 ∧
    (ep (upP (fun x => { x with reqs := List.replicate 64 (e0 .read) })) 0).reqs.length = 64 := by decide +kernel

theorem test_w_AtomicOrSignalJoinsWithItsBeat : engineReady up 0 = true ∧ engineReady up 16 = true ∧ portHalf 16 = 1 ∧ w0.last = true ∧
    { w0 with last := false }.last = false ∧ { q0 with addr := 0x1000 }.addr.getLsbD 12 = true ∧
    needsData (ep up 0) = none ∧ needsData (ep (upP (fun x => { x with reqs := [e0 .write] })) 0) ≠ none := by decide +kernel

theorem test_w_WriteDataBeatGoesToTheOldestNeed : needsData (ep up 0) = none ∧
    (let s := upP (fun x => { x with reqs := [e0 .write] })
     clocked s 0 = true ∧ needsData (ep s 0) = some (e0 .write) ∧ w0.last = decide ((e0 .write).got.length + 1 = wdBeats (e0 .write).op q0) ∧
      (e0 .write).broke = false) ∧
    (let s := upP (fun x => { x with reqs := [{ e0 .write with broke := true }] })
     needsData (ep s 0) = some { e0 .write with broke := true } ∧ findReq s 0 0 = some { e0 .write with broke := true }) ∧
    ({ w0 with last := false } : WBeat).last ≠ decide ((e0 .write).got.length + 1 = wdBeats (e0 .write).op q0) := by decide +kernel

/-- A port whose read has been answered with n beats. -/
def answeredRead (n : Nat) : State := upP (fun x => { x with reqs := [{ e0 .read with stage := .answered, res := List.replicate n (some ⟨0, 0⟩) }] })

theorem test_w_LastResponseBeatEndsTheRequest : nextResp (ep up 0) .rd 0 = none ∧
    (let s := upP (fun x => { x with reqs := [e0 .read] }); nextResp (ep s 0) .rd 0 = some (e0 .read) ∧ respReady (e0 .read) = false) ∧
    ((nextResp (ep (answeredRead 1) 0) .rd 0).map (fun e => (respReady e, (respBeat e).2.2)) = some (true, true)) ∧
    ((nextResp (ep (answeredRead 2) 0) .rd 0).map (fun e => (respReady e, (respBeat e).2.2, e.gather)) = some (true, false, none)) ∧
    (rport up .cp).rsps = [] ∧ (let s := modRport up .cp (fun x => { x with rsps := [⟨0, true⟩] }); live s = true ∧ (rport s .cp).rsps = [⟨0, true⟩]) := by
  decide +kernel

/-- Region 0 with an open gather of group 1. -/
def gathering : State := upR (fun g => { g with mcast := { g.mcast with gathers := [⟨0, 1, 0, 0, false, 3, [(0, 0)], false⟩] } })

theorem test_w_GatherTimeoutStartsTheRead : frozen upF 0 = true ∧ clocked upF 0 = true ∧ frozen gathering 0 = false ∧
    (rg up 0).mcast.gathers.find? (fun x => x.g == 1 && !x.started) = none ∧
    ((rg gathering 0).mcast.gathers.find? (fun x => x.g == 1 && !x.started)).isSome = true ∧
    gatherWaits gathering ⟨0, 1, 0, 0, false, 3, [(0, 0)], true⟩ (gatherBeats gathering ⟨0, 1, 0, 0, false, 3, [(0, 0)], true⟩) = false ∧
    (let s := modEp gathering 0 (fun x => { x with reqs := [{ e0 .read with stage := .sent }, { e0 .read with seq := 1, stage := .gather, gather := some (0, 0) }] })
     gatherWaits s ⟨0, 1, 0, 0, false, 3, [(0, 1)], true⟩ (gatherBeats s ⟨0, 1, 0, 0, false, 3, [(0, 1)], true⟩) = true) := by decide +kernel

/-- A port whose head request is at the Sluice stage, with one budget everywhere and a credit. -/
def sluiced (op : ReqOp) (budget : BitVec 16) (credit : Int) : State :=
  { upP (fun x => { x with reqs := [e0 op] }) with
    slu := { sluice0 with eff := Vector.replicate 2 { sluTab0 with budget := Vector.replicate 256 budget }, credit := Vector.replicate 256 credit } }

theorem test_w_SluiceTestsItsHead :
    (∀ s ∈ [sluiced .read 0 0, sluiced .read 0xFFFF 0, sluiced .read 16 1, sluiced .read 16 0, sluiced .sem 0 0],
      clocked s 0 = true ∧ (sluiceHead (ep s 0)).isSome = true ∧ closed s 0 = false ∧ multicastBad s 0 q0 = false) ∧
      requestBad .read q0 none = false ∧ requestBad .read { q0 with addr := 1 } none = true ∧
      chargeOf .read q0 = 1 ∧ chargeOf .sem q0 = 0 ∧ hasCredit 16 = true ∧ hasCredit 0 = false ∧ hasCredit 0xFFFF = false ∧
      urgExtra sluTab0 0 = 0 ∧ closed upF 0 = true ∧
      awaitsBeat (e0 .read) = false ∧ awaitsBeat { e0 .sem with carry := [w0] } = true ∧ sluiceHead (ep up 0) = none := by decide +kernel

theorem test_w_WindowBoundaryRefillsCredits : clocked up 0 = true ∧ hasCredit 1 = true ∧ hasCredit 0 = false ∧ portHalf 0 = 0 ∧ portHalf 16 ≠ 0 := by
  decide +kernel

/-- The class table with class 0 covering the first 64 KiB, enabled or not. -/
def classed (en : Bool) : State :=
  { up with slu := { sluice0 with regs := { sluTab0 with cls := vset sluTab0.cls 0 ⟨0, 1, en⟩ } } }

theorem test_w_SluiceConfigurationWrites : portReady (classed true) .cp = true ∧ (vget (classed true).slu.regs.cls 0).en = true ∧
    (vget (classed false).slu.regs.cls 0).en = false ∧ mayEnable (classed false).slu.regs 0 = true ∧ mayEnable sluTab0 0 = false ∧
    (1 : W32).getLsbD 0 = true := by decide +kernel

theorem test_w_CellStatements : canWrite up = true ∧ canWrite { up with aon := { up.aon with rail := true } } = false ∧
    (0 : Nat) < 64 / atomWidth .swap64 ∧ elemOn 0xFF 8 0 = true ∧ elemOn 0xFF 8 1 = false ∧ planned up 0 = false ∧
    (e0 .write).op = .write ∧ (e0 .read).op = .read ∧ (packet0 0).kind = 0 := by decide +kernel

/-- A beat at a block's stop. -/
def breq (op : CellOp) (slipped : Bool) : BReq := ⟨0, 0, true, .engine 0 0, op, ⟨0, 0, 0, 0, 0⟩, 0, slipped⟩
/-- Block 0 holds a grant of the crossbar queue, whose head is a beat, while its sweep stores row 0 (STS). -/
def granted (op : CellOp) : State :=
  upB (fun b => { b with xq := [breq op false], grant := some (.xbar, 0), sweep := some (sweepAt 1), store := tset 0 [] 1 0x18000000 })

theorem test_w_HeldGrantIssuesTheHeadBeat :
    (∀ op ∈ [CellOp.read, .write], pathOpen (granted op) 0 = true ∧ hTurn (granted op) 0 = none ∧ xbarPick (granted op) 0 0 = none ∧
      (blk (granted op) 0 0).grant = some (.xbar, 0) ∧ headBeat (granted op) 0 0 .xbar = some (breq op false) ∧
      maskedReq (granted op) 0 0 .xbar = false ∧ grantOver (granted op) 0 0 .xbar 0 = false) ∧
    stalls (blk (granted .read) 0 0) (breq .read false) .none = false ∧ busyBeat (blk (granted .read) 0 0) (breq .read false) .none = false ∧
    stalls (blk (granted .write) 0 0) (breq .write false) .sweep = true ∧
    busyBeat (blk (granted .read) 0 0) (breq .read false) .sweep = true ∧ (breq .read false).op ≠ .write := by decide +kernel

theorem test_w_ArbiterGrantsTheHighestPriority : decideGrant (granted .read) 0 0 = some .xbar ∧ asks (granted .read) 0 0 .xbar = true ∧
    decideGrant up 0 0 = none ∧ asks up 0 0 .xbar = false ∧
    bit32 (rg (upR (fun g => { g with arb := { g.arb with freeze := 1 } })) 0).arb.freeze 0 = true := by decide +kernel

/-- Region 0 at the last slot of its timetable, a new timetable waiting. -/
def lastSlot (fresh : Bool) : State := upR (fun g => { g with model := { g.model with slot := 1023, ttPending := true, fresh := fresh } })

theorem test_w_SlotCounterAdvances :
    (∀ f ∈ [true, false], clocked (lastSlot f) 0 = true ∧ inRun (lastSlot f) 0 = true ∧ ((rg (lastSlot f) 0).model.slot.val + 1) % 1024 = 0 ∧
      (rg (lastSlot f) 0).model.ttPending = true ∧ (rg (lastSlot f) 0).model.fresh = f) ∧ halfOf 7 = 1 ∧
    (slotEntry (advanceSlot (rg up 0)) 1).getLsbD 47 = false ∧
    slotBeats (rg (upB (fun b => { b with sched := [breq .read false] })) 0) 0x800100000001 = [(0, breq .read false)] := by decide +kernel

/-- Region 0 in RECOVERY or not, with the starvation counters at n of 64 cycles. -/
def starving (mode : Bool) (n : Nat) : State :=
  modBlk (upR (fun g => { g with arb := { g.arb with eff := { g.arb.eff with mode := mode, limit := 1 }, starve := Vector.replicate 6 n } })) 0 0
    (fun b => { b with starve := Vector.replicate 4 n })

theorem test_w_SlipsQuotasAndStarvation :
    (let s := upB (fun b => { b with sched := [breq .write true], sweep := some (sweepAt 1), store := tset 0 [] 1 0x18000000 })
     pathOpen s 0 = true ∧ stalls (blk s 0 0) (breq .write true) .sweep = true ∧
       stalls (blk s 0 0) (breq .write true) .none = false ∧ busyBeat (blk s 0 0) (breq .write true) .none = false ∧
       (blk s 0 0).sched.find? (fun q => q.slipped && schedFree s 0 0 q && cellFree s 0 0 q && !otherOwns (rg s 0) 0 q) = some (breq .write true)) ∧
    (blk up 0 0).sched.find? (fun q => q.slipped && schedFree up 0 0 q && cellFree up 0 0 q && !otherOwns (rg up 0) 0 q) = none ∧
    (∀ src ∈ [StarveSrc.port 3, .halfLink, .eventEntry, .block 0],
      (rg (starving true 64) 0).arb.eff.mode = true ∧ atLimit (rg (starving true 64) 0) src = true ∧ atLimit (rg (starving true 63) 0) src = false) ∧
    (rg (starving false 64) 0).arb.eff.mode = false ∧ starveLimit (rg (starving true 64) 0) = 64 ∧ vget (blk (starving true 64) 0 0).starve 0 = 64 := by
  decide +kernel

/-- The block with its first route sending sources 0 to 5 to region 0. -/
def routed : State := { up with map := { map0 with routes := vset map0.routes 0 ⟨0, 5, true, 1⟩ } }
/-- Ingress port 0 with one event to place. -/
def placing (near far : Byte) : State := { up with ingress := vset up.ingress 0 [⟨0, near, far, [], none, 0⟩] }

theorem test_w_EventsAreRoutedAndPlaced : ingressReady upF 0 = false ∧ ingressReady up 0 = true ∧ routeMask up.map (evSrc 0) = 0 ∧
    routeMask routed.map (evSrc 5) = 1 ∧ routeMask routed.map (evSrc 6) = 0 ∧ ingressReady routed 0 = true ∧
    clocked (placing 1 0) (evHalf 0) = true ∧ frozen (placing 1 0) 0 = false ∧ mayPlace (placing 1 0) 0 ⟨0, 1, 0, [], none, 0⟩ = true ∧
    mayPlace (placing 2 0) 0 ⟨0, 2, 0, [], none, 0⟩ = false ∧ vget (placing 0 16).ingress 0 = [⟨0, 0, 16, [], none, 0⟩] ∧
    hTurn (placing 1 0) 0 = some (ingressSrc 0) ∧ hTurn (placing 2 0) 0 ≠ some (ingressSrc 0) ∧ (0 : Byte) ≠ 16 ∧
    (vget (placing 0 16).fb.steps 0).any (fun x => ([] : List Nat).contains x.1) = false ∧
    (vget ({ up with fb := { up.fb with steps := Vector.replicate 2 [(7, 1)] } } : State).fb.steps 0).any (fun x => [7].contains x.1) = true := by
  decide +kernel

/-- Region 0 planned, with model 0 taking source 0 by index entry 0. -/
def modelled (f : RegionSt → RegionSt) : State :=
  { upR (fun g => f { g with plan := { g.plan with descs := vset g.plan.descs 0 { desc0 with valid := true, indexCount := 1 } } }) with
    pln := { loader0 with regions := 0xFF } }
/-- Region 0 planned or not, in Idle, with a copy arriving. -/
def arrivingIdle (w : W64) (planned : Bool) : State :=
  { upR (fun g => { g with power := { g.power with st := .idle }, ev := { g.ev with arriving := [⟨w, none⟩] } }) with
    pln := { loader0 with regions := if planned then 1 else 0 } }
/-- A load that includes region 0 is in progress. -/
def loading : State := { up with pln := { loader0 with st := .loading, hdr := some ⟨64, 1, true, 1, 0⟩, regions := 1 } }
/-- Region 0 with a group of one row on its way to block 0, whose queue holds n rows. -/
def grouped (n : Nat) : State :=
  modBlk (upR (fun g => { g with ev := { g.ev with groups := [⟨0, [row0]⟩] } })) 0 0 (fun b => { b with evq := List.replicate n row0 })

theorem test_w_CopiesExpandIntoTheQueues :
    (let s := upR (fun g => { g with ev := { g.ev with arriving := [⟨0, none⟩] } })
     clocked s 0 = true ∧ (inRun s 0 || loadingR s 0) = true ∧ (rg s 0).ev.arriving = [⟨0, none⟩]) ∧
    (let s := arrivingIdle 0 false; (inRun s 0 || loadingR s 0) = false ∧ planned s 0 = false) ∧
    (let s := { loading with regions := (arrivingIdle 0 false).regions }
     inRun s 0 = false ∧ loadingR s 0 = true ∧ (rg s 0).ev.arriving = [⟨0, none⟩]) ∧ inRun (modelled id) 0 = true ∧ indexOf up 0 ⟨0, none⟩ = none ∧
    (0 < indexCount (tget 0 (rg (modelled (fun g => { g with plan := { g.plan with index := tset 0 [] 0 0xFFFFFFFF } })) 0).plan.index 0)) ∧
    (planned (arrivingIdle 0x400000000 true) 0 = true ∧ evNoWake 0x400000000 = true ∧ evNoWake 0 = false) ∧
    (let s := modelled (fun g => { g with ev := { g.ev with entry := [⟨0, none⟩] } })
     entryHeld s 0 = false ∧ (rg s 0).ev.groups = [] ∧ (rg s 0).ev.entry = [⟨0, none⟩] ∧ indexOf s 0 ⟨0, none⟩ = some 0) ∧
    entryHeld upF 0 = true ∧
    (∀ n ∈ [255, 256], (rg (grouped n) 0).ev.groups = [⟨0, [row0]⟩] ∧ fenced (grouped n) 0 0 = false ∧ (blk (grouped n) 0 0).released = [] ∧
      (blk (grouped n) 0 0).evq.length = n) ∧
    (idx 6).all (fun k => (candOf (grouped 255) 0 0 k).isNone) = true ∧
    groupFits (grouped 255) 0 0 1 = true ∧ xbarTurn (grouped 255) 0 0 = some 5 ∧ xbarTurn (grouped 256) 0 0 ≠ some 5 ∧
    (let s := modRg (grouped 0) 0 (fun g => { g with fence := 1 }); fenced s 0 0 = true ∧ xbarTurn s 0 0 = some 5) ∧
    (let s := upB (fun b => { b with released := [row0] }); (blk s 0 0).released ≠ [] ∧ (blk s 0 0).evq.length < 256) := by decide +kernel

/-- Region 0 closing a step, at this place. -/
def closeIn (k : CloseStep) (seen : List Nat) (f : RegionSt → RegionSt) : State :=
  upR (fun g => f { g with ev := { g.ev with closes := [⟨0, 7, k⟩], stepsSeen := seen } })

theorem test_w_StepCloseAdvancesTheEpoch :
    (∀ l ∈ [[7], []], let s := closeIn .entry l id
     stepOpen s 0 = true ∧ closeAt s 0 .entry = some ⟨0, 7, .entry⟩ ∧ (rg s 0).ev.arriving = [] ∧ preNear s 0 7 = false) ∧
    (let s := closeIn .drain [7] id; closeAt s 0 .drain = some ⟨0, 7, .drain⟩ ∧ queuesEmpty (rg s 0) = true ∧ readsFirst s 0 0 = false) ∧
    (let s := modelled (fun g => { g with ev := { g.ev with closes := [⟨0, 7, .drain⟩], stepsSeen := [7] } })
     stepOpen s 0 = true ∧ closeAt s 0 .drain = some ⟨0, 7, .drain⟩ ∧ queuesEmpty (rg s 0) = true ∧ readsFirst s 0 0 = true) ∧
    queuesEmpty (rg (upB (fun b => { b with evq := [row0] })) 0) = false ∧
    (let s := closeIn .sweep [7] id; closeAt s 0 .sweep = some ⟨0, 7, .sweep⟩ ∧ sweeping (rg s 0) = false) ∧
    sweeping (rg (upB (fun b => { b with sweep := some (sweepAt 1) })) 0) = true := by decide +kernel

/-- Block 0 with an output event, and egress port p of its half holding n. -/
def emitting (p : Byte) (n : Nat) (last : Fin 256 := 0) : State :=
  { upB (fun b => { b with emits := [3] }) with
    map := { map0 with egress := vset map0.egress 0 p }, egress := vset up.egress 0 ⟨List.replicate n 0, decide (0 < n), last⟩ }

theorem test_w_EgressAndModelSwitch :
    (∀ s ∈ [emitting 0 0, emitting 0 15, emitting 0 16, emitting 4 0], clocked s 0 = true ∧ frozen s 0 = false ∧ (blk s 0 0).emits = [3]) ∧
    (∀ s ∈ [emitting 0 15, emitting 0 0], emitTurn s 0 0 0 = true) ∧ emitTurn (emitting 4 0) 0 4 0 = true ∧
    emitTurn (modBlk (emitting 0 0 255) 0 1 (fun b => { b with emits := [4] })) 0 0 0 = true ∧
    emitTurn (modBlk (emitting 0 0 0) 0 1 (fun b => { b with emits := [4] })) 0 0 0 = false ∧
    evHalf 0 = halfOf 0 ∧ evHalf 4 ≠ halfOf 0 ∧ (vget (emitting 0 16).egress 0).buf.length = 16 ∧
    (vget (emitting 0 1).egress 0).presented = true ∧ (vget (emitting 0 1).egress 0).buf = [0] ∧
    loadingR loading 0 = true ∧ portReady loading .cp = true ∧ loadingR up 0 = false ∧ (descOf (rg up 0) 0).valid = false ∧
    (descOf (rg (modelled id) 0) 0).valid = true ∧ inRun (modelled id) 0 = true ∧ (rg (modelled id) 0).model.switching = false ∧
    (rg (modelled (fun g => { g with power := power0 })) 0).power.st ≠ .run ∧ loadingR (modelled id) 0 = false ∧
    inRun (modelled (fun g => { g with power := power0 })) 0 = false ∧
    (rg (modelled (fun g => { g with model := { g.model with switching := true } })) 0).model.switching = true ∧
    (let s := modelled (fun g => { g with model := { g.model with switching := true, hold := true, again := true } })
     stepOpen s 0 = true ∧ (descOf (rg s 0) (rg s 0).model.target).tt = (rg s 0).model.tt) ∧
    (let s := modelled (fun g => { g with model := { g.model with switching := true, hold := true, tt := 1 } })
     stepOpen s 0 = true ∧ (rg s 0).model.switching = true ∧ (rg s 0).model.hold = true ∧ (rg s 0).ev.groups = [] ∧ sweeping (rg s 0) = false ∧
      (descOf (rg s 0) (rg s 0).model.target).tt ≠ (rg s 0).model.tt) := by decide +kernel

theorem test_w_TrellisRegisterAccesses :
    trRefused up 0 false = true ∧ trRefused up 0 true = true ∧ trRefused (modelled id) 0 true = false ∧
      inRun (modelled (fun g => { g with power := power0 })) 0 = false ∧
      trRefused (modelled (fun g => { g with power := power0 })) 0 false = false ∧ inRun (modelled id) 0 = true ∧
      (rg (modelled id) 0).ev.trSpace = false ∧ (rg (modelled (fun g => { g with ev := { g.ev with trSpace := true } })) 0).ev.trSpace = true ∧
      evenParity (1 : W64) = false ∧ evenParity (0x8000000000000001 : W64) = true ∧ entryFieldsOk 0 = true ∧ entryFieldsOk 0xC0000000 = false := by
  decide +kernel

/-- R229, R230: the opcode of each sweep instruction in bits 31:27. The word 0 is END, RANGE is valid as instruction 0 alone. -/
theorem test_sweep_opcodes :
    ([0x00000000, 0x10000000, 0x18000000, 0x20000000, 0x28000000, 0x30000000, 0x38000000, 0x40000000, 0x48000000, 0x50000000,
      0x58000000, 0x60000000, 0x68000000, 0x70000000, 0x78000000, 0x80000000, 0x88000000, 0x90000000, 0x98000000, 0x08000000].map (sweepOp 1)) =
    [.endProg, .lds, .sts, .ldb, .stb, .ldi, .add, .sub, .addc, .mulc, .shri, .max, .min, .cmp, .sel, .rst, .emit, .trc, .invalid, .invalid] ∧
    sweepOp 0 0x08000005 = .range := by decide +kernel

theorem test_w_SweepStatements : ([(0x30000000 : W32), 0x38000000, 0x40000000, 0x48000000, 0x50000000, 0x58000000, 0x60000000, 0x68000000,
      0x78000000, 0x80000000, 0x90000000, 0x00000000, 0x98000000, 0x70000000, 0x88000000, 0x10000000, 0x18000000, 0x20000000, 0x28000000].all
      (fun x => (atInstr (atWord x) 0 0).map (·.2.2) == some x)) = true ∧ (atInstr (atWord 0) 0 0).map (·.2.1) = some 1 ∧ canWrite (atWord 0) = true ∧
    (sweepX 0x20000200).getLsbD 9 = true ∧ (sweepX 0x20000000).getLsbD 9 = false := by decide +kernel

/-- The governor of the West half with this activity in each region and this allowance. -/
def allowing (s : State) (act allow : Nat) : State := modGov s 0 (fun g => { g with act := Vector.replicate 4 act, base := allow })

/-- Within an allowance that exceeds every weight, a row-event or a group of region 0 may be started. -/
theorem test_mayAct_within (s : State) (c : Fin 65536)
    (h : vget (gov s 0).act 0 = 0 ∧ actSum (gov s 0) = 0 ∧ 65536 ≤ shareOf s 0 ∧ 65536 ≤ allowance s 0) : mayAct s 0 c.val = true := by
  obtain ⟨h1, h2, h3, h4⟩ := h
  have := c.isLt
  have e : halfOf 0 = 0 := by decide
  have e' : inHalf 0 = 0 := by decide
  simp only [mayAct, e, e', h1, h2, Bool.and_eq_true, decide_eq_true_eq]
  omega

/-- Beyond it, neither may be, whatever its weight. -/
theorem test_mayAct_beyond (s : State) (c : Fin 65536) (h : allowance s 0 < actSum (gov s 0)) : mayAct s 0 c.val = false := by
  have e : halfOf 0 = 0 := by decide
  have : ¬ actSum (gov s 0) + c.val ≤ allowance s 0 := by omega
  simp [mayAct, e, this]

/-- Block 0 before a group of its sweep. -/
def beforeGroup : State := upB (fun b => { b with sweep := some { sweepAt 1 with pc := none } })

theorem test_w_SweepControlAndEmission :
    (let s := upB (fun b => { b with sweep := some { sweepAt 1 with gcount := 0, pc := none } })
     sweepOpen s 0 0 = true ∧ (blk s 0 0).sweep.map (fun w => (w.ended, w.gcount)) = some (false, 0)) ∧
    (sweepOpen beforeGroup 0 0 = true ∧ (blk beforeGroup 0 0).sweep.map (fun w => (w.ended, w.gcount, w.pc)) = some (false, 1, none)) ∧
    (vget (emitting 0x80 0).map.egress 0).getLsbD 7 = true ∧ (vget up.map.egress 0).getLsbD 7 = false ∧
    (blk (upB (fun b => { b with emits := List.replicate 64 0 })) 0 0).emits.length = 64 ∧
    (chkFault (atWord 0x90000000) 0 0 (sweepAt 1) 1 .trc 0x90000000 .instr).isSome = true := by decide +kernel

theorem test_w_SweepGroupAllowance : mayAct (allowing beforeGroup 0 1000000) 0 Config.groupAmp.val = true ∧
    mayAct (allowing beforeGroup 1 0) 0 Config.groupAmp.val = false :=
  ⟨test_mayAct_within _ _ (by decide +kernel), test_mayAct_beyond _ _ (by decide +kernel)⟩

/-- Block 0 with the event grant and one row-event. -/
def issuing (tried : Bool) : State := upB (fun b => { b with grant := some (.event, 0), evq := [{ row0 with tried := tried }] })

theorem test_w_RowEventAccumulatesIntoItsSegments : frozen upF 0 = true ∧ wordInRow row0 0 = true ∧
    (∀ t ∈ [true, false], pathOpen (issuing t) 0 = true ∧ frozen (issuing t) 0 = false ∧ (blk (issuing t) 0 0).halted = false ∧
      (blk (issuing t) 0 0).grant = some (.event, 0) ∧ 0 < burstOf (rg (issuing t) 0) .event ∧ (blk (issuing t) 0 0).evIssued = false ∧
      (blk (issuing t) 0 0).evq = [{ row0 with tried := t }]) := by decide +kernel

theorem test_w_RowEventAllowance : mayAct (allowing (issuing false) 0 1000000) 0 Config.rowAmp.val = true ∧
    mayAct (allowing (issuing false) 1 0) 0 Config.rowAmp.val = false :=
  ⟨test_mayAct_within _ _ (by decide +kernel), test_mayAct_beyond _ _ (by decide +kernel)⟩

theorem test_w_BasinAndSweepStoreRegisters : loadingR loading 0 = true ∧ portReady loading .mp = true ∧ loadingR up 0 = false ∧
    fenced up 0 0 = false ∧ inRun (policied .retain 0) 0 = false ∧ closing (closeIn .sweep [] id) 0 = true ∧ closing up 0 = false ∧
    (rg up 0).lanes.block = 0 ∧ planned (modelled id) 0 = true ∧ (rg (modelled id) 0).sweep.word.toNat < sweepWords (rg (modelled id) 0).sweep.space ∧
    frozen up 0 = false ∧ frozen upF 0 = true ∧ portReady upF .mp = true ∧ inRun (closeIn .sweep [] id) 0 = true ∧
    fenced (upR (fun g => { g with fence := 1 })) 0 0 = true ∧ planned up 0 = false := by
  decide +kernel

/-- The block with these words of context slots and this stream head status of slot 1. -/
def slotted (words : List (Nat × W64)) (st : StreamState) (next : Option (BitVec 12)) : State :=
  { up with rill := { rill0 with slots := words, streams := if st = .idle then [] else [(1, { stream0 with st := st, next := next })] } }

theorem test_w_StreamBellsAbortsSlotsAndEcho :
    headOk (slotted [(8, 1)] .idle none) 1 = true ∧ headOk up 1 = false ∧ streamPort (slotted [(8, 1)] .idle none) 1 = 0 ∧
      (∀ st ∈ [StreamState.queued, .running, .halted, .done, .aborted], (stream (slotted [(8, 1)] st none) 1).st = st ∧
        portReady (slotted [(8, 1)] st none) .cp = true) ∧
      (stream up 1).st = .idle ∧ slotKind up 1 ≠ 1 ∧ slotKind (slotted [(8, 1)] .running none) 1 = 1 ∧
      headBusy (slotted [(8, 1)] .running none) 1 = true ∧ headBusy (slotted [(8, 1)] .done none) 1 = false ∧
      closed up 0 = false ∧ closed upF 0 = true ∧ frozen up 0 = false ∧ streamPort (slotted [(8, 9)] .idle none) 1 = 1 ∧
      headOk (slotted [(8, 9)] .idle none) 1 = true ∧ slotKind (slotted [(8, 9)] .idle none) 1 = 1 ∧ isMgmt .mp = true ∧ portReady up .mp = true ∧
      (let s := modRp (slotted [(8, 1)] .running none) 0 (fun p => { p with tiles := [⟨0, 1, 2, false, none, false, true, 1, [0], [0], [.out 5]⟩], outs := [⟨5, .tile, false, some (0, 0), 0, false⟩] })
       (rp s 0).tiles.any (fun t => t.ctx == 1 && (rp s 0).outs.any (fun o => o.who.map Prod.fst == some t.uid)) = true) ∧
      (rp (slotted [(8, 1)] .running none) 0).tiles.any (fun t => t.ctx == 1) = false ∧ (rp up 0).invBusy = false ∧
      (rp (modRp up 0 (fun p => { p with invBusy := true })) 0).invBusy = true := by decide +kernel

/-- A fill of one beat whose beat stands so. -/
def tile0 (drain : Bool) (wtag : Option (BitVec 11)) (x : BeatSt) : Tile := ⟨0, 1, 2, drain, wtag, false, true, 1, [0], [0], [x]⟩
/-- Rill port 0 with one tile of the running stream 1. -/
def tiled (t : Tile) : State := modRp (slotted [(8, 1)] .running none) 0 (fun p => { p with tiles := [t] })
/-- Rill port 0 asking for the descriptor of slot 2, whose words 0 are w. -/
def asking (w : W64) : State := modRp (slotted [(8, 1), (16, w)] .running (some 2)) 0 (fun p => { p with queue := [1] })

/-- Rill port 0 of this state with these outstanding transfers. -/
def outed (s : State) (l : List ROut) : State := modRp s 0 (fun p => { p with outs := l })

theorem test_w_RillAdmits :
    clocked (asking 2) 0 = true ∧ closed (asking 2) 0 = false ∧ (rp (asking 2) 0).queue = [1] ∧ (stream (asking 2) 1).next = some 2 ∧
      (stream (modRp (slotted [(8, 1)] .done none) 0 (fun p => { p with queue := [1] })) 1).next = none ∧
      slotKind (asking 0) 2 = 0 ∧ slotKind (asking 3) 2 ≠ 0 ∧ descGood (asking 3) 2 = false ∧
      descGood (asking 2) 2 = true ∧ depHolds (asking 2) 1 2 = true ∧ (readDesc (asking 2) 2).rows * (readDesc (asking 2) 2).rowBeats = 1 ∧
      wicketFor (asking 2) (some 0) = some 1024 ∧
      (let s := { asking 2 with rill := { (asking 2).rill with wickets := (List.range 256).map (fun i => BitVec.ofNat 11 (1024 + i)) } }
       wicketFor s (some 0) = none ∧ wicketLine s = [] ∧
         wicketLine { s with rill := { s.rill with wicketQ := [some 0] } } = [some 0]) ∧
      descGood (asking 0x42) 2 = true ∧ (readDesc (asking 0x42) 2).rows * (readDesc (asking 0x42) 2).rowBeats = 2 ∧ staged (rp (asking 0x42) 0) = 0 ∧
      descGood (asking 10) 2 = true ∧ depHolds (modRp (asking 10) 0 (fun p => { p with tiles := [tile0 false none .idle] })) 1 2 = false := by
  decide +kernel

theorem test_w_RillIssuesAndTakesResponses :
    (fetchReady { up with gh := { up.gh with stage := .loading, src := true, fwLen := 16 } } 0).isSome = true ∧
      fetchReady (tiled (tile0 false (some 1024) .idle)) 0 = none ∧
      wicketIssue (tiled (tile0 false (some 1024) .idle)) 0 = some (tile0 false (some 1024) .idle, 0) ∧ (rp up 0).wicketRun.val < 3 ∧
      (let s := tiled (tile0 false none .idle)
       freeTag (rp s 0) = some 0 ∧ pickStream s 0 (rp s 0).rr (fun c => (streamIssue s 0 c).isSome) = some 1 ∧
         streamIssue s 0 1 = some (tile0 false none .idle, 0) ∧ fetchReady s 0 = none ∧ wicketIssue s 0 = none) ∧
      (rp (modRp up 0 (fun p => { p with wicketRun := 3 })) 0).wicketRun.val = 3 ∧
      isStaged ((tile0 true none (.staged 7)).beats.getD 0 .done) = true ∧ (tile0 false none .idle).share = false ∧
      (let s := modRp up 0 (fun p => { p with echoEn := true, echo := [⟨0, 7⟩] })
       echoHit (rp s 0) 0 = some 7 ∧ echoHit (rp s 0) 1 = none ∧ (rp s 0).outs.any (fun o => !o.write && o.addr == 1) = false ∧
         (rp (outed s [⟨5, .tile, false, some (0, 0), 1, true⟩]) 0).outs.any (fun o => !o.write && o.addr == 1) = true) ∧
      (rp up 0).outs.find? (fun o => o.tag == 5 && !o.write) = none ∧ (rp up 0).outs.find? (fun o => o.tag == 5 && o.write) = none ∧
      (let s := outed up [⟨5, .tile, true, some (0, 0), 0, false⟩, ⟨6, .tile, false, some (0, 0), 0, false⟩, ⟨1024, .plan, false, none, 0, true⟩]
       ((rp s 0).outs.find? (fun o => o.tag == 5 && o.write)).isSome = true ∧
         ((rp s 0).outs.find? (fun o => o.tag == 6 && !o.write)).map (·.who.isSome) = some true ∧
         ((rp s 0).outs.find? (fun o => o.tag == 1024 && !o.write)).map (·.who.isNone) = some true) := by decide +kernel

theorem test_w_RillMovesTiles :
    clocked upF 0 = true ∧ frozen upF 0 = true ∧ frozen (tiled (tile0 false none .idle)) 0 = false ∧
      (pickPiece (tiled (tile0 false none (.staged 7))) 0 (streamMoves (tiled (tile0 false none (.staged 7)))) (fillPiece (tiled (tile0 false none (.staged 7))))).isSome = true ∧
      (pickPiece (tiled (tile0 true none .idle)) 0 (streamLive (tiled (tile0 true none .idle))) (drainPiece (tiled (tile0 true none .idle)))).isSome = true ∧
      streamPort (tiled (tile0 false none .done)) 1 = 0 ∧ streamMoves (tiled (tile0 false none .done)) 1 = true ∧
      ((rp (tiled (tile0 false none .done)) 0).tiles.filter (fun t => t.ctx == 1)).head? = some (tile0 false none .done) ∧
      (tile0 false none .done).beats.all (· == .done) = true ∧ (tile0 false none .idle).beats.all (· == .done) = false := by decide +kernel

/-- Barrier 0 armed for one control arrival; armed is BST_BAR_CFG.EN. -/
def barred0 (chip : Bool) : State := modBar up 0 (fun b => { b with armed := true, chip := chip, ctrl := 1 })

theorem test_w_BandstandOperations : bstWordOk 5 = true ∧ (bstPerform up .ctrl none 0 5).2 = .ok ∧
    (bstPerform up .ctrl none 0 0x100000001).2 = .refused ∧ bstWordOk 0x100000001 = true ∧ watchMet up 0 0 0 = true ∧ watchMet up 0 0 1 = false ∧
    (freeWatch up.bst).isSome = true ∧ arriveErr (bar up 0) .ctrl = true ∧ arriveErr (bar (barred0 false) 0) .ctrl = false ∧
    (bstPerform up .ctrl (some (.control 0)) 0 0x200000001).2 = .waits := by decide +kernel

/-- Engine port 0 with a held ADD 1 to semaphore 3. -/
def signalled : State := upP (fun x => { x with held := [⟨0, false, 3, 1, 0, 0, 0⟩], reqs := [{ e0 .sem with stage := .signal }] })

theorem test_w_OperationWordsArePresented : portReady upF .mp = true ∧ portReady up .mp = true ∧ frozen upF 0 = true ∧ frozen up 0 = false ∧
    bstOp 0x200000001 = 2 ∧ bstWordOk 0x200000001 = true ∧ bstWordOk 0x280000001 = false ∧ bstOp 0x280000001 = 2 ∧ bstOp 0xC00000000 = 12 ∧
    (bstDo up .ctrl none 3 1).2 = .ok ∧ (bstDo up .ctrl none 3 0x100000001).2 = .refused ∧
    (bstDo up (.engine 0) (some (.engine 0 0)) 3 0x200000001).2 = .waits ∧ bstOp 1 ∉ [(2 : BitVec 4), 6, 7, 9, 10, 11] ∧ readySignal up 0 = none ∧ live signalled = true ∧
    readySignal signalled 0 = some ⟨0, false, 3, 1, 0, 0, 0⟩ ∧ (3 : BitVec 29).extractLsb' 0 12 = 3 := by decide +kernel

/-- The block with one watch. -/
def watched (o : WOwner) (ticks : Nat) (limit : BitVec 24) : State := { up with bst := { bandstand0 with watches := [watch0 o ticks limit] } }

theorem test_w_no_watch_free :
    freeWatch { bandstand0 with watches := (List.range 1024).map (fun i => { watch0 (.control 0) 0 0 with w := BitVec.ofNat 10 i }) } = none := by
  simp only [freeWatch, Option.map_eq_none_iff, List.find?_eq_none, List.mem_range]
  intro i hi
  simp only [List.any_map, Bool.not_eq_true', Bool.not_eq_false, List.any_eq_true, List.mem_range]
  exact ⟨i, hi, by simp [Nat.mod_eq_of_lt hi]⟩

theorem test_w_WatchesMessagesPairsAndBarriers :
    (∀ s ∈ [watched (.engine 0 0) 4 5, watched (.engine 0 0) 5 5, watched (.control 9) 5 5, watched (.control 9) 5 0, watched (.rill 1) 5 5],
      live s = true ∧ frozen s 0 = false ∧ (s.bst.watches.find? (fun x => x.w == 0 && x.pending.isNone)).isSome = true) ∧
    wregOk 0x8000 = false ∧ wregOk 0x10000 = true ∧ (freeWatch up.bst) = some 0 ∧ watchMet up 0 0 1 = false ∧
    ({ up with bst := { bandstand0 with msgs := [1] } } : State).bst.msgs = [1] ∧ up.bst.msgs = [] ∧ (bar up 0).armed = false ∧
    (bar (barred0 false) 0).armed = true ∧ chipArmed (barred0 true) = true ∧ chipArmed up = false ∧ (1 : W64).getLsbD 0 = true ∧
    frozen upF 0 = true ∧ portReady upF .cp = true ∧ portReady up .cp = true ∧ watchMet up 0 0 0 = true ∧ wregOk 0 = true ∧
    up.bst.msgs.length < 64 ∧ up.bst.pendOrder = [] ∧ countsZero (withCfg (bar up 0) 1) = true ∧ (1 : W64).getLsbD 1 = false ∧
    countsZero (withCfg (bar (modBar up 0 (fun b => { b with cnt := 1 })) 0) 1) = false ∧ (3 : W64).getLsbD 1 = true ∧ up.bst.role = 0 ∧
    ({ up with bst := { bandstand0 with role := 1 } } : State).bst.role ≠ 0 := by
  decide +kernel

/-- A manager or worker whose CHIP barrier 0 is armed. -/
def chipped (role : BitVec 2) : State := modBar { up with bst := { bandstand0 with role := role } } 0 (fun b => { b with armed := true, chip := true })
/-- Mailbox n of the block in service with this receiver, word and deposits; ring is its RING. -/
def boxed (n : Fin 64) (recv : BitVec 2) (ring : Byte) (w : Option (W64 × Bool)) (deps : List Deposit) : State :=
  modBox up n (fun x => { x with recv := recv, ring := ring, word := w, deps := deps })

theorem test_w_SyncMessages :
    live (chipped 1) = true ∧ up.bst.role = 0 ∧ frozen upF 0 = true ∧ live upF = true ∧ frozen (chipped 1) 0 = false ∧ (chipped 1).bst.role ≠ 0 ∧
      ({ chipped 1 with bst := { (chipped 1).bst with txq := [1] } } : State).bst.txq = [1] ∧
      16 ≤ { up with bst := { bandstand0 with rxq := List.replicate 16 0 } }.bst.rxq.length ∧ up.bst.rxq = [] ∧ up.bst.txWait = [] ∧
      { up with bst := { bandstand0 with txWait := [1] } }.bst.txWait ≠ [] ∧ (1 : W64).extractLsb' 0 4 ≠ 2 ∧ (2 : W64).extractLsb' 0 4 = 2 ∧
      syncOk (chipped 1) 1 = true ∧ (chipped 1).bst.role = 1 ∧ ((1 : W64).extractLsb' 8 6) ∉ (bar (chipped 1) 0).chips ∧
      (chipped 1).bst.chips.toNat ≤ chipCount (bar (chipped 1) 0) + 1 ∧
      (let s := { chipped 1 with bst := { (chipped 1).bst with chips := 2 } }; chipCount (bar s 0) + 1 < s.bst.chips.toNat) ∧
      (chipped 2).bst.role = 2 ∧ syncOk (chipped 2) 2 = true := by decide +kernel

theorem test_w_Mailboxes :
    (box (boxed 5 2 4 none [⟨0, .port .cp, true⟩]) 5).deps = [⟨0, .port .cp, true⟩] ∧ frozen (boxed 5 2 4 none [⟨0, .port .cp, true⟩]) 0 = false ∧
      live (boxed 5 2 4 none [⟨0, .port .cp, true⟩]) = true ∧
      (pairAdd (modBox (boxed 5 2 4 none [⟨0, .port .cp, true⟩]) 5 (fun y => { y with deps := [] })) 0 true 1 none).isSome = true ∧
      pairAdd { up with bst := { bandstand0 with pairs := tset 0 [] 0 0x7FFFFFFF00000000 } } 0 true 1 none = none ∧
      sendOpen upF .cp 5 = false ∧ sendOpen up .cp 5 = true ∧ boxFull up (box up 5) = false ∧ (box up 5).word = none ∧ (box up 5).recv ≠ 2 ∧
      boxFull (boxed 5 0 0 (some (1, false)) []) (box (boxed 5 0 0 (some (1, false)) []) 5) = true ∧ (box up 0).recv = 1 ∧
      boxFull (boxed 5 2 4 none []) (box (boxed 5 2 4 none []) 5) = false ∧ takeOpen upF .cp 5 = false ∧ takeOpen up .cp 5 = true ∧
      (box (boxed 5 0 0 (some (1, false)) []) 5).word = some (1, false) ∧ cfgOpen up (box up 5) = true ∧
      cfgOpen up (box (boxed 5 0 0 (some (1, false)) []) 5) = false := by decide +kernel

/-- The Gatehouse at a stage of its boot. -/
def staged (st : Stage) : State := { up with gh := { up.gh with stage := st } }
/-- The Gatehouse loading a firmware image of 16 bytes from the port, of which these have come. -/
def fwLoading (bs : List Byte) (queue : List Extend) : State :=
  { up with gh := { up.gh with stage := .loading, fwLen := 16, fwGot := bs }, meas := { meas0 with queue := queue } }

/-- An extend of a slot is pending, at a stage of the boot. -/
def extending (slot : Fin 8) (st : Stage) : State :=
  { up with gh := { up.gh with stage := st, fwEnded := true }, meas := { meas0 with queue := [⟨slot, 0⟩] }, fuse := { fuse0 with done := true } }

/-- The block at a stage whose fuse read waits for the word at this address, as a reread or not. -/
def fusing (a : BitVec 10) (reread : Bool) : State :=
  { staged .fuses with fuse := { fuse0 with req := some a, ticks := 1000, reread := reread }, gh := { (staged .fuses).gh with req := some (.fuses 3) } }

theorem test_w_BootReadsFuses :
    up.gh.stage = .reset ∧ (staged .fuses).gh.stage ≠ .reset ∧ live (staged .fuses) = true ∧
      (∀ a ∈ [(0 : BitVec 10), 1023], ∀ b ∈ [true, false], live (fusing a b) = true ∧ (fusing a b).fuse.req = some a ∧ (fusing a b).fuse.reread = b ∧
        1000 ≤ (fusing a b).fuse.ticks ∧ (fusing a b).gh.req = some (.fuses 3)) ∧ up.fuse.ticks < 1000 := by decide +kernel

theorem test_w_FirmwareLoads : fwAll (fwLoading (List.replicate 16 0) []) = true ∧ (fwLoading (List.replicate 16 0) []).gh.fwEnded = false ∧
      (let s := { fwLoading (List.replicate 8 0) [] with gh := { (fwLoading (List.replicate 8 0) []).gh with fwLen := 8 } }
       fwAll s = true ∧ s.gh.fwGot.length < 16) ∧
      fwAll (fwLoading [] []) = false ∧ (fwLoading [] []).gh.src = false ∧
      ({ up with gh := { up.gh with src := true } } : State).gh.src = true ∧
      fwRefused (staged .waitImage) = false ∧ fwRefused up = true ∧ up.pins.testMode = false ∧ (tested false).pins.testMode = true ∧
      portReady (tested false) .mp = true ∧ (fwLoading [] [⟨4, 0⟩]).meas.queue ≠ [] ∧ (fwLoading [] []).meas.queue = [] ∧
      (fwError 16 (bytesOf (0x12345678 : W32) 4)).isSome = true ∧ (fwError 16 []) = none := by decide +kernel

/-- The Gatehouse with a request word in mailbox 0, or serving one. -/
def asked (w : W64) (st : Stage) : State := modBox (staged st) 0 (fun x => { x with word := some (w, false) })
/-- The Gatehouse serving a request. -/
def serving (x : GhReq) : State := { staged .running with gh := { (staged .running).gh with req := some x } }

theorem test_w_GatehouseServesRequests :
    live (asked 4 .waitImage) = true ∧ (asked 4 .waitImage).gh.req = none ∧ (asked 4 .waitImage).gh.asleep = false ∧ (asked 4 .running).gh.stage = .running ∧
      up.meas.queue = [] ∧ (extending 1 .fuses).meas.queue ≠ [] ∧
      ([0, 1, 2, 3, 4, 5].all (fun w => (box (asked w .waitImage) 0).word == some (w, false))) = true ∧
      up.frz.asserted = false ∧ upF.frz.asserted = true ∧ up.fuse.req = none ∧ (fusing 0 false).fuse.req ≠ none ∧
      ({ up with gh := { up.gh with asleep := true } } : State).gh.asleep = true ∧
      (serving (.reply 0 0 0)).gh.req = some (.reply 0 0 0) ∧ replyBox (serving (.reply 0 0 0)) 0 = 1 ∧ (serving (.reply 0 0 0)).gh.asleep = false ∧
      boxFull (serving (.reply 0 0 0)) (box (serving (.reply 0 0 0)) 1) = false ∧ closed (serving (.reply 0 0 0)) 0 = false ∧
      closed upF 0 = true ∧ replyBox (serving (.reply 0x200000 0 0)) 0x200000 = 32 ∧ (box (boxed 5 2 4 none []) 5).recv = 2 ∧
      (box (serving (.reply 0 0 0)) 1).recv ≠ 2 ∧
      boxFull up (box (boxed 1 0 0 (some (1, false)) []) 1) = true ∧ (serving (.signing 0 7 100000)).gh.req = some (.signing 0 7 100000) ∧
      isMgmt .cp = false ∧ (4 : Nat) ≤ (4 : Fin 8).val := by decide +kernel

theorem test_w_SlotsChangeOnlyByExtends : live (extending 1 .fuses) = true ∧ (extending 1 .fuses).meas.queue = [⟨1, 0⟩] ∧
    (extending 0 .loading).meas.queue = [⟨0, 0⟩] ∧ (extending 0 .loading).gh.stage = .loading ∧ (extending 0 .loading).gh.fwEnded = true ∧
    (extending 1 .fuses).gh.stage = .fuses ∧ (extending 1 .fuses).fuse.done = true ∧
    (staged .running).gh.stage = .running ∧ (staged .running).gh.asleep = false ∧ (staged .running).gh.extIrq = false ∧
    up.aon.sundial.toNat < up.gh.mtimecmp.toNat ∧ ({ up with gh := { up.gh with mtimecmp := 0 } } : State).gh.mtimecmp.toNat ≤ up.aon.sundial.toNat ∧
    ({ up with gh := { up.gh with extIrq := true } } : State).gh.extIrq = true := by decide +kernel

/-- Accesses of the core at addresses of each part of R422's map, and outside it. -/
theorem test_w_CoreAccesses :
    (0x10000 : W32).toNat = 0x10000 ∧ (0x2FFFC : W32).toNat + 4 = 0x30000 ∧ (0x3FFFC : W32).toNat + 4 = 0x40000 ∧
    (let t := coreRuns up [⟨0x40008, 2, some 5, false⟩]; t.gh.mtimecmp = 0xFFFFFFFF00000005) ∧
    (let t := coreRuns up [⟨0x10000, 0, none, true⟩]; t.frz.asserted = true) ∧
    (let t := coreRuns up [⟨0x50000, 2, some 5, false⟩]; t.gh.accFault = some 0x50000) ∧
    (let t := coreRuns up [⟨0x50000, 2, none, false⟩]; t.gh.accFault = some 0x50000) := by decide +kernel

/-- A header of a partial Plan of 64 bytes with one section, for region 0, its CRC right. -/
def planHead : List Byte :=
  let b := [(0x4E414C50 : W32), 0x00010000, 0x00020003, 64, 0x00010001, 1, 7].flatMap (fun w => bytesOf w 4)
  b ++ bytesOf (crc32c b) 4
/-- A power section for region 0. -/
def powerSection : List Byte :=
  let b : List Byte := [0x10, 0, 1, 0, 16, 0, 0, 0] ++ [64, 0, 0, 0] ++ List.replicate 12 0
  b ++ bytesOf (crc32c b) 4 ++ [0, 0, 0, 0]
/-- A load from the port that holds these bytes, its header taken or not. -/
def planLoad (bs : List Byte) (head : Bool) : State :=
  { staged .waitImage with pln := { loader0 with st := .loading, buf := bs, taken := if head then 32 else 0,
                                                 hdr := if head then some ⟨64, 1, true, 1, 7⟩ else none, measured := true } }

/-- A load that holds the power section, with this length and count in its header. -/
def planOf (length count : Nat) : State :=
  let s := planLoad powerSection true
  { s with pln := { s.pln with hdr := some ⟨length, count, true, 1, 7⟩ } }

/-- The same, what was taken not yet measured. -/
def unmeasured (s : State) : State := { s with pln := { s.pln with measured := false } }

theorem test_w_PlanLoadRunsToItsEnd :
    startRefused up = true ∧ startRefused (staged .waitImage) = false ∧ up.pln.st ≠ .loading ∧ (planLoad [] false).pln.st = .loading ∧
      planTaken (planLoad [] false) = false ∧ loaderFull (planLoad [] false) = false ∧ loaderFull (planLoad planHead false) = true ∧
      planTaken (planLoad powerSection true) = true ∧ headerDue (planLoad planHead false) = true ∧
      headerReady (unmeasured (planLoad planHead false)) = true ∧ sectionReady (unmeasured (planLoad powerSection true)) = true ∧
      headerError (planLoad planHead false) planHead = none ∧ headerError up (List.replicate 32 0) = some 1 ∧
      sectionDue (planLoad powerSection true) = true ∧ sectionLong (planLoad powerSection true) ⟨64, 1, true, 1, 7⟩ = false ∧
      sectionSpan (availBytes (planLoad powerSection true)) = 32 ∧ sectionError (planLoad powerSection true) ⟨64, 1, true, 1, 7⟩ (sectionOf powerSection) = none ∧
      (sectionError (planLoad powerSection true) ⟨64, 1, true, 1, 7⟩ (sectionOf (powerSection.set 8 0))).isSome = true ∧
      sectionLong (planLoad (powerSection.set 4 24) true) ⟨64, 1, true, 1, 7⟩ = true ∧
      scopeRuns (planLoad powerSection true) ⟨64, 1, true, 1, 7⟩ = true ∧
      scopeRuns { planLoad powerSection true with regions := State.reset.regions } ⟨64, 1, true, 1, 7⟩ = false ∧
      ([(96, 1), (64, 2), (64, 1)].all (fun x => sectionDue (planOf x.1 x.2) && !sectionLong (planOf x.1 x.2) ⟨x.1, x.2, true, 1, 7⟩ &&
        (sectionError (planOf x.1 x.2) ⟨x.1, x.2, true, 1, 7⟩ (sectionOf powerSection)).isNone && (planOf x.1 x.2).pln.taken == 32 &&
        (planOf x.1 x.2).pln.secIdx == 0)) = true ∧
      ({ up with pln := { loader0 with source := true } } : State).pln.source = true ∧ startRefused (staged .waitImage) = false := by decide +kernel

/-- Both directions of the Footbridge with these link states. -/
def linked (a b : LinkState) : State := modDir (modDir up 0 (fun x => { x with st := a })) 1 (fun x => { x with st := b })

/-- A link flit of type ty from group 3, wire 143, spare 7 on the wires of direction d. -/
def linkOn (d : Half) (ty : BitVec 4) : State :=
  modDir (linked .up .up) d (fun x => { x with link := [(0, mkFlit linkTag (linkFlit ty 3 143 7))], retiring := [(3, 143, 7)] })

/-- Direction 0 in the last phase of training, both sides having seen side words with state UP or not. -/
def lastPhase (a b : Bool) (other : LinkState) : State :=
  modDir (modDir (linked (.training 3) other) 0 (fun x => { x with sawUp := a })) 1 (fun x => { x with sawUp := b })

theorem test_w_TrainingAndWireRetirement :
    bothClocks up = true ∧ live up = true ∧ (∀ k : Fin 4, (dir (linked (.training k) .down) 0).st = .training k) ∧
      (dir (lastPhase true true .up) 0).sawUp = true ∧ (dir (lastPhase true true .up) 1).sawUp = true ∧ (dir (lastPhase true true .up) 1).st = .up ∧
      (dir (lastPhase true true .up) 0).replay = [] ∧ (dir (lastPhase true false .up) 1).sawUp = false ∧
      freeSpare (vget (dir up 0).map 0) 5 = some 0 ∧ replaced (vget (dir up 0).map 0) 5 = false ∧ freeSpare 0 5 = none ∧
      linkOpen (linked .up .up) 0 = true ∧ (dir (linkOn 0 1) 0).retiring ≠ [] ∧
      (placeWires up 0 [(0, 5)]).2 = true ∧ (markSpares up 0 [(0, 0)]).2 = [] ∧
      up.fb.winTicks < up.fb.winEff.toNat ∧ ({ up with fb := { up.fb with winTicks := 1000000 } } : State).fb.winEff.toNat ≤ 1000000 := by decide +kernel

theorem test_w_LinkFlitsArrive :
    (∀ ty ∈ [(1 : BitVec 4), 2, 3], let x := mkFlit linkTag (linkFlit ty 3 143 7)
      linkType (flitPayload x) = ty ∧ flitCrcOk (arrives (linkOn 0 ty) 0 0 x 0) = true ∧ flitLink (arrives (linkOn 0 ty) 0 0 x 0) = true ∧
        linkArgs (flitPayload (arrives (linkOn 0 ty) 0 0 x 0)) = (3, 143, 7) ∧ flitCrcOk (arrives (linkOn 0 ty) 0 0 x 1) = false) := by decide +kernel

/-- A READ packet, and the direction 0 about to start it. -/
def queued : State := modDir (linked .up .up) 0 (fun x => { x with txq := vset x.txq 0 [packet0 0] })
/-- Direction 0 with the flit of a READ packet on its wires. -/
def flitting : State :=
  modDir (linked .up .up) 0 (fun x => { x with wire := seqFlits (packet0 0) 0 0 true (payloads (packet0 0)), replay := seqFlits (packet0 0) 0 0 true (payloads (packet0 0)) })

theorem test_w_FlitsAreCarriedInOrderOrReplayed :
    linkOpen queued 0 = true ∧ nextPacket queued 0 0 = some (packet0 0) ∧ nextClass queued 0 = some 0 ∧ nextPacket up 0 0 = none ∧
      nextClass (modDir queued 0 (fun x => { x with sent := vset x.sent 0 (BitVec.ofNat 8 (classSize 0)) })) 0 ≠ some 0 ∧
      ((dir flitting 0).wire.map (fun f => let got := arrives flitting 0 (groupOf f.bits) f.bits 0; (flitCrcOk got, flitLink got, flitSeq got))) =
        [(true, false, (dir flitting 0).rxNext)] ∧
      ((dir flitting 0).wire.map (fun f => flitCrcOk (arrives flitting 0 (groupOf f.bits) f.bits 1))) = [false] ∧
      (dir (modDir flitting 0 (fun x => { x with rxNext := 1 })) 0).rxNext ≠ (dir flitting 0).rxNext ∧ (dir queued 0).wire = [] ∧
      sideOk (sideWord (dir up 1) (shownState .up) 0 ^^^ 0) = true ∧ sideOk (sideWord (dir up 1) (shownState .up) 0 ^^^ 1) = false ∧
      (dir flitting 0).st ≠ .down ∧ (dir flitting 0).st ≠ .training 0 ∧
      (dir flitting 0).replay ≠ [] ∧ (dir flitting 0).replayTimes < up.fb.replayLimit.toNat ∧
      (let s := modDir flitting 0 (fun x => { x with nak := true, replayOf := some 0, replayTimes := 31 })
       (dir s 0).nak = true ∧ (dir s 0).replayOf.isSome = true ∧ s.fb.replayLimit.toNat ≤ (dir s 0).replayTimes) := by decide +kernel

/-- A packet of kind k waits at the far half of direction 0. -/
def received (p : Packet) : State := modDir (linked .up .up) 0 (fun x => { x with rxq := vset x.rxq (kindClass p.kind) [p] })

theorem test_w_PacketKindsActAtTheFarHalf :
    (∀ k : Fin 12, (rxHead (received (packet0 (BitVec.ofNat 4 k.val))) 0 (BitVec.ofNat 4 k.val)).isSome = true) ∧ clocked up (other 0) = true ∧
      rxHead up 0 0 = none ∧ onePiece up (packet0 0) = true ∧
      onePiece { up with map := { map0 with windows := vset map0.windows 0 ⟨0, 0x8000, 0, false, 1, true, 3, 0⟩ } } { packet0 0 with beats := 1 } = false ∧
      (packet0 0xB).events.all (entryFits up 1) = true ∧ entryFits (emitting 0 16) 0 (1 <<< 64) = false ∧
      entryFits up 0 (1 <<< 64) = true := by decide +kernel

/-- A SIGNAL and a CONTROL packet, what they act on, and freeze. -/
theorem test_w_SignalAndControlPackets :
    (let s := upP (fun x => { x with reqs := [{ e0 .sem with stage := .signal }] })
     (findReq s 0 0).map (fun e => e.stage != .answered) = some true ∧ frozen s 0 = false) ∧ frozen upF 0 = true ∧ clocked upF 0 = true ∧
    isWake (.wake 5) = true ∧ isWake (.rillSem 5) = false ∧ frozen upF 1 = true ∧ clocked upF (other 0) = true := by decide +kernel

theorem test_w_PacketRoundTrip : packetOk (packet0 0) = true ∧ packetOk { packet0 1 with data := [5] } = true ∧
    packetOk { packet0 0xB with events := [3] } = true ∧ packetOk (packet0 1) = false := by decide +kernel

theorem test_w_StopFreezeFaultsRestartAndFences :
    portReady upF .mp = true ∧ portReady up .mp = true ∧ isMgmt .mp = true ∧ isMgmt .cp = false ∧ upF.frz.asserted = true ∧ up.frz.asserted = false ∧
      up.frz.stopping = false ∧ drained upF = true ∧ upF.rs.st ≠ .clearing ∧ upF.aon.rail = false ∧
      (∀ p ∈ [RegPort.cp, .mp, .gh], (rport upF p).held = none) ∧
      ({ upF with rs := { restart0 with st := .done } } : State).rs.st = .done ∧
      fenceRefused upF 0 1 = false ∧ fenceRefused up 0 1 = true ∧ bit32 (1 : W32) 0 = true ∧ fenced up 0 0 = false ∧
      ({ up with frz := { freeze0 with east := [1] } } : State).frz.east = [1] ∧ up.flt.firstValid = false ∧
      ({ up with flt := { faults0 with firstValid := true } } : State).flt.firstValid = true ∧
      ({ up with frz := { freeze0 with stopping := true } } : State).frz.stopping = true ∧ quiet up 0 = true ∧ quiet up 1 = true ∧
      quiet (upB (fun b => { b with emits := [1] })) 0 = false ∧
      vget ({ upF with frz := { upF.frz with reached := Vector.replicate 2 false } } : State).frz.reached 0 = false ∧
      ({ upF with rs := { restart0 with st := .clearing } } : State).rs.clearing = 0 ∧ upF.rs.wakeBasin = 0 ∧
      vget upF.rs.train 0 = false ∧ ({ upF with rs := { restart0 with clearing := 1 } } : State).rs.clearing ≠ 0 := by decide +kernel

/-- A dump at a phase, its writes acknowledged. -/
def dumping (p : DumpPhase) (sem : Bool) : State :=
  { up with cnt := { counters0 with dump := some ⟨1, false, 0, 0, 0, p, 0⟩, semEn := sem, dumpDue := true } }

theorem test_w_SamplesDumpsTagsAndCounterWrites :
    (rg up 0).power.st ≠ .off ∧ (rg (upR (fun g => { g with power := power0 })) 0).power.st = .off ∧ sampleDue up.cnt = false ∧
      sampleDue (dumping .closing false).cnt = true ∧ sampleDue { counters0 with dumpDue := true } = true ∧ up.cnt.dump = none ∧
      closed up 0 = false ∧ closed upF 0 = true ∧
      (∀ p ∈ [DumpPhase.headerOut, .bodyOut, .closing], dumpAt (dumping p true) p = some ⟨1, false, 0, 0, 0, p, 0⟩) ∧
      dumpAt (dumping .closing false) .closing = some ⟨1, false, 0, 0, 0, .closing, 0⟩ ∧
      semVal up 0 ≠ BitVec.allOnes 31 ∧ semVal { up with bst := { bandstand0 with sem := tset 0 [] 0 (BitVec.allOnes 31) } } 0 = BitVec.allOnes 31 := by
  decide +kernel

theorem test_w_RegisterAccesses : portTakes State.reset .cp = false ∧ portReady up .cp = true ∧ portReady up .mp = true ∧
    (let s := modRport up .cp (fun x => { x with held := some .deposit })
     portTakes s .cp = true ∧ (rport s .cp).held.isSome = true ∧ portTakes (modRport s .cp (fun x => { x with queue := List.replicate 3 ⟨0, false, none, none⟩ })) .cp = false) ∧
    (2 : BitVec 20).toNat % 4 ≠ 0 ∧
    (4 : BitVec 20).toNat % 8 ≠ 0 ∧ regHalf 0x70000 = none ∧ (0x8020C : BitVec 20).toNat = 0x8020C + 0x10000 * (0 : Region).val ∧
    (0xF020C : BitVec 20).toNat = 0x8020C + 0x10000 * (7 : Region).val ∧ overLink 0x02000 = true ∧ overLink 0xC0000 = true ∧
    overLink 0x80000 = false ∧ overLink 0x10000 = false ∧ overLink 0x30000 = true := by decide +kernel

end Sys2Proof.Tests
end

section
/-! PROOF. How a command ends, and what answers of a register port leave unchanged. -/

namespace Sys2Proof.Machine

/-! ## The end of a command -/

/-- A command without a count for Rill ends in the clock handshake and the next free value. -/
theorem finish_eq_after (s : State) : finish s = .next (after s) := rfl

/-- A command that may change a count ends so too, once messages and Rill have followed it. -/
theorem finishSync_eq_afterSync (s : State) : finishSync s = .next (afterSync s) := rfl

theorem after_store (s : State) : store (after s) = store s := by rw [after, settle_store, step1_store]

theorem afterSync_store (s : State) : store (afterSync s) = store s := by
  rw [afterSync, after_store, rillPoll_store, drainPending_store]

theorem kept_after {s u : State} (h : store u = store s) : kept s (after u) :=
  kept_of_store ((after_store u).trans h)

theorem kept_afterSync {s u : State} (h : store u = store s) : kept s (afterSync u) :=
  kept_of_store ((afterSync_store u).trans h)

@[simp] theorem after_regions (s : State) : (after s).regions = s.regions := by simp [after]
@[simp] theorem after_cnt (s : State) : (after s).cnt = s.cnt := by simp [after]
@[simp] theorem after_rill (s : State) : (after s).rill = s.rill := by simp [after]
@[simp] theorem after_bst (s : State) : (after s).bst = s.bst := by simp [after]
@[simp] theorem after_lod (s : State) : (after s).lod = s.lod := by simp [after]
@[simp] theorem after_mp (s : State) : (after s).mp = s.mp := by simp [after]

/-! ## Answers of a register port -/

@[simp] theorem ack_pwr (s : State) (p : RegPort) : (ack s p).pwr = s.pwr := by simp [ack, reply]
@[simp] theorem ack_regions (s : State) (p : RegPort) : (ack s p).regions = s.regions := by simp [ack, reply]
@[simp] theorem ack_rill (s : State) (p : RegPort) : (ack s p).rill = s.rill := by simp [ack, reply]
@[simp] theorem ack_bst (s : State) (p : RegPort) : (ack s p).bst = s.bst := by simp [ack, reply]

/-! ## Writes of registers that only the management port writes (R24) -/

theorem mgmtWrite_of_mgmt {s : State} {port : RegPort} (f : State → State) (hp : portReady s port = true) (hm : isMgmt port = true) :
    mgmtWrite s port f = .next (after (f (ack s port))) := by
  simp [mgmtWrite, hp, hm, finish_eq_after]

theorem mgmtWrite_of_cp {s : State} {port : RegPort} (f : State → State) (hp : portReady s port = true) (hm : isMgmt port = false) :
    mgmtWrite s port f = .next (after (busErr s port)) := by
  simp [mgmtWrite, hp, hm, finish_eq_after]

end Sys2Proof.Machine
end

section
/-! PROOF. The byte stores after reset, and the power registers. -/

namespace Sys2Proof.Machine

/-- Settles O4: neither byte store lists a byte. -/
theorem byteStoresCanonicalAfterReset : Obligations.ByteStoresCanonicalAfterReset := by
  unfold Obligations.ByteStoresCanonicalAfterReset
  rfl

/-! ## The arms of the power commands -/

theorem exec_pwrWakeReq (port req hold s) : exec (.pwrWakeReq port req hold) s = execPwrWakeReq port req hold s := rfl
theorem exec_pwrWakeHold (port hold req s) : exec (.pwrWakeHold port hold req) s = execPwrWakeHold port hold req s := rfl
theorem exec_pwrFclkWrite (port h d s) : exec (.pwrFclkWrite port h d) s = execPwrFclkWrite port h d s := rfl
theorem exec_policyWrite (port r which d s) : exec (.policyWrite port r which d) s = execPolicyWrite port r which d s := rfl

/-! ## Power registers (R408, R415, R417, R421) -/

/-- A write of PWR_WAKE behind its acknowledgement. -/
theorem writeWake_ack (s : State) (port : RegPort) (req hold : Byte) :
    writeWake (ack s port) req hold = wakeAll { ack s port with pwr := { s.pwr with hold := hold } } (req ||| hold) := by
  simp [writeWake]

theorem pwrFclkWrite_of_good {s : State} {port : RegPort} {h : Half} {d : W32} (hp : portReady s port = true) (hm : isMgmt port = true)
    (hok : vget s.pins.fclkOk h = false) (lo : 250 ≤ (d.extractLsb' 0 10).toNat) (hi : (d.extractLsb' 0 10).toNat ≤ 1000) :
    execPwrFclkWrite port h d s =
      .next (after (ack { s with pwr := { s.pwr with mhz := vset s.pwr.mhz h (d.extractLsb' 0 10) } } port)) := by
  simp only [execPwrFclkWrite, hp, hm, hok, lo, hi, finish_eq_after]
  rfl

theorem pwrFclkWrite_of_bad {s : State} {port : RegPort} {h : Half} {d : W32} (hp : portReady s port = true) (hm : isMgmt port = true)
    (hok : vget s.pins.fclkOk h = false) (hv : (d.extractLsb' 0 10).toNat < 250 ∨ 1000 < (d.extractLsb' 0 10).toNat) :
    execPwrFclkWrite port h d s = .next (after (ack s port)) := by
  have bad : (decide (250 ≤ (d.extractLsb' 0 10).toNat) && decide ((d.extractLsb' 0 10).toNat ≤ 1000)) = false := by
    rw [Bool.and_eq_false_iff, decide_eq_false_iff_not, decide_eq_false_iff_not]; omega
  simp only [execPwrFclkWrite, hp, hm, hok, bad, finish_eq_after]
  rfl

theorem pwrFclkWrite_refused {s : State} {port : RegPort} {h : Half} {d : W32} (hp : portReady s port = true)
    (hr : isMgmt port = false ∨ vget s.pins.fclkOk h = true) : execPwrFclkWrite port h d s = .next (after (busErr s port)) := by
  rcases hr with hr | hr <;> simp [execPwrFclkWrite, hp, hr, finish_eq_after]

/-- A write of policy register `which` of region r (R15, R80, R421): the reserved values of IDLE_AFTER keep the old one. -/
theorem policyWrite_of_mgmt {s : State} {port : RegPort} {r : Region} {which : Fin 4} {d : W32} (hp : portReady s port = true)
    (hm : isMgmt port = true) :
    execPolicyWrite port r which d s = .next (after (applyPolicy (modPw (ack s port) r (fun p =>
      if which = 0 then (if d.extractLsb' 0 16 = 0 ∨ 16 ≤ (d.extractLsb' 0 16).toNat then { p with idleAfter := d.extractLsb' 0 16 } else p)
      else if which = 1 then { p with retainAfter := d }
      else if which = 2 then { p with offAfter := d }
      else { p with deepest := d.extractLsb' 0 2, rank := d.extractLsb' 4 3 })) r)) := by
  rw [execPolicyWrite, mgmtWrite_of_mgmt _ hp hm]
  simp only [withPolicy]

/-- Settles O15: one case for each register and each side of R24. -/
theorem powerRegisterWrites : Obligations.PowerRegisterWrites := by
  unfold Obligations.PowerRegisterWrites
  intro s port req hold h d r which hp
  simp only [exec_pwrWakeReq, exec_pwrWakeHold, exec_pwrFclkWrite, exec_policyWrite]
  refine ⟨fun hm => ⟨?wake, ?hold, fun hok => ⟨fun lo hi => pwrFclkWrite_of_good hp hm hok lo hi, fun hv => pwrFclkWrite_of_bad hp hm hok hv⟩,
    fun hok => pwrFclkWrite_refused hp (.inr hok), policyWrite_of_mgmt hp hm⟩,
    fun hm => ⟨mgmtWrite_of_cp _ hp hm, mgmtWrite_of_cp _ hp hm, pwrFclkWrite_refused hp (.inl hm), mgmtWrite_of_cp _ hp hm⟩⟩
  case wake => exact (mgmtWrite_of_mgmt _ hp hm).trans (by rw [writeWake_ack])
  case hold => exact (mgmtWrite_of_mgmt _ hp hm).trans (by rw [writeWake_ack])

end Sys2Proof.Machine
end

section
/-! PROOF. Reads and writes of one beat at the cell (R11, R118, R133). -/

namespace Sys2Proof.Machine

/-- Byte i of the word of a list of bytes is the list's entry i (R11). -/
theorem wordOf_byte {w : Nat} (bs : List Byte) (i : Nat) (hi : i < bs.length) (hw : 8 * i + 8 ≤ w) :
    (wordOf w bs).extractLsb' (8 * i) 8 = bs[i] := by
  induction bs generalizing i with
  | nil => cases hi
  | cons b bs ih =>
    have shift : wordOf w (b :: bs) = (wordOf w bs <<< 8) ||| b.setWidth w := rfl
    cases i with
    | zero =>
      ext k hk
      simp [shift, hk]
      omega
    | succ i =>
      rw [List.getElem_cons_succ, ← ih i (by simpa using hi) (by omega), shift]
      ext k hk
      have high : ¬ 8 * (i + 1) + k < 8 := by omega
      have same : 8 * (i + 1) + k - 8 = 8 * i + k := by omega
      have above : b.getLsbD (8 * (i + 1) + k) = false := BitVec.getLsbD_of_ge _ _ (by omega)
      have in_word : 8 * (i + 1) + k < w := by omega
      simp only [BitVec.getElem_extractLsb', BitVec.getLsbD_or, BitVec.getLsbD_shiftLeft, BitVec.getLsbD_setWidth, in_word, high, same, above,
        decide_true, decide_false, Bool.not_false, Bool.true_and, Bool.and_false, Bool.or_false]

theorem readBytes_length (s : State) (r : Region) (b : Blk) (cell : Fin 8) (row : BitVec 10) : (readBytes s r b cell row).length = 64 :=
  tgets_length 0 s.mem 64 _

theorem readBytes_getElem (s : State) (r : Region) (b : Blk) (cell : Fin 8) (row : BitVec 10) (i : Nat)
    (hi : i < (readBytes s r b cell row).length) : (readBytes s r b cell row)[i] = memByte s (rowAddr r b cell row + i) :=
  tgets_getElem 0 s.mem 64 _ i hi

/-- Byte i of the beat that the cell returns is the stored byte i (R11, R118). -/
theorem readBeat_byte (s : State) (r : Region) (b : Blk) (cell : Fin 8) (row : BitVec 10) (i : Nat) (hi : i < 64) :
    (readBeat s r b cell row).extractLsb' (8 * i) 8 = memByte s (rowAddr r b cell row + i) := by
  have hl : i < (readBytes s r b cell row).length := by rw [readBytes_length]; exact hi
  rw [readBeat, wordOf_byte _ i hl (by omega), readBytes_getElem]

theorem mergeBytes_length (old : List Byte) (data : Beat) (strb : BitVec 64) : (mergeBytes old data strb).length = old.length := by
  simp [mergeBytes]

/-- A byte of the data space after a write of one beat (R133, R412). -/
theorem memByte_writeBeat (s : State) (r : Region) (b : Blk) (cell : Fin 8) (row : BitVec 10) (data : Beat) (strb : BitVec 64)
    (hw : canWrite s = true) (a : Nat) :
    memByte (writeBeat s r b cell row data strb) a =
      if rowAddr r b cell row ≤ a ∧ a < rowAddr r b cell row + 64 ∧ strb.getLsbD (a - rowAddr r b cell row) then
        data.extractLsb' (8 * (a - rowAddr r b cell row)) 8
      else memByte s a := by
  simp only [writeBeat, hw, memByte, tget_tputs, mergeBytes_length, readBytes_length, if_true]
  by_cases hin : rowAddr r b cell row ≤ a ∧ a < rowAddr r b cell row + 64
  · obtain ⟨lo, hi⟩ := hin
    have back : rowAddr r b cell row + (a - rowAddr r b cell row) = a := by omega
    simp [lo, hi, mergeBytes, readBytes_getElem, back, memByte]
  · rw [dif_neg hin, if_neg (fun h => hin ⟨h.1, h.2.1⟩)]

/-- A write after a RAIL fault stores nothing (R412). -/
theorem writeBeat_of_rail (s : State) (r : Region) (b : Blk) (cell : Fin 8) (row : BitVec 10) (data : Beat) (strb : BitVec 64)
    (hw : canWrite s = false) : writeBeat s r b cell row data strb = s := by simp [writeBeat, hw]

theorem writeBeat_onlyRow (s : State) (r : Region) (b : Blk) (cell : Fin 8) (row : BitVec 10) (data : Beat) (strb : BitVec 64) :
    onlyRow s (writeBeat s r b cell row data strb) r b cell row := by
  by_cases hw : canWrite s = true
  · refine ⟨fun a ha => ?_, ?_⟩
    · rw [memByte_writeBeat s r b cell row data strb hw, if_neg (by omega)]
    · simp [writeBeat, hw]
  · rw [writeBeat_of_rail s r b cell row data strb (by simpa using hw)]
    exact ⟨fun _ _ => rfl, rfl, rfl, rfl⟩

/-- Settles O28: the two operations are readBeat and writeBeat. -/
theorem readsAndWritesAtTheCell : Obligations.ReadsAndWritesAtTheCell := by
  unfold Obligations.ReadsAndWritesAtTheCell
  intro s r b q
  refine ⟨rfl, fun i hi => readBeat_byte s r b q.cell q.row i hi, writeBeat_onlyRow s r b q.cell q.row q.data q.strb,
    fun hw => writeBeat_of_rail s r b q.cell q.row q.data q.strb hw, fun hw i hi => ?_⟩
  have written := memByte_writeBeat s r b q.cell q.row q.data q.strb hw (rowAddr r b q.cell q.row + i)
  simpa [cellAccess, hi] using written

end Sys2Proof.Machine
end

section
/-! PROOF. What the poll of Rill's admission requests and the waiting messages leave as they were (R261, R297, R300). -/

namespace Sys2Proof.Machine

/-! ## Answers leave the Bandstand -/

theorem modReq_bst (s : State) (p : EPort) (q : Nat) (f : EReq → EReq) : (modReq s p q f).bst = s.bst := rfl

theorem retireWrite_bst (s : State) (p : EPort) (seq : Nat) : (retireWrite s p seq).bst = s.bst := by
  unfold retireWrite
  dsimp only
  split_ifs <;> rfl

theorem closeReq_bst (s : State) (p : EPort) (e : EReq) : (closeReq s p e).bst = s.bst := by
  unfold closeReq
  dsimp only
  split
  · rw [retireWrite_bst, modReq_bst]
  · rfl

theorem tagRequest_bst (s : State) (p : EPort) (e : EReq) (ended : Bool) : (tagRequest s p e ended).bst = s.bst := by
  unfold tagRequest putTag
  dsimp only
  split_ifs <;> rfl

theorem tagError_bst (s : State) (p : EPort) (seq : Nat) (code : BitVec 3) : (tagError s p seq code).bst = s.bst := by
  unfold tagError
  split
  · rfl
  · split
    · rfl
    · rw [modReq_bst, tagRequest_bst]

theorem unhold_bst (s : State) (p : EPort) (e : EReq) : (unhold s p e).bst = s.bst := by
  unfold unhold
  split <;> rfl

theorem answerAll_bst (s : State) (p : EPort) (seq : Nat) (code : BitVec 3) : (answerAll s p seq code).bst = s.bst := by
  unfold answerAll
  split
  · rfl
  · split
    · rfl
    · rw [closeReq_bst, tagError_bst, modReq_bst, unhold_bst]

/-- An answer to a signal changes nothing at the Bandstand. -/
theorem answerSignal_bst (s : State) (p : EPort) (seq : Nat) (code : BitVec 3) : (answerSignal s p seq code).bst = s.bst := by
  unfold answerSignal
  split
  · exact answerAll_bst s p seq code
  · rfl

/-! ## Streams after an update -/

/-- The status of each stream head after one of them changes. -/
theorem stream_modStream (s : State) (c n : BitVec 12) (f : StreamSt → StreamSt) :
    stream (modStream s c f) n = if n = c then f (stream s c) else stream s n := by
  simp [stream, tget_tset, BitVec.toNat_inj]

@[simp] theorem stream_modStream_same (s : State) (c : BitVec 12) (f : StreamSt → StreamSt) :
    stream (modStream s c f) c = f (stream s c) := by simp [stream_modStream]

@[simp] theorem stream_modRp (s : State) (k : RPort) (f : RillPort → RillPort) (n : BitVec 12) : stream (modRp s k f) n = stream s n := rfl

/-- Each Rill port after one of them changes. -/
theorem rp_modRp (s : State) (k j : RPort) (f : RillPort → RillPort) : rp (modRp s k f) j = if k = j then f (rp s j) else rp s j := by
  simp [rp, vget_vmod]

/-! ## The poll -/

/-- What no poll and no waiting message changes: the regions, the context slots, the tiles of both ports, what a stream's state and
abort say, the barriers and the pairs. -/
structure PollKeeps (s t : State) : Prop where
  regions : t.regions = s.regions
  slots : t.rill.slots = s.rill.slots
  tiles : ∀ k, (rp t k).tiles = (rp s k).tiles
  st : ∀ n, (stream t n).st = (stream s n).st
  aborting : ∀ n, (stream t n).aborting = (stream s n).aborting
  bars : t.bst.bars = s.bst.bars
  pairs : t.bst.pairs = s.bst.pairs

theorem PollKeeps.refl (s : State) : PollKeeps s s := ⟨rfl, rfl, fun _ => rfl, fun _ => rfl, fun _ => rfl, rfl, rfl⟩

theorem PollKeeps.trans {s t u : State} (h : PollKeeps s t) (g : PollKeeps t u) : PollKeeps s u where
  regions := g.regions.trans h.regions
  slots := g.slots.trans h.slots
  tiles k := (g.tiles k).trans (h.tiles k)
  st n := (g.st n).trans (h.st n)
  aborting n := (g.aborting n).trans (h.aborting n)
  bars := g.bars.trans h.bars
  pairs := g.pairs.trans h.pairs

/-- A change outside the named parts. -/
theorem PollKeeps.of_parts {s t : State} (hr : t.regions = s.regions) (hl : t.rill = s.rill) (hb : t.bst.bars = s.bst.bars)
    (hp : t.bst.pairs = s.bst.pairs) : PollKeeps s t :=
  ⟨hr, by rw [hl], fun k => by rw [rp, rp, hl], fun n => by rw [stream, stream, hl], fun n => by rw [stream, stream, hl], hb, hp⟩

theorem PollKeeps.foldl {α : Type} (f : State → α → State) (h : ∀ s a, PollKeeps s (f s a)) (l : List α) (s : State) :
    PollKeeps s (l.foldl f s) := by
  induction l generalizing s with
  | nil => exact .refl s
  | cons a l ih => exact (h s a).trans (ih (f s a))

/-- A stream's bookkeeping of its request may change. -/
theorem modStream_pollKeeps (s : State) (c : BitVec 12) (f : StreamSt → StreamSt) (hst : ∀ x, (f x).st = x.st)
    (hab : ∀ x, (f x).aborting = x.aborting) : PollKeeps s (modStream s c f) where
  regions := rfl
  slots := rfl
  tiles _ := rfl
  st n := by
    rw [stream_modStream]
    split
    · rw [hst, ‹n = c›]
    · rfl
  aborting n := by
    rw [stream_modStream]
    split
    · rw [hab, ‹n = c›]
    · rfl
  bars := rfl
  pairs := rfl

/-- A port's admission queue may change. -/
theorem modRp_pollKeeps (s : State) (k : RPort) (f : RillPort → RillPort) (ht : ∀ p, (f p).tiles = p.tiles) : PollKeeps s (modRp s k f) where
  regions := rfl
  slots := rfl
  tiles j := by rw [rp_modRp]; split <;> simp [ht]
  st _ := rfl
  aborting _ := rfl
  bars := rfl
  pairs := rfl

theorem regWatch_pollKeeps {s t : State} {o : WOwner} {kind : BitVec 3} {target : BitVec 12} {n : W32} {sync : Bool}
    (h : regWatch s o kind target n sync = some t) : PollKeeps s t := by
  unfold regWatch at h
  split at h
  · cases h
  · cases h; exact .of_parts rfl rfl rfl rfl

theorem pollStream_pollKeeps (s : State) (c : BitVec 12) : PollKeeps s (pollStream s c) := by
  have ask : ∀ met, PollKeeps s (modStream (modRp s (streamPort s c) (fun p => { p with queue := p.queue ++ [c] })) c
      (fun x => { x with asked := true, depMet := met, depAsked := false })) := fun met =>
    (modRp_pollKeeps s _ (fun p => { p with queue := p.queue ++ [c] }) (fun _ => rfl)).trans
      (modStream_pollKeeps _ _ _ (fun _ => rfl) (fun _ => rfl))
  have noted : ∀ t, PollKeeps s t → PollKeeps s (modStream t c (fun x => { x with depAsked := true })) := fun t h =>
    h.trans (modStream_pollKeeps _ _ _ (fun _ => rfl) (fun _ => rfl))
  unfold pollStream
  dsimp only
  split
  · exact .refl s
  · split
    · exact .refl s
    · split
      · exact .refl s
      · split
        · exact ask false
        · split
          · exact ask true
          · split
            · split
              · exact .refl s
              · exact noted _ (.of_parts rfl rfl rfl rfl)
            · split
              · exact ask true
              · split
                · exact .refl s
                · split
                  · exact noted _ (regWatch_pollKeeps ‹_›)
                  · exact .of_parts rfl rfl rfl rfl

theorem rillPoll_pollKeeps (s : State) : PollKeeps s (rillPoll s) := .foldl _ (fun s c => pollStream_pollKeeps s (BitVec.ofNat 12 c)) _ s

theorem drainPending_pollKeeps (s : State) : PollKeeps s (drainPending s) := by
  unfold drainPending
  repeat' split
  all_goals exact .of_parts rfl rfl rfl rfl

theorem after_pollKeeps (s : State) : PollKeeps s (after s) :=
  .of_parts (after_regions s) (after_rill s) (by rw [after_bst]) (by rw [after_bst])

theorem ack_pollKeeps (s : State) (p : RegPort) : PollKeeps s (ack s p) :=
  .of_parts (ack_regions s p) (ack_rill s p) (by rw [ack_bst]) (by rw [ack_bst])

/-- The end of a command that may change a count keeps these parts. -/
theorem afterSync_pollKeeps (s : State) : PollKeeps s (afterSync s) :=
  ((drainPending_pollKeeps s).trans (rillPoll_pollKeeps _)).trans (after_pollKeeps _)

end Sys2Proof.Machine
end

section
/-! PROOF. Watches, control messages, pairs, barriers and the role (R299-R326). -/

namespace Sys2Proof.Machine

/-! ## The arms of the Bandstand's commands -/

theorem exec_watchTimeout (i s) : exec (.watchTimeout i) s = execWatchTimeout i s := rfl
theorem exec_watchRegister (port d s) : exec (.watchRegister port d) s = execWatchRegister port d s := rfl
theorem exec_watchCancel (port ck s) : exec (.watchCancel port ck) s = execWatchCancel port ck s := rfl
theorem exec_controlMessageTake (port s) : exec (.controlMessageTake port) s = execControlMessageTake port s := rfl
theorem exec_pairWrite (port n d s) : exec (.pairWrite port n d) s = execPairWrite port n d s := rfl
theorem exec_barrierConfigWrite (port b reg d s) : exec (.barrierConfigWrite port b reg d) s = execBarrierConfigWrite port b reg d s := rfl
theorem exec_roleWrite (port m s) : exec (.roleWrite port m) s = execRoleWrite port m s := rfl

/-! ## The holding register of a port (R46) -/

@[simp] theorem wideWrite_bst (s : State) (p : RegPort) (d : W64) : (wideWrite s p d).bst = s.bst := by
  unfold wideWrite; split <;> simp

@[simp] theorem wideRead_bst (s : State) (p : RegPort) : (wideRead s p).bst = s.bst := by
  unfold wideRead; split <;> simp

@[simp] theorem frozen_wideWrite (s : State) (p : RegPort) (d : W64) (h : Half) : frozen (wideWrite s p d) h = frozen s h := by
  unfold wideWrite; split <;> simp [frozen]

/-! ## Watches -/

/-- The condition of a watch depends on the Bandstand alone. -/
theorem watchVal_of_bst {s t : State} (h : t.bst = s.bst) (kind : BitVec 3) (target : BitVec 12) :
    watchVal t kind target = watchVal s kind target := by
  simp only [watchVal, semVal, pairVal, bar, h]

theorem watchMet_of_bst {s t : State} (h : t.bst = s.bst) (kind : BitVec 3) (target : BitVec 12) (n : W32) :
    watchMet t kind target n = watchMet s kind target n := by
  simp only [watchMet, watchVal_of_bst h]

/-- The watch that was added is the one of its number. -/
theorem find_addWatch (l : List Watch) (y : Watch) : (addWatch l y).find? (fun x => x.w == y.w) = some y := by
  have before : (l.filter (fun x => decide (x.w.toNat < y.w.toNat))).find? (fun x => x.w == y.w) = none := by
    rw [List.find?_eq_none]
    intro x hx he
    have hlt : x.w.toNat < y.w.toNat := by simpa using (List.mem_filter.mp hx).2
    rw [eq_of_beq he] at hlt
    exact absurd hlt (lt_irrefl _)
  simp [addWatch, before]

/-- Registration with a free number (R298, R299). -/
theorem regWatch_of_free {s : State} {j : BitVec 10} (hj : freeWatch s.bst = some j) (o : WOwner) (kind : BitVec 3) (target : BitVec 12)
    (n : W32) (sync : Bool) : regWatch s o kind target n sync =
      some { s with bst := { s.bst with watches := addWatch s.bst.watches ⟨j, o, kind, target, n, 0, s.bst.wtmo, none, sync⟩ } } := by
  unfold regWatch
  split
  · rename_i hn; rw [hj] at hn; cases hn
  · rename_i i hi; rw [hj] at hi; cases hi; rfl

theorem regWatch_of_full {s : State} (hj : freeWatch s.bst = none) (o : WOwner) (kind : BitVec 3) (target : BitVec 12) (n : W32)
    (sync : Bool) : regWatch s o kind target n sync = none := by
  unfold regWatch
  split
  · rfl
  · rename_i i hi; rw [hj] at hi; cases hi

/-- A message that finds a place enters the queue last, and its watch is free (R299). -/
theorem queueMsg_of_room {s : State} {l : List W64} (hl : s.bst.msgs = l) (hroom : l.length < 64) (hnone : s.bst.pendOrder = [])
    (y : Watch) (m : W64) :
    (queueMsg s y m).bst.msgs = l ++ [m] ∧ ∀ z ∈ (queueMsg s y m).bst.watches, z.w ≠ y.w := by
  subst hl
  simp [queueMsg, hroom, hnone, dropWatch]

theorem watchTimeout_early {s : State} {i : BitVec 10} {x : Watch} (hl : live s = true) (hf : frozen s 0 = false)
    (hx : s.bst.watches.find? (fun x => x.w == i && x.pending.isNone) = some x) (he : x.timeout = 0 ∨ x.ticks < x.timeout.toNat) :
    execWatchTimeout i s = .next s := by
  simp only [execWatchTimeout, hl, hf, hx, if_pos he, skip, Bool.not_true, Bool.or_false, Bool.false_eq_true, if_false]

/-- What the timeout of watch x, number i, leaves, by its owner (R301): an engine's watch ends refused, a control watch gives its
message, a Rill watch counts from 0 again. -/
def timedOut (s : State) (i : BitVec 10) (x : Watch) : State :=
  let s1 := { s with bst := { s.bst with timeout := true } }
  match x.owner with
  | .engine p q => answerSignal (dropWatch s1 i) p q refusedC
  | .control c => queueMsg s1 x (msgWord c x.target x.kind 0 true)
  | .rill _ => { s with bst := { s.bst with
      timeout := true, watches := s.bst.watches.map (fun y => if y.w = i then { y with ticks := 0 } else y) } }

theorem watchTimeout_due {s : State} {i : BitVec 10} {x : Watch} (hl : live s = true) (hf : frozen s 0 = false)
    (hx : s.bst.watches.find? (fun x => x.w == i && x.pending.isNone) = some x) (h0 : x.timeout ≠ 0) (ht : x.timeout.toNat ≤ x.ticks) :
    execWatchTimeout i s = .next (afterSync (timedOut s i x)) := by
  have late : ¬ (x.timeout = 0 ∨ x.ticks < x.timeout.toNat) := by
    rintro (h | h)
    · exact h0 h
    · omega
  simp only [execWatchTimeout, hl, hf, hx, late, finishSync_eq_afterSync, Bool.not_true, Bool.or_false, Bool.false_eq_true, if_false]
  unfold timedOut
  cases x.owner <;> rfl

theorem watchRegister_refused {s : State} {port : RegPort} {d : W64} (hp : portReady s port = true)
    (hr : frozen s 0 = true ∨ wregOk d = false) : execWatchRegister port d s = .next (after (busErr (wideWrite s port d) port)) := by
  rcases hr with hr | hr <;> simp [execWatchRegister, hp, hr, finish_eq_after]

theorem watchRegister_full {s : State} {port : RegPort} {d : W64} (hp : portReady s port = true) (hf : frozen s 0 = false)
    (hd : wregOk d = true) (hj : freeWatch s.bst = none) :
    execWatchRegister port d s = .next (after (busErr
      { wideWrite s port d with bst := { (wideWrite s port d).bst with watchFull := true } } port)) := by
  have full := fun o kind target n sync => regWatch_of_full (s := wideWrite s port d) (by rw [wideWrite_bst, hj]) o kind target n sync
  simp [execWatchRegister, hp, hf, hd, full, finish_eq_after]

/-- The watch that a write of BST_WREG asks for (R319). -/
def wregWatch (s : State) (d : W64) (j : BitVec 10) : Watch :=
  ⟨j, .control (d.extractLsb' 48 16), d.extractLsb' 12 3, d.extractLsb' 0 12, d.extractLsb' 16 32, 0, s.bst.wtmo, none, false⟩

/-- The state with that watch registered. -/
def wregState (s : State) (port : RegPort) (d : W64) (j : BitVec 10) : State :=
  { wideWrite s port d with bst := { (wideWrite s port d).bst with
      watches := addWatch (wideWrite s port d).bst.watches (wregWatch s d j) } }

theorem wregState_msgs (s : State) (port : RegPort) (d : W64) (j : BitVec 10) : (wregState s port d j).bst.msgs = s.bst.msgs := by
  simp only [wregState, wideWrite_bst]

theorem wregState_pendOrder (s : State) (port : RegPort) (d : W64) (j : BitVec 10) :
    (wregState s port d j).bst.pendOrder = s.bst.pendOrder := by simp only [wregState, wideWrite_bst]

/-- A registration that finds a free watch gives its message at once where it is met already (R299). -/
theorem watchRegister_free {s : State} {port : RegPort} {d : W64} {j : BitVec 10} (hp : portReady s port = true)
    (hf : frozen s 0 = false) (hd : wregOk d = true) (hj : freeWatch s.bst = some j) :
    execWatchRegister port d s = .next (afterSync (ack
      (if watchMet s (d.extractLsb' 12 3) (d.extractLsb' 0 12) (d.extractLsb' 16 32) then
        queueMsg (wregState s port d j) (wregWatch s d j) (msgWord (d.extractLsb' 48 16) (d.extractLsb' 0 12) (d.extractLsb' 12 3)
          ((watchVal s (d.extractLsb' 12 3) (d.extractLsb' 0 12)).setWidth 31) false)
       else wregState s port d j) port)) := by
  have free : freeWatch (wideWrite s port d).bst = some j := by rw [wideWrite_bst, hj]
  have found : (wregState s port d j).bst.watches.find? (fun x => x.w == j) = some (wregWatch s d j) :=
    find_addWatch _ (wregWatch s d j)
  have reg : regWatch (wideWrite s port d) (.control (d.extractLsb' 48 16)) (d.extractLsb' 12 3) (d.extractLsb' 0 12)
      (d.extractLsb' 16 32) false = some (wregState s port d j) := by
    rw [regWatch_of_free free, wideWrite_bst]; simp only [wregState, wregWatch, wideWrite_bst]
  have met : meetWatch (wregState s port d j) (wregWatch s d j) = queueMsg (wregState s port d j) (wregWatch s d j)
      (msgWord (d.extractLsb' 48 16) (d.extractLsb' 0 12) (d.extractLsb' 12 3)
        ((watchVal s (d.extractLsb' 12 3) (d.extractLsb' 0 12)).setWidth 31) false) := by
    have same : watchVal (wregState s port d j) = watchVal s := by
      funext kind target
      simp only [watchVal, semVal, pairVal, bar, wregState, wideWrite_bst]
    simp only [meetWatch, wregWatch, same]
  simp only [execWatchRegister, hp, hf, hd, reg, free, found, met, watchMet_of_bst (wideWrite_bst s port d),
    finishSync_eq_afterSync, Bool.not_true, Bool.or_false, Bool.false_eq_true, if_false]

theorem watchCancel_refused {s : State} {port : RegPort} {ck : BitVec 16} (hp : portReady s port = true) (hf : frozen s 0 = true) :
    execWatchCancel port ck s = .next (after (busErr s port)) := by simp [execWatchCancel, hp, hf, finish_eq_after]

theorem watchCancel_frees {s : State} {port : RegPort} {ck : BitVec 16} (hp : portReady s port = true) (hf : frozen s 0 = false) :
    execWatchCancel port ck s = .next (afterSync (ack { s with bst := { s.bst with
      watches := s.bst.watches.filter (fun x => !(x.owner == .control ck && x.pending.isNone)) } } port)) := by
  simp [execWatchCancel, hp, hf, finishSync_eq_afterSync]

/-! ## Control messages (R300, R320) -/

theorem controlMessageTake_oldest {s : State} {port : RegPort} {w : W64} {ws : List W64} (hp : portReady s port = true)
    (hm : s.bst.msgs = w :: ws) : execControlMessageTake port s =
      .next (afterSync (reply { wideRead s port with bst := { s.bst with msgs := ws } } port w)) := by
  simp [execControlMessageTake, hp, hm, finishSync_eq_afterSync]

theorem controlMessageTake_empty {s : State} {port : RegPort} (hp : portReady s port = true) (hm : s.bst.msgs = []) :
    execControlMessageTake port s = .next (after (reply (wideRead s port) port 0)) := by
  simp [execControlMessageTake, hp, hm, finish_eq_after]

/-! ## Pairs (R322) -/

theorem queueMsg_pairs (s : State) (w : Watch) (m : W64) : (queueMsg s w m).bst.pairs = s.bst.pairs := by
  unfold queueMsg; split <;> rfl

theorem tellRill_bst (s : State) (c : BitVec 12) : (tellRill s c).bst = s.bst := by
  unfold tellRill; split <;> rfl

theorem meetWatch_pairs (s : State) (w : Watch) : (meetWatch s w).bst.pairs = s.bst.pairs := by
  unfold meetWatch
  split
  · rw [answerSignal_bst]; rfl
  · exact queueMsg_pairs _ _ _
  · rw [tellRill_bst]; rfl

/-- Watches that are met change no pair. -/
theorem testWatches_pairs (s : State) (kinds : List (BitVec 3)) (target : BitVec 12) :
    (testWatches s kinds target).bst.pairs = s.bst.pairs := by
  have walk : ∀ (l : List Watch) (s : State),
      (l.foldl (fun s w => if watchMet s w.kind w.target w.n then meetWatch s w else s) s).bst.pairs = s.bst.pairs := by
    intro l
    induction l with
    | nil => exact fun _ => rfl
    | cons w l ih =>
      intro s
      rw [List.foldl_cons, ih]
      split
      · exact meetWatch_pairs s w
      · rfl
  unfold testWatches
  split
  · rfl
  · exact walk _ s

/-- A pair that takes new counts is the only one that changes (R291). -/
theorem setPair_pairs (s : State) (n : Byte) (w : W64) (posted : Option Bool) :
    (setPair s n w posted).bst.pairs = tset 0 s.bst.pairs n.toNat w := by
  have told : ∀ t, (tellPair t n posted).bst = t.bst := fun t => by unfold tellPair; split <;> rfl
  rw [setPair, told, testWatches_pairs]

theorem pairWrite_refused {s : State} {port : RegPort} {pn : Byte} {d : W64} (hp : portReady s port = true) (hf : frozen s 0 = true) :
    execPairWrite port pn d s = .next (after (busErr (wideWrite s port d) port)) := by
  simp [execPairWrite, hp, hf, finish_eq_after]

theorem pairWrite_sets {s : State} {port : RegPort} {pn : Byte} {d : W64} (hp : portReady s port = true) (hf : frozen s 0 = false) :
    ∃ t, execPairWrite port pn d s = .next t ∧ kept s t ∧ pairVal t pn = d ∧ ∀ q, q ≠ pn → pairVal t q = pairVal s q := by
  have pairs : (afterSync (ack (setPair (wideWrite s port d) pn d none) port)).bst.pairs = tset 0 s.bst.pairs pn.toNat d := by
    rw [(afterSync_pollKeeps _).pairs, ack_bst, setPair_pairs, wideWrite_bst]
  refine ⟨_, by simp [execPairWrite, hp, hf, finishSync_eq_afterSync]; rfl, kept_afterSync ?_, ?_, fun q hq => ?_⟩
  · rw [ack_store, setPair_store, wideWrite_store]
  · simp only [pairVal, pairs, tget_tset, if_true]
  · have other : q.toNat ≠ pn.toNat := fun e => hq (BitVec.eq_of_toNat_eq e)
    simp only [pairVal, pairs, tget_tset, other, if_false]

end Sys2Proof.Machine
end

section
/-! PROOF. Barriers and the role (R305, R315, R323, R325), and the statement about the Bandstand's registers. -/

namespace Sys2Proof.Machine

/-! ## Writes of a barrier -/

@[simp] theorem bar_wideWrite (s : State) (p : RegPort) (d : W64) (b : Fin 64) : bar (wideWrite s p d) b = bar s b := by simp [bar]

@[simp] theorem lo32_bit (d : W64) (i : Nat) (hi : i < 32) : (lo32 d).getLsbD i = d.getLsbD i := by simp [lo32, hi]

theorem barrierCfg_none {s : State} {port : RegPort} {b : Fin 64} {d : W64} (hp : portReady s port = true)
    (hw : writeBar s b .cfg d = none) : execBarrierConfigWrite port b .cfg d s = .next (after (busErr s port)) := by
  simp [execBarrierConfigWrite, hp, hw, finish_eq_after]

theorem barrierCfg_some {s t : State} {port : RegPort} {b : Fin 64} {d : W64} (hp : portReady s port = true)
    (hw : writeBar s b .cfg d = some t) : execBarrierConfigWrite port b .cfg d s = .next (afterSync (ack t port)) := by
  simp [execBarrierConfigWrite, hp, hw, finishSync_eq_afterSync]

theorem barrierCnt_none {s : State} {port : RegPort} {b : Fin 64} {d : W64} (hp : portReady s port = true)
    (hw : writeBar (wideWrite s port d) b .cnt d = none) :
    execBarrierConfigWrite port b .cnt d s = .next (after (busErr (wideWrite s port d) port)) := by
  simp [execBarrierConfigWrite, hp, hw, finish_eq_after]

theorem barrierCnt_some {s t : State} {port : RegPort} {b : Fin 64} {d : W64} (hp : portReady s port = true)
    (hw : writeBar (wideWrite s port d) b .cnt d = some t) :
    execBarrierConfigWrite port b .cnt d s = .next (afterSync (ack t port)) := by
  simp [execBarrierConfigWrite, hp, hw, finishSync_eq_afterSync]

/-- BST_BAR_CNT is not written while the barrier is armed (R325). -/
theorem writeBar_cnt_armed {s : State} {b : Fin 64} {d : W64} (ha : (bar s b).armed = true) : writeBar s b .cnt d = none := by
  simp [writeBar, ha]

theorem writeBar_cnt_disarmed {s : State} {b : Fin 64} {d : W64} (ha : (bar s b).armed = false) :
    writeBar s b .cnt d = some (modBar s b (fun z => { z with cnt := d })) := by
  simp [writeBar, ha]

theorem withCfg_armed (x : Barrier) (d : W64) : (withCfg x (lo32 d)).armed = d.getLsbD 0 := lo32_bit d 0 (by omega)

theorem withCfg_chip (x : Barrier) (d : W64) : (withCfg x (lo32 d)).chip = d.getLsbD 1 := lo32_bit d 1 (by omega)

/-- Arming is refused where the barrier is armed, without counts and CHIP, and with CHIP in the role SINGLE (R305). -/
theorem writeBar_arm_refused {s : State} {b : Fin 64} {d : W64} (hd : d.getLsbD 0 = true)
    (hr : (bar s b).armed = true ∨ (countsZero (withCfg (bar s b) (lo32 d)) = true ∧ d.getLsbD 1 = false) ∨
      (d.getLsbD 1 = true ∧ s.bst.role = 0)) : writeBar s b .cfg d = none := by
  have no : ((bar s b).armed || (countsZero (withCfg (bar s b) (lo32 d)) && !d.getLsbD 1) || (d.getLsbD 1 && s.bst.role == 0)) = true := by
    rcases hr with armed | ⟨zero, chip⟩ | ⟨chip, role⟩
    · rw [armed]; rfl
    · rw [zero, chip]; simp
    · rw [chip, role]; simp
  simp only [writeBar, withCfg_armed, withCfg_chip, hd, Bool.true_and, no, if_true]

theorem writeBar_arm {s : State} {b : Fin 64} {d : W64} (hd : d.getLsbD 0 = true) (ha : (bar s b).armed = false)
    (hc : countsZero (withCfg (bar s b) (lo32 d)) = false ∨ d.getLsbD 1 = true) (hr : d.getLsbD 1 = false ∨ s.bst.role ≠ 0) :
    writeBar s b .cfg d = some (lookBar (modBar s b (fun z => withCfg z (lo32 d))) b) := by
  have counts : (countsZero (withCfg (bar s b) (lo32 d)) && !d.getLsbD 1) = false := by
    rcases hc with counted | chip
    · rw [counted]; rfl
    · rw [chip]; exact Bool.and_false _
  have single : (d.getLsbD 1 && s.bst.role == 0) = false := by
    rcases hr with noChip | role
    · rw [noChip]; rfl
    · rw [beq_eq_false_iff_ne.mpr role]; exact Bool.and_false _
  simp only [writeBar, withCfg_armed, withCfg_chip, hd, ha, counts, single, Bool.false_eq_true, if_false, if_true, Bool.true_and,
    Bool.false_and, Bool.or_false]

/-- A write that leaves a disarmed barrier disarmed only takes its fields. -/
theorem writeBar_stay {s : State} {b : Fin 64} {d : W64} (hd : d.getLsbD 0 = false) (ha : (bar s b).armed = false) :
    writeBar s b .cfg d = some (modBar s b (fun z => withCfg z (lo32 d))) := by
  simp only [writeBar, withCfg_armed, hd, ha, Bool.false_and, Bool.false_eq_true, if_false]

theorem writeBar_disarm {s : State} {b : Fin 64} {d : W64} (hd : d.getLsbD 0 = false) (ha : (bar s b).armed = true) :
    writeBar s b .cfg d = some (modBar (disarm s b) b (fun z => withCfg z (lo32 d))) := by
  simp only [writeBar, withCfg_armed, hd, ha, Bool.false_and, Bool.false_eq_true, if_false, Bool.true_and, Bool.not_false, if_true]

/-- A barrier whose arrivals are discarded (R305). -/
def noArrivals (x : Barrier) : Barrier :=
  { x with inReg := Vector.replicate 8 0, inW := 0, inE := 0, inCtrl := 0, sent := false, selfIn := false, chips := [] }

/-- Disarming changes the arrivals of its own barrier and no other (R305). -/
theorem disarm_bars (s : State) (b : Fin 64) : (disarm s b).bst.bars = vmod s.bst.bars b noArrivals := by
  have walk : ∀ (l : List Watch) (s : State), (l.foldl (fun s w =>
      match w.owner with
      | .engine p seq => answerSignal (dropWatch s w.w) p seq refusedC
      | _ => dropWatch s w.w) s).bst.bars = s.bst.bars := by
    intro l
    induction l with
    | nil => exact fun _ => rfl
    | cons w l ih =>
      intro s
      rw [List.foldl_cons, ih]
      split
      · rw [answerSignal_bst]; rfl
      · rfl
  unfold disarm
  rw [modBar_bst]
  exact congrArg (fun v => vmod v b noArrivals) (walk _ s)

/-- The end of a command keeps every barrier. -/
theorem bar_afterSync_ack (s : State) (port : RegPort) (b : Fin 64) : bar (afterSync (ack s port)) b = bar s b := by
  rw [bar, bar, (afterSync_pollKeeps _).bars, ack_bst]

theorem bar_modBar_other (s : State) {b c : Fin 64} (f : Barrier → Barrier) (h : c ≠ b) : bar (modBar s b f) c = bar s c := by
  simp [bar, vget_vmod_other _ _ (Ne.symm h)]

theorem barrierCnt_writes {s : State} {port : RegPort} {b : Fin 64} {d : W64} (hp : portReady s port = true)
    (ha : (bar s b).armed = false) :
    ∃ t, execBarrierConfigWrite port b .cnt d s = .next t ∧ kept s t ∧ (bar t b).cnt = d ∧ ∀ c, c ≠ b → bar t c = bar s c := by
  refine ⟨_, barrierCnt_some hp (writeBar_cnt_disarmed (by rw [bar_wideWrite, ha])), kept_afterSync ?_, ?_, fun c hc => ?_⟩
  · rw [ack_store, modBar_store, wideWrite_store]
  · rw [bar_afterSync_ack, bar_modBar_same]
  · rw [bar_afterSync_ack, bar_modBar_other _ _ hc, bar_wideWrite]

theorem barrierCfg_disarms {s : State} {port : RegPort} {b : Fin 64} {d : W64} (hp : portReady s port = true)
    (ha : (bar s b).armed = true) (hd : d.getLsbD 0 = false) :
    ∃ t, execBarrierConfigWrite port b .cfg d s = .next t ∧ kept s t ∧
      (bar t b).armed = false ∧ (bar t b).inReg = Vector.replicate 8 0 ∧ (bar t b).inW = 0 ∧ (bar t b).inE = 0 ∧
      (bar t b).inCtrl = 0 ∧ (bar t b).chips = [] ∧ (bar t b).gen = (bar s b).gen := by
  have left : bar (afterSync (ack (modBar (disarm s b) b (fun z => withCfg z (lo32 d))) port)) b =
      withCfg (noArrivals (bar s b)) (lo32 d) := by
    rw [bar_afterSync_ack, bar_modBar_same, bar, disarm_bars, vget_vmod_same]; rfl
  refine ⟨_, barrierCfg_some hp (writeBar_disarm hd ha), kept_afterSync ?_, ?_⟩
  · rw [ack_store, modBar_store, disarm_store]
  · rw [left]
    exact ⟨(withCfg_armed _ d).trans hd, rfl, rfl, rfl, rfl, rfl, rfl⟩

/-! ## The role (R315) -/

theorem roleWrite_refused {s : State} {port : RegPort} {m : W32} (hp : portReady s port = true) (hc : chipArmed s = true) :
    execRoleWrite port m s = .next (after (busErr s port)) := by simp [execRoleWrite, hp, hc, finish_eq_after]

theorem roleWrite_takes {s : State} {port : RegPort} {m : W32} (hp : portReady s port = true) (hc : chipArmed s = false) :
    ∃ t, execRoleWrite port m s = .next t ∧ kept s t ∧ t.bst = withRole s.bst m := by
  refine ⟨after (ack { s with bst := withRole s.bst m } port), by simp [execRoleWrite, hp, hc, finish_eq_after], kept_after ?_, by simp⟩
  rw [ack_store]; rfl

/-! ## The statement -/

/-- Settles O48: one lemma for each command and each of its refusals. -/
theorem watchesMessagesPairsAndBarriers : Obligations.WatchesMessagesPairsAndBarriers := by
  unfold Obligations.WatchesMessagesPairsAndBarriers
  intro s port d m ck pn b i x
  simp only [exec_watchTimeout, exec_watchRegister, exec_watchCancel, exec_controlMessageTake, exec_pairWrite, exec_barrierConfigWrite,
    exec_roleWrite]
  refine ⟨fun hl hf hx => ⟨watchTimeout_early hl hf hx, fun h0 ht => ⟨fun p q ho => ?_, fun c ho => ?_, fun c ho => ?_⟩⟩,
    fun hp => ⟨?frozen, ?unfrozen, fun w ws hm => controlMessageTake_oldest hp hm, controlMessageTake_empty hp, ?disarmed, ?armed,
      roleWrite_refused hp, fun hc => ?role⟩⟩
  · simp only [watchTimeout_due hl hf hx h0 ht, timedOut, ho]
  · simp only [watchTimeout_due hl hf hx h0 ht, timedOut, ho]
  · simp only [watchTimeout_due hl hf hx h0 ht, timedOut, ho]
  case frozen =>
    exact fun hf => ⟨watchRegister_refused hp (.inl hf), watchCancel_refused hp hf, pairWrite_refused hp hf⟩
  case unfrozen =>
    refine fun hf => ⟨fun hd => watchRegister_refused hp (.inr hd), fun hd hj => watchRegister_full hp hf hd hj, fun j hd hj => ?_,
      watchCancel_frees hp hf, pairWrite_sets hp hf⟩
    have reg := watchRegister_free hp hf hd hj
    refine ⟨fun hm => ?_, fun hm => ⟨?_, fun hroom hnone => ?_⟩⟩
    · rw [hm] at reg; exact reg
    · rw [hm] at reg; exact reg
    · exact queueMsg_of_room (wregState_msgs s port d j) hroom ((wregState_pendOrder s port d j).trans hnone) _ _
  case disarmed =>
    intro ha
    refine ⟨barrierCnt_writes hp ha, fun hd => barrierCfg_some hp (writeBar_stay hd ha),
      fun hd hr => barrierCfg_none hp (writeBar_arm_refused hd (.inr hr)), fun hd hc hr => ⟨barrierCfg_some hp (writeBar_arm hd ha hc hr), ?_⟩⟩
    rw [bar_modBar_same]
    exact ⟨rfl, (withCfg_armed _ d).trans hd⟩
  case armed =>
    exact fun ha => ⟨barrierCnt_none hp (writeBar_cnt_armed (by rw [bar_wideWrite, ha])),
      fun hd => barrierCfg_none hp (writeBar_arm_refused hd (.inl ha)), fun hd => barrierCfg_disarms hp ha hd⟩
  case role =>
    obtain ⟨t, ht, hk, hb⟩ := roleWrite_takes (m := m) hp hc
    exact ⟨t, ht, hk, by rw [hb]; rfl, by rw [hb]; rfl, by rw [hb]; rfl, by rw [hb]; rfl⟩

end Sys2Proof.Machine
end

section
/-! PROOF. Stream doorbells, aborts, slot writes, and the registers of the echo caches (R249-R257, R268, R274-R285). -/

namespace Sys2Proof.Machine

/-! ## The arms of the stream and echo commands -/

theorem exec_ringBell (port n s) : exec (.ringBell port n) s = execRingBell port n s := rfl
theorem exec_echoInvalidate (port a b s) : exec (.echoInvalidate port a b) s = execEchoInvalidate port a b s := rfl
theorem exec_echoInvalidateDone (k s) : exec (.echoInvalidateDone k) s = execEchoInvalidateDone k s := rfl
theorem exec_echoEnableWrite (port a b s) : exec (.echoEnableWrite port a b) s = execEchoEnableWrite port a b s := rfl

/-! ## Doorbells (R255, R256, R268) -/

theorem ringBell_mgmt {s : State} {port : RegPort} {n : BitVec 12} (hp : portReady s port = true) (hm : isMgmt port = true) :
    execRingBell port n s = .next (after (busErr s port)) := by simp [execRingBell, hp, hm, finish_eq_after]

theorem ringBell_none {s : State} {n : BitVec 12} (hp : portReady s .cp = true) (hr : ringStream s n = none) :
    execRingBell .cp n s = .next (after (busErr s .cp)) := by simp [execRingBell, hp, isMgmt, hr, finish_eq_after]

theorem ringBell_some {s t : State} {n : BitVec 12} (hp : portReady s .cp = true) (hr : ringStream s n = some t) :
    execRingBell .cp n s = .next (afterSync (ack t .cp)) := by simp [execRingBell, hp, isMgmt, hr, finishSync_eq_afterSync]

theorem ringStream_refused {s : State} {n : BitVec 12} (h : headOk s n = false ∨ closed s 0 = true) : ringStream s n = none := by
  rcases h with h | h <;> simp [ringStream, h]

/-- A doorbell of a good head of Rill port 0 acts at once. -/
theorem ringStream_here {s : State} {n : BitVec 12} (hh : headOk s n = true) (hc : closed s 0 = false) (hk : streamPort s n = 0) :
    ringStream s n = some (bellAct s n) := by simp [ringStream, hh, hc, hk]

/-- A doorbell of a good head of Rill port 1 goes there in a CONTROL packet (R384). -/
theorem ringStream_there {s : State} {n : BitVec 12} (hh : headOk s n = true) (hc : closed s 0 = false) (hk : streamPort s n = 1) :
    ringStream s n = some (sendCtl (if (slotWord s n 0).getLsbD 8 then
      sendCtl s 0 (.pairValue ((slotWord s n 0).extractLsb' 16 8) (pairVal s ((slotWord s n 0).extractLsb' 16 8)) none) else s)
      0 (.bell n false)) := by simp [ringStream, hh, hc, hk]

theorem bellAct_queued {s : State} {n : BitVec 12} (h : (stream s n).st = .queued) : bellAct s n = s := by simp [bellAct, h]

theorem bellAct_running {s : State} {n : BitVec 12} (h : (stream s n).st = .running) :
    bellAct s n = modStream s n (fun x => { x with waitSlot := false }) := by simp [bellAct, h]

theorem bellAct_halted {s : State} {n : BitVec 12} (h : (stream s n).st = .halted) :
    bellAct s n = modStream (modRp s (streamPort s n) (fun p => { p with tiles := resumeTiles n false p.tiles, outs := oldOuts p n })) n
      (fun x => { x with st := .running, xkey := none }) := by simp [bellAct, h]

theorem bellAct_ended {s : State} {n : BitVec 12} (h : (stream s n).st = .idle ∨ (stream s n).st = .done ∨ (stream s n).st = .aborted) :
    bellAct s n = modStream s n (fun x =>
      { stream0 with st := .queued, xaddr := x.xaddr, posSlot := headFirst s n, next := some (headFirst s n) }) := by
  rcases h with h | h | h <;> simp [bellAct, h]

/-! ## Aborts (R257) -/

theorem streamAbort_mgmt {s : State} {port : RegPort} {n : BitVec 12} (hp : portReady s port = true) (hm : isMgmt port = true) :
    execStreamAbort port n s = .next (after (busErr s port)) := by simp [execStreamAbort, hp, hm, finish_eq_after]

theorem streamAbort_cp {s : State} {n : BitVec 12} (hp : portReady s .cp = true) :
    execStreamAbort .cp n s = .next (afterSync (ack (askAbort s n) .cp)) := by simp [execStreamAbort, hp, isMgmt, finishSync_eq_afterSync]

/-- A tile of stream c has a transfer outstanding at port k. -/
def tileOut (s : State) (k : RPort) (c : BitVec 12) (t : Tile) : Bool :=
  t.ctx == c && (rp s k).outs.any (fun o => o.who.map Prod.fst == some t.uid)

/-- A tile of stream c whose reservations an abort releases. -/
def tileGone (s : State) (k : RPort) (c : BitVec 12) (t : Tile) : Bool :=
  t.ctx == c && !(rp s k).outs.any (fun o => o.who.map Prod.fst == some t.uid)

/-- The state of an abort with its releasable tiles gone. -/
def releaseTiles (s : State) (k : RPort) (c : BitVec 12) : State :=
  modRp (((rp s k).tiles.filter (tileGone s k c)).foldl (fun s t => dropWicket s t.wtag) s) k
    (fun p => { p with tiles := p.tiles.filter (fun t => !tileGone s k c t) })

theorem settleAbort_eq {s : State} {k : RPort} {c : BitVec 12} (ha : (stream s c).aborting = true) (hf : frozen s k = false) :
    settleAbort s k c = if (rp (releaseTiles s k c) k).tiles.any (fun t => t.ctx == c) then releaseTiles s k c
      else modStream (releaseTiles s k c) c (fun x => { x with st := .aborted, aborting := false }) := by
  simp only [settleAbort, ha, hf, Bool.not_true, Bool.or_false, Bool.false_eq_true, if_false]
  rfl

/-- Releasing Wicket tags touches neither ports nor streams. -/
theorem dropWickets_rill (l : List Tile) (s : State) :
    (l.foldl (fun s t => dropWicket s t.wtag) s).rill.ports = s.rill.ports ∧
      (l.foldl (fun s t => dropWicket s t.wtag) s).rill.streams = s.rill.streams := by
  induction l generalizing s with
  | nil => exact ⟨rfl, rfl⟩
  | cons t l ih =>
    have one : (dropWicket s t.wtag).rill.ports = s.rill.ports ∧ (dropWicket s t.wtag).rill.streams = s.rill.streams := by
      unfold dropWicket; split <;> exact ⟨rfl, rfl⟩
    exact ⟨(ih _).1.trans one.1, (ih _).2.trans one.2⟩

theorem releaseTiles_tiles (s : State) (k : RPort) (c : BitVec 12) :
    (rp (releaseTiles s k c) k).tiles = (rp s k).tiles.filter (fun t => !tileGone s k c t) := by
  rw [releaseTiles, rp_modRp_same, rp, (dropWickets_rill _ s).1]; rfl

theorem releaseTiles_stream (s : State) (k : RPort) (c n : BitVec 12) : stream (releaseTiles s k c) n = stream s n := by
  rw [releaseTiles, stream_modRp, stream, (dropWickets_rill _ s).2]; rfl

/-- Of the stream's tiles only those with a transfer outstanding remain. -/
theorem releaseTiles_any (s : State) (k : RPort) (c : BitVec 12) :
    (rp (releaseTiles s k c) k).tiles.any (fun t => t.ctx == c) = (rp s k).tiles.any (tileOut s k c) := by
  rw [releaseTiles_tiles, List.any_filter]
  congr 1
  funext t
  simp only [tileGone, tileOut]
  cases t.ctx == c <;> simp

/-- With no transfer outstanding the abort is complete. -/
theorem settleAbort_done {s : State} {k : RPort} {c : BitVec 12} (ha : (stream s c).aborting = true) (hf : frozen s k = false)
    (ho : (rp s k).tiles.any (tileOut s k c) = false) :
    (stream (settleAbort s k c) c).st = .aborted ∧ (rp (settleAbort s k c) k).tiles.all (fun t => t.ctx != c) = true := by
  have none_left := (releaseTiles_any s k c).trans ho
  rw [settleAbort_eq ha hf, none_left, if_neg Bool.false_ne_true]
  refine ⟨by rw [stream_modStream_same], ?_⟩
  change (rp (releaseTiles s k c) k).tiles.all (fun t => t.ctx != c) = true
  simpa [List.any_eq_false] using none_left

/-- With a transfer outstanding the abort waits for it. -/
theorem settleAbort_waits {s : State} {k : RPort} {c : BitVec 12} (ha : (stream s c).aborting = true) (hf : frozen s k = false)
    (ho : (rp s k).tiles.any (tileOut s k c) = true) : stream (settleAbort s k c) c = stream s c := by
  rw [settleAbort_eq ha hf, releaseTiles_any, ho, if_pos rfl, releaseTiles_stream]

/-- What is left of a tile of an aborted stream. -/
def abortTile (c : BitVec 12) (t : Tile) : Tile := if t.ctx = c then { t with beats := t.beats.map abortBeat } else t

theorem abortTile_ctx (c : BitVec 12) (t : Tile) : (abortTile c t).ctx = t.ctx := by unfold abortTile; split <;> rfl
theorem abortTile_uid (c : BitVec 12) (t : Tile) : (abortTile c t).uid = t.uid := by unfold abortTile; split <;> rfl

/-- An abort marked at its port and at its stream, before its tiles are released. -/
def markAbort (s : State) (k : RPort) (c : BitVec 12) : State :=
  let m := modStream (modRp s k (fun p => { p with queue := p.queue.filter (· != c), tiles := p.tiles.map (abortTile c) })) c (fun x =>
    { x with aborting := true, asked := false, waitSlot := false, next := none, depAsked := false, depMet := false,
             posSlot := (streamPos s c).1, posBeat := (streamPos s c).2 })
  (m.bst.watches.filter (fun w => w.owner == .rill c)).foldl (fun s w => dropWatch s w.w) m

theorem dropWatches_rill (l : List Watch) (s : State) :
    (l.foldl (fun s w => dropWatch s w.w) s).rill = s.rill ∧ (l.foldl (fun s w => dropWatch s w.w) s).frz = s.frz := by
  induction l generalizing s with
  | nil => exact ⟨rfl, rfl⟩
  | cons w l ih => exact ⟨(ih _).1, (ih _).2⟩

theorem markAbort_stream (s : State) (k : RPort) (c : BitVec 12) :
    (stream (markAbort s k c) c).aborting = true ∧ (stream (markAbort s k c) c).st = (stream s c).st := by
  rw [markAbort, stream, (dropWatches_rill _ _).1, ← stream, stream_modStream_same]
  exact ⟨rfl, rfl⟩

theorem frozen_markAbort (s : State) (k : RPort) (c : BitVec 12) (h : Half) : frozen (markAbort s k c) h = frozen s h := by
  rw [frozen, frozen, markAbort, (dropWatches_rill _ _).2]; rfl

/-- Marking an abort leaves which tiles have transfers outstanding. -/
theorem markAbort_any (s : State) (k : RPort) (c : BitVec 12) :
    (rp (markAbort s k c) k).tiles.any (tileOut (markAbort s k c) k c) = (rp s k).tiles.any (tileOut s k c) := by
  have port : rp (markAbort s k c) k = { rp s k with queue := (rp s k).queue.filter (· != c), tiles := (rp s k).tiles.map (abortTile c) } := by
    rw [markAbort, rp, (dropWatches_rill _ _).1, ← rp]
    exact rp_modRp_same s k _
  rw [port, List.any_map]
  congr 1
  funext t
  simp only [Function.comp, tileOut, port, abortTile_ctx, abortTile_uid]

theorem abortStream_eq {s : State} {c : BitVec 12} (hb : (stream s c).st = .queued ∨ (stream s c).st = .running ∨ (stream s c).st = .halted)
    (hf : frozen s (streamPort s c) = false) : abortStream s c = settleAbort (markAbort s (streamPort s c) c) (streamPort s c) c := by
  have busy : ((stream s c).st == .queued || (stream s c).st == .running || (stream s c).st == .halted) = true := by
    rcases hb with h | h | h <;> rw [h] <;> rfl
  simp only [abortStream, busy, hf, Bool.not_true, Bool.or_false, Bool.false_eq_true, if_false]
  rfl

theorem askAbort_no_head {s : State} {n : BitVec 12} (h : slotKind s n ≠ 1) : askAbort s n = s := by
  simp only [askAbort, bne_iff_ne.mpr h, if_true]

theorem askAbort_there {s : State} {n : BitVec 12} (h : slotKind s n = 1) (hk : streamPort s n = 1) :
    askAbort s n = sendCtl s 0 (.bell n true) := by simp [askAbort, h, hk]

theorem askAbort_here {s : State} {n : BitVec 12} (h : slotKind s n = 1) (hk : streamPort s n = 0) (hf : frozen s 0 = false)
    (hb : (stream s n).st = .queued ∨ (stream s n).st = .running ∨ (stream s n).st = .halted) :
    askAbort s n = settleAbort (markAbort s 0 n) 0 n := by
  have eq := abortStream_eq hb (by rw [hk]; exact hf)
  rw [hk] at eq
  simp [askAbort, h, hk, eq]

/-- The end of the command keeps streams and tiles as the abort left them. -/
theorem abort_ends_with (u : State) (n : BitVec 12) :
    (stream (afterSync (ack u .cp)) n).st = (stream u n).st ∧ (stream (afterSync (ack u .cp)) n).aborting = (stream u n).aborting ∧
      (rp (afterSync (ack u .cp)) 0).tiles = (rp u 0).tiles := by
  have keeps := (ack_pollKeeps u .cp).trans (afterSync_pollKeeps _)
  exact ⟨keeps.st n, keeps.aborting n, keeps.tiles 0⟩

theorem streamAbort_kept (s : State) (n : BitVec 12) : kept s (afterSync (ack (askAbort s n) .cp)) :=
  kept_afterSync (by rw [ack_store, askAbort_store])

theorem streamAbort_done {s : State} {n : BitVec 12} (hp : portReady s .cp = true) (h : slotKind s n = 1) (hk : streamPort s n = 0)
    (hf : frozen s 0 = false) (hb : (stream s n).st = .queued ∨ (stream s n).st = .running ∨ (stream s n).st = .halted)
    (ho : (rp s 0).tiles.any (tileOut s 0 n) = false) :
    ∃ t, execStreamAbort .cp n s = .next t ∧ kept s t ∧ (stream t n).st = .aborted ∧ (rp t 0).tiles.all (fun t => t.ctx != n) = true := by
  obtain ⟨st, tiles⟩ := settleAbort_done (markAbort_stream s 0 n).1 ((frozen_markAbort s 0 n 0).trans hf) ((markAbort_any s 0 n).trans ho)
  obtain ⟨hst, -, htiles⟩ := abort_ends_with (askAbort s n) n
  rw [← askAbort_here h hk hf hb] at st tiles
  exact ⟨_, streamAbort_cp hp, streamAbort_kept s n, hst.trans st, by rw [htiles]; exact tiles⟩

theorem streamAbort_waits {s : State} {n : BitVec 12} (hp : portReady s .cp = true) (h : slotKind s n = 1) (hk : streamPort s n = 0)
    (hf : frozen s 0 = false) (hb : (stream s n).st = .queued ∨ (stream s n).st = .running ∨ (stream s n).st = .halted)
    (ho : (rp s 0).tiles.any (tileOut s 0 n) = true) :
    ∃ t, execStreamAbort .cp n s = .next t ∧ kept s t ∧ (stream t n).aborting = true ∧ (stream t n).st = (stream s n).st := by
  have same := settleAbort_waits (markAbort_stream s 0 n).1 ((frozen_markAbort s 0 n 0).trans hf) ((markAbort_any s 0 n).trans ho)
  obtain ⟨hst, hab, -⟩ := abort_ends_with (askAbort s n) n
  rw [← askAbort_here h hk hf hb] at same
  obtain ⟨marked, st⟩ := markAbort_stream s 0 n
  exact ⟨_, streamAbort_cp hp, streamAbort_kept s n, by rw [hab, same]; exact marked, by rw [hst, same]; exact st⟩

/-! ## Slot writes (R249-R252) -/

theorem streamSlotWrite_mgmt {s : State} {port : RegPort} {n : BitVec 12} {j : Fin 8} {d : W64} (hp : portReady s port = true)
    (hm : isMgmt port = true) : execStreamSlotWrite port n j d s = .next (after (busErr s port)) := by
  simp [execStreamSlotWrite, hp, hm, finish_eq_after]

theorem streamSlotWrite_none {s : State} {n : BitVec 12} {j : Fin 8} {d : W64} (hp : portReady s .cp = true)
    (hw : writeSlot s n j.val d (BitVec.allOnes 64) = none) : execStreamSlotWrite .cp n j d s = .next (after (busErr s .cp)) := by
  simp only [execStreamSlotWrite, hp, isMgmt, hw, finish_eq_after, Bool.not_true, Bool.false_eq_true, if_false]

/-- Word j of slot n holds w, every other word of the context store what it held, and the stores and regions stand. -/
def slotStored (s t : State) (n : BitVec 12) (j : Nat) (w : W64) : Prop :=
  kept s t ∧ t.regions = s.regions ∧ ∀ i, tget 0 t.rill.slots i = if i = 8 * n.toNat + j then w else tget 0 s.rill.slots i

/-- The word that setSlot stores: the reserved KIND leaves KIND as it was (R15, R250). -/
def storedWord (s : State) (n : BitVec 12) (j : Nat) (w : W64) : W64 :=
  if j = 0 ∧ w.extractLsb' 0 2 = 3 then (w &&& ~~~3) ||| (slotWord s n 0 &&& 3) else w

theorem setSlot_slots (s : State) (n : BitVec 12) (j : Nat) (w : W64) (i : Nat) :
    tget 0 (setSlot s n j w).rill.slots i = if i = 8 * n.toNat + j then storedWord s n j w else tget 0 s.rill.slots i := by
  have word : (if j = 0 && w.extractLsb' 0 2 == 3 then (w &&& ~~~3) ||| (slotWord s n j &&& 3) else w) = storedWord s n j w := by
    unfold storedWord
    by_cases h : j = 0
    · subst h; simp
    · simp [h]
  simp only [setSlot, word, tget_tset]

theorem streamSlotWrite_stores {s : State} {n : BitVec 12} {j : Fin 8} {d w : W64} (hp : portReady s .cp = true)
    (hw : writeSlot s n j.val d (BitVec.allOnes 64) = some (setSlot s n j.val w)) :
    ∃ t, execStreamSlotWrite .cp n j d s = .next t ∧ slotStored s t n j.val (storedWord s n j.val w) := by
  have keeps := (ack_pollKeeps (setSlot s n j.val w) .cp).trans (afterSync_pollKeeps _)
  have done : execStreamSlotWrite .cp n j d s = .next (afterSync (ack (setSlot s n j.val w) .cp)) := by
    simp only [execStreamSlotWrite, hp, isMgmt, hw, finishSync_eq_afterSync, Bool.not_true, Bool.false_eq_true, if_false]
  refine ⟨_, done, kept_afterSync (by rw [ack_store, setSlot_store]), keeps.regions, fun i => ?_⟩
  rw [keeps.slots, setSlot_slots]

/-- A word of a free slot or a descriptor, and words 0-2 of a head that is not in use, are replaced whole. -/
theorem writeSlot_replaces {s : State} {n : BitVec 12} {j : Nat} {d : W64} (h : slotKind s n ≠ 1 ∨ (j < 3 ∧ headBusy s n = false)) :
    writeSlot s n j d (BitVec.allOnes 64) = some (setSlot s n j d) := by
  have whole : (slotWord s n j &&& ~~~BitVec.allOnes 64) ||| (d &&& BitVec.allOnes 64) = d := by
    rw [BitVec.not_allOnes, BitVec.and_zero, BitVec.zero_or, BitVec.and_allOnes]
  rcases h with h | ⟨hj, hb⟩
  · simp only [writeSlot, whole, h, ne_eq, not_false_eq_true, if_true]
  · by_cases hk : slotKind s n ≠ 1
    · simp only [writeSlot, whole, hk, ne_eq, not_false_eq_true, if_true]
    · simp only [writeSlot, whole, hk, hj, hb, if_false, if_true, Bool.false_eq_true]

/-- Of the words that hardware fills, a write without ABORT, doorbell and FENCED stores the reserved bits alone. -/
theorem writeSlot_status {s : State} {n : BitVec 12} {j : Nat} {d : W64} (hk : slotKind s n = 1) (hj : 3 ≤ j)
    (hd : j = 3 → d.getLsbD 0 = false ∧ d.getLsbD 1 = false ∧ d.getLsbD 35 = false) :
    writeSlot s n j d (BitVec.allOnes 64) = some (setSlot s n j ((slotWord s n j &&& headBits j) ||| (d &&& ~~~headBits j))) := by
  have quiet : ∀ i, i = 0 ∨ i = 1 ∨ i = 35 → (if j = 3 then d &&& BitVec.allOnes 64 else 0 : W64).getLsbD i = false := by
    intro i hi
    split
    · obtain ⟨h0, h1, h35⟩ := hd ‹_›
      rw [BitVec.and_allOnes]
      rcases hi with rfl | rfl | rfl <;> assumption
    · simp
  have masked : (slotWord s n j &&& (headBits j ||| ~~~BitVec.allOnes 64)) ||| (d &&& BitVec.allOnes 64 &&& ~~~headBits j) =
      (slotWord s n j &&& headBits j) ||| (d &&& ~~~headBits j) := by
    rw [BitVec.not_allOnes, BitVec.or_zero, BitVec.and_allOnes]
  simp only [writeSlot, hk, ne_eq, not_true_eq_false, if_false, Nat.not_lt.mpr hj, masked, quiet 0 (by simp), quiet 1 (by simp),
    quiet 35 (by simp), Bool.false_eq_true]

theorem writeSlot_busy {s : State} {n : BitVec 12} {j : Nat} {d : W64} (hb : headBusy s n = true) (hj : j < 3) :
    writeSlot s n j d (BitVec.allOnes 64) = none := by
  have hk : slotKind s n = 1 := by
    simp only [headBusy, Bool.and_eq_true, beq_iff_eq] at hb
    exact hb.1
  simp only [writeSlot, hk, hj, hb, ne_eq, not_true_eq_false, if_false, if_true]

/-! ## Echo caches (R274, R276, R282-R285) -/

theorem echoInvalidate_refused {s : State} {port : RegPort} {a b : Bool} (hp : portReady s port = true)
    (h : (a = true ∧ (rp s 0).invBusy = true) ∨ (b = true ∧ (rp s 1).invBusy = true)) :
    execEchoInvalidate port a b s = .next (after (busErr s port)) := by
  rcases h with ⟨h, g⟩ | ⟨h, g⟩ <;> simp [execEchoInvalidate, hp, echInv, h, g, finish_eq_after]

/-- An invalidation begun on the ports named. -/
def startInvs (s : State) (a b : Bool) : State :=
  let s := if a then startInv s 0 else s
  if b then startInv s 1 else s

theorem echInv_free {s : State} {a b : Bool} (ha : a = false ∨ (rp s 0).invBusy = false) (hb : b = false ∨ (rp s 1).invBusy = false) :
    echInv s a b = some (startInvs s a b) := by
  have free : ((a && (rp s 0).invBusy) || (b && (rp s 1).invBusy)) = false := by
    rcases ha with h | h <;> rcases hb with g | g <;> simp [h, g]
  simp only [echInv, free, Bool.false_eq_true, if_false, startInvs]

/-- Port k once an invalidation begins there. -/
theorem rp_startInv_same (s : State) (k : RPort) : rp (startInv s k) k =
    { noAlloc (rp s k) (inRange s.rill.invAddr s.rill.invLen) with
      invBusy := true, invLo := s.rill.invAddr, invLen := s.rill.invLen } := rp_modRp_same _ _ _

theorem rp_startInv_other (s : State) {k j : RPort} (h : k ≠ j) : rp (startInv s k) j = rp s j := by
  rw [startInv, rp_modRp, if_neg h]

theorem startInvs_ports (s : State) (a b : Bool) :
    (rp (startInvs s a b) 0).invBusy = (a || (rp s 0).invBusy) ∧ (rp (startInvs s a b) 1).invBusy = (b || (rp s 1).invBusy) ∧
      (a = true → (rp (startInvs s a b) 0).invLo = s.rill.invAddr ∧ (rp (startInvs s a b) 0).invLen = s.rill.invLen) ∧
      (b = true → (rp (startInvs s a b) 1).invLo = s.rill.invAddr ∧ (rp (startInvs s a b) 1).invLen = s.rill.invLen) := by
  have range : ∀ k, (startInv s k).rill.invAddr = s.rill.invAddr ∧ (startInv s k).rill.invLen = s.rill.invLen := fun _ => ⟨rfl, rfl⟩
  have east : (1 : RPort) ≠ 0 := by decide
  have west : (0 : RPort) ≠ 1 := by decide
  cases a <;> cases b <;>
    simp [startInvs, rp_startInv_same, rp_startInv_other _ east, rp_startInv_other _ west, range]

theorem echoInvalidate_begins {s : State} {port : RegPort} {a b : Bool} (hp : portReady s port = true)
    (ha : a = false ∨ (rp s 0).invBusy = false) (hb : b = false ∨ (rp s 1).invBusy = false) :
    ∃ t, execEchoInvalidate port a b s = .next t ∧ kept s t ∧ t.rill = (startInvs s a b).rill := by
  refine ⟨after (ack (startInvs s a b) port), by simp [execEchoInvalidate, hp, echInv_free ha hb, finish_eq_after], kept_after ?_, by simp⟩
  rw [ack_store, echInv_store s a b _ (echInv_free ha hb)]

/-- Port k once its enable bit is written (R276). -/
theorem rp_setEcho_same (s : State) (k : RPort) (en : Bool) :
    (rp (setEcho s k en) k).echoEn = en ∧ (rp (setEcho s k en) k).echo = if en then (rp s k).echo else [] := by
  rw [setEcho, rp_modRp_same]
  cases en <;> exact ⟨rfl, rfl⟩

theorem rp_setEcho_other (s : State) {k j : RPort} (en : Bool) (h : k ≠ j) : rp (setEcho s k en) j = rp s j := by
  rw [setEcho, rp_modRp, if_neg h]

theorem echoEnableWrite_takes {s : State} {port : RegPort} {a b : Bool} (hp : portReady s port = true) :
    ∃ t, execEchoEnableWrite port a b s = .next t ∧ kept s t ∧ t.rill = (setEcho (setEcho s 0 a) 1 b).rill := by
  refine ⟨after (ack (setEcho (setEcho s 0 a) 1 b) port), by simp [execEchoEnableWrite, hp, finish_eq_after], kept_after ?_, by simp⟩
  rw [ack_store, setEcho_store, setEcho_store]

/-! ## The statement -/

/-- Settles O44: one lemma for each command, its refusals and the branches of its effect. -/
theorem streamBellsAbortsSlotsAndEcho : Obligations.StreamBellsAbortsSlotsAndEcho := by
  unfold Obligations.StreamBellsAbortsSlotsAndEcho
  intro s port n j d a b k
  dsimp only
  refine ⟨?mgmt, fun hp => ⟨?bellRefused, ?bellHere, ?bellThere, ?abortNone, ?abortThere, ?abortHere, ?replace, ?status, ?busy⟩,
    fun hp => ⟨?beginInv, ?invRefused, ?enable⟩, ?done⟩
  case mgmt =>
    intro hp hm i hi
    simp only [List.mem_cons, List.not_mem_nil, or_false] at hi
    rcases hi with rfl | rfl | rfl
    · exact ringBell_mgmt hp hm
    · exact streamAbort_mgmt hp hm
    · exact streamSlotWrite_mgmt hp hm
  case bellRefused => exact fun h => ringBell_none hp (ringStream_refused h)
  case bellHere =>
    intro hh hc hk
    have rung := ringBell_some hp (ringStream_here hh hc hk)
    rw [exec_ringBell, rung]
    refine ⟨fun h => by rw [bellAct_queued h], fun h => by rw [bellAct_running h], fun h => by rw [bellAct_halted h, hk],
      fun h => by rw [bellAct_ended h]⟩
  case bellThere => exact fun hh hc hk => ringBell_some hp (ringStream_there hh hc hk)
  case abortNone => exact fun h => (streamAbort_cp hp).trans (by rw [askAbort_no_head h])
  case abortThere => exact fun h hk => (streamAbort_cp hp).trans (by rw [askAbort_there h hk])
  case abortHere => exact fun h hk hf hb => ⟨streamAbort_done hp h hk hf hb, streamAbort_waits hp h hk hf hb⟩
  case replace => exact fun h => streamSlotWrite_stores hp (writeSlot_replaces h)
  case status =>
    intro hk hj hd
    have word : storedWord s n j.val ((slotWord s n j.val &&& headBits j.val) ||| (d &&& ~~~headBits j.val)) =
        (slotWord s n j.val &&& headBits j.val) ||| (d &&& ~~~headBits j.val) := if_neg (by omega)
    have stored := streamSlotWrite_stores hp (writeSlot_status hk hj hd)
    rwa [word] at stored
  case busy => exact fun hb hj => streamSlotWrite_none hp (writeSlot_busy hb hj)
  case beginInv =>
    intro ha hb
    obtain ⟨t, ht, hk, hr⟩ := echoInvalidate_begins hp ha hb
    have port_of : ∀ k, rp t k = rp (startInvs s a b) k := fun k => by rw [rp, rp, hr]
    rw [exec_echoInvalidate]
    refine ⟨t, ht, hk, ?_⟩
    rw [port_of, port_of]
    exact startInvs_ports s a b
  case invRefused => exact fun h => echoInvalidate_refused hp h
  case enable =>
    obtain ⟨t, ht, hk, hr⟩ := echoEnableWrite_takes (a := a) (b := b) hp
    have port_of : ∀ k, rp t k = rp (setEcho (setEcho s 0 a) 1 b) k := fun k => by rw [rp, rp, hr]
    have west : rp t 0 = rp (setEcho s 0 a) 0 := (port_of 0).trans (rp_setEcho_other _ b (by decide))
    obtain ⟨en0, echo0⟩ := rp_setEcho_same s 0 a
    obtain ⟨en1, echo1⟩ := rp_setEcho_same (setEcho s 0 a) 1 b
    rw [exec_echoEnableWrite]
    refine ⟨t, ht, hk, by rw [west, en0], by rw [port_of, en1], by rw [west, echo0], ?_⟩
    rw [port_of, echo1, rp_setEcho_other s a (by decide)]
  case done =>
    intro hc hi
    rw [exec_echoInvalidateDone]
    simp [execEchoInvalidateDone, hc, hi, finish_eq_after]

end Sys2Proof.Machine
end

section
/-! PROOF. Register accesses: how a port takes one, its refusals, and the registers that the statement names (R12-R17, R24, R43-R46, R442). -/

namespace Sys2Proof.Machine

/-! ## The arms of the accesses -/

theorem exec_rcRead (port a z s) : exec (.rcRead port a z) s = execRcRead port a z s := rfl
theorem exec_registerWrite (port a z d s) : exec (.registerWrite port a z d) s = execRegisterWrite port a z d s := rfl
theorem exec_mgmtLinkAccess (port acc bad s) : exec (.mgmtLinkAccess port acc bad) s = execMgmtLinkAccess port acc bad s := rfl

/-! ## A port takes an access (R43, R44) -/

/-- A port that performs accesses takes one, and has none before it. -/
theorem portReady_iff (s : State) (port : RegPort) : portReady s port = true ↔
    portTakes s port = true ∧ (rport s port).held = none ∧ (rport s port).queue = [] := by
  have room : 0 < portDepth port := by cases port <;> decide
  simp only [portReady, portTakes, Bool.and_eq_true, decide_eq_true_eq, Option.isNone_iff_eq_none, List.isEmpty_iff]
  constructor
  · rintro ⟨⟨⟨hl, hh⟩, hq⟩, hu⟩
    exact ⟨⟨⟨hl, hu⟩, by simpa [hh, hq] using room⟩, hh, hq⟩
  · rintro ⟨⟨⟨hl, hu⟩, -⟩, hh, hq⟩
    exact ⟨⟨⟨hl, hh⟩, hq⟩, hu⟩

/-- An access at a ready port is performed at once. -/
theorem accept_ready {s : State} {port : RegPort} (hp : portReady s port = true) (a : PortAcc) : accept port a s = perform port a s := by
  obtain ⟨-, hh, hq⟩ := (portReady_iff s port).mp hp
  have served : serveQueue 4 port s = .next s := by simp only [serveQueue, hh, hq]
  simp only [accept, served, andThen, hh, hq, Option.isNone_none, List.isEmpty_nil, Bool.and_self, if_true]

/-- An access behind one that waits is accepted and waits its turn. -/
theorem accept_behind {s : State} {port : RegPort} (hh : (rport s port).held.isSome = true) (a : PortAcc) :
    accept port a s = .next (after (modRport s port (fun x => { roomFor (portDepth port) x with queue := x.queue ++ [a] }))) := by
  obtain ⟨h, hh⟩ := Option.isSome_iff_exists.mp hh
  have served : serveQueue 4 port s = .next s := by simp only [serveQueue, hh]
  simp only [accept, served, andThen, hh, Option.isNone_some, Bool.false_and, Bool.false_eq_true, if_false, finish_eq_after]

theorem pathOf_ne_bad (a : BitVec 20) : pathOf a ≠ some true := by unfold pathOf; split <;> simp

theorem perform_good {port : RegPort} {a : PortAcc} (h : a.link ≠ some true) (s : State) :
    perform port a s = regAccess port a.addr.toNat a.size64 a.wr s := if_neg h

theorem rcRead_skipped {s : State} {port : RegPort} (hp : portTakes s port = false) (a : BitVec 20) (z : Bool) :
    execRcRead port a z s = .next s := by simp [execRcRead, hp, skip]

theorem registerWrite_skipped {s : State} {port : RegPort} (hp : portTakes s port = false) (a : BitVec 20) (z : Bool) (d : W64) :
    execRegisterWrite port a z d s = .next s := by simp [execRegisterWrite, hp, skip]

theorem mgmtLinkAccess_skipped {s : State} {port : RegPort} (acc : LinkAcc) (bad : Bool)
    (h : portTakes s port = false ∨ overLink (linkAddr acc).toNat = false) : execMgmtLinkAccess port acc bad s = .next s := by
  rcases h with h | h <;> simp [execMgmtLinkAccess, h, skip]

theorem rcRead_ready {s : State} {port : RegPort} (hp : portReady s port = true) (a : BitVec 20) (z : Bool) :
    execRcRead port a z s = regAccess port a.toNat z none s := by
  have takes := ((portReady_iff s port).mp hp).1
  simp only [execRcRead, takes, Bool.not_true, Bool.false_eq_true, if_false, accept_ready hp]
  exact perform_good (pathOf_ne_bad a) s

theorem registerWrite_ready {s : State} {port : RegPort} (hp : portReady s port = true) (a : BitVec 20) (z : Bool) (d : W64) :
    execRegisterWrite port a z d s = regAccess port a.toNat z (some d) s := by
  have takes := ((portReady_iff s port).mp hp).1
  simp only [execRegisterWrite, takes, Bool.not_true, Bool.false_eq_true, if_false, accept_ready hp]
  exact perform_good (pathOf_ne_bad a) s

/-- Over the link an access does what it does elsewhere, unless its parity check fails (R442). -/
theorem mgmtLinkAccess_ready {s : State} {port : RegPort} (hp : portReady s port = true) {acc : LinkAcc}
    (ho : overLink (linkAddr acc).toNat = true) (bad : Bool) : execMgmtLinkAccess port acc bad s =
      if bad then .next (after (busErr (wholeFault s 0x1E ((linkAddr acc).setWidth 32)) port))
      else regAccess port (linkAddr acc).toNat (linkSize acc) (linkData acc) s := by
  have takes := ((portReady_iff s port).mp hp).1
  simp only [execMgmtLinkAccess, takes, ho, Bool.not_true, Bool.or_false, Bool.false_eq_true, if_false, accept_ready hp]
  cases bad
  · exact perform_good (by simp) s
  · rfl

/-! ## Refused accesses (R17, R24) -/

/-- A misaligned access, and one whose offset names no register, are refused. -/
theorem regAccess_unnamed {port : RegPort} {o : Nat} {z : Bool}
    (h : o % 4 ≠ 0 ∨ (port = .cp ∧ z = true ∧ o % 8 ≠ 0) ∨ regHalf o = none) (wr : Option W64) (s : State) :
    regAccess port o z wr s = .next (after (busErr s port)) := by
  have mgmt : o % 4 ≠ 0 ∨ regHalf o = none → mgmtAccess port o wr s = .next (after (busErr s port)) := by
    rintro (h | h)
    · simp only [mgmtAccess, h, ne_eq, not_false_eq_true, if_true, finish_eq_after]
    · simp only [mgmtAccess, h, finish_eq_after, ite_self]
  cases port
  case cp =>
    cases z
    · have h' : o % 4 ≠ 0 ∨ regHalf o = none := by simpa using h
      rcases h' with h | h
      · simp only [regAccess, cpAccess, h, ne_eq, not_false_eq_true, if_true, Bool.false_eq_true, if_false, finish_eq_after]
      · simp only [regAccess, cpAccess, h, Bool.false_eq_true, finish_eq_after, ite_self]
    · have h' : o % 8 ≠ 0 ∨ regHalf o = none := by
        rcases h with h | ⟨-, -, h⟩ | h
        · exact .inl (by omega)
        · exact .inl h
        · exact .inr h
      rcases h' with h | h
      · simp only [regAccess, cpAccess, h, ne_eq, not_false_eq_true, if_true, finish_eq_after]
      · simp only [regAccess, cpAccess, h, finish_eq_after, ite_self]
  case mp => exact mgmt (by simpa using h)
  case gh => exact mgmt (by simpa using h)

/-- A write that the port may not make is refused (R24). -/
theorem regAccess_barred {port : RegPort} {o : Nat} (h : ∀ x, mayWrite port o x = false) (z : Bool) (d : W64) (s : State) :
    regAccess port o z (some d) s = .next (after (busErr s port)) := by
  have noWrite : ∀ x, barred s port o x (some d).isSome = true := fun x => by simp [barred, h x]
  have mgmt : mgmtAccess port o (some d) s = .next (after (busErr s port)) := by
    unfold mgmtAccess
    dsimp only
    split
    · rfl
    · split
      · rfl
      · rw [if_pos (noWrite _)]; rfl
  cases port
  case cp =>
    unfold regAccess cpAccess
    dsimp only
    split
    · split
      · rfl
      · split
        · rw [if_pos (by rw [noWrite _]; rfl)]; rfl
        · rfl
    · split
      · rfl
      · split
        · rw [if_pos (by rw [noWrite _, Bool.or_true])]; rfl
        · rfl
  case mp => exact mgmt
  case gh => exact mgmt

theorem mayWrite_cp_mgmtBlock {o : Nat} (lo : 0x1000 ≤ o) (hi : o < 0x5000) (x : Reg) : mayWrite .cp o x = false := by
  have h5 : ¬ 0x5000 ≤ o := by omega
  have h7 : ¬ 0x7000 ≤ o := by omega
  have h1 : ¬ 0x10000 ≤ o := by omega
  simp [mayWrite, h5, h7, h1]

theorem mayWrite_mgmt_cpBlock {port : RegPort} {o : Nat} (hp : port ≠ .cp) (h : o < 0x1000 ∨ (0x30000 ≤ o ∧ o < 0x70000)) (x : Reg) :
    mayWrite port o x = false := by
  have out : (decide (0x1000 ≤ o) && !decide (0x30000 ≤ o ∧ o < 0x70000)) = false := by
    rcases h with h | h
    · simp [Nat.not_le.mpr h]
    · simp [h]
  cases port
  · exact absurd rfl hp
  · exact out
  · exact out

/-! ## Accesses to one register (R43, R46) -/

/-- A 32-bit access to a 32-bit register that is no context slot word, through any port. -/
theorem regAccess_narrow {s : State} {port : RegPort} {o : Nat} {x : Reg} {wr : Option W64} (ha : o % 4 = 0)
    (hx : regHalf o = some (x, false)) (hw : x.wide = false) (hb : barred s port o x wr.isSome = false) :
    regAccess port o false wr s = access port x (wr.map (fun d => w64 (lo32 d))) s := by
  have notSlot : ∀ n j, x ≠ .slot n j := fun n j e => by rw [e] at hw; cases hw
  have wide : wideAt s x = false := by
    unfold wideAt
    split
    · exact absurd rfl (notSlot _ _)
    · exact hw
  have whole : ∀ hi, narrow port x hi wr s = access port x (wr.map (fun d => w64 (lo32 d))) s := fun hi => by
    unfold narrow
    split
    · exact absurd rfl (notSlot _ _)
    · rfl
  cases port <;>
    simp only [regAccess, cpAccess, mgmtAccess, ha, hx, hb, wide, whole, ne_eq, not_true_eq_false, if_false, Bool.false_eq_true, Bool.or_self,
      Bool.not_false, if_true]

theorem barred_read {s : State} {port : RegPort} {o : Nat} {x : Reg} (hx : x.counter = false) : barred s port o x false = false := by
  simp [barred, hx]

theorem lo32_w64 (w : W32) : lo32 (w64 w) = w := by simp [lo32, w64]

/-! ## RG_ARB_FREEZE -/

theorem regHalf_arbFreeze (r : Region) : regHalf (0x8020C + 0x10000 * r.val) = some (.arbFreeze r, false) := by
  revert r; decide

end Sys2Proof.Machine
end

section
/-! PROOF. A wake request changes, in a region, its power controller alone (R401, R404). -/

namespace Sys2Proof.Machine

/-- Every region of t is that of s but for its power controller. -/
def PowerOnly (s t : State) : Prop := ∀ q, ∃ p, rg t q = { rg s q with power := p }

theorem PowerOnly.refl (s : State) : PowerOnly s s := fun q => ⟨(rg s q).power, rfl⟩

theorem PowerOnly.trans {s t u : State} (h : PowerOnly s t) (g : PowerOnly t u) : PowerOnly s u := fun q => by
  obtain ⟨p, hp⟩ := h q
  obtain ⟨p', hp'⟩ := g q
  exact ⟨p', by rw [hp', hp]⟩

theorem PowerOnly.of_regions {s t : State} (h : t.regions = s.regions) : PowerOnly s t := fun q => ⟨(rg s q).power, by rw [rg, h]; rfl⟩

theorem modPw_powerOnly (s : State) (r : Region) (f : RPower → RPower) : PowerOnly s (modPw s r f) := fun q => by
  rw [modPw, rg_modRg]
  split
  · exact ⟨f (rg s q).power, rfl⟩
  · exact ⟨(rg s q).power, rfl⟩

theorem countM_regions (s : State) (e a n : Nat) : (countM s e a n).regions = s.regions := by
  unfold countM wrapFlag
  dsimp only
  split <;> rfl

theorem grantWake_powerOnly {s t : State} {r : Region} {at_ : Nat} (h : grantWake s r at_ = some t) : PowerOnly s t := by
  unfold grantWake at h
  dsimp only at h
  split at h
  · split at h
    · cases h; exact modPw_powerOnly _ r _
    · cases h
  · cases h

theorem grantBetween_powerOnly {s t : State} {r : Region} (h : grantBetween s r = some t) : PowerOnly s t := by
  unfold grantBetween at h
  dsimp only at h
  split at h
  · exact absurd h (by simp)
  · rename_i s' hg
    split at h
    · rw [← Option.some.inj h]
      exact (grantWake_powerOnly hg).trans (.of_regions (countM_regions _ _ _ _))
    · exact absurd h (by simp)

theorem wakeReq_powerOnly (s : State) (r : Region) : PowerOnly s (wakeReq s r) := by
  have waits : PowerOnly s (if (rg s r).power.downWait then modPw s r (fun p => { p with downWait := false, ticks := 0 }) else s) := by
    split
    · exact modPw_powerOnly s r _
    · exact .refl s
  unfold wakeReq
  dsimp only
  revert waits
  generalize (if (rg s r).power.downWait then modPw s r (fun p => { p with downWait := false, ticks := 0 }) else s) = u
  intro waits
  split
  · exact waits.trans (modPw_powerOnly u r _)
  · split
    · exact waits
    · have pending := waits.trans (modPw_powerOnly u r (fun p => { p with pend := true }))
      split
      · split
        · exact pending.trans (grantBetween_powerOnly ‹_›)
        · exact pending
      · exact pending

theorem PowerOnly.arb {s t : State} (h : PowerOnly s t) (q : Region) : (rg t q).arb = (rg s q).arb := by
  obtain ⟨p, hp⟩ := h q
  rw [hp]

end Sys2Proof.Machine
end

section
/-! PROOF. The registers that the statement about accesses names. -/

namespace Sys2Proof.Machine

/-! ## ID_VERSION -/

theorem rcRead_idVersion {s : State} {port : RegPort} (hp : portReady s port = true) :
    execRcRead port 0 false s = .next (after (reply s port 0x00020003)) := by
  rw [rcRead_ready hp]
  exact regAccess_narrow (x := .idVersion) rfl (by decide) rfl (barred_read rfl)

/-! ## MB_REJECTS (R12) -/

theorem rcRead_mbRejects {s : State} {port : RegPort} (hp : portReady s port = true) : execRcRead port 0x20414 false s =
    .next (after (reply { s with lod := { s.lod with rejects := 0 } } port (s.lod.rejects.setWidth 64))) := by
  rw [rcRead_ready hp]
  exact regAccess_narrow (x := .mbRejects) rfl (by decide) rfl (barred_read rfl)

/-! ## RG_ARB_FREEZE (R401) -/

theorem rcRead_arbFreeze {s : State} {port : RegPort} {r : Region} {o : BitVec 20} (hp : portReady s port = true)
    (ho : o.toNat = 0x8020C + 0x10000 * r.val) : execRcRead port o false s =
      .next (after (reply (wakeReq s r) port ((rg s r).arb.freeze.setWidth 64))) := by
  rw [rcRead_ready hp]
  exact regAccess_narrow (x := .arbFreeze r) (by omega) (by rw [ho, regHalf_arbFreeze]) rfl (barred_read rfl)

theorem mayWrite_arbFreeze {port : RegPort} {r : Region} {o : Nat} (ho : o = 0x8020C + 0x10000 * r.val) :
    mayWrite port o (.arbFreeze r) = true := by
  have lo : 0x70000 ≤ o := by omega
  have h1 : 0x10000 ≤ o := by omega
  have h2 : 0x1000 ≤ o := by omega
  have h3 : ¬ o < 0x70000 := by omega
  cases port <;> simp [mayWrite, Reg.counter, h1, h2, h3]

theorem putReg_arbFreeze (port : RegPort) (r : Region) (d : W64) (s : State) : putReg port (.arbFreeze r) d s =
    .next (after (ack (modRg (wakeReq s r) r (fun g => { g with arb := { g.arb with freeze := lo32 d } })) port)) := rfl

theorem registerWrite_arbFreeze {s : State} {port : RegPort} {r : Region} {o : BitVec 20} (d : W64) (hp : portReady s port = true)
    (ho : o.toNat = 0x8020C + 0x10000 * r.val) : ∃ t, execRegisterWrite port o false d s = .next t ∧ kept s t ∧
      (rg t r).arb.freeze = lo32 d ∧ ∀ q, q ≠ r → (rg t q).arb = (rg s q).arb := by
  have free : barred s port o.toNat (.arbFreeze r) true = false := by simp [barred, mayWrite_arbFreeze ho]
  have done := regAccess_narrow (s := s) (port := port) (x := .arbFreeze r) (wr := some d) (by omega) (by rw [ho, regHalf_arbFreeze]) rfl free
  rw [← registerWrite_ready hp] at done
  refine ⟨_, done.trans (putReg_arbFreeze port r _ s), kept_after ?_, ?_, fun q hq => ?_⟩
  · rw [ack_store, modRg_store, wakeReq_store]
  · rw [rg, after_regions, ack_regions, ← rg, rg_modRg_same, lo32_w64]
  · have same : rg (modRg (wakeReq s r) r (fun g => { g with arb := { g.arb with freeze := lo32 (w64 (lo32 d)) } })) q = rg (wakeReq s r) q := by
      rw [rg_modRg, if_neg (Ne.symm hq)]
    rw [rg, after_regions, ack_regions, ← rg, same, (wakeReq_powerOnly s r).arb q]

/-! ## MB_IE, a 64-bit register (R17, R44, R46) -/

theorem regHalf_mbIe : regHalf 0x20408 = some (.mbIe, false) ∧ regHalf 0x2040C = some (.mbIe, true) := by decide

theorem putReg_mbIe (port : RegPort) (d : W64) (s : State) :
    putReg port .mbIe d s = .next (after (ack { s with lod := { s.lod with ie := d } } port)) := rfl

/-- The control port refuses a 32-bit access to a 64-bit register. -/
theorem cpAccess_mbIe_narrow (wr : Option W64) (s : State) : cpAccess 0x20408 false wr s = .next (after (busErr s .cp)) := by
  have wide : wideAt s .mbIe = true := rfl
  simp only [cpAccess, regHalf_mbIe, wide, Bool.true_or, if_true, Bool.false_eq_true, if_false, finish_eq_after, ite_self]

theorem cpAccess_mbIe_write (d : W64) (s : State) :
    cpAccess 0x20408 true (some d) s = .next (after (ack { s with lod := { s.lod with ie := d } } .cp)) := by
  have free : ∀ o, o = 0x20408 ∨ o = 0x2040C → barred s .cp o .mbIe (some d).isSome = false := by
    rintro o (rfl | rfl) <;> rfl
  have upper : regHalf (0x20408 + 4) = some (.mbIe, true) := regHalf_mbIe.2
  simp only [cpAccess, regHalf_mbIe, upper, free 0x20408 (.inl rfl), free (0x20408 + 4) (.inr rfl), if_true, Bool.or_self, Bool.false_eq_true,
    if_false, ne_eq, Nat.reduceMod, not_true_eq_false]
  exact putReg_mbIe .cp d s

/-- A write of the upper word goes to the management port's holding register, one of the lower word writes the register (R46). -/
theorem mgmtAccess_mbIe_upper (d : W64) (s : State) :
    mgmtAccess .mp 0x2040C (some d) s = .next (after (ack { s with mp := { s.mp with hold := lo32 d } } .mp)) := by
  have free : barred s .mp 0x2040C .mbIe (some d).isSome = false := rfl
  have wide : wideAt s .mbIe = true := rfl
  simp only [mgmtAccess, regHalf_mbIe, free, wide, ne_eq, Nat.reduceMod, not_true_eq_false, Bool.not_true, Bool.false_eq_true, if_false,
    if_true]
  rfl

theorem mgmtAccess_mbIe_lower (d : W64) (s : State) :
    mgmtAccess .mp 0x20408 (some d) s = .next (after (ack { s with lod := { s.lod with ie := s.mp.hold ++ lo32 d } } .mp)) := by
  have free : barred s .mp 0x20408 .mbIe (some d).isSome = false := rfl
  have wide : wideAt s .mbIe = true := rfl
  simp only [mgmtAccess, regHalf_mbIe, free, wide, ne_eq, Nat.reduceMod, not_true_eq_false, Bool.not_true, Bool.false_eq_true, if_false]
  exact putReg_mbIe .mp _ s

theorem mgmtAccess_mbIe_readUpper (s : State) :
    mgmtAccess .mp 0x2040C none s = .next (after (reply s .mp (s.mp.hold.setWidth 64))) := by
  have free : barred s .mp 0x2040C .mbIe (none : Option W64).isSome = false := rfl
  have wide : wideAt s .mbIe = true := rfl
  simp only [mgmtAccess, regHalf_mbIe, free, wide, ne_eq, Nat.reduceMod, not_true_eq_false, Bool.not_true, Bool.false_eq_true, if_false,
    if_true]
  rfl

theorem mgmtAccess_mbIe_readLower (s : State) :
    mgmtAccess .mp 0x20408 none s = .next (after (reply (shaped s .mp .lower) .mp s.lod.ie)) := by
  have free : barred s .mp 0x20408 .mbIe (none : Option W64).isSome = false := rfl
  have wide : wideAt s .mbIe = true := rfl
  simp only [mgmtAccess, regHalf_mbIe, free, wide, ne_eq, Nat.reduceMod, not_true_eq_false, Bool.not_true, Bool.false_eq_true, if_false]
  rfl

/-- A read of the lower word at a ready port answers it and holds the upper word. -/
theorem reply_lower {s : State} (hp : portReady s .mp = true) (d : W64) :
    (reply (shaped s .mp .lower) .mp d).mp.rsps = [⟨(lo32 d).setWidth 64, false⟩] ∧
      (reply (shaped s .mp .lower) .mp d).mp.hold = d.extractLsb' 32 32 := by
  obtain ⟨-, hh, hq⟩ := (portReady_iff s .mp).mp hp
  have queue : s.mp.queue = [] := hq
  constructor
  · simp [reply, shaped, modRport, answered, respond, roomFor, unanswered, portDepth, queue]
  · rfl

theorem rcRead_mbIe_lower {s : State} (hp : portReady s .mp = true) : ∃ t, execRcRead .mp 0x20408 false s = .next t ∧ kept s t ∧
    t.lod = s.lod ∧ t.mp.rsps = [⟨(lo32 s.lod.ie).setWidth 64, false⟩] ∧ t.mp.hold = s.lod.ie.extractLsb' 32 32 := by
  obtain ⟨rsps, hold⟩ := reply_lower hp s.lod.ie
  refine ⟨_, (rcRead_ready hp _ _).trans (mgmtAccess_mbIe_readLower s), kept_after ?_, ?_, ?_, ?_⟩
  · rw [reply_store, shaped_store]
  · rw [after_lod]; rfl
  · rw [after_mp, rsps]
  · rw [after_mp, hold]

/-! ## The statement -/

/-- Settles O60: how a port takes an access, who is refused, and one lemma for each register named. -/
theorem registerAccesses : Obligations.RegisterAccesses := by
  unfold Obligations.RegisterAccesses
  intro s port a z d r
  simp only [exec_rcRead, exec_registerWrite, exec_mgmtLinkAccess]
  refine ⟨?skipped, fun ht hh => ⟨?readWaits, ?writeWaits⟩, fun hp => ⟨fun h => ⟨?readRefused, ?writeRefused⟩, fun h => ?noRight,
    rcRead_idVersion hp, fun o ho => ⟨registerWrite_arbFreeze d hp ho, rcRead_arbFreeze hp ho⟩, rcRead_mbRejects hp, fun ho => ?noPath,
    fun ho => ?link⟩, fun hp => ?control, fun hp => ?management⟩
  case skipped =>
    intro ht c hc
    simp only [List.mem_cons, List.not_mem_nil, or_false] at hc
    rcases hc with rfl | rfl | rfl
    · exact rcRead_skipped ht a z
    · exact registerWrite_skipped ht a z d
    · exact mgmtLinkAccess_skipped _ _ (.inl ht)
  case readWaits => simp only [execRcRead, ht, Bool.not_true, Bool.false_eq_true, if_false, accept_behind hh, pathOf]
  case writeWaits => simp only [execRegisterWrite, ht, Bool.not_true, Bool.false_eq_true, if_false, accept_behind hh, pathOf]
  case readRefused => rw [rcRead_ready hp, regAccess_unnamed h]
  case writeRefused => rw [registerWrite_ready hp, regAccess_unnamed h]
  case noRight =>
    rw [registerWrite_ready hp]
    refine regAccess_barred (fun x => ?_) z d s
    rcases h with ⟨rfl, lo, hi⟩ | ⟨hne, h⟩
    · exact mayWrite_cp_mgmtBlock lo hi x
    · exact mayWrite_mgmt_cpBlock hne h x
  case noPath => exact ⟨mgmtLinkAccess_skipped _ _ (.inr ho), mgmtLinkAccess_skipped _ _ (.inr ho)⟩
  case link =>
    have reads := fun bad => mgmtLinkAccess_ready (acc := .read a z) hp ho bad
    have writes := fun bad => mgmtLinkAccess_ready (acc := .write a z d) hp ho bad
    rw [rcRead_ready hp, registerWrite_ready hp]
    exact ⟨reads true, writes true, reads false, writes false⟩
  case control =>
    rw [rcRead_ready hp, registerWrite_ready hp, registerWrite_ready hp]
    exact ⟨cpAccess_mbIe_narrow none s, cpAccess_mbIe_narrow (some d) s, cpAccess_mbIe_write d s⟩
  case management =>
    rw [rcRead_ready hp 0x2040C, registerWrite_ready hp, registerWrite_ready hp]
    exact ⟨mgmtAccess_mbIe_upper d s, mgmtAccess_mbIe_lower d s, rcRead_mbIe_lower hp, mgmtAccess_mbIe_readUpper s⟩

end Sys2Proof.Machine
end

section
/-! PROOF. A wake request of an Idle region that the reserve grants at once is counted where CNT_SEL selects it (R404, R479), so a
write of a counter of that region may change another counter. -/

namespace Sys2Proof.Machine

/-! ## A wake granted from the reserve (R403, R404) -/

theorem least_mem (xs : List Nat) (y : Nat) (h : least xs = some y) : y ∈ xs := by
  induction xs generalizing y with
  | nil => cases h
  | cons x xs ih =>
    rw [least] at h
    split at h
    · cases h; simp
    · rename_i z hz
      cases h
      rcases min_choice x z with e | e
      · simp [e]
      · rw [e]; exact List.mem_cons_of_mem _ (ih z hz)

theorem least_cons_of_le (x : Nat) (xs : List Nat) (h : ∀ y ∈ xs, x ≤ y) : least (x :: xs) = some x := by
  rw [least]
  split
  · rfl
  · rename_i z hz
    rw [min_eq_left (h z (least_mem xs z hz))]

/-- No moment at which a step may start lies before it falls due. -/
theorem startTimes_le (now t dur : Nat) (clr : Bool) : ∃ l, startTimes now t dur clr = t :: l ∧ ∀ y ∈ l, t ≤ y := by
  refine ⟨_, rfl, fun y hy => ?_⟩
  simp only [List.mem_flatMap, List.mem_append] at hy
  obtain ⟨i, -, hy | hy⟩ := hy
  · split at hy
    · rename_i h
      simp only [Bool.and_eq_true, decide_eq_true_eq] at h
      rw [List.mem_singleton.mp hy]; exact h.2.le
    · cases hy
  · split at hy
    · rename_i h
      rw [List.mem_singleton.mp hy]; exact h.le
    · cases hy

/-- A rise that falls due in the current tick and fits its ledger is booked for that moment (R404). -/
theorem bookAt_rise_now {st : Stager} {now t amt dur : Nat} (hlo : now ≤ t) (hhi : t < now + 1000)
    (hfit : ledAt st.rise 0 + amt ≤ ledgerL st) :
    bookAt st now t amt dur true false = some (t, { st with rise := ledAdd st.rise 0 amt }) := by
  have off : (t - now) / 1000 = 0 := by omega
  obtain ⟨l, hl, hle⟩ := startTimes_le now t dur false
  simp only [bookAt, hl, Bool.false_eq_true, if_false, if_true]
  rw [List.filter_cons_of_pos (by simp [off, hfit]), least_cons_of_le _ _ (fun y hy => hle y (List.mem_filter.mp hy).1)]
  simp only [off]

/-- The booking of the one step that takes an Idle region to Run. -/
def clockOnAt (t : Nat) : Booked := ⟨.clockOn, t, t + 40, false, false⟩

theorem bookSteps_clockOn_now {st : Stager} {now mhz t : Nat} (hlo : now ≤ t) (hhi : t < now + 1000)
    (hfit : ledAt st.rise 0 + 280 ≤ ledgerL st) :
    bookSteps now mhz [(.clockOn, false)] st t = some ([clockOnAt t], { st with rise := ledAdd st.rise 0 280 }) := by
  have small : ¬ ledgerL st < 280 := by omega
  have booked : bookStep st now mhz t .clockOn false = some (clockOnAt t, { st with rise := ledAdd st.rise 0 280 }) := by
    simp only [bookStep, stepAmp, stepNs, stepRises, small, reduceCtorEq, decide_false, bookAt_rise_now hlo hhi hfit, if_false, OfNat.ofNat_ne_zero]
    rfl
  simp only [bookSteps, booked]

/-- An Idle region that owes no CLEAR, whose half has no wake pending, no ceiling, and room for CLOCK_ON in ledger and reserve. -/
structure ReserveWakes (s : State) (r : Region) : Prop where
  idle : (rg s r).power.st = .idle
  noData : bit8 s.rs.pendData r = false
  noBasin : bit8 s.rs.pendBasin r = false
  fits : ledAt (stager s (halfOf r)).rise 0 + 280 ≤ ledgerL (stager s (halfOf r))
  reserve : 280 ≤ (stager s (halfOf r)).reserve
  noCeiling : (stager s (halfOf r)).ceilEff = 0

/-- The state with the wake of region r granted at t, before the reserve pays. -/
def wakeGranted (s : State) (r : Region) (t : Nat) : State :=
  modPw (modStager s (halfOf r) (fun st => { st with rise := ledAdd st.rise 0 280 })) r
    (fun p => { p with pend := false, waking := true, steps := [clockOnAt t], ticks := 0, late := s.frz.asserted })

theorem grantWake_reserve {s : State} {r : Region} {t : Nat} (h : ReserveWakes s r) (hlo : tickNs s ≤ t) (hhi : t < tickNs s + 1000) :
    grantWake s r t = some (wakeGranted s r t) := by
  have steps : wakeSteps s r = [(.clockOn, false)] := by simp [wakeSteps, h.idle, h.noData, h.noBasin]
  have tick : t / 1000 = s.aon.sundial.toNat := by simp only [tickNs] at hlo hhi; omega
  simp only [grantWake, steps, bookSteps_clockOn_now hlo hhi h.fits]
  exact if_pos tick

@[simp] theorem stager_modPw (s : State) (r : Region) (f : RPower → RPower) (h : Half) : stager (modPw s r f) h = stager s h := rfl

@[simp] theorem stager_modStager_same (s : State) (h : Half) (f : Stager → Stager) : stager (modStager s h f) h = f (stager s h) := by
  simp [stager]

theorem riseNow_ledAdd (st : Stager) (a : Nat) : riseNow st { st with rise := ledAdd st.rise 0 a } = a := by
  simp [riseNow, ledAt, ledAdd]

/-- The grant from the reserve counts RESERVE_GRANTS of its half (R479). -/
theorem grantBetween_reserve {s : State} {r : Region} (h : ReserveWakes s r) :
    ∃ u, u.cnt = s.cnt ∧ grantBetween s r = some (countM u 0x72 (halfOf r).val 1) := by
  have lo : tickNs s ≤ tickNs s + (fv s 3 10).toNat % 1000 := Nat.le_add_right _ _
  have hi : tickNs s + (fv s 3 10).toNat % 1000 < tickNs s + 1000 := Nat.add_lt_add_left (Nat.mod_lt _ (by norm_num)) _
  have granted := grantWake_reserve h lo hi
  unfold grantBetween
  dsimp only
  rw [granted]
  generalize tickNs s + (fv s 3 10).toNat % 1000 = t
  have paid : riseNow (stager s (halfOf r)) (stager (wakeGranted s r t) (halfOf r)) = 280 := by
    rw [wakeGranted, stager_modPw, stager_modStager_same, riseNow_ledAdd]
  have booked : (rg (wakeGranted s r t) r).power.steps = [clockOnAt t] := by rw [wakeGranted, modPw, rg_modRg_same]
  have inTime : prompt s.aon.sundial.toNat t [clockOnAt t] = true := by simp [prompt, clockOnAt]
  have ceiling : risesFit (wakeGranted s r t) (halfOf r) r = true := by
    have noLimit : ceilAmp (wakeGranted s r t) (halfOf r) = 0 := by
      rw [ceilAmp, wakeGranted, stager_modPw, stager_modStager_same]
      simp [h.noCeiling]
    simp [risesFit, noLimit]
  refine ⟨modStager (wakeGranted s r t) (halfOf r) (fun st => { st with reserve := st.reserve - 280 }), rfl, ?_⟩
  simp only [paid, booked, inTime, ceiling, h.reserve, decide_true, Bool.and_self, if_true]

theorem wrapFlag_counters (s : State) (w : Bool) : (wrapFlag s w).cnt.counters = s.cnt.counters := by
  unfold wrapFlag; split <;> rfl

/-- Events of this kind advance the counters of the whole block that select it. -/
theorem countM_counters (s : State) (e a n : Nat) : (countM s e a n).cnt.counters = (cntAll s.cnt.counters [selOf e a] n).1 := by
  rw [countM, wrapFlag_counters]

/-- A wake request that the reserve grants at once advances the counters of the whole block that select
RESERVE_GRANTS of the half. -/
theorem wakeReq_reserve_counters {s : State} {r : Region} (h : ReserveWakes s r) (hw : (rg s r).power.downWait = false)
    (hd : (rg s r).power.down = false) (hg : (rg s r).power.waking = false) (hn : anyPending s (halfOf r) = false)
    (hp : (rg s r).power.pend = false) (hf : frozen s (halfOf r) = false) :
    (wakeReq s r).cnt.counters = (cntAll s.cnt.counters [selOf 0x72 (halfOf r).val] 1).1 := by
  have power : (rg (modPw s r (fun p => { p with pend := true })) r).power = { (rg s r).power with pend := true } := by
    rw [modPw, rg_modRg_same]
  have pending : ReserveWakes (modPw s r (fun p => { p with pend := true })) r :=
    ⟨by rw [power]; exact h.idle, h.noData, h.noBasin, h.fits, h.reserve, h.noCeiling⟩
  have may : mayWake (modPw s r (fun p => { p with pend := true })) r = true := by
    have moving : frozen (modPw s r (fun p => { p with pend := true })) (halfOf r) = false := hf
    rw [mayWake, power, moving]; rfl
  obtain ⟨u, hu, granted⟩ := grantBetween_reserve pending
  have woken : wakeReq s r = countM u 0x72 (halfOf r).val 1 := by
    have idle : ((rg s r).power.st = .run) = False := by rw [h.idle]; simp
    simp only [wakeReq, hw, hd, hg, hp, hn, idle, may, granted, decide_false, Bool.or_self, Bool.false_eq_true, if_false, Bool.not_false,
      Bool.and_self, if_true]
  rw [woken, countM_counters, hu, modPw_cnt]

/-! ## A counter write in such a region -/

theorem portReady_wideWrite (s : State) (p : RegPort) (d : W64) (q : RegPort) : portReady (wideWrite s p d) q = portReady s q := by
  cases p <;> cases q <;> rfl

/-- A write of a counter of a region with power is behind the wake request that it raises (R401, R482). -/
theorem counterWrite_region {s : State} {port : RegPort} {r : Region} {i : Fin 8} (d : W64) (hp : portReady s port = true)
    (hm : isMgmt port = true) (hs : (rg (ack (wideWrite s port d) port) r).power.st ≠ .off) :
    execCounterWrite port (.region r i) d s =
      .next (after (modCnt (wakeReq (ack (wideWrite s port d) port) r) (.region r i) (fun x => writeCnt x d))) := by
  have powered : cntOff (ack (wideWrite s port d) port) (.region r i) = false := beq_eq_false_iff_ne.mpr hs
  simp only [execCounterWrite, hp, Bool.not_true, Bool.false_eq_true, if_false]
  rw [mgmtWrite_of_mgmt _ ((portReady_wideWrite s port d port).trans hp) hm]
  simp only [powered, Bool.false_eq_true, if_false]
  rfl

/-- The block in service, its regions Idle, with the reserve that an edge leaves at reset values of PWR_STEP (R404, R413), and
counters of the whole block that count the West half's grants from the reserve. -/
def reserveCounted : State :=
  { State.reset with
    pins := ⟨false, false, Vector.replicate 2 true, Vector.replicate 2 true⟩
    aon := { aon0 with rst := false }
    gh := { gatehouse0 with mpReady := true }
    regions := Vector.replicate 8 { region0 with power := { power0 with st := .idle } }
    pwr := { pwr0 with stagers := Vector.replicate 2 { stager0 with reserve := 880 } }
    cnt := { counters0 with counters := Vector.replicate 16 { counter0 with sel := selOf 0x72 0 } } }

/-- That state with a counter write acknowledged. -/
def reserveCountedAcked : State := ack (wideWrite reserveCounted .mp 0) .mp

theorem reserveCountedAcked_wakes : ReserveWakes reserveCountedAcked 0 where
  idle := by decide +kernel
  noData := by decide +kernel
  noBasin := by decide +kernel
  fits := by decide +kernel
  reserve := by decide +kernel
  noCeiling := by decide +kernel

/-- The wake request of the write advances counter 0 of the whole block to 1. -/
theorem reserveCountedAcked_counts : (vget (wakeReq reserveCountedAcked 0).cnt.counters 0).val = 1 := by
  have counters := wakeReq_reserve_counters reserveCountedAcked_wakes (by decide +kernel) (by decide +kernel) (by decide +kernel)
    (by decide +kernel) (by decide +kernel) (by decide +kernel)
  rw [counters]
  decide +kernel

theorem exec_counterWrite (port c d s) : exec (.counterWrite port c d) s = execCounterWrite port c d s := rfl

/-- Refutes O59: a write of a counter of an Idle region is a wake request; the reserve grants the wake, and a counter of the whole
block that selects RESERVE_GRANTS advances, so these counters do not stand as the statement says (R401, R404, R479). -/
theorem not_samplesDumpsTagsAndCounterWrites : ¬ Obligations.SamplesDumpsTagsAndCounterWrites := by
  unfold Obligations.SamplesDumpsTagsAndCounterWrites
  intro h
  obtain ⟨writes, -⟩ := h reserveCounted .mp ⟨0, false, 0, 0, 0, .headerOut, 0⟩ false false 0 0 (.whole 0) 0 0 0 0 0
  have ready : portReady reserveCounted .mp = true := by decide +kernel
  obtain ⟨-, byMgmt⟩ := writes ready
  obtain ⟨-, -, -, -, -, powered⟩ := byMgmt rfl
  obtain ⟨⟨t, ht, -, stands, -⟩, -⟩ := powered (by decide +kernel)
  have done := counterWrite_region (i := 0) 0 ready rfl (by decide +kernel : (rg reserveCountedAcked 0).power.st ≠ .off)
  rw [exec_counterWrite, done, Host.Outcome.next.injEq] at ht
  have counted : (vget t.cnt.counters 0).val = 1 := by
    rw [← ht, after_cnt]
    exact reserveCountedAcked_counts
  rw [stands] at counted
  exact absurd counted (by decide +kernel)

end Sys2Proof.Machine
end

section
/-! PROOF. Every command keeps the two byte stores in canonical form (R21, R199): the rules. -/

namespace Sys2Proof.Machine

/-- Where the byte stores of s are canonical, so are those of the state that o answers. -/
def KeepsForm (s : State) (o : Host.Outcome State Fault Refusal) : Prop :=
  storesWf s = true → ∀ t, o = .next t → storesWf t = true

theorem storesWf_after {u : State} (h : storesWf u = true) : storesWf (after u) = true := by
  rw [storesWf_of_store (after_store u)]; exact h

theorem storesWf_afterSync {u : State} (h : storesWf u = true) : storesWf (afterSync u) = true := by
  rw [storesWf_of_store (afterSync_store u)]; exact h

namespace KeepsForm

variable {s u : State} {a b : Host.Outcome State Fault Refusal}

/-- A command that answers u. -/
theorem next (h : storesWf s = true → storesWf u = true) : KeepsForm s (.next u) := fun hs t e => by
  cases e; exact h hs

theorem skip : KeepsForm s (skip s) := next id

/-- A command whose effect keeps the form. -/
theorem finishForm (h : storesWf s = true → storesWf u = true) : KeepsForm s (finish u) := next fun hs => storesWf_after (h hs)

theorem finishSyncForm (h : storesWf s = true → storesWf u = true) : KeepsForm s (finishSync u) :=
  next fun hs => storesWf_afterSync (h hs)

/-- A command whose effect writes neither store. -/
theorem finish (h : store u = store s) : KeepsForm s (finish u) := finishForm fun hs => (storesWf_of_store h).trans hs

theorem finishSync (h : store u = store s) : KeepsForm s (finishSync u) := finishSyncForm fun hs => (storesWf_of_store h).trans hs

theorem ite {c : Prop} [Decidable c] (h : KeepsForm s a) (g : KeepsForm s b) : KeepsForm s (if c then a else b) := by
  split
  · exact h
  · exact g

/-- A command that runs on a state with the same stores. -/
theorem of_store (h : store u = store s) (g : KeepsForm u a) : KeepsForm s a := fun hs => g ((storesWf_of_store h).trans hs)

/-- Two commands in a row. -/
theorem andThen {f : State → Host.Outcome State Fault Refusal} (h : KeepsForm s a) (g : ∀ t, KeepsForm t (f t)) :
    KeepsForm s (andThen a f) := by
  intro hs t e
  cases a with
  | next u => exact g u (h hs u rfl) t e
  | fault => cases e
  | refused => cases e

end KeepsForm

end Sys2Proof.Machine
end

section
/-! PROOF. Commands of the engine ports, the arbiters, the events and the power states keep the form of the byte stores. -/

namespace Sys2Proof.Machine

/-! ## Shapes that several commands share -/

theorem presentReq_keepsForm (s p op q w) : KeepsForm s (presentReq s p op q w) := .ite (.finish (takeReq_store _ _ _ _ _)) .skip

theorem mgmtWrite_keepsForm (s port) {f : State → State} (h : ∀ u, store (f u) = store u) : KeepsForm s (mgmtWrite s port f) :=
  .ite .skip (.ite (.finish (busErr_store _ _)) (.finish ((h _).trans (ack_store _ _))))

theorem writeReg_keepsForm (s port r) {f : State → State} (h : ∀ u, store (f u) = store u) : KeepsForm s (writeReg s port r f) :=
  .ite .skip (.finish ((ack_store _ _).trans ((h _).trans (wakeReq_store _ _))))

theorem presentOp_keepsForm (src n w s) : KeepsForm s (presentOp src n w s) := by
  cases src with
  | reg port =>
    have done := (bstDo_store (wideWrite s port w) .ctrl none n w).trans (wideWrite_store s port w)
    have refused := (busErr_store (wideWrite s port w) port).trans (wideWrite_store s port w)
    exact .ite .skip (.ite (.finish refused) (.ite (.finish refused)
      (.ite (.finishSync ((ack_store _ _).trans done)) (.finishSync ((busErr_store _ _).trans done)))))
  | engine p =>
    refine .ite .skip ?_
    split
    · exact .ite (.finishSync (releaseSignal_store _ _)) .skip
    · exact .skip

theorem receiveSync_keepsForm (s w) : KeepsForm s (receiveSync s w) :=
  .ite .skip (.ite (.finish rfl) (.finishSync (drainSync_store _ _)))

theorem takeResponse_keepsForm (p ch id s) : KeepsForm s (takeResponse p ch id s) := by
  refine .ite .skip ?_
  split
  · exact .skip
  next e _ =>
    refine .ite .skip ?_
    have taken : store (if (respBeat e).2.2 = true then
          modEp (tagRequest s p e true) p (fun x =>
            { x with reqs := x.reqs.filter (fun y => y.seq != e.seq), cur := if ch = .rd then none else x.cur })
        else modEp (modReq s p e.seq (fun y => { y with taken := y.taken + 1 })) p (fun x => { x with cur := some e.seq })) = store s := by
      split
      · exact tagRequest_store s p e true
      · rfl
    dsimp only
    split
    · exact .finish taken
    · split
      · exact .finish taken
      · exact .finish ((closeGather_store _ _ _).trans ((detachSlow_store _ _ _).trans taken))

theorem takeRegRsp_keepsForm (port s) : KeepsForm s (takeRegRsp port s) := by
  unfold takeRegRsp
  split
  · exact .skip
  · exact .ite (.finish (modRport_store _ _ _)) .skip

theorem takePacket_keepsForm (s d k) {f : State → Packet → State} (h : ∀ u p, store (f u p) = store u) :
    KeepsForm s (takePacket s d k f) := by
  refine .ite .skip ?_
  split
  · exact .skip
  · exact .finishSync ((h _ _).trans (rxPop_store _ _ _))

theorem takeLink_keepsForm (s l ty noise) {f : State → Fin 4 → Fin 144 → Fin 8 → State} (h : ∀ u g w i, store (f u g w i) = store u) :
    KeepsForm s (takeLink s l ty noise f) := by
  refine .ite .skip ?_
  split
  · exact .skip
  · exact .ite .skip (.ite (.finish ((countCrc_store _ _).trans (linkPop_store _ _)))
      (.ite (.finish (linkPop_store _ _)) (.finish ((h _ _ _ _).trans (linkPop_store _ _)))))

theorem governed_keepsForm (s r cost) {f : State → Host.Outcome State Fault Refusal} (h : ∀ u, KeepsForm u (f u)) :
    KeepsForm s (governed s r cost f) :=
  .ite (.of_store (addAct_store _ _ _) (h _)) (.finish (limitAct_store _ _))

theorem fenceWrite_keepsForm (port r w s) : KeepsForm s (fenceWrite port r w s) :=
  .ite .skip (.ite (.finish (busErr_store _ _)) (.finish ((ack_store _ _).trans (writeFence_store _ _ _))))

theorem selectInstr_keepsForm (s v i f) : KeepsForm s (selectInstr s v i f) := .ite .skip (.ite (.finish rfl) (.finish rfl))

theorem instrRow_keepsForm (s r b op chk) {f : Sweep → W32 → State} (h : ∀ w x, storesWf s = true → storesWf (f w x) = true) :
    KeepsForm s (instrRow s r b op chk f) := by
  unfold instrRow
  split
  · exact .skip
  · refine .ite .skip ?_
    split
    next _ fault => exact .finish (chkFault_store _ _ _ _ _ _ _ _ _ fault)
    · exact .finishForm (h _ _)

theorem instrRow_keepsForm_of_store (s r b op chk) {f : Sweep → W32 → State} (h : ∀ w x, store (f w x) = store s) :
    KeepsForm s (instrRow s r b op chk f) :=
  instrRow_keepsForm s r b op chk fun w x hs => (storesWf_of_store (h w x)).trans hs

theorem aluRow_keepsForm (r b op chk s f) : KeepsForm s (aluRow r b op chk s f) :=
  instrRow_keepsForm_of_store _ _ _ _ _ fun _ _ => (arithSat_store _ _ _).trans (putSweep_store _ _ _ _)

theorem issueChecked_keepsForm (s k t i tag chk) {f : State → State} (h : ∀ u, store (f u) = store u) :
    KeepsForm s (issueChecked s k t i tag chk f) :=
  .ite (.finish (halfFault_store _ _ _ _ _)) (.finish ((h _).trans (issueBeat_store _ _ _ _ _ _)))

/-! ## Arbiters (R138 to R151) -/

theorem execBlockGrant_keepsForm (r b m chk s) : KeepsForm s (execBlockGrant r b m chk s) := by
  refine .ite .skip ?_
  cases chk with
  | xbarParity out => exact .finish (regionFault_store _ _ _ _)
  | good | arrayParity | factorParity => exact .finishForm (blockCycle_wf _ _ _ _ _)

theorem execTimetableSlot_keepsForm (r bad m chk s) : KeepsForm s (execTimetableSlot r bad m chk s) := by
  refine .ite .skip (.ite (.finish (regionFault_store _ _ _ _)) (.ite (.finish rfl) ?_))
  cases chk with
  | xbarParity out => exact .finish (regionFault_store _ _ _ _)
  | good | arrayParity | factorParity => exact .finishForm (serveSlot_wf (modRg s r advanceSlot) _ _ _ _)

theorem execSlotSlipIssue_keepsForm (r b m chk s) : KeepsForm s (execSlotSlipIssue r b m chk s) := by
  refine .ite .skip ?_
  split
  · exact .skip
  · cases chk with
    | xbarParity out => exact .finish (regionFault_store _ _ _ _)
    | good | arrayParity | factorParity => exact .finishForm (issueSched_wf _ _ _ _ _ _)

theorem execStarvationLimit_keepsForm (r src s) : KeepsForm s (execStarvationLimit r src s) := by
  refine .ite .skip ?_
  cases src <;> exact .finish rfl

/-! ## Engine ports and gathers (R110 to R137) -/

theorem execWriteDataBeat_keepsForm (p w s) : KeepsForm s (execWriteDataBeat p w s) := by
  refine .ite .skip ?_
  split
  · exact .skip
  · exact .finish ((pumpPort_store _ _).trans ((passCarried_store _ _).trans (takeBeat_store _ _ _ _)))

theorem execResponseBeatTaken_keepsForm (p ch id s) : KeepsForm s (execResponseBeatTaken p ch id s) := by
  cases ch with
  | rd => exact takeResponse_keepsForm p .rd id s
  | wr => exact takeResponse_keepsForm p .wr id s
  | reg port => exact takeRegRsp_keepsForm port s

theorem execGatherTimeout_keepsForm (r g s) : KeepsForm s (execGatherTimeout r g s) := by
  refine .ite .skip ?_
  split
  · exact .finish (startGather_store _ _ _)
  · exact .skip

theorem execSluiceRelease_keepsForm (p urg s) : KeepsForm s (execSluiceRelease p urg s) := by
  refine .ite .skip ?_
  split
  · exact .finish (pumpPort_store _ _)
  · exact .ite (.finish (pumpPort_store _ _)) (.finish ((pumpPort_store _ _).trans (sluiceTest_store _ _ _ _)))

theorem execSluiceConfigWrite_keepsForm (port reg d s) : KeepsForm s (execSluiceConfigWrite port reg d s) := by
  refine .ite .skip ?_
  split
  · exact .finish (busErr_store _ _)
  · exact .finish (ack_store _ _)

/-! ## Bandstand (R286 to R325) -/

theorem execSignalHoldRelease_keepsForm (p s) : KeepsForm s (execSignalHoldRelease p s) := by
  refine .ite .skip ?_
  split
  · exact .finishSync (releaseSignal_store _ _)
  · exact .skip

theorem execWatchTimeout_keepsForm (w s) : KeepsForm s (execWatchTimeout w s) := by
  refine .ite .skip ?_
  split
  · exact .skip
  · refine .ite .skip ?_
    dsimp only
    split
    · exact .finishSync ((answerSignal_store _ _ _ _).trans (dropWatch_store _ _))
    · exact .finishSync (queueMsg_store _ _ _)
    · exact .finishSync rfl

theorem execWatchRegister_keepsForm (port d s) : KeepsForm s (execWatchRegister port d s) := by
  have wide := wideWrite_store s port d
  refine .ite .skip (.ite (.finish ((busErr_store _ _).trans wide)) ?_)
  dsimp only
  split
  · exact .finish ((busErr_store _ _).trans wide)
  next t registered =>
    have kept := (regWatch_store _ _ _ _ _ _ _ registered).trans wide
    split
    · split
      · split
        · exact .finishSync ((ack_store _ _).trans ((meetWatch_store _ _).trans kept))
        · exact .finishSync ((ack_store _ _).trans kept)
      · exact .finishSync ((ack_store _ _).trans kept)
    · exact .finishSync ((ack_store _ _).trans kept)

theorem execWatchCancel_keepsForm (port ck s) : KeepsForm s (execWatchCancel port ck s) :=
  .ite .skip (.ite (.finish (busErr_store _ _)) (.finishSync (ack_store _ _)))

theorem execControlMessageTake_keepsForm (port s) : KeepsForm s (execControlMessageTake port s) := by
  have wide := wideRead_store s port
  refine .ite .skip ?_
  dsimp only
  split
  · exact .finish ((reply_store _ _ _).trans wide)
  · exact .finishSync ((reply_store _ _ _).trans wide)

theorem execBarrierConfigWrite_keepsForm (port b reg d s) : KeepsForm s (execBarrierConfigWrite port b reg d s) := by
  refine .ite .skip ?_
  have wide : store (match reg with | .cfg => s | .cnt => wideWrite s port d) = store s := by
    cases reg with
    | cfg => rfl
    | cnt => exact wideWrite_store s port d
  dsimp only
  split
  · exact .finish ((busErr_store _ _).trans wide)
  next _ written => exact .finishSync ((ack_store _ _).trans ((writeBar_store _ _ _ _ _ written).trans wide))

theorem execPairWrite_keepsForm (port n d s) : KeepsForm s (execPairWrite port n d s) :=
  .ite .skip (.ite (.finish ((busErr_store _ _).trans (wideWrite_store _ _ _)))
    (.finishSync ((ack_store _ _).trans ((setPair_store _ _ _ _).trans (wideWrite_store _ _ _)))))

theorem execRoleWrite_keepsForm (port d s) : KeepsForm s (execRoleWrite port d s) :=
  .ite .skip (.ite (.finish (busErr_store _ _)) (.finish (ack_store _ _)))

theorem execSyncMessageSend_keepsForm (s) : KeepsForm s (execSyncMessageSend s) := by
  refine .ite .skip ?_
  split
  · exact .skip
  · exact .finishSync ((drainSync_store _ _).trans (syncSend_store _ _))

/-! ## Power (R394 to R421) -/

theorem execStagedStepStart_keepsForm (r s) : KeepsForm s (execStagedStepStart r s) := by
  unfold execStagedStepStart
  split
  · exact .skip
  · exact .ite .skip (.finish (modPw_store _ _ _))

theorem execStagedStepEnd_keepsForm (r s) : KeepsForm s (execStagedStepEnd r s) := by
  unfold execStagedStepEnd
  split
  · exact .skip
  · exact .ite .skip (.finishForm fun hs => retryRegion_wf _ _ (endStep_wf _ _ _ _ hs))

/-- The edge passes the steps that end at it, region by region, before the ledgers turn. -/
theorem execStagerEdge_keepsForm (s) : KeepsForm s (execStagerEdge s) := by
  refine .ite .skip ?_
  have passed : storesWf s = true → storesWf (if live s = true then (idx 8).foldl (passSteps 32) s else s) = true := by
    intro hs
    split
    · exact foldl_wf _ _ _ hs fun u r hu => passSteps_wf 32 u r hu
    · exact hs
  refine .ite (.finishForm passed) (.finishForm fun hs => ?_)
  rw [storesWf_of_store (foldl_store _ _ _ fun u r => tickPolicy_store u r),
    storesWf_of_store ((tickCounts_store _).trans ((countM_store _ _ _ _).trans ((edgeHalf_store _ _).trans (edgeHalf_store _ _))))]
  exact passed hs

theorem execGovernorInterval_keepsForm (h s) : KeepsForm s (execGovernorInterval h s) := by
  refine .ite .skip (.finish ?_)
  split
  · exact countM_store _ _ _ _
  · split
    · exact countM_store _ _ _ _
    · rfl

theorem execPwrWakeReq_keepsForm (port req hold s) : KeepsForm s (execPwrWakeReq port req hold s) :=
  mgmtWrite_keepsForm _ _ fun _ => writeWake_store _ _ _

theorem execPwrFclkWrite_keepsForm (port h d s) : KeepsForm s (execPwrFclkWrite port h d s) := by
  refine .ite .skip (.ite (.finish (busErr_store _ _)) (.finish ((ack_store _ _).trans ?_)))
  split <;> rfl

theorem execPolicyWrite_keepsForm (port r which d s) : KeepsForm s (execPolicyWrite port r which d s) :=
  mgmtWrite_keepsForm _ _ fun _ => applyPolicy_store _ _

/-! ## Events (R152 to R190) -/

/-- Offering an event to the tag buffer writes neither store. -/
theorem offerTag_store (u : State) (m : Bool) (n : Nat) : store (if isCandidate u m n = true then candidate u else (u, false)).1 = store u := by
  split
  · exact candidate_store u
  · rfl

theorem execEventIngress_keepsForm (n w s) : KeepsForm s (execEventIngress n w s) := by
  have tagged := (offerTag_store (countM s 0x41 n.val 1) true n.val).trans (countM_store s 0x41 n.val 1)
  refine .ite .skip ?_
  dsimp only
  generalize (if isCandidate (countM s 0x41 n.val 1) true n.val = true then candidate (countM s 0x41 n.val 1)
    else (countM s 0x41 n.val 1, false)) = offered at tagged ⊢
  refine .ite (.finish ((countM_store _ _ _ _).trans tagged)) (.finish ?_)
  refine Eq.trans ?_ tagged
  split <;> rfl

theorem execCopyPlaced_keepsForm (n dst bad s) : KeepsForm s (execCopyPlaced n dst bad s) := by
  refine .ite .skip ?_
  split
  · exact .skip
  next e _ _ =>
    cases dst with
    | region r => exact .ite .skip (.ite (.finish (halfFault_store _ _ _ _ _)) (.finish (flushSteps_store _ _)))
    | seam => exact .ite .skip (.ite (.finish (halfFault_store _ _ _ _ _)) (.finish ((flushSteps_store _ _).trans (sendPkt_store s (evHalf n) (copyPkt e n)))))

theorem execCopyAtEntry_keepsForm (r s) : KeepsForm s (execCopyAtEntry r s) := by
  refine .ite .skip ?_
  split
  · exact .skip
  next c cs _ =>
    have taken : store (evCount (modEv (markTag (modEv s r (fun x => { x with arriving := cs })) c.tag 1) r
        (fun x => { x with entry := x.entry ++ [c] })) r 0 1) = store s := (evCount_store _ _ _ _).trans (markTag_store _ _ _)
    have dropped : ∀ k, store (settleTag (evCount (modEv s r (fun x => { x with arriving := cs })) r k 1) r c.tag) = store s :=
      fun k => (settleTag_store _ _ _).trans (evCount_store _ _ _ _)
    exact .ite (.finish ((wakeReq_store _ _).trans taken)) (.ite (.finish taken) (.ite (.finish (dropped 1))
      (.ite (.finish (dropped 2)) (.finish ((wakeReq_store _ _).trans taken)))))

theorem execExpandCopy_keepsForm (r chk s) : KeepsForm s (execExpandCopy r chk s) := by
  refine .ite .skip ?_
  split
  · exact .skip
  next c cs _ =>
    have marked : store (modEv (markTag s c.tag 2) r (fun x => { x with entry := cs })) = store s := markTag_store _ _ _
    dsimp only
    split
    · exact .finish ((settleTag_store _ _ _).trans ((evCount_store _ _ _ _).trans marked))
    · cases chk with
      | xbarParity out => exact .finish (regionFault_store _ _ _ _)
      | index => exact .finish ((settleTag_store _ _ _).trans ((regionFault_store _ _ _ _).trans marked))
      | good => exact .finish ((settleTag_store _ _ _).trans ((expandRun_store _ _ _ _ _).trans marked))
      | entry j =>
        exact .ite (.finish ((settleTag_store _ _ _).trans ((regionFault_store _ _ _ _).trans ((expandRun_store _ _ _ _ _).trans marked))))
          (.finish ((settleTag_store _ _ _).trans ((expandRun_store _ _ _ _ _).trans marked)))

theorem execGroupToQueue_keepsForm (r s) : KeepsForm s (execGroupToQueue r s) := by
  refine .ite .skip ?_
  split
  · exact .skip
  next g gs _ =>
    have served : store (entryServed (modEv s r (fun x => { x with groups := gs })) r g.block) = store s := entryServed_store _ _ _
    exact .ite .skip (.ite (.finish ((settleTag_store _ _ _).trans ((evCount_store _ _ _ _).trans served)))
      (.finish ((modBlk_store _ _ _ _).trans ((markRows_store _ _).trans served))))

theorem execRingRowsToQueue_keepsForm (r b s) : KeepsForm s (execRingRowsToQueue r b s) :=
  .ite .skip (.ite .skip (.finish ((modBlk_store _ _ _ _).trans (markRows_store _ _))))

theorem execStepEntryComplete_keepsForm (r s) : KeepsForm s (execStepEntryComplete r s) := by
  refine .ite .skip ?_
  split
  · exact .skip
  · exact .ite (.finish (moveClose_store _ _ _)) .skip

theorem execStepDrained_keepsForm (r s bad) : KeepsForm s (execStepDrained r s bad) := by
  refine .ite .skip ?_
  split
  · exact .skip
  · exact .ite (.finish ((firstFault_store _ _ _).trans ((startSweeps_store _ _).trans (moveClose_store _ _ _)))) .skip

theorem execStepSweepsDone_keepsForm (r s) : KeepsForm s (execStepSweepsDone r s) := by
  refine .ite .skip ?_
  split
  · exact .skip
  next c _ =>
    have closed : store (countR (reportSweep (advanceEpoch (sweepLength s r) r c) r c) r 0x2F 0 1) = store s :=
      (countR_store _ _ _ _ _).trans ((reportSweep_store _ _ _).trans ((advanceEpoch_store _ _ _).trans (sweepLength_store _ _)))
    exact .ite .skip (.finishSyncForm fun hs => retryRegion_wf _ _ ((storesWf_of_store closed).trans hs))

theorem execEmitBufferPass_keepsForm (r b bad s) : KeepsForm s (execEmitBufferPass r b bad s) := by
  refine .ite .skip ?_
  split
  · exact .skip
  · exact .ite .skip (.ite (.ite .skip (.ite (.finish (halfFault_store _ _ _ _ _))
        (.finish ((toEgress_store _ _ _).trans ((modBlk_store _ _ _ _).trans (emitServed_store _ _ _ _))))))
      (.ite (.finish (halfFault_store _ _ _ _ _)) (.finish ((sendPkt_store _ _ _).trans ((modBlk_store _ _ _ _).trans (emitServed_store _ _ _ _))))))

theorem execEgressEventTaken_keepsForm (n s) : KeepsForm s (execEgressEventTaken n s) := .ite .skip (.finish (countM_store _ _ _ _))

theorem execModelSwitch_keepsForm (port r d s) : KeepsForm s (execModelSwitch port r d s) :=
  .ite .skip (.ite (.finish (busErr_store _ _)) (.finish ((ack_store _ _).trans (selectModel_store _ _ _))))

theorem execEntryHold_keepsForm (port r v s) : KeepsForm s (execEntryHold port r v s) := by
  refine writeReg_keepsForm s port r fun u => ?_
  rfl

theorem execTrellisDataWrite_keepsForm (port r d s) : KeepsForm s (execTrellisDataWrite port r d s) :=
  .ite .skip (.finish ((trWrite_store _ _ _ _).trans (wideWrite_store _ _ _)))

theorem execTrellisDataRead_keepsForm (port r bad s) : KeepsForm s (execTrellisDataRead port r bad s) :=
  .ite .skip (.finish ((trRead_store _ _ _ _).trans (wideRead_store _ _)))

end Sys2Proof.Machine
end

section
/-! PROOF. Commands of the Plan loader, the Gatehouse, Rill, the counters, the faults and the Footbridge keep the form of the byte stores. -/

namespace Sys2Proof.Machine

/-! ## Plan (R86 to R104) -/

theorem execPlanDataWord_keepsForm (port w s) : KeepsForm s (execPlanDataWord port w s) :=
  .ite .skip (.ite (.finish (busErr_store _ _)) (.finish (plnWord_store _ _ _)))

theorem execPlanStart_keepsForm (port src ab s) : KeepsForm s (execPlanStart port src ab s) :=
  .ite .skip (.ite (.finish (busErr_store _ _)) (.finish (plnCtrl_store _ _ _ _ _)))

theorem execPlanAbort_keepsForm (port src s) : KeepsForm s (execPlanAbort port src s) :=
  .ite .skip (.ite (.finish (busErr_store _ _)) (.finish (plnCtrl_store _ _ _ _ _)))

theorem execPlanHeader_keepsForm (s) : KeepsForm s (execPlanHeader s) := by
  refine .ite .skip ?_
  dsimp only
  split
  · exact .finish ((retryPln_store _).trans (rejectLoad_store _ _ _))
  · refine .finishForm fun hs => ?_
    rw [storesWf_of_store ((retryPln_store _).trans (measureTaken_store _))]
    exact startLoad_wf _ _ hs

theorem execPlanSection_keepsForm (s) : KeepsForm s (execPlanSection s) := by
  refine .ite .skip ?_
  split
  · exact .skip
  · refine .ite (.finish ((retryPln_store _).trans (rejectLoad_store _ _ _))) ?_
    dsimp only
    split
    · exact .finish ((retryPln_store _).trans (rejectLoad_store _ _ _))
    · exact .ite (.finish ((retryPln_store _).trans ((sectionDone_store _ _ _ _).trans (applySection_store _ _)))) .skip

/-! ## Gatehouse (R424 to R449, R467) -/

theorem execFuseAck_keepsForm (d s) : KeepsForm s (execFuseAck d s) := by
  refine .ite .skip ?_
  split
  · exact .skip
  · exact .ite (.finishForm fun hs => fuseDone_wf _ hs) (.finish rfl)

theorem execFuseTimeout_keepsForm (s) : KeepsForm s (execFuseTimeout s) := by
  refine .ite .skip (.ite ?_ (.finish rfl))
  dsimp only
  split
  · exact .finishForm fun hs => loseChanged_wf _ _ hs
  · exact .finishForm fun hs => loseChanged_wf _ _ hs

theorem execFwStart_keepsForm (port v s) : KeepsForm s (execFwStart port v s) :=
  .ite .skip (.ite (.finish (busErr_store _ _)) (.finish (ghCtrl_store _ _ _ _ _)))

theorem execFwAbort_keepsForm (port v s) : KeepsForm s (execFwAbort port v s) :=
  .ite .skip (.ite (.finish (busErr_store _ _)) (.finish (ghCtrl_store _ _ _ _ _)))

theorem execCpOpen_keepsForm (port v s) : KeepsForm s (execCpOpen port v s) :=
  .ite .skip (.ite (.finish (busErr_store _ _)) (.finish (ghCtrl_store _ _ _ _ _)))

theorem execFwDataWord_keepsForm (port w s) : KeepsForm s (execFwDataWord port w s) :=
  .ite .skip (.ite (.finish (busErr_store _ _)) (.finish (fwWord_store _ _ _)))

theorem execFwImageEnd_keepsForm (s) : KeepsForm s (execFwImageEnd s) :=
  .ite .skip (.ite (.finish (fwFail_store _ _)) (.finish (queueExtend_store s 0 s.gh.fwGot)))

theorem execMeasureExtend_keepsForm (port slot s) : KeepsForm s (execMeasureExtend port slot s) :=
  .ite .skip (.ite (.finish (busErr_store _ _)) (.finish (ack_store _ _)))

theorem execSlotExtendComplete_keepsForm (s) : KeepsForm s (execSlotExtendComplete s) := by
  refine .ite .skip ?_
  split
  · exact .skip
  next e es _ =>
    have booted : ∀ u, store u = store s → store (if (u.gh.stage = s.gh.stage || u.gh.stage != .running) = true then u else jumped u) = store s := by
      intro u hu
      split
      · exact hu
      · exact (jumped_store u).trans hu
    have extended := booted { s with
      meas := { extendSlot s.meas e with queue := es }, gh := bootAfter s.gh s.fuse e.slot } rfl
    dsimp only
    split
    · exact .finish ((retryWords_store _).trans ((takeReport_store _ _ _ _).trans extended))
    · exact .finish ((retryWords_store _).trans extended)

theorem execMeasure_keepsForm (s) : KeepsForm s (execMeasure s) := by
  unfold execMeasure
  split
  · exact .skip
  · exact .finish (measureRequest_store _ _ _ _)

theorem execBootStatus_keepsForm (s) : KeepsForm s (execBootStatus s) := by
  unfold execBootStatus
  split
  · exact .skip
  · exact .finish (takeRequest_store _ _)

theorem execFuseReread_keepsForm (s) : KeepsForm s (execFuseReread s) := by
  unfold execFuseReread
  split
  · exact .skip
  next w _ => exact .ite (.finish (takeRequest_store _ _)) (.ite .skip (.finish (takeRequest_store s (.fuses w))))

theorem execSignedMeasure_keepsForm (sk s) : KeepsForm s (execSignedMeasure sk s) := by
  unfold execSignedMeasure
  split
  · exact .skip
  · exact .finish (measureRequest_store _ _ _ _)

theorem execUnknownRequest_keepsForm (s) : KeepsForm s (execUnknownRequest s) := by
  unfold execUnknownRequest
  split
  · exact .skip
  · exact .finish (takeRequest_store _ _)

theorem execGatehouseReply_keepsForm (s) : KeepsForm s (execGatehouseReply s) := by
  refine .ite .skip ?_
  split
  · exact .ite .skip (.ite (.finish (sendBox_store _ _ _ _)) (.finish (sendBox_store _ _ _ _)))
  · exact .skip

theorem execSigningResponse_keepsForm (ws err s) : KeepsForm s (execSigningResponse ws err s) := by
  refine .ite .skip ?_
  split
  · exact .ite (.finish rfl) (.finish rfl)
  · exact .skip

theorem execSigningTimeout_keepsForm (s) : KeepsForm s (execSigningTimeout s) := by
  refine .ite .skip ?_
  split
  · exact .ite .skip (.finish rfl)
  · exact .skip

/-! ## Rill (R246 to R284) -/

theorem execRingBell_keepsForm (port n s) : KeepsForm s (execRingBell port n s) := by
  refine .ite .skip (.ite (.finish (busErr_store _ _)) ?_)
  split
  · exact .finish (busErr_store _ _)
  next _ rung => exact .finishSync ((ack_store _ _).trans (ringStream_store _ _ _ rung))

theorem execStreamAbort_keepsForm (port n s) : KeepsForm s (execStreamAbort port n s) :=
  .ite .skip (.ite (.finish (busErr_store _ _)) (.finishSync ((ack_store _ _).trans (askAbort_store _ _))))

theorem execStreamSlotWrite_keepsForm (port n j d s) : KeepsForm s (execStreamSlotWrite port n j d s) := by
  refine .ite .skip (.ite (.finish (busErr_store _ _)) ?_)
  split
  · exact .finish (busErr_store _ _)
  next _ written => exact .finishSync ((ack_store _ _).trans (writeSlot_store _ _ _ _ _ _ written))

theorem execAdmitDescriptor_keepsForm (k s) : KeepsForm s (execAdmitDescriptor k s) := by
  refine .ite .skip ?_
  split
  · exact .skip
  · split
    · exact .finish (popAdmit_store _ _)
    · refine .ite (.finish ((modStream_store _ _ _).trans (popAdmit_store _ _)))
        (.ite (.finish ((halfFault_store _ _ _ _ _).trans (popAdmit_store _ _)))
          (.ite (.finishSync ((modStream_store _ _ _).trans (popAdmit_store _ _))) (.ite ?_ (.ite (.finishSync (admitTile_store _ _ _ _ _)) .skip))))
      split
      · exact .ite .skip (.finish (wicketWait_store _ _))
      · exact .finishSync (admitTile_store _ _ _ _ _)

theorem execRillIssue_keepsForm (k chk s) : KeepsForm s (execRillIssue k chk s) := by
  refine .ite .skip (.of_store (fetchWait_store s k) ?_)
  dsimp only
  split
  · exact .finish ((wicketWon_store _ _ _ _).trans (issueFetch_store _ _ _ _))
  · exact issueChecked_keepsForm _ _ _ _ _ _ fun _ => wicketWon_store _ _ _ _
  · exact issueChecked_keepsForm _ _ _ _ _ _ fun _ => (wicketWon_store _ _ _ _).trans (modRp_store _ _ _)
  · exact .skip

end Sys2Proof.Machine
end

section
/-! PROOF. Commands of Rill's responses and tiles, the counters, the faults, the Footbridge and the lanes keep the form of the byte stores. -/

namespace Sys2Proof.Machine

/-! ## Rill's responses and tiles (R257 to R284) -/

theorem execRillReadResponse_keepsForm (k tag d resp s) : KeepsForm s (execRillReadResponse k tag d resp s) := by
  refine .ite .skip ?_
  split
  · exact .finish (halfFault_store _ _ _ _ _)
  next o _ =>
    have dropped := dropOut_store s k o
    refine .ite (.finishSync ((settleAll_store _ _).trans ((mergedRead_store _ _ _ _ _).trans ?_)))
      (.ite (.finish ((settleAll_store _ _).trans ((placeBeats_store _ _ _ _).trans ((rillError_store _ _ _).trans dropped))))
        (.ite (.finish ((settleAll_store _ _).trans ((placeBeats_store _ _ _ _).trans dropped)))
          (.ite (.finishSync ((settleAll_store _ _).trans ((xlateBeats_store _ _ _).trans dropped)))
            (.finishSync ((settleAll_store _ _).trans ((placeBeats_store _ _ _ _).trans ?_))))))
    · split
      · exact (dropWicket_store _ _).trans dropped
      · exact (ghFetched_store _ _ _ _).trans ((dropWicket_store _ _).trans dropped)
    · split
      · exact (modRp_store _ _ _).trans dropped
      · exact dropped

theorem execRillWriteResponse_keepsForm (k tag resp s) : KeepsForm s (execRillWriteResponse k tag resp s) := by
  refine .ite .skip ?_
  split
  · exact .finish (halfFault_store _ _ _ _ _)
  next o _ =>
    have dropped := dropOut_store s k o
    exact .ite (.finishSync ((settleAll_store _ _).trans ((placeBeats_store _ _ _ _).trans dropped)))
      (.ite (.finish ((settleAll_store _ _).trans ((placeBeats_store _ _ _ _).trans ((rillError_store _ _ _).trans dropped))))
        (.ite (.finish ((settleAll_store _ _).trans ((placeBeats_store _ _ _ _).trans dropped)))
          (.finishSync ((settleAll_store _ _).trans ((xlateBeats_store _ _ _).trans dropped)))))

theorem execFillPieceWrite_keepsForm (k chk s) : KeepsForm s (execFillPieceWrite k chk s) := by
  refine .ite .skip ?_
  split
  · exact .skip
  · refine .ite (.finish (halfFault_store _ _ _ _ _)) ?_
    split
    · exact .finish (halfFault_store _ _ _ _ _)
    · exact .finish ((movePiece_store _ _ _ _ _).trans (modRp_store _ _ _))

theorem execDrainPieceRead_keepsForm (k s chk) : KeepsForm s (execDrainPieceRead k s chk) := by
  refine .ite .skip ?_
  split
  · exact .skip
  · split
    · exact .finish (halfFault_store _ _ _ _ _)
    · exact .finish ((movePiece_store _ _ _ _ _).trans (modRp_store _ _ _))

theorem execTileComplete_keepsForm (n s) : KeepsForm s (execTileComplete n s) := by
  refine .ite .skip ?_
  split
  · exact .skip
  · exact .ite (.finishSync (completeTile_store _ _ _ _)) .skip

theorem execEchoInvalidate_keepsForm (port a b s) : KeepsForm s (execEchoInvalidate port a b s) := by
  refine .ite .skip ?_
  split
  · exact .finish (busErr_store _ _)
  next _ begun => exact .finish ((ack_store _ _).trans (echInv_store _ _ _ _ begun))

theorem execEchoEnableWrite_keepsForm (port a b s) : KeepsForm s (execEchoEnableWrite port a b s) :=
  .ite .skip (.finish ((ack_store _ _).trans ((setEcho_store _ _ _).trans (setEcho_store _ _ _))))

/-! ## Counters, dumps and tags (R477 to R496) -/

theorem execCounterSample_keepsForm (s) : KeepsForm s (execCounterSample s) :=
  .ite .skip (.ite (.finish rfl) (.finish (takeSample_store _)))

theorem execDumpBodyWrite_keepsForm (s) : KeepsForm s (execDumpBodyWrite s) := by
  unfold execDumpBodyWrite
  split
  · exact .skip
  · exact .finish ((foldl_store _ _ _ fun _ _ => dumpBeat_store _ _ _ _).trans (dumpMove_store _ _ _ _))

theorem execDumpHeaderClose_keepsForm (s) : KeepsForm s (execDumpHeaderClose s) := by
  unfold execDumpHeaderClose
  split
  · exact .skip
  · exact .finish ((dumpBeat_store _ _ _ _).trans (dumpMove_store _ _ _ _))

theorem execDumpComplete_keepsForm (s) : KeepsForm s (execDumpComplete s) := by
  unfold execDumpComplete
  split
  · exact .skip
  next d _ =>
    refine .finishSync ?_
    split
    · exact rillSem_store { s with cnt := { s.cnt with seq := d.seq, dumpDone := true, dump := none } } s.cnt.sem
    · rfl

theorem execDumpNow_keepsForm (port s) : KeepsForm s (execDumpNow port s) := by
  refine mgmtWrite_keepsForm s port fun u => ?_
  rfl

theorem execTaggingEnable_keepsForm (port en kind k s) : KeepsForm s (execTaggingEnable port en kind k s) :=
  mgmtWrite_keepsForm _ _ fun _ => writeTag_store _ _ _ _ _

theorem execTagClear_keepsForm (port en kind k s) : KeepsForm s (execTagClear port en kind k s) :=
  mgmtWrite_keepsForm _ _ fun _ => writeTag_store _ _ _ _ _

theorem modCnt_store (s : State) (c : CntRef) (f : Counter → Counter) : store (modCnt s c f) = store s := by cases c <;> rfl

theorem execCounterWrite_keepsForm (port c d s) : KeepsForm s (execCounterWrite port c d s) := by
  refine .ite .skip (.of_store (wideWrite_store s port d) (mgmtWrite_keepsForm _ _ fun u => ?_))
  dsimp only
  split
  · exact wakeCnt_store u c
  · exact (modCnt_store _ _ _).trans (wakeCnt_store u c)

/-! ## Faults, freeze and restart (R439 to R466) -/

theorem execStop_keepsForm (port s) : KeepsForm s (execStop port s) := by
  refine mgmtWrite_keepsForm _ _ fun u => ?_
  split
  · rfl
  · exact (freezeWatches_store _).trans (foldl_store _ _ _ fun _ _ => foldl_store _ _ _ fun _ _ => frozenHead_store _ _ _)

theorem execFreeze_keepsForm (port st s) : KeepsForm s (execFreeze port st s) := mgmtWrite_keepsForm _ _ fun _ => assertFreeze_store _ _

theorem execStopQuiescent_keepsForm (s) : KeepsForm s (execStopQuiescent s) := .ite .skip (.finish (assertFreeze_store _ _))

theorem execEastFaultRaise_keepsForm (s) : KeepsForm s (execEastFaultRaise s) := by
  unfold execEastFaultRaise
  split
  · exact .skip
  · exact .ite .skip (.finish (recordFault_store _ _))

theorem execInjected_keepsForm (port v s) : KeepsForm s (execInjected port v s) := mgmtWrite_keepsForm _ _ fun _ => wholeFault_store _ _ _

theorem execFreezeReachHalf_keepsForm (h s) : KeepsForm s (execFreezeReachHalf h s) := .ite .skip (.finishForm (reachHalf_wf _ _))

theorem execJobRestartGo_keepsForm (port keep rel s) : KeepsForm s (execJobRestartGo port keep rel s) :=
  .ite .skip (.ite (.finish (busErr_store _ _)) (.finishForm fun hs =>
    (storesWf_of_store (ack_store _ _)).trans (restartGo_wf _ _ hs)))

theorem execJobRestartRelease_keepsForm (port keep s) : KeepsForm s (execJobRestartRelease port keep s) :=
  .ite .skip (.ite (.finish (busErr_store _ _)) (.finishSync ((ack_store _ _).trans (releaseFreeze_store _ _))))

/-! ## Footbridge (R363 to R396) -/

theorem execLinkRetrain_keepsForm (port d s) : KeepsForm s (execLinkRetrain port d s) :=
  .ite .skip (.ite (.finish (busErr_store _ _)) (.finish ((ack_store _ _).trans (writeFbCtrl_store _ _))))

theorem execTrainClockDone_keepsForm (d u s) : KeepsForm s (execTrainClockDone d u s) :=
  .ite .skip (.ite (.finish (modDir_store _ _ _)) (.finish (failTraining_store _ _)))

theorem execTrainFrameDone_keepsForm (d fails s) : KeepsForm s (execTrainFrameDone d fails s) := by
  have placed := (placeWires_store (markSpares s d fails.spares).1 d ((markSpares s d fails.spares).2 ++ fails.wires)).trans
    (markSpares_store s d fails.spares)
  exact .ite .skip (.ite (.finish (failTraining_store _ _)) (.ite (.finish ((modDir_store _ _ _).trans placed))
    (.finish ((failTraining_store _ _).trans placed))))

theorem execLinkUp_keepsForm (d s) : KeepsForm s (execLinkUp d s) := by
  have replayed := (startReplay_store (modDir s d (fun x => { x with st := .up })) d).trans (modDir_store s d _)
  refine .ite .skip (.finish ?_)
  split <;> exact replayed

theorem execPacketStart_keepsForm (d c s) : KeepsForm s (execPacketStart d c s) := by
  refine .ite .skip ?_
  split
  · exact .skip
  · exact .ite .skip (.finish ((countM_store _ _ _ _).trans (modDir_store _ _ _)))

theorem execSideWordReceive_keepsForm (d c noise s) : KeepsForm s (execSideWordReceive d c noise s) := by
  refine .ite .skip (.finish ?_)
  split
  · exact (takeSide_store _ _ _).trans (modDir_store _ _ _)
  · rfl

theorem execFlitReceive_keepsForm (d noise s) : KeepsForm s (execFlitReceive d noise s) := by
  refine .ite .skip ?_
  split
  · refine .finish ?_
    split
    · rfl
    · exact countCrc_store _ _
  · exact .ite (.finish ((badFlit_store _ _ _ _).trans (modDir_store _ _ _)))
      (.ite (.finish (modDir_store _ _ _)) (.finish ((acceptFlit_store _ _ _).trans (modDir_store _ _ _))))

theorem execRetireReq_keepsForm (d s noise) : KeepsForm s (execRetireReq d s noise) :=
  takeLink_keepsForm _ _ _ _ fun _ _ _ _ => (sendLink_store _ _ _ _).trans (modDir_store _ _ _)

theorem execRetireDup_keepsForm (d s noise) : KeepsForm s (execRetireDup d s noise) :=
  takeLink_keepsForm _ _ _ _ fun _ _ _ _ => (sendLink_store _ _ _ _).trans ((modDir_store _ _ _).trans (recordSpare_store _ _ _ _ _))

theorem execRetireDone_keepsForm (d s noise) : KeepsForm s (execRetireDone d s noise) :=
  takeLink_keepsForm _ _ _ _ fun _ _ _ _ => rfl

theorem execRetireReqRepeat_keepsForm (d s) : KeepsForm s (execRetireReqRepeat d s) :=
  .ite .skip (.finish (foldl_store _ _ _ fun _ _ => sendLink_store _ _ _ _))

theorem execFbPktControl_keepsForm (d s) : KeepsForm s (execFbPktControl d s) := by
  refine takePacket_keepsForm _ _ _ fun u p => ?_
  split
  · rfl
  · split
    · rfl
    · exact ctlAct_store _ _

theorem execFbPktEvents_keepsForm (d s) : KeepsForm s (execFbPktEvents d s) := by
  unfold execFbPktEvents
  split
  · exact .skip
  · exact .ite (takePacket_keepsForm _ _ _ fun _ _ => foldl_store _ _ _ fun _ _ => deliverEntry_store _ _ _ _) .skip

/-! ## Lanes and basins (R199 to R224) -/

theorem execRowEventIssue_keepsForm (r b chk s) : KeepsForm s (execRowEventIssue r b chk s) := by
  refine .ite .skip ?_
  split
  · refine .ite .skip (governed_keepsForm _ _ _ fun u => .finishForm fun hu => rowChecked_wf _ _ _ _ _ ?_)
    rw [storesWf_of_store ((markTag_store _ _ _).trans ((countB_store _ _ _ _ _ _).trans (modBlk_store _ _ _ _)))]
    exact hu
  · exact .skip

theorem execBasinClear_keepsForm (port r d s) : KeepsForm s (execBasinClear port r d s) := .ite .skip (.finishForm (basinClr_wf _ _ _ _))

theorem execBasinDataWrite_keepsForm (port r d s) : KeepsForm s (execBasinDataWrite port r d s) :=
  .ite .skip (.finishForm fun hs => basinWr_wf _ _ _ _ ((storesWf_of_store (wideWrite_store _ _ _)).trans hs))

theorem execBasinDataRead_keepsForm (port r bad s) : KeepsForm s (execBasinDataRead port r bad s) :=
  .ite .skip (.finish ((basinRd_store _ _ _ _).trans (wideRead_store _ _)))

/-! ## Lodge (R330 to R345) -/

theorem execMailboxSend_keepsForm (port n d s) : KeepsForm s (execMailboxSend port n d s) := by
  have sent := (sendBox_store (wideWrite s port d) n d (.port port)).trans (wideWrite_store s port d)
  refine .ite .skip (.ite (.finish ((busErr_store _ _).trans (wideWrite_store _ _ _))) ?_)
  dsimp only
  split
  · exact .finish ((ack_store _ _).trans sent)
  · exact .finish ((busErr_store _ _).trans sent)
  · exact .finish ((holdAcc_store _ _ _).trans sent)

theorem execDepositAnnounce_keepsForm (n s) : KeepsForm s (execDepositAnnounce n s) := by
  refine .ite .skip ?_
  split
  · exact .skip
  · refine .ite .skip ?_
    dsimp only
    split
    next added =>
      exact .finishSync ((answerSender_store _ _ _).trans ((countM_store _ _ _ _).trans ((pairAdd_store _ _ _ _ _ _ added).trans (modBox_store _ _ _))))
    · exact .finishSync ((answerSender_store _ _ _).trans ((rejectSend_store _).trans ((modBox_store _ _ _).trans
        ((refuseOp_store _ _).trans (modBox_store _ _ _)))))

theorem execMailboxTake_keepsForm (port n s) : KeepsForm s (execMailboxTake port n s) := by
  have wide := wideRead_store s port
  refine .ite .skip (.ite (.finish ((busErr_store _ _).trans wide)) ?_)
  split
  · exact .finish ((reply_store _ _ _).trans wide)
  · exact .finish ((reply_store _ _ _).trans ((modBox_store _ _ _).trans wide))
  · exact .finish ((reply_store _ _ _).trans wide)

theorem execMailboxConfigWrite_keepsForm (port n d s) : KeepsForm s (execMailboxConfigWrite port n d s) :=
  .ite .skip (.ite (.finish ((busErr_store _ _).trans (wideWrite_store _ _ _)))
    (.finish ((ack_store _ _).trans ((modBox_store _ _ _).trans (wideWrite_store _ _ _)))))

/-! ## Sweeps (R225 to R245) -/

theorem modSweep_store (s : State) (r : Region) (b : Blk) (f : Sweep → Sweep) : store (modSweep s r b f) = store s := modBlk_store _ _ _ _

theorem execRange_keepsForm (r b chk s) : KeepsForm s (execRange r b chk s) := by
  unfold execRange
  split
  · exact .skip
  · exact .ite .skip (.ite (.finish (storeFault_store _ _ _ _ _)) (.finish (modSweep_store _ _ _ _)))

theorem execSweepGroupStart_keepsForm (r b chk s) : KeepsForm s (execSweepGroupStart r b chk s) := by
  unfold execSweepGroupStart
  split
  · exact .skip
  · exact .ite .skip (.ite (.finish (storeFault_store _ _ _ _ _)) (governed_keepsForm _ _ _ fun _ =>
      .finish ((countB_store _ _ _ _ _ _).trans (modSweep_store _ _ _ _))))

theorem execEndProg_keepsForm (r b chk s) : KeepsForm s (execEndProg r b chk s) :=
  instrRow_keepsForm_of_store _ _ _ _ _ fun _ _ => modSweep_store _ _ _ _

theorem execInvalidInstruction_keepsForm (r b chk s) : KeepsForm s (execInvalidInstruction r b chk s) :=
  instrRow_keepsForm_of_store _ _ _ _ _ fun _ _ => (modRg_store _ _ _).trans (modSweep_store _ _ _ _)

theorem execLds_keepsForm (r b chk s) : KeepsForm s (execLds r b chk s) :=
  instrRow_keepsForm_of_store _ _ _ _ _ fun _ _ => (countB_store _ _ _ _ _ _).trans ((countB_store _ _ _ _ _ _).trans (putSweep_store _ _ _ _))

theorem execSts_keepsForm (r b chk s) : KeepsForm s (execSts r b chk s) :=
  instrRow_keepsForm _ _ _ _ _ fun _ _ hs => by
    dsimp only
    rw [storesWf_of_store ((countB_store _ _ _ _ _ _).trans ((countB_store _ _ _ _ _ _).trans (putSweep_store _ _ _ _)))]
    exact putRows_wf _ _ _ _ _ hs

theorem execLdb_keepsForm (r b chk s) : KeepsForm s (execLdb r b chk s) :=
  instrRow_keepsForm _ _ _ _ _ fun _ _ hs => by
    dsimp only
    rw [storesWf_of_store ((arithSat_store _ _ _).trans ((countB_store _ _ _ _ _ _).trans (putSweep_store _ _ _ _)))]
    split
    · exact basinZero_wf _ _ _ _ _ hs
    · exact hs

theorem execStb_keepsForm (r b chk s) : KeepsForm s (execStb r b chk s) :=
  instrRow_keepsForm _ _ _ _ _ fun _ _ hs => by
    dsimp only
    rw [storesWf_of_store ((arithSat_store _ _ _).trans ((countB_store _ _ _ _ _ _).trans (putSweep_store _ _ _ _)))]
    exact basinPut_wf _ _ _ _ _ hs

theorem execCmp_keepsForm (r b chk s) : KeepsForm s (execCmp r b chk s) :=
  instrRow_keepsForm_of_store _ _ _ _ _ fun _ _ => putSweep_store _ _ _ _

theorem execEmit_keepsForm (r b chk s) : KeepsForm s (execEmit r b chk s) := by
  refine instrRow_keepsForm_of_store _ _ _ _ _ fun _ _ => ?_
  dsimp only
  split
  · exact (countB_store _ _ _ _ _ _).trans ((modRg_store _ _ _).trans (putSweep_store _ _ _ _))
  · split
    · exact modRg_store _ _ _
    · exact (countB_store _ _ _ _ _ _).trans ((modRg_store _ _ _).trans ((modBlk_store _ _ _ _).trans (putSweep_store _ _ _ _)))

theorem execTrc_keepsForm (r b chk s) : KeepsForm s (execTrc r b chk s) :=
  instrRow_keepsForm_of_store _ _ _ _ _ fun _ _ => (modRg_store _ _ _).trans (putSweep_store _ _ _ _)

theorem execSweepDataRead_keepsForm (port r bad s) : KeepsForm s (execSweepDataRead port r bad s) := .ite .skip (.finish (sweepRdAcc_store _ _ _ _))

end Sys2Proof.Machine
end

section
/-! PROOF. Commands of the wrapper, the resets and the control-space map keep the form of the byte stores, and the statement. -/

namespace Sys2Proof.Machine

/-! ## Wrapper (R505 to R510) -/

theorem execWrapperReset_keepsForm (a s) : KeepsForm s (execWrapperReset a s) :=
  .ite (.finishForm fun hs => (storesWf_of_store rfl).trans (abortRun_wf s hs)) (.finish rfl)

theorem execSelfTestDone_keepsForm (res s) : KeepsForm s (execSelfTestDone res s) :=
  .ite .skip (.finishForm fun hs => loseArrays_wf _ hs)

/-! ## Resets and rails (R58 to R64, R412): a reset empties both stores -/

theorem execAonReset_keepsForm (a s) : KeepsForm s (execAonReset a s) :=
  .ite (.finishForm (macroReset_wf s)) (.ite .skip (.finishForm fun hs => hs))

theorem train_train_store (s : State) : store (train (train s 0) 1) = store s := (train_store _ _).trans (train_store _ _)

theorem execFclkOkRise_keepsForm (h s) : KeepsForm s (execFclkOkRise h s) := by
  refine .ite .skip (.finish ?_)
  split
  · exact train_train_store _
  · rfl

theorem execFclkOkFall_keepsForm (h s) : KeepsForm s (execFclkOkFall h s) := by
  refine .ite .skip (.finishForm fun hs => ?_)
  split
  · rw [storesWf_of_store ((halfFault_store _ _ _ _ _).trans (train_train_store _))]
    exact abortRun_wf _ hs
  · rw [storesWf_of_store (train_train_store _)]
    exact abortRun_wf _ hs

theorem execMacroResetRelease_keepsForm (src s) : KeepsForm s (execMacroResetRelease src s) := by
  refine .ite .skip (.finishForm fun hs => ?_)
  rw [storesWf_of_store (train_train_store _)]
  exact hs

theorem execRailUndervolt_keepsForm (h rail s) : KeepsForm s (execRailUndervolt h rail s) :=
  .ite .skip (.finishForm fun hs => (storesWf_of_store (halfFault_store _ _ _ _ _)).trans hs)

/-! ## The control-space map (R24): an access is performed as the row of its register -/

theorem putSlot_keepsForm (port n j d m s) : KeepsForm s (putSlot port n j d m s) := by
  unfold putSlot
  split
  · exact .finish (busErr_store _ _)
  next _ written => exact .finishSync ((ack_store _ _).trans (writeSlot_store _ _ _ _ _ _ written))

theorem putRestart_keepsForm (port d s) : KeepsForm s (putRestart port d s) :=
  .ite (execJobRestartGo_keepsForm _ _ _ _) (.ite (execJobRestartRelease_keepsForm _ _ _)
    (.finish ((ack_store _ _).trans (plainWrite_store _ _ _))))

theorem putGhCmd_keepsForm (port d s) : KeepsForm s (putGhCmd port d s) :=
  .ite (execFreeze_keepsForm _ _ _) (.ite (execStop_keepsForm _ _) (.finish (ack_store s port)))

/-- A write: one case for each register with a row of its own, and the plain ones. -/
theorem putReg_keepsForm (port x d s) : KeepsForm s (putReg port x d s) := by
  have plain : KeepsForm s (if fwLocked s x then finish (busErr s port) else finish (ack (plainWrite (touch s x) x d) port)) :=
    .ite (.finish (busErr_store _ _)) (.finish ((ack_store _ _).trans ((plainWrite_store _ _ _).trans (touch_store _ _))))
  unfold putReg
  cases x with
  | ghCtrl => exact .finish (ghCtrl_store _ _ _ _ _)
  | ghCmd => exact putGhCmd_keepsForm _ _ _
  | ghFwData => exact execFwDataWord_keepsForm _ _ _
  | ghExtCtrl => exact .ite (execMeasureExtend_keepsForm _ _ _) (.finish (ack_store _ _))
  | plnCtrl => exact .finish (plnCtrl_store _ _ _ _ _)
  | plnData => exact execPlanDataWord_keepsForm _ _ _
  | pwrFclk => exact execPwrFclkWrite_keepsForm _ _ _ _
  | pwrWake => exact execPwrWakeReq_keepsForm _ _ _ _
  | pwrPolicy => exact execPolicyWrite_keepsForm _ _ _ _ _
  | fltInject => exact execInjected_keepsForm _ _ _
  | rsCtrl => exact putRestart_keepsForm _ _ _
  | fnFence => exact fenceWrite_keepsForm _ _ _ _
  | slu => exact execSluiceConfigWrite_keepsForm _ _ _ _
  | fbCtrl => exact execLinkRetrain_keepsForm _ _ _
  | echCtrl => exact execEchoEnableWrite_keepsForm _ _ _ _
  | echInv => exact execEchoInvalidate_keepsForm _ _ _ _
  | cntCtrl => exact .ite (execDumpNow_keepsForm _ _) (.finish (ack_store _ _))
  | cntTagCtrl => exact .finish ((writeTag_store _ _ _ _ _).trans (ack_store _ _))
  | cntVal => exact execCounterWrite_keepsForm _ _ _ _
  | bstSem => exact presentOp_keepsForm _ _ _ _
  | bstRole => exact execRoleWrite_keepsForm _ _ _
  | bstWcancel => exact execWatchCancel_keepsForm _ _ _
  | bstWreg => exact execWatchRegister_keepsForm _ _ _
  | bstPair => exact execPairWrite_keepsForm _ _ _ _
  | barCfg => exact execBarrierConfigWrite_keepsForm _ _ _ _ _
  | barCnt => exact execBarrierConfigWrite_keepsForm _ _ _ _ _
  | mbData => exact execMailboxSend_keepsForm _ _ _ _
  | mbCfg => exact execMailboxConfigWrite_keepsForm _ _ _ _
  | slot => exact putSlot_keepsForm _ _ _ _ _ _
  | modelSel => exact execModelSwitch_keepsForm _ _ _ _
  | evCtrl => exact execEntryHold_keepsForm _ _ _ _
  | trData => exact execTrellisDataWrite_keepsForm _ _ _ _
  | trDelay => exact .ite .skip (.finish (trDelay_store _ _ _ _))
  | basinClr => exact execBasinClear_keepsForm _ _ _ _
  | basinData => exact execBasinDataWrite_keepsForm _ _ _ _
  | rcntVal => exact execCounterWrite_keepsForm _ _ _ _
  | bcntVal => exact execCounterWrite_keepsForm _ _ _ _
  | ttStat => exact .finish ((ack_store _ _).trans (wakeReq_store _ _))
  | _ => exact plain

theorem getReg_keepsForm (port x s) : KeepsForm s (getReg port x s) := by
  unfold getReg
  split
  · exact execTrellisDataRead_keepsForm _ _ _ _
  · exact execBasinDataRead_keepsForm _ _ _ _
  · exact execSweepDataRead_keepsForm _ _ _ _
  · exact .finish (basinClrRd_store _ _ _)
  · exact execMailboxTake_keepsForm _ _ _
  · exact execControlMessageTake_keepsForm _ _
  · exact .finish ((reply_store _ _ _).trans ((rcClear_store _ _).trans (touch_store _ _)))

theorem access_keepsForm (port x wr s) : KeepsForm s (access port x wr s) := by
  cases wr with
  | none => exact getReg_keepsForm port x s
  | some d => exact putReg_keepsForm port x d s

theorem narrow_keepsForm (port x hi wr s) : KeepsForm s (narrow port x hi wr s) := by
  unfold narrow
  split
  · unfold slotHalf
    split
    · exact .finish (reply_store _ _ _)
    · exact putSlot_keepsForm _ _ _ _ _ _
  · exact access_keepsForm _ _ _ _

/-- The two halves of a 64-bit access are performed one after the other. -/
theorem pairAccess_keepsForm (port x y wr s) : KeepsForm s (pairAccess port x y wr s) := by
  refine .ite (.finish (busErr_store _ _)) (.andThen (.of_store (withRsps_store _ _ _) (access_keepsForm _ _ _ _)) fun t => ?_)
  have second : store (if wr.isSome = true then withRsps t port []
      else shaped (withRsps t port []) port (.upper (lo32 (answerOf t port)))) = store t := by
    split
    · exact withRsps_store _ _ _
    · exact (shaped_store _ _ _).trans (withRsps_store _ _ _)
  exact .andThen (.of_store second (access_keepsForm _ _ _ _)) fun u => .next fun hu => (storesWf_of_store (behind_store _ _ _)).trans hu

theorem cpAccess_keepsForm (o size64 wr s) : KeepsForm s (cpAccess o size64 wr s) := by
  have bad : KeepsForm s (finish (busErr s .cp)) := .finish (busErr_store _ _)
  refine .ite (.ite bad ?_) (.ite bad ?_)
  · split
    · exact .ite bad (.ite (access_keepsForm _ _ _ _) (pairAccess_keepsForm _ _ _ _ _))
    · exact bad
  · split
    · exact .ite bad (narrow_keepsForm _ _ _ _ _)
    · exact bad

theorem mgmtAccess_keepsForm (port o wr s) : KeepsForm s (mgmtAccess port o wr s) := by
  have bad : KeepsForm s (finish (busErr s port)) := .finish (busErr_store _ _)
  refine .ite bad ?_
  split
  · exact bad
  · refine .ite bad (.ite (narrow_keepsForm _ _ _ _ _) ?_)
    split
    · exact .ite (.finish (reply_store _ _ _)) (.of_store (shaped_store _ _ _) (getReg_keepsForm _ _ _))
    · exact .ite (.finish ((ack_store _ _).trans (modRport_store _ _ _))) (putReg_keepsForm _ _ _ _)

theorem perform_keepsForm (port a s) : KeepsForm s (perform port a s) := by
  refine .ite (.finish ((busErr_store _ _).trans (wholeFault_store _ _ _))) ?_
  cases port with
  | cp => exact cpAccess_keepsForm _ _ _ _
  | mp => exact mgmtAccess_keepsForm _ _ _ _
  | gh => exact mgmtAccess_keepsForm _ _ _ _

theorem serveQueue_keepsForm (n : Nat) (port s) : KeepsForm s (serveQueue n port s) := by
  induction n generalizing s with
  | zero => exact .next id
  | succ n ih =>
    unfold serveQueue
    split
    · exact .andThen (.of_store (withQueue_store _ _ _) (perform_keepsForm _ _ _)) fun t => .of_store (withQueue_store _ _ _) (ih _)
    · exact .next id

theorem accept_keepsForm (port a s) : KeepsForm s (accept port a s) :=
  .andThen (serveQueue_keepsForm _ _ _) fun _ => .ite (perform_keepsForm _ _ _) (.finish (modRport_store _ _ _))

/-! ## The statement -/

/-- Every command keeps the form: one case for each row, or for the rows of one shape. -/
theorem exec_keepsForm (i : Instr) (s : State) : KeepsForm s (exec i s) := by
  unfold exec
  cases i with
  | aonReset => exact execAonReset_keepsForm _ _
  | macroResetAssert => exact .finishForm (macroReset_wf s)
  | macroResetRelease => exact execMacroResetRelease_keepsForm _ _
  | wrapperReset => exact execWrapperReset_keepsForm _ _
  | testModeChange | sluiceWindowBoundary | quotaWindowEnd | modelSwitchComplete | echoInvalidateDone | trainDeskewDone
  | spareErrorWindow | fuseReadStart | mgmtPortReady | timerInterrupt | restartClearsDone | selfTestStart =>
    exact .ite .skip (.finish rfl)
  | fclkOkRise => exact execFclkOkRise_keepsForm _ _
  | fclkOkFall => exact execFclkOkFall_keepsForm _ _
  | railLoss => exact .finishForm fun _ => rfl
  | railUndervolt => exact execRailUndervolt_keepsForm _ _ _
  | read | write | writeBitSet | writeBitClear | streamDoorbell | mailboxDoorbell | multicastRead =>
    exact .ite (presentReq_keepsForm _ _ _ _ _) .skip
  | atomAddS8 | atomAddI32 | atomAddF32 | atomMinI32 | atomMaxI32 | atomSwap64 | atomCas64 | atomTrace | sem
  | reservedOp => exact presentReq_keepsForm _ _ _ _ _
  | writeDataBeat => exact execWriteDataBeat_keepsForm _ _ _
  | responseBeatTaken => exact execResponseBeatTaken_keepsForm _ _ _ _
  | gatherTimeout => exact execGatherTimeout_keepsForm _ _ _
  | sluiceRelease => exact execSluiceRelease_keepsForm _ _ _
  | sluiceConfigWrite => exact execSluiceConfigWrite_keepsForm _ _ _ _
  | blockGrant => exact execBlockGrant_keepsForm _ _ _ _ _
  | timetableSlot => exact execTimetableSlot_keepsForm _ _ _ _ _
  | slotSlipIssue => exact execSlotSlipIssue_keepsForm _ _ _ _ _
  | starvationLimit => exact execStarvationLimit_keepsForm _ _ _
  | eventIngress => exact execEventIngress_keepsForm _ _ _
  | copyPlaced => exact execCopyPlaced_keepsForm _ _ _ _
  | copyAtEntry => exact execCopyAtEntry_keepsForm _ _
  | entryHold => exact execEntryHold_keepsForm _ _ _ _
  | expandCopy => exact execExpandCopy_keepsForm _ _ _
  | groupToQueue => exact execGroupToQueue_keepsForm _ _
  | rowEventIssue => exact execRowEventIssue_keepsForm _ _ _ _
  | ringRowsToQueue => exact execRingRowsToQueue_keepsForm _ _ _
  | stepEntryComplete => exact execStepEntryComplete_keepsForm _ _
  | stepDrained => exact execStepDrained_keepsForm _ _ _
  | stepSweepsDone => exact execStepSweepsDone_keepsForm _ _
  | emitBufferPass => exact execEmitBufferPass_keepsForm _ _ _ _
  | egressEventTaken => exact execEgressEventTaken_keepsForm _ _
  | modelSwitch => exact execModelSwitch_keepsForm _ _ _ _
  | trellisDataWrite => exact execTrellisDataWrite_keepsForm _ _ _ _
  | trellisDataRead => exact execTrellisDataRead_keepsForm _ _ _ _
  | trellisDelayWrite => exact .ite .skip (.finish (trDelay_store _ _ _ _))
  | basinClear => exact execBasinClear_keepsForm _ _ _ _
  | basinDataWrite => exact execBasinDataWrite_keepsForm _ _ _ _
  | basinDataRead => exact execBasinDataRead_keepsForm _ _ _ _
  | sweepGroupStart => exact execSweepGroupStart_keepsForm _ _ _ _
  | endProg => exact execEndProg_keepsForm _ _ _ _
  | range => exact execRange_keepsForm _ _ _ _
  | lds => exact execLds_keepsForm _ _ _ _
  | sts => exact execSts_keepsForm _ _ _ _
  | ldb => exact execLdb_keepsForm _ _ _ _
  | stb => exact execStb_keepsForm _ _ _ _
  | ldi | sweepAdd | sweepSub | addc | mulc | shri | max | min | sel | rst => exact aluRow_keepsForm _ _ _ _ _ _
  | add | sub | wait | set | padd | cadd | pwaitFull | pwaitSpace | arrive | sync | bwait | swait | bstReservedOp =>
    exact .ite (presentOp_keepsForm _ _ _ _) .skip
  | cmp => exact execCmp_keepsForm _ _ _ _
  | emit => exact execEmit_keepsForm _ _ _ _
  | trc => exact execTrc_keepsForm _ _ _ _
  | invalidInstruction => exact execInvalidInstruction_keepsForm _ _ _ _
  | sweepDataRead => exact execSweepDataRead_keepsForm _ _ _ _
  | ringBell => exact execRingBell_keepsForm _ _ _
  | streamAbort => exact execStreamAbort_keepsForm _ _ _
  | streamSlotWrite => exact execStreamSlotWrite_keepsForm _ _ _ _ _
  | admitDescriptor => exact execAdmitDescriptor_keepsForm _ _
  | rillIssue => exact execRillIssue_keepsForm _ _ _
  | rillReadResponse => exact execRillReadResponse_keepsForm _ _ _ _ _
  | rillWriteResponse => exact execRillWriteResponse_keepsForm _ _ _ _
  | fillPieceWrite => exact execFillPieceWrite_keepsForm _ _ _
  | drainPieceRead => exact execDrainPieceRead_keepsForm _ _ _
  | tileComplete => exact execTileComplete_keepsForm _ _
  | echoInvalidate => exact execEchoInvalidate_keepsForm _ _ _ _
  | echoEnableWrite => exact execEchoEnableWrite_keepsForm _ _ _ _
  | signalHoldRelease => exact execSignalHoldRelease_keepsForm _ _
  | watchTimeout => exact execWatchTimeout_keepsForm _ _
  | watchRegister => exact execWatchRegister_keepsForm _ _ _
  | watchCancel => exact execWatchCancel_keepsForm _ _ _
  | controlMessageTake => exact execControlMessageTake_keepsForm _ _
  | barrierConfigWrite => exact execBarrierConfigWrite_keepsForm _ _ _ _ _
  | pairWrite => exact execPairWrite_keepsForm _ _ _ _
  | roleWrite => exact execRoleWrite_keepsForm _ _ _
  | syncMessageSend => exact execSyncMessageSend_keepsForm _
  | syncArriveReceived | syncReleaseReceived => exact .ite .skip (receiveSync_keepsForm _ _)
  | mailboxSend => exact execMailboxSend_keepsForm _ _ _ _
  | depositAnnounce => exact execDepositAnnounce_keepsForm _ _
  | mailboxTake => exact execMailboxTake_keepsForm _ _ _
  | mailboxConfigWrite => exact execMailboxConfigWrite_keepsForm _ _ _ _
  | measure => exact execMeasure_keepsForm _
  | bootStatus => exact execBootStatus_keepsForm _
  | fuseReread => exact execFuseReread_keepsForm _
  | signedMeasure => exact execSignedMeasure_keepsForm _ _
  | unknownRequest => exact execUnknownRequest_keepsForm _
  | gatehouseReply => exact execGatehouseReply_keepsForm _
  | signingResponse => exact execSigningResponse_keepsForm _ _ _
  | signingTimeout => exact execSigningTimeout_keepsForm _
  | linkRetrain => exact execLinkRetrain_keepsForm _ _ _
  | trainClockDone => exact execTrainClockDone_keepsForm _ _ _
  | trainFrameDone => exact execTrainFrameDone_keepsForm _ _ _
  | linkUp => exact execLinkUp_keepsForm _ _
  | packetStart => exact execPacketStart_keepsForm _ _ _
  | flitReceive => exact execFlitReceive_keepsForm _ _ _
  | sideWordReceive => exact execSideWordReceive_keepsForm _ _ _ _
  | nakRepeatReplay | ackStallReplay => exact .ite .skip (.finish (startReplay_store _ _))
  | sideWordTimeout => exact .ite .skip (.finish (linkFault_store _ _ _ _ _))
  | retireReq => exact execRetireReq_keepsForm _ _ _
  | retireDup => exact execRetireDup_keepsForm _ _ _
  | retireDone => exact execRetireDone_keepsForm _ _ _
  | retireReqRepeat => exact execRetireReqRepeat_keepsForm _ _
  | fbPktRead | fbPktWrite => exact takePacket_keepsForm _ _ _ fun _ _ => takePiece_store _ _ _
  | fbPktAtomic => exact takePacket_keepsForm _ _ _ fun _ _ => packetPiece_store _ _
  | fbPktReadData | fbPktWriteAck | fbPktAtomicData => exact takePacket_keepsForm _ _ _ fun _ _ => packetBack_store _ _
  | fbPktSignal => exact takePacket_keepsForm _ _ _ fun _ _ => arriveSignal_store _ _
  | fbPktSignalAck => exact takePacket_keepsForm _ _ _ fun _ _ => ackSignal_store _ _
  | fbPktRetire => exact takePacket_keepsForm _ _ _ fun _ _ => takeCounts_store _ _
  | fbPktControl => exact execFbPktControl_keepsForm _ _
  | fbPktStep => exact takePacket_keepsForm _ _ _ fun _ _ => markSteps_store _ _ _
  | fbPktEvents => exact execFbPktEvents_keepsForm _ _
  | idleTimeout | retainTimeout | offTimeout => exact .ite .skip (.finish (askDown_store _ _))
  | stagerEdge => exact execStagerEdge_keepsForm _
  | stagedStepStart => exact execStagedStepStart_keepsForm _ _
  | stagedStepEnd => exact execStagedStepEnd_keepsForm _ _
  | governorInterval => exact execGovernorInterval_keepsForm _ _
  | pwrWakeReq => exact execPwrWakeReq_keepsForm _ _ _ _
  | pwrWakeHold => exact mgmtWrite_keepsForm _ _ fun _ => writeWake_store _ _ _
  | pwrFclkWrite => exact execPwrFclkWrite_keepsForm _ _ _ _
  | policyWrite => exact execPolicyWrite_keepsForm _ _ _ _ _
  | fuseAck => exact execFuseAck_keepsForm _ _
  | fuseTimeout => exact execFuseTimeout_keepsForm _
  | fwStart => exact execFwStart_keepsForm _ _ _
  | fwAbort => exact execFwAbort_keepsForm _ _ _
  | fwDataWord => exact execFwDataWord_keepsForm _ _ _
  | fwImageEnd => exact execFwImageEnd_keepsForm _
  | cpOpen => exact execCpOpen_keepsForm _ _ _
  | gatehouseSleep | gatehouseWake => exact .ite .skip (.finish (coreRuns_store _ _))
  | measureExtend => exact execMeasureExtend_keepsForm _ _ _
  | mgmtLinkAccess | rcRead | registerWrite => exact .ite .skip (accept_keepsForm _ _ _)
  | planStart => exact execPlanStart_keepsForm _ _ _ _
  | planAbort => exact execPlanAbort_keepsForm _ _ _
  | planDataWord => exact execPlanDataWord_keepsForm _ _ _
  | planHeader => exact execPlanHeader_keepsForm _
  | planSection => exact execPlanSection_keepsForm _
  | stop => exact execStop_keepsForm _ _
  | freeze => exact execFreeze_keepsForm _ _ _
  | stopQuiescent => exact execStopQuiescent_keepsForm _
  | eastFaultRaise => exact execEastFaultRaise_keepsForm _
  | freezeReachHalf => exact execFreezeReachHalf_keepsForm _ _
  | injected => exact execInjected_keepsForm _ _ _
  | jobRestartGo => exact execJobRestartGo_keepsForm _ _ _ _
  | jobRestartRelease => exact execJobRestartRelease_keepsForm _ _ _
  | fenceSet | fenceClear => exact fenceWrite_keepsForm _ _ _ _
  | counterSample => exact execCounterSample_keepsForm _
  | dumpNow => exact execDumpNow_keepsForm _ _
  | dumpBodyWrite => exact execDumpBodyWrite_keepsForm _
  | dumpHeaderClose => exact execDumpHeaderClose_keepsForm _
  | dumpComplete => exact execDumpComplete_keepsForm _
  | taggingEnable => exact execTaggingEnable_keepsForm _ _ _ _ _
  | tagClear => exact execTagClear_keepsForm _ _ _ _ _
  | counterWrite => exact execCounterWrite_keepsForm _ _ _ _
  | wsBypass | wsExtest | plId | plTctrl | plTstat | plTresult | plRepair => exact selectInstr_keepsForm _ _ _ _
  | selfTestDone => exact execSelfTestDone_keepsForm _ _
  | slotExtendComplete => exact execSlotExtendComplete_keepsForm _

/-- Settles O3: a step is its command, run on a state with the same stores. -/
theorem stepKeepsByteStoresCanonical : Obligations.StepKeepsByteStoresCanonical := by
  unfold Obligations.StepKeepsByteStoresCanonical
  intro s t hs ht
  unfold step at ht
  split at ht
  · cases ht; exact hs
  next c rest _ => exact exec_keepsForm c { s with pending := rest } hs t ht
end Sys2Proof.Machine
end

section
/-! PROOF. Operation words: a register write or a released engine signal presents them (R46, R288, R294, R298). -/

namespace Sys2Proof.Machine

/-! ## The rows of the operations -/

/-- Each row of an operation word, with the OP that makes it the row of that word (R288). -/
def opRows (src : BstSrc) (n : BitVec 12) (w : W64) : List (Instr × BitVec 4) :=
  [(.add src n w, 0), (.sub src n w, 1), (.wait src n w, 2), (.set src n w, 3), (.padd src n w, 4), (.cadd src n w, 5),
    (.pwaitFull src n w, 6), (.pwaitSpace src n w, 7), (.arrive src n w, 8), (.sync src n w, 9), (.bwait src n w, 10),
    (.swait src n w, 11), (.bstReservedOp src n w, 12), (.bstReservedOp src n w, 13), (.bstReservedOp src n w, 14),
    (.bstReservedOp src n w, 15)]

/-- A row presents a word with its own OP and does nothing with a word of another. -/
theorem exec_opRow {row : Instr} {op : BitVec 4} {src : BstSrc} {n : BitVec 12} {w : W64} (s : State) (h : (row, op) ∈ opRows src n w) :
    (bstOp w = op → exec row s = presentOp src n w s) ∧ (bstOp w ≠ op → op.toNat < 12 → exec row s = .next s) := by
  simp only [opRows, List.mem_cons, Prod.mk.injEq, List.not_mem_nil, or_false] at h
  rcases h with ⟨rfl, rfl⟩ | ⟨rfl, rfl⟩ | ⟨rfl, rfl⟩ | ⟨rfl, rfl⟩ | ⟨rfl, rfl⟩ | ⟨rfl, rfl⟩ | ⟨rfl, rfl⟩ | ⟨rfl, rfl⟩ | ⟨rfl, rfl⟩ |
    ⟨rfl, rfl⟩ | ⟨rfl, rfl⟩ | ⟨rfl, rfl⟩ | ⟨rfl, rfl⟩ | ⟨rfl, rfl⟩ | ⟨rfl, rfl⟩ | ⟨rfl, rfl⟩
  iterate 12 exact ⟨fun e => if_pos e, fun ne _ => if_neg ne⟩
  all_goals exact ⟨fun e => if_pos (by rw [e]; decide), fun _ lt => absurd lt (by decide)⟩

theorem blocking_iff (w : W64) : blocking w = true ↔ bstOp w ∈ [(2 : BitVec 4), 6, 7, 9, 10, 11] := by
  have cases : ∀ op : BitVec 4, [2, 6, 7, 9, 10, 11].contains op.toNat = true ↔ op ∈ [(2 : BitVec 4), 6, 7, 9, 10, 11] := by decide
  exact cases (bstOp w)

/-! ## Words written to BST_SEM (R46, R295) -/

theorem presentReg_refused {s : State} {port : RegPort} {n : BitVec 12} {w : W64} (hp : portReady s port = true)
    (hr : frozen s 0 = true ∨ (blocking w = true ∧ bstWordOk w = true)) :
    presentOp (.reg port) n w s = .next (after (busErr (wideWrite s port w) port)) := by
  rcases hr with hf | ⟨hb, hok⟩
  · simp [presentOp, hp, frozen_wideWrite, hf, finish_eq_after]
  · simp [presentOp, hp, hb, hok, finish_eq_after]

theorem presentReg_performed {s : State} {port : RegPort} {n : BitVec 12} {w : W64} (hp : portReady s port = true)
    (hf : frozen s 0 = false) (hw : blocking w = false ∨ bstWordOk w = false) :
    presentOp (.reg port) n w s = .next (afterSync (if (bstDo (wideWrite s port w) .ctrl none n w).2 = .ok
      then ack (bstDo (wideWrite s port w) .ctrl none n w).1 port else busErr (bstDo (wideWrite s port w) .ctrl none n w).1 port)) := by
  have atOnce : (blocking w && bstWordOk w) = false := Bool.and_eq_false_iff.mpr hw
  simp only [presentOp, hp, frozen_wideWrite, hf, atOnce, Bool.not_true, Bool.false_eq_true, if_false, finishSync_eq_afterSync]
  split <;> rfl

/-! ## Words of released signals (R294) -/

/-- A hold that stands: freeze has reached the West half, or the oldest signal is not ready. -/
theorem signalHoldRelease_held {s : State} {p : EPort} (h : frozen s 0 = true ∨ readySignal s p = none) :
    execSignalHoldRelease p s = .next s := by
  rcases h with hf | hr
  · simp [execSignalHoldRelease, hf, skip]
  · simp [execSignalHoldRelease, hr, skip]

theorem presentEngine_held {s : State} {p : EPort} {n : BitVec 12} {w : W64} (h : frozen s 0 = true ∨ readySignal s p = none) :
    presentOp (.engine p) n w s = .next s := by
  rcases h with hf | hr
  · simp [presentOp, hf, skip]
  · simp [presentOp, hr, skip]

theorem signalHoldRelease_released {s : State} {p : EPort} {h : Held} (hl : live s = true) (hf : frozen s 0 = false)
    (hr : readySignal s p = some h) : execSignalHoldRelease p s = .next (afterSync (releaseSignal s p)) := by
  simp [execSignalHoldRelease, hl, hf, hr, finishSync_eq_afterSync]

theorem presentEngine_released {s : State} {p : EPort} {h : Held} (hl : live s = true) (hf : frozen s 0 = false)
    (hr : readySignal s p = some h) (hb : h.bell = false) :
    presentOp (.engine p) (h.addr.extractLsb' 0 12) h.word s = .next (afterSync (releaseSignal s p)) := by
  simp [presentOp, hl, hf, hr, hb, finishSync_eq_afterSync]

/-- What a released operation leaves: its answer, or its watch, which a stop frees again (R298, R310). -/
theorem releaseSignal_op {s : State} {p : EPort} {h : Held} (hr : readySignal s p = some h) (hb : h.bell = false) :
    releaseSignal s p =
      let x := bstDo (scopeCheck (modEp s p (fun x => { x with held := x.held.drop 1 })) p h) (.engine p) (some (.engine p h.seq))
        (h.addr.extractLsb' 0 12) h.word
      if x.2 = .ok then answerSignal x.1 p h.seq okay
      else if x.2 = .waits then (if x.1.frz.stopping then freezeWatches x.1 else x.1)
      else answerSignal x.1 p h.seq refusedC := by
  simp only [releaseSignal, hr, signalEffect, hb, Bool.not_false, if_true]
  split
  next e => rw [if_pos e]
  all_goals next e => simp only [e, reduceCtorEq, if_false, if_true]

/-! ## The statement -/

/-- Settles O47: the row's word is presented as its source says; the rules for a register and for a held signal follow. -/
theorem operationWordsArePresented : Obligations.OperationWordsArePresented := by
  unfold Obligations.OperationWordsArePresented
  intro s src n w p row
  refine ⟨fun op hrow ne lt => (exec_opRow s hrow).2 ne lt, fun hrow => ⟨?reg, ?engine⟩, signalHoldRelease_held,
    fun h hl hf hr => signalHoldRelease_released hl hf hr⟩
  case reg =>
    intro port hsrc hp
    have presented := (exec_opRow s hrow).1 rfl
    subst hsrc
    rw [presented, ← blocking_iff]
    refine ⟨presentReg_refused hp, fun hf hw => presentReg_performed hp hf ?_⟩
    simpa using hw
  case engine =>
    intro hsrc
    have presented := (exec_opRow s hrow).1 rfl
    subst hsrc
    rw [presented]
    refine ⟨presentEngine_held, fun h hl hf hr hb hw hn => ?_⟩
    subst hw hn
    rw [presentEngine_released hl hf hr hb, releaseSignal_op hr hb]

end Sys2Proof.Machine
end

section
/-! PROOF. What the end of a command and the answers of a register port leave, field by field. -/

namespace Sys2Proof.Machine

@[simp] theorem after_frz (s : State) : (after s).frz = s.frz := by simp [after]
@[simp] theorem after_flt (s : State) : (after s).flt = s.flt := by simp [after]
@[simp] theorem after_rs (s : State) : (after s).rs = s.rs := by simp [after]
@[simp] theorem after_gh (s : State) : (after s).gh = s.gh := by simp [after]
@[simp] theorem after_meas (s : State) : (after s).meas = s.meas := by simp [after]
@[simp] theorem after_pln (s : State) : (after s).pln = s.pln := by simp [after]
@[simp] theorem after_fb (s : State) : (after s).fb = s.fb := by simp [after]
@[simp] theorem after_fuse (s : State) : (after s).fuse = s.fuse := by simp [after]
@[simp] theorem after_ports (s : State) : (after s).ports = s.ports := by simp [after]
@[simp] theorem after_mem (s : State) : (after s).mem = s.mem := by simp [after]
@[simp] theorem after_basin (s : State) : (after s).basin = s.basin := by simp [after]
@[simp] theorem after_aon (s : State) : (after s).aon = s.aon := by simp [after]
@[simp] theorem after_pending (s : State) : (after s).pending = s.pending := by simp [after]
@[simp] theorem dir_after (s : State) (d : Half) : dir (after s) d = dir s d := by simp [dir]
@[simp] theorem rg_after (s : State) (r : Region) : rg (after s) r = rg s r := by simp [rg]
@[simp] theorem ep_after (s : State) (p : EPort) : ep (after s) p = ep s p := by simp [ep]
@[simp] theorem box_after (s : State) (n : Fin 64) : box (after s) n = box s n := by simp [box]

@[simp] theorem ack_frz (s : State) (p : RegPort) : (ack s p).frz = s.frz := by simp [ack, reply]
@[simp] theorem ack_flt (s : State) (p : RegPort) : (ack s p).flt = s.flt := by simp [ack, reply]
@[simp] theorem ack_rs (s : State) (p : RegPort) : (ack s p).rs = s.rs := by simp [ack, reply]
@[simp] theorem ack_gh (s : State) (p : RegPort) : (ack s p).gh = s.gh := by simp [ack, reply]
@[simp] theorem ack_meas (s : State) (p : RegPort) : (ack s p).meas = s.meas := by simp [ack, reply]
@[simp] theorem ack_pln (s : State) (p : RegPort) : (ack s p).pln = s.pln := by simp [ack, reply]
@[simp] theorem ack_fb (s : State) (p : RegPort) : (ack s p).fb = s.fb := by simp [ack, reply]
@[simp] theorem ack_lod (s : State) (p : RegPort) : (ack s p).lod = s.lod := by simp [ack, reply]
@[simp] theorem ack_ports (s : State) (p : RegPort) : (ack s p).ports = s.ports := by simp [ack, reply]
@[simp] theorem ack_aon (s : State) (p : RegPort) : (ack s p).aon = s.aon := by simp [ack, reply]
@[simp] theorem ack_pending (s : State) (p : RegPort) : (ack s p).pending = s.pending := by simp [ack, reply]
@[simp] theorem dir_ack (s : State) (p : RegPort) (d : Half) : dir (ack s p) d = dir s d := by simp [dir]
@[simp] theorem rg_ack (s : State) (p : RegPort) (r : Region) : rg (ack s p) r = rg s r := by simp [rg]
@[simp] theorem ep_ack (s : State) (p : RegPort) (q : EPort) : ep (ack s p) q = ep s q := by simp [ep]
@[simp] theorem box_ack (s : State) (p : RegPort) (n : Fin 64) : box (ack s p) n = box s n := by simp [box]

@[simp] theorem busErr_gh (s : State) (p : RegPort) : (busErr s p).gh = s.gh := by simp [busErr]
@[simp] theorem holdAcc_gh (s : State) (p : RegPort) (a : HeldAcc) : (holdAcc s p a).gh = s.gh := by simp [holdAcc]

/-- What each step of a fold leaves, the fold leaves. -/
theorem foldl_keeps {α β : Type} (g : State → β) (f : State → α → State) (l : List α) (s : State) (h : ∀ s a, g (f s a) = g s) :
    g (l.foldl f s) = g s := by
  induction l generalizing s with
  | nil => rfl
  | cons a l ih => rw [List.foldl_cons, ih, h]

end Sys2Proof.Machine
end

section
/-! PROOF. The boot (R424 to R430, R447, R467): the fuses, the management port and the firmware load. -/

namespace Sys2Proof.Machine

/-! ## The arms of the boot's commands -/

theorem exec_fwStart (port v s) : exec (.fwStart port v) s = execFwStart port v s := rfl
theorem exec_fwAbort (port v s) : exec (.fwAbort port v) s = execFwAbort port v s := rfl
theorem exec_cpOpen (port v s) : exec (.cpOpen port v) s = execCpOpen port v s := rfl
theorem exec_fwDataWord (port w s) : exec (.fwDataWord port w) s = execFwDataWord port w s := rfl

/-! ## The fuse image (R467) -/

theorem applyImage_done (f : Fuse) : (applyImage f).done = true ∧ (applyImage f).req = none := by
  unfold applyImage
  dsimp only
  generalize fuseEntries (f.words.drop 16) [] 0 0 = entries
  split
  · exact ⟨rfl, rfl⟩
  · exact ⟨rfl, rfl⟩

/-- What the boot keeps at the Gatehouse: its registers, the fuses and the measurement. -/
def bootParts (s : State) : Gatehouse × Fuse × Meas := (s.gh, s.fuse, s.meas)

theorem loseCell_bootParts (s : State) (r : Region) (b : Blk) (c : Fin 8) : bootParts (loseCell s r b c) = bootParts s := by
  simp only [bootParts, loseCell]

theorem loseBlock_bootParts (s : State) (r : Region) (b : Blk) : bootParts (loseBlock s r b) = bootParts s := by
  have cells := foldl_keeps bootParts (fun s c => loseCell s r b c) (idx 8) s fun s c => loseCell_bootParts s r b c
  have rows : ∀ (u : State) (basin : Table Byte) (f : Block → Block), bootParts (modBlk { u with basin := basin } r b f) = bootParts u :=
    fun _ _ _ => rfl
  exact (rows _ _ _).trans cells

/-- The blocks and cells that lose their bytes change none of these. -/
theorem loseChanged_bootParts (s : State) (f : Fuse) : bootParts (loseChanged s f) = bootParts s := by
  refine foldl_keeps bootParts _ _ _ fun u r => foldl_keeps bootParts _ _ _ fun v b => ?_
  dsimp only
  split
  · exact loseBlock_bootParts v r b
  · refine foldl_keeps bootParts _ _ _ fun w c => ?_
    split
    · rfl
    · exact loseCell_bootParts w r b c

theorem loseChanged_keeps (s : State) (f : Fuse) :
    (loseChanged s f).gh = s.gh ∧ (loseChanged s f).fuse = s.fuse ∧ (loseChanged s f).meas = s.meas := by
  simpa only [bootParts, Prod.mk.injEq] using loseChanged_bootParts s f

theorem fuseReadStart_reset {s : State} (hl : live s = true) (hs : s.gh.stage = .reset) : execFuseReadStart s = .next (after
    { s with gh := { s.gh with stage := .fuses }, fuse := { s.fuse with words := [], req := some 0, ticks := 0 } }) := by
  simp [execFuseReadStart, hl, hs, finish_eq_after]

theorem fuseReadStart_skips {s : State} (hs : s.gh.stage ≠ .reset) : execFuseReadStart s = .next s := by simp [execFuseReadStart, hs, skip]

/-- The fuses with one word more (R467). -/
def withWord (f : Fuse) (a : BitVec 10) (w : W32) : Fuse := { f with words := f.words ++ [w], req := some (a + 1), ticks := 0 }

theorem fuseAck_word {s : State} {a : BitVec 10} (w : W32) (hl : live s = true) (hr : s.fuse.req = some a) (ha : a ≠ 1023) :
    execFuseAck w s = .next (after { s with fuse := withWord s.fuse a w }) := by
  simp only [execFuseAck, hl, hr, ha, finish_eq_after, withWord, Bool.not_true, Bool.false_eq_true, if_false]

theorem fuseAck_last {s : State} (w : W32) (hl : live s = true) (hr : s.fuse.req = some 1023) :
    execFuseAck w s = .next (after (fuseDone { s with fuse := withWord s.fuse 1023 w })) := by
  simp [execFuseAck, hl, hr, finish_eq_after, withWord]

/-- The last word at boot applies the image and extends slot 1 with it (R428, R467). -/
theorem fuseAck_boot {s : State} {w : W32} (hl : live s = true) (hr : s.fuse.req = some 1023) (hb : s.fuse.reread = false) :
    ∃ t, execFuseAck w s = .next t ∧ kept s t ∧ t.fuse.done = true ∧ t.fuse.req = none ∧
      t.meas.queue = s.meas.queue ++ [⟨1, sha384 ((s.fuse.words ++ [w]).flatMap (fun w => bytesOf w 4))⟩] := by
  have done : fuseDone { s with fuse := withWord s.fuse 1023 w } =
      queueExtend { s with fuse := applyImage (withWord s.fuse 1023 w) } 1 ((s.fuse.words ++ [w]).flatMap (fun w => bytesOf w 4)) := by
    simp [fuseDone, withWord, hb]
  obtain ⟨hd, hn⟩ := applyImage_done (withWord s.fuse 1023 w)
  refine ⟨_, fuseAck_last w hl hr, ?_⟩
  rw [done, after_fuse, after_meas]
  exact ⟨kept_after (queueExtend_store { s with fuse := applyImage (withWord s.fuse 1023 w) } _ _), hd, hn, rfl⟩

/-- The last word of a reread answers its request (R337, R467). -/
theorem fuseAck_reread {s : State} {w : W32} {q : W64} (hl : live s = true) (hr : s.fuse.req = some 1023) (hb : s.fuse.reread = true)
    (hq : s.gh.req = some (.fuses q)) :
    ∃ t, execFuseAck w s = .next t ∧ t.fuse.done = true ∧ t.fuse.req = none ∧ t.meas.queue = s.meas.queue ∧
      t.gh.req = some (.reply q 0 0) := by
  obtain ⟨gh, fuse, meas⟩ := loseChanged_keeps { s with fuse := applyImage (withWord s.fuse 1023 w) } (withWord s.fuse 1023 w)
  obtain ⟨hd, hn⟩ := applyImage_done (withWord s.fuse 1023 w)
  have again : (withWord s.fuse 1023 w).reread = true := hb
  refine ⟨_, fuseAck_last w hl hr, ?_⟩
  simp only [fuseDone, again, if_true, gh, hq, after_fuse, after_meas, after_gh, fuse, meas]
  exact ⟨hd, hn, trivial, trivial⟩

theorem fuseTimeout_boot {s : State} {a : BitVec 10} (hl : live s = true) (hr : s.fuse.req = some a) (ht : 1000 ≤ s.fuse.ticks)
    (hb : s.fuse.reread = false) :
    ∃ t, execFuseTimeout s = .next t ∧ kept s t ∧ t.gh.stage = .failed ∧ t.gh.error = 1 ∧ t.fuse.timedOut = true ∧ t.fuse.sel = 0 ∧
      t.fuse.steers = [] ∧ t.meas = s.meas := by
  have late : ¬ s.fuse.ticks < 1000 := by omega
  simp only [execFuseTimeout, hl, hr, late, hb, finish_eq_after, Bool.not_true, Option.isNone_some, Bool.false_or, decide_false,
    Bool.false_eq_true, if_false]
  refine ⟨_, rfl, kept_after rfl, ?_⟩
  rw [after_gh, after_fuse, after_meas]
  exact ⟨rfl, rfl, rfl, rfl, rfl, rfl⟩

theorem fuseTimeout_early {s : State} (ht : s.fuse.ticks < 1000) : execFuseTimeout s = .next s := by simp [execFuseTimeout, ht, skip]

/-! ## The management port (R447) -/

theorem mgmtPortReady_early {s : State} (hs : s.gh.stage = .reset) : execMgmtPortReady s = .next s := by simp [execMgmtPortReady, hs, skip]

theorem mgmtPortReady_due {s : State} (hl : live s = true) (hs : s.gh.stage ≠ .reset) :
    execMgmtPortReady s = .next (after { s with gh := { s.gh with mpReady := true } }) := by
  simp [execMgmtPortReady, hl, hs, finish_eq_after]

/-! ## What a failed load leaves (R427, R430) -/

theorem fwFail_gh (s : State) (e : Byte) : (fwFail s e).gh = { s.gh with stage := .failed, error := e, fwEnded := false } := by
  unfold fwFail
  split <;> rfl

theorem fwFail_queue {s : State} (e : Byte) (h : s.gh.fwEnded = false) :
    (fwFail s e).meas.queue = s.meas.queue ++ [⟨0, sha384 s.gh.fwGot⟩] := by
  unfold fwFail
  rw [h]
  rfl

theorem measureTaken_gh (s : State) : (measureTaken s).gh = s.gh := by
  unfold measureTaken
  split_ifs <;> rfl

theorem plnWord_gh (s : State) (port : RegPort) (w : W32) : (plnWord s port w).gh = s.gh := by
  unfold plnWord
  split_ifs
  · exact busErr_gh s port
  · exact holdAcc_gh s port _
  · rw [ack_gh, measureTaken_gh]

theorem retryPlnAt_gh (s : State) (port : RegPort) : (retryPlnAt s port).gh = s.gh := by
  unfold retryPlnAt
  split
  · exact plnWord_gh s port _
  · rfl

/-- Words that wait for the Plan loader change nothing at the Gatehouse. -/
theorem retryPln_gh (s : State) : (retryPln s).gh = s.gh := by simp only [retryPln, retryPlnAt_gh]

/-- A firmware word that comes when no load is in progress is refused and changes nothing. -/
theorem retryFwAt_gh {s : State} (h : s.gh.stage ≠ .loading) (port : RegPort) : (retryFwAt s port).gh = s.gh := by
  unfold retryFwAt
  split
  · simp [fwWord, h]
  · rfl

theorem retryWords_gh {s : State} (h : s.gh.stage ≠ .loading) : (retryWords s).gh = s.gh := by
  have cp := retryFwAt_gh h .cp
  have mp := retryFwAt_gh (s := retryFwAt s .cp) (by rwa [cp]) .mp
  have gh := retryFwAt_gh (s := retryFwAt (retryFwAt s .cp) .mp) (by rwa [mp, cp]) .gh
  rw [retryWords, retryPln_gh, gh, mp, cp]

/-! ## The firmware load (R425 to R430) -/

theorem fwImageEnd_loads {s : State} (hl : live s = true) (hs : s.gh.stage = .loading) (he : s.gh.fwEnded = false)
    (ha : fwAll s = true) (hn : 16 ≤ s.gh.fwGot.length) :
    ∃ t, execFwImageEnd s = .next t ∧ kept s t ∧ t.gh.fwEnded = true ∧ t.gh.data = [] ∧
      t.gh.entry = 0x00010000 + wd (words32 4 s.gh.fwGot) 2 ∧ t.meas.queue = s.meas.queue ++ [⟨0, sha384 s.gh.fwGot⟩] ∧
      ∀ i, tget 0 t.gh.code i = s.gh.fwGot.getD i 0 := by
  have whole : ¬ s.gh.fwGot.length < 16 := by omega
  simp only [execFwImageEnd, hl, hs, he, ha, whole, finish_eq_after, Bool.not_true, ne_eq, not_true_eq_false, decide_false, Bool.or_false,
    Bool.false_eq_true, if_false]
  refine ⟨_, rfl, kept_after (queueExtend_store s 0 s.gh.fwGot), ?_⟩
  rw [after_gh, after_meas]
  refine ⟨rfl, rfl, rfl, rfl, fun i => ?_⟩
  rw [tget_tputs]
  by_cases hi : i < s.gh.fwGot.length
  · simp [hi]
  · simp [hi, tget]

theorem fwImageEnd_short {s : State} (hl : live s = true) (hs : s.gh.stage = .loading) (he : s.gh.fwEnded = false)
    (ha : fwAll s = true) (hn : s.gh.fwGot.length < 16) :
    ∃ t, execFwImageEnd s = .next t ∧ kept s t ∧ t.gh.stage = .failed ∧ t.gh.error = 3 ∧
      t.meas.queue = s.meas.queue ++ [⟨0, sha384 s.gh.fwGot⟩] := by
  refine ⟨after (fwFail s 3), by simp [execFwImageEnd, hl, hs, he, ha, hn, finish_eq_after], kept_after (fwFail_store s 3), ?_⟩
  rw [after_gh, after_meas, fwFail_gh, fwFail_queue 3 he]
  exact ⟨rfl, rfl, rfl⟩

/-- The control port does not write the registers of the load (R24). -/
theorem fwRegisters_cp {s : State} {port : RegPort} (v : Bool) (w : W32) (hp : portReady s port = true) (hm : isMgmt port = false) :
    ∀ i ∈ [Instr.fwStart port v, Instr.fwAbort port v, Instr.cpOpen port v, Instr.fwDataWord port w], exec i s = .next (after (busErr s port)) := by
  simp [exec_fwStart, exec_fwAbort, exec_cpOpen, exec_fwDataWord, execFwStart, execFwAbort, execCpOpen, execFwDataWord, hp, hm, finish_eq_after]

/-- Test mode bars the load (R508). -/
theorem ghCtrl_testMode {s : State} {port : RegPort} {v : Bool} (hp : portReady s port = true) (hm : isMgmt port = true)
    (ht : s.pins.testMode = true) :
    ∀ i ∈ [Instr.fwStart port v, Instr.fwAbort port v, Instr.cpOpen port v], exec i s = .next (after (busErr s port)) := by
  simp [exec_fwStart, exec_fwAbort, exec_cpOpen, execFwStart, execFwAbort, execCpOpen, ghCtrl, hp, hm, ht, finish_eq_after]

section Written

variable {s : State} {port : RegPort} {v : Bool} (hp : portReady s port = true) (hm : isMgmt port = true)
include hp hm

theorem cpOpen_writes (ht : s.pins.testMode = false) :
    execCpOpen port v s = .next (after (ack { s with gh := { s.gh with cpOpen := v } } port)) := by
  simp [execCpOpen, ghCtrl, hp, hm, ht, finish_eq_after]

theorem fwStart_refused (hr : fwRefused s = true) : execFwStart port v s = .next (after (busErr s port)) := by
  simp [execFwStart, ghCtrl, hp, hm, hr, finish_eq_after]

theorem fwStart_begins (ht : s.pins.testMode = false) (hr : fwRefused s = false) : execFwStart port v s = .next (after (ack
    { s with gh := { s.gh with cpOpen := v, stage := .loading, fwGot := [], fwEnded := false } } port)) := by
  simp [execFwStart, ghCtrl, hp, hm, ht, hr, finish_eq_after]

theorem fwAbort_fails (ht : s.pins.testMode = false) (hs : s.gh.stage = .loading) :
    ∃ t, execFwAbort port v s = .next t ∧ t.gh.stage = .failed ∧ t.gh.error = 6 ∧ t.gh.cpOpen = v := by
  refine ⟨after (ack (retryWords (fwFail { s with gh := { s.gh with cpOpen := v } } 6)) port),
    by simp [execFwAbort, ghCtrl, hp, hm, ht, hs, finish_eq_after], ?_⟩
  rw [after_gh, ack_gh, retryWords_gh (by simp [fwFail_gh]), fwFail_gh]
  exact ⟨rfl, rfl, rfl⟩

theorem fwAbort_nothing (ht : s.pins.testMode = false) (hs : s.gh.stage ≠ .loading) :
    execFwAbort port v s = .next (after (ack { s with gh := { s.gh with cpOpen := v } } port)) := by
  simp [execFwAbort, ghCtrl, hp, hm, ht, hs, finish_eq_after]

theorem fwDataWord_refused {w : W32} (h : s.gh.stage ≠ .loading ∨ s.gh.src = true ∨ fwAll s = true) :
    execFwDataWord port w s = .next (after (busErr s port)) := by
  have no : (decide (s.gh.stage ≠ .loading) || s.gh.src || fwAll s) = true := by
    rcases h with h | h | h <;> simp [h]
  simp [execFwDataWord, fwWord, hp, hm, finish_eq_after] at no ⊢
  simp [no]

theorem fwDataWord_waits {w : W32} (hs : s.gh.stage = .loading) (hsrc : s.gh.src = false) (ha : fwAll s = false)
    (hq : s.meas.queue ≠ []) : execFwDataWord port w s = .next (after (holdAcc s port (.fwData w))) := by
  simp [execFwDataWord, fwWord, hp, hm, hs, hsrc, ha, hq, finish_eq_after]

theorem fwDataWord_taken {w : W32} (hs : s.gh.stage = .loading) (hsrc : s.gh.src = false) (ha : fwAll s = false)
    (hq : s.meas.queue = []) : execFwDataWord port w s = .next (after (ack (fwTake s (bytesOf w 4)) port)) := by
  simp [execFwDataWord, fwWord, hp, hm, hs, hsrc, ha, hq, finish_eq_after]

end Written

/-- The bytes of a load once it has taken bs (R426). -/
def fwGotAfter (s : State) (bs : List Byte) : List Byte := (s.gh.fwGot ++ bs).take s.gh.fwLen.toNat

theorem fwTake_good {s : State} {bs : List Byte} (h : fwError s.gh.fwLen (fwGotAfter s bs) = none) :
    (fwTake s bs).gh = { s.gh with fwGot := fwGotAfter s bs } := by
  unfold fwGotAfter at h
  simp only [fwTake, h, fwGotAfter]

/-- A header's first failing test ends the load (R427). -/
theorem fwTake_bad {s : State} {bs : List Byte} {e : Byte} (h : fwError s.gh.fwLen (fwGotAfter s bs) = some e) :
    (fwTake s bs).gh = { s.gh with fwGot := fwGotAfter s bs, stage := .failed, error := e, fwEnded := false } := by
  unfold fwGotAfter at h
  simp only [fwTake, h, fwFail_gh, fwGotAfter]

theorem fwTake_got (s : State) (bs : List Byte) : (fwTake s bs).gh.fwGot = fwGotAfter s bs := by
  cases h : fwError s.gh.fwLen (fwGotAfter s bs) with
  | none => rw [fwTake_good h]
  | some e => rw [fwTake_bad h]

/-! ## The statement -/

/-- Settles O50: one lemma for each command and each of its answers. -/
theorem bootReadsFusesAndLoadsFirmware : Obligations.BootReadsFusesAndLoadsFirmware := by
  unfold Obligations.BootReadsFusesAndLoadsFirmware
  intro s port w v
  refine ⟨fun hl => ?boot, fun hp hm => fwRegisters_cp v w hp hm, fun hp hm => ⟨ghCtrl_testMode hp hm, fun ht => ?control,
    fwDataWord_refused hp hm, fun hs hsrc ha => ⟨fwDataWord_waits hp hm hs hsrc ha, fun hq => ⟨fwDataWord_taken hp hm hs hsrc ha hq, ?taken⟩⟩⟩⟩
  case boot =>
    exact ⟨fuseReadStart_reset hl, fuseReadStart_skips, fun a hr ha => fuseAck_word w hl hr ha, fuseAck_boot hl,
      fun q hr hb hq => fuseAck_reread hl hr hb hq, fun a hr ht hb => fuseTimeout_boot hl hr ht hb, fuseTimeout_early, mgmtPortReady_early,
      mgmtPortReady_due hl, fun hs he ha => ⟨fwImageEnd_loads hl hs he ha, fwImageEnd_short hl hs he ha⟩⟩
  case control =>
    exact ⟨cpOpen_writes hp hm ht, fwStart_refused hp hm, fwStart_begins hp hm ht, fwAbort_fails hp hm ht, fwAbort_nothing hp hm ht⟩
  case taken =>
    refine ⟨fwTake_got s _, fun good => ?_, fun e bad => ?_⟩
    · rw [fwTake_good good]; exact hs
    · rw [fwTake_bad bad]; exact ⟨rfl, rfl⟩

end Sys2Proof.Machine
end

section
/-! PROOF. A Plan load from its start to its end (R88 to R100, R513, R514). -/

namespace Sys2Proof.Machine

/-! ## The arms of the loader's commands -/

theorem exec_planStart (port src ab s) : exec (.planStart port src ab) s = execPlanStart port src ab s := rfl
theorem exec_planAbort (port src s) : exec (.planAbort port src) s = execPlanAbort port src s := rfl
theorem exec_planDataWord (port w s) : exec (.planDataWord port w) s = execPlanDataWord port w s := rfl

/-! ## Words that wait for the loader once the load has ended -/

theorem retryPlnAt_ended {s : State} (h : s.pln.st ≠ .loading) (port : RegPort) :
    (retryPlnAt s port).pln = s.pln ∧ (retryPlnAt s port).meas = s.meas := by
  unfold retryPlnAt
  split
  · simp [plnWord, h, busErr]
  · exact ⟨rfl, rfl⟩

/-- They are refused, and change neither the loader nor the measurement. -/
theorem retryPln_ended {s : State} (h : s.pln.st ≠ .loading) : (retryPln s).pln = s.pln ∧ (retryPln s).meas = s.meas := by
  obtain ⟨p1, m1⟩ := retryPlnAt_ended h .cp
  obtain ⟨p2, m2⟩ := retryPlnAt_ended (s := retryPlnAt s .cp) (by rwa [p1]) .mp
  obtain ⟨p3, m3⟩ := retryPlnAt_ended (s := retryPlnAt (retryPlnAt s .cp) .mp) (by rwa [p2, p1]) .gh
  exact ⟨by rw [retryPln, p3, p2, p1], by rw [retryPln, m3, m2, m1]⟩

/-! ## The end of a load (R95, R99, R100) -/

theorem overRegions_keeps {β : Type} (g : State → β) (s : State) (m : Byte) (f : State → Region → State) (h : ∀ u r, g (f u r) = g u) :
    g (overRegions s m f) = g s := by
  refine foldl_keeps g _ _ _ fun u r => ?_
  split
  · exact h u r
  · rfl

theorem endLoad_pln (s : State) (st : LoadState) (err : Byte) (sec : BitVec 16) : (endLoad s st err sec).pln =
    { s.pln with st := st, error := err, section_ := sec, hdr := none, buf := [], secIdx := 0, seen := [], taken := 0 } := by
  have freed : ∀ m, (overRegions s m (fun s r => modPw s r (fun p => { p with loadHold := false }))).pln = s.pln :=
    fun m => overRegions_keeps State.pln s m _ fun _ _ => rfl
  simp only [endLoad, freed]

theorem endLoad_meas (s : State) (st : LoadState) (err : Byte) (sec : BitVec 16) : (endLoad s st err sec).meas = s.meas :=
  overRegions_keeps State.meas s _ _ fun _ _ => rfl

theorem endLoad_extIrq (s : State) (st : LoadState) (err : Byte) (sec : BitVec 16) : (endLoad s st err sec).gh.extIrq = true := rfl

/-- A load that ends before its header is taken keeps every loaded bit. -/
theorem rejectLoad_header {s : State} (h : s.pln.hdr = none) (err : Byte) (sec : BitVec 16) :
    rejectLoad s err sec = endLoad s .rejected err sec := by simp only [rejectLoad, h]

/-- One that ends later clears the loaded bits of its scope (R99). -/
theorem rejectLoad_section {s : State} {h : PlanHdr} (hh : s.pln.hdr = some h) (err : Byte) (sec : BitVec 16) :
    rejectLoad s err sec = endLoad { s with
      pln := { s.pln with regions := s.pln.regions &&& ~~~h.mask, whole := s.pln.whole && h.part } } .rejected err sec := by
  simp only [rejectLoad, hh]

theorem rejectLoad_ended (s : State) (err : Byte) (sec : BitVec 16) :
    (rejectLoad s err sec).pln.st = .rejected ∧ (rejectLoad s err sec).pln.error = err ∧ (rejectLoad s err sec).pln.section_ = sec ∧
      (rejectLoad s err sec).meas = s.meas ∧ (rejectLoad s err sec).gh.extIrq = true := by
  cases hh : s.pln.hdr with
  | none =>
    rw [rejectLoad_header hh, endLoad_pln, endLoad_meas, endLoad_extIrq]
    exact ⟨rfl, rfl, rfl, rfl, rfl⟩
  | some h =>
    rw [rejectLoad_section hh, endLoad_pln, endLoad_meas, endLoad_extIrq]
    exact ⟨rfl, rfl, rfl, rfl, rfl⟩

/-- What a rejected load leaves once the words that wait have been refused. -/
theorem retryPln_rejected (s : State) (err : Byte) (sec : BitVec 16) :
    let t := retryPln (rejectLoad s err sec)
    t.pln = (rejectLoad s err sec).pln ∧ t.pln.st = .rejected ∧ t.pln.error = err ∧ t.pln.section_ = sec ∧ t.meas = s.meas ∧
      t.gh.extIrq = true := by
  obtain ⟨hst, herr, hsec, hmeas, hirq⟩ := rejectLoad_ended s err sec
  obtain ⟨pln, meas⟩ := retryPln_ended (s := rejectLoad s err sec) (by rw [hst]; decide)
  dsimp only
  rw [pln, meas, retryPln_gh]
  exact ⟨rfl, hst, herr, hsec, hmeas, hirq⟩

/-! ## PLAN_START, PLAN_ABORT and PLAN_DATA_WORD (R88, R513) -/

/-- The control port does not write the loader's registers (R24). -/
theorem planRegisters_cp {s : State} {port : RegPort} (src ab : Bool) (w : W32) (hp : portReady s port = true) (hm : isMgmt port = false) :
    ∀ i ∈ [Instr.planStart port src ab, Instr.planAbort port src, Instr.planDataWord port w], exec i s = .next (after (busErr s port)) := by
  simp [exec_planStart, exec_planAbort, exec_planDataWord, execPlanStart, execPlanAbort, execPlanDataWord, hp, hm, finish_eq_after]

theorem measureCut_queue (s : State) : (measureCut s).meas.queue = if s.pln.measured || (availBytes s).isEmpty then s.meas.queue
    else s.meas.queue ++ [⟨if s.pln.hdr.isNone then 2 else 3, sha384 (availBytes s)⟩] := by
  unfold measureCut
  split
  · rfl
  · rfl

/-- An abort measures the bytes that no header or section has, and rejects the load with 0x0F (R95, R513). -/
theorem abortLoad_rejects {s : State} (hs : s.pln.st = .loading) :
    let t := abortLoad s
    t.pln.st = .rejected ∧ t.pln.error = 0x0F ∧ t.pln.section_ = cutSection s ∧ t.gh.extIrq = true ∧
      t.meas.queue = (if s.pln.measured || (availBytes s).isEmpty then s.meas.queue
        else s.meas.queue ++ [⟨if s.pln.hdr.isNone then 2 else 3, sha384 (availBytes s)⟩]) := by
  obtain ⟨-, hst, herr, hsec, hmeas, hirq⟩ := retryPln_rejected (measureCut (dropFetch s .plan)) 0x0F (cutSection s)
  simp only [abortLoad, hs, if_true]
  exact ⟨hst, herr, hsec, hirq, by rw [hmeas]; exact measureCut_queue (dropFetch s .plan)⟩

section Written

variable {s : State} {port : RegPort} {src : Bool} (hp : portReady s port = true) (hm : isMgmt port = true)
include hp hm

theorem planStart_refused {ab : Bool} (hr : startRefused s = true) : execPlanStart port src ab s = .next (after (busErr s port)) := by
  simp [execPlanStart, plnCtrl, hp, hm, hr, finish_eq_after]

theorem planStart_begins {ab : Bool} (hr : startRefused s = false) : execPlanStart port src ab s =
    .next (after (ack (if ab then abortLoad (beginLoad s src) else beginLoad s src) port)) := by
  simp [execPlanStart, plnCtrl, hp, hm, hr, finish_eq_after]

theorem planAbort_idle (hs : s.pln.st ≠ .loading) :
    execPlanAbort port src s = .next (after (ack { s with pln := { s.pln with source := src } } port)) := by
  simp [execPlanAbort, plnCtrl, abortLoad, hp, hm, hs, finish_eq_after]

theorem planAbort_rejects (hs : s.pln.st = .loading) :
    ∃ t, execPlanAbort port src s = .next t ∧ kept s t ∧ t.pln.st = .rejected ∧ t.pln.error = 0x0F ∧ t.pln.section_ = cutSection s ∧
      t.gh.extIrq = true ∧ t.meas.queue = (if s.pln.measured || (availBytes s).isEmpty then s.meas.queue
        else s.meas.queue ++ [⟨if s.pln.hdr.isNone then 2 else 3, sha384 (availBytes s)⟩]) := by
  refine ⟨after (ack (abortLoad { s with pln := { s.pln with source := src } }) port),
    by simp [execPlanAbort, plnCtrl, hp, hm, finish_eq_after], kept_after ((ack_store _ _).trans (abortLoad_store _)), ?_⟩
  rw [after_pln, after_meas, after_gh, ack_pln, ack_meas, ack_gh]
  exact abortLoad_rejects (s := { s with pln := { s.pln with source := src } }) hs

theorem planDataWord_refused {w : W32} (h : s.pln.st ≠ .loading ∨ s.pln.source = true ∨ planTaken s = true) :
    execPlanDataWord port w s = .next (after (busErr s port)) := by
  have no : (decide (s.pln.st ≠ .loading) || s.pln.source || planTaken s) = true := by
    rcases h with h | h | h <;> simp [h]
  simp only [execPlanDataWord, plnWord, hp, hm, no, finish_eq_after, Bool.not_true, Bool.false_eq_true, if_false, if_true]

theorem planDataWord_waits {w : W32} (hs : s.pln.st = .loading) (hsrc : s.pln.source = false) (ht : planTaken s = false)
    (hf : loaderFull s = true) : execPlanDataWord port w s = .next (after (holdAcc s port (.plnData w))) := by
  simp [execPlanDataWord, plnWord, hp, hm, hs, hsrc, ht, hf, finish_eq_after]

theorem planDataWord_taken {w : W32} (hs : s.pln.st = .loading) (hsrc : s.pln.source = false) (ht : planTaken s = false)
    (hf : loaderFull s = false) : execPlanDataWord port w s =
      .next (after (ack (measureTaken { s with pln := { s.pln with buf := s.pln.buf ++ bytesOf w 4 } }) port)) := by
  simp [execPlanDataWord, plnWord, hp, hm, hs, hsrc, ht, hf, finish_eq_after]

end Written

/-! ## The measurement of what is taken (R513, R514) -/

theorem hdr_of_headerReady {s : State} (h : headerReady s = true) : s.pln.hdr = none := by
  simp only [headerReady, Bool.and_eq_true, Option.isNone_iff_eq_none] at h
  obtain ⟨⟨-, none⟩, -⟩ := h
  exact none

theorem measureTaken_header {s : State} (h : headerReady s = true) (hm : s.pln.measured = false) :
    (measureTaken s).meas.queue = s.meas.queue ++ [⟨2, sha384 (s.pln.buf.take 32)⟩] ∧ (measureTaken s).pln.measured = true := by
  simp only [measureTaken, hm, h, Bool.false_eq_true, if_false, if_true]
  exact ⟨rfl, trivial⟩

theorem measureTaken_section {s : State} (h : sectionReady s = true) (hm : s.pln.measured = false) :
    (measureTaken s).meas.queue = s.meas.queue ++ [⟨3, sha384 ((availBytes s).take (sectionSpan (availBytes s)))⟩] := by
  have noHeader : headerReady s = false := by
    rw [Bool.eq_false_iff]
    intro hr
    rw [sectionReady, hdr_of_headerReady hr] at h
    exact Bool.false_ne_true h
  simp only [measureTaken, hm, noHeader, h, Bool.false_eq_true, if_false, if_true]
  rfl

/-! ## PLAN_HEADER (R95) -/

theorem planHeader_rejects {s : State} {e : Byte} (hl : live s = true) (hd : headerDue s = true)
    (he : headerError s (s.pln.buf.take 32) = some e) :
    ∃ t, execPlanHeader s = .next t ∧ kept s t ∧ t.pln.st = .rejected ∧ t.pln.error = e ∧ t.pln.section_ = 0xFFFF ∧
      t.pln.regions = s.pln.regions ∧ t.meas = s.meas := by
  have ready : headerReady s = true := (Bool.and_eq_true_iff.mp hd).1
  obtain ⟨hpln, hst, herr, hsec, hmeas, -⟩ := retryPln_rejected s e 0xFFFF
  refine ⟨after (retryPln (rejectLoad s e 0xFFFF)), by simp [execPlanHeader, hl, hd, he, finish_eq_after], kept_after ?_, ?_⟩
  · rw [retryPln_store, rejectLoad_store]
  · rw [after_pln, after_meas]
    refine ⟨hst, herr, hsec, ?_, hmeas⟩
    rw [hpln, rejectLoad_header (hdr_of_headerReady ready), endLoad_pln]

theorem planHeader_takes {s : State} (hl : live s = true) (hd : headerDue s = true) (he : headerError s (s.pln.buf.take 32) = none) :
    execPlanHeader s = .next (after (retryPln (measureTaken (startLoad { s with pln := { s.pln with
      hdr := some (headerOf (words32 8 (s.pln.buf.take 32))), taken := 32, buf := s.pln.buf.drop 32, measured := false } }
        (headerOf (words32 8 (s.pln.buf.take 32))))))) := by
  simp [execPlanHeader, hl, hd, he, finish_eq_after]

/-! ## PLAN_SECTION (R91 to R100) -/

/-- A section that is applied writes the tables and not the loader. -/
theorem applySection_pln (s : State) (x : Section) : (applySection s x).pln = s.pln := by
  unfold applySection
  split_ifs
  · unfold applyMacro
    split <;> rfl
  · rfl
  · exact overRegions_keeps State.pln s _ _ fun _ _ => rfl

/-- A rejected section leaves the loaded bits of the other regions. -/
theorem planSection_rejected {s : State} {h : PlanHdr} (hh : s.pln.hdr = some h) (e : Byte) (sec : BitVec 16)
    (hx : execPlanSection s = .next (after (retryPln (rejectLoad s e sec)))) :
    ∃ t, execPlanSection s = .next t ∧ kept s t ∧ t.pln.st = .rejected ∧ t.pln.error = e ∧
      t.pln.regions = s.pln.regions &&& ~~~h.mask ∧ t.pln.section_ = sec ∧ t.meas = s.meas := by
  obtain ⟨hpln, hst, herr, hsec, hmeas, -⟩ := retryPln_rejected s e sec
  refine ⟨_, hx, kept_after ?_, ?_⟩
  · rw [retryPln_store, rejectLoad_store]
  · rw [after_pln, after_meas]
    refine ⟨hst, herr, ?_, hsec, hmeas⟩
    rw [hpln, rejectLoad_section hh, endLoad_pln]

section Section

variable {s : State} {h : PlanHdr} (hl : live s = true) (hd : sectionDue s = true) (hh : s.pln.hdr = some h)
include hl hd hh

theorem planSection_long (long : sectionLong s h = true) :
    execPlanSection s = .next (after (retryPln (rejectLoad s 0x05 (BitVec.ofNat 16 s.pln.secIdx)))) := by
  simp [execPlanSection, hl, hd, hh, long, finish_eq_after]

theorem planSection_bad {e : Byte} (long : sectionLong s h = false)
    (he : sectionError s h (sectionOf ((availBytes s).take (sectionSpan (availBytes s)))) = some e) :
    execPlanSection s = .next (after (retryPln (rejectLoad s e (BitVec.ofNat 16 s.pln.secIdx)))) := by
  simp [execPlanSection, hl, hd, hh, long, he, finish_eq_after]

theorem planSection_waits (long : sectionLong s h = false)
    (he : sectionError s h (sectionOf ((availBytes s).take (sectionSpan (availBytes s)))) = none) (hr : scopeRuns s h = false) :
    execPlanSection s = .next s := by
  simp [execPlanSection, hl, hd, hh, long, he, hr, skip]

theorem planSection_applies (long : sectionLong s h = false)
    (he : sectionError s h (sectionOf ((availBytes s).take (sectionSpan (availBytes s)))) = none) (hr : scopeRuns s h = true) :
    execPlanSection s = .next (after (retryPln (sectionDone
      (applySection s (sectionOf ((availBytes s).take (sectionSpan (availBytes s))))) h (sectionSpan (availBytes s))
      (sectionOf ((availBytes s).take (sectionSpan (availBytes s))))))) := by
  simp [execPlanSection, hl, hd, hh, long, he, hr, finish_eq_after]

end Section

/-- The loader's registers once section x of n bytes is done. -/
def plnAfter (p : Loader) (n : Nat) (x : Section) : Loader :=
  { p with taken := p.taken + n, buf := p.buf.drop n, secIdx := p.secIdx + 1, seen := p.seen ++ onceKeys x, measured := false }

theorem finishLoad_done (s : State) (h : PlanHdr) :
    let t := retryPln (finishLoad s h)
    t.pln.st = .done ∧ t.pln.regions = s.pln.regions ||| h.mask ∧ t.pln.planId = h.planId ∧ t.pln.everDone = true := by
  have ended : (finishLoad s h).pln.st = .done := by rw [finishLoad, endLoad_pln]
  obtain ⟨pln, -⟩ := retryPln_ended (s := finishLoad s h) (by rw [ended]; decide)
  dsimp only
  rw [pln, finishLoad, endLoad_pln]
  exact ⟨rfl, rfl, rfl, rfl⟩

/-- The last section of a load that uses up LENGTH ends it DONE (R92, R100). -/
theorem sectionDone_last {s : State} {h : PlanHdr} {n : Nat} {x : Section} (hc : h.count ≤ s.pln.secIdx + 1)
    (hn : h.length ≤ s.pln.taken + n) :
    let t := retryPln (sectionDone s h n x)
    t.pln.st = .done ∧ t.pln.regions = s.pln.regions ||| h.mask ∧ t.pln.planId = h.planId ∧ t.pln.everDone = true := by
  have last : ¬ s.pln.secIdx + 1 < h.count := by omega
  have whole : ¬ s.pln.taken + n < h.length := by omega
  have done : sectionDone s h n x = finishLoad { s with pln := plnAfter s.pln n x } h := by
    simp only [sectionDone, last, whole, if_false, plnAfter]
  rw [done]
  exact finishLoad_done { s with pln := plnAfter s.pln n x } h

/-- LENGTH used up before the last section, or bytes left behind it, reject the load with 0x05 (R95). -/
theorem sectionDone_length {s : State} {h : PlanHdr} {n k : Nat} {x : Section}
    (hk : (s.pln.secIdx + 1 < h.count ∧ h.length ≤ s.pln.taken + n ∧ k = s.pln.secIdx + 1) ∨
      (h.count ≤ s.pln.secIdx + 1 ∧ s.pln.taken + n < h.length ∧ k = h.count)) :
    let t := retryPln (sectionDone s h n x)
    t.pln.st = .rejected ∧ t.pln.error = 0x05 ∧ t.pln.section_ = BitVec.ofNat 16 k := by
  have cut : sectionDone s h n x = rejectLoad { s with pln := plnAfter s.pln n x } 0x05 (BitVec.ofNat 16 k) := by
    rcases hk with ⟨more, used, rfl⟩ | ⟨hc, left, rfl⟩
    · simp only [sectionDone, more, used, if_true, plnAfter]
    · have last : ¬ s.pln.secIdx + 1 < h.count := by omega
      simp only [sectionDone, last, left, if_true, if_false, plnAfter]
  rw [cut]
  obtain ⟨-, hst, herr, hsec, -, -⟩ := retryPln_rejected { s with pln := plnAfter s.pln n x } 0x05 (BitVec.ofNat 16 k)
  exact ⟨hst, herr, hsec⟩

/-! ## The statement -/

/-- Settles O53: one lemma for each command and each way a section can end. -/
theorem planLoadRunsToItsEnd : Obligations.PlanLoadRunsToItsEnd := by
  unfold Obligations.PlanLoadRunsToItsEnd
  intro s port src ab w
  refine ⟨fun hp hm => planRegisters_cp src ab w hp hm, fun hp hm => ⟨planStart_refused hp hm,
    fun hr => ⟨planStart_begins hp hm hr, rfl, rfl, rfl⟩, planAbort_idle hp hm, planAbort_rejects hp hm, planDataWord_refused hp hm,
    fun hs hsrc ht => ⟨planDataWord_waits hp hm hs hsrc ht, planDataWord_taken hp hm hs hsrc ht⟩⟩,
    measureTaken_header, measureTaken_section,
    fun hl hd => ⟨fun e he => planHeader_rejects hl hd he, planHeader_takes hl hd⟩, fun h hl hd hh => ?sections⟩
  case sections =>
    refine ⟨fun long => ?_, fun e long he => planSection_rejected hh e _ (planSection_bad hl hd hh long he),
      planSection_waits hl hd hh, fun long he hr => ?applied⟩
    · obtain ⟨t, ht, hk, hst, herr, hreg, -, -⟩ := planSection_rejected hh 0x05 _ (planSection_long hl hd hh long)
      exact ⟨t, ht, hk, hst, herr, hreg⟩
    case applied =>
      have done := planSection_applies hl hd hh long he hr
      have same := applySection_pln s (sectionOf ((availBytes s).take (sectionSpan (availBytes s))))
      refine ⟨done, fun hc hn => ⟨_, done, ?_⟩, fun k hk => ⟨_, done, ?_⟩⟩
      · rw [after_pln, ← same]
        exact sectionDone_last (by rwa [same]) (by rwa [same])
      · rw [after_pln]
        exact sectionDone_length (by rwa [same])

end Sys2Proof.Machine
end

section
/-! PROOF. Training of a direction, wire retirement and the error window (R363 to R368, R379 to R382, R392). -/

namespace Sys2Proof.Machine

/-! ## The arms of the training and retirement commands -/

theorem exec_retireReq (d noise s) : exec (.retireReq d noise) s = execRetireReq d s noise := rfl
theorem exec_retireDup (d noise s) : exec (.retireDup d noise) s = execRetireDup d s noise := rfl
theorem exec_retireDone (d noise s) : exec (.retireDone d noise) s = execRetireDone d s noise := rfl

/-! ## Directions after an update -/

theorem other_ne (d : Half) : other d ≠ d := by
  revert d
  decide

theorem dir_modDir (s : State) (d e : Half) (f : FbDir → FbDir) : dir (modDir s d f) e = if d = e then f (dir s e) else dir s e := by
  simp [dir, vget_vmod]

theorem dir_modDir_other (s : State) {d e : Half} (f : FbDir → FbDir) (h : d ≠ e) : dir (modDir s d f) e = dir s e := by
  rw [dir_modDir, if_neg h]

/-- The record of a fault leaves the Footbridge. -/
theorem recordFault_fb (s : State) (rec : W64) : (recordFault s rec).fb = s.fb := by
  unfold recordFault assertFreeze
  dsimp only
  split <;> rfl

theorem halfFault_fb (s : State) (h : Half) (code unit : Nat) (detail : W32) : (halfFault s h code unit detail).fb = s.fb := by
  unfold halfFault raise
  split
  · exact recordFault_fb _ _
  · rfl

theorem linkFault_fb (s : State) (d : Half) (q : BitVec 7) (g : BitVec 2) (k : Nat) :
    (linkFault s d q g k).fb = { s.fb with dirs := vmod s.fb.dirs d (fun x => { x with st := .fault }) } := halfFault_fb _ _ _ _ _

/-! ## LINK_RETRAIN (R364, R392) -/

theorem linkRetrain_cp {s : State} {port : RegPort} {m : W32} (hp : portReady s port = true) (hm : isMgmt port = false) :
    execLinkRetrain port m s = .next (after (busErr s port)) := by simp [execLinkRetrain, hp, hm, finish_eq_after]

/-- Both directions start their training, or go down where a clock is absent. -/
theorem dir_train_both (s : State) (e : Half) : (dir (train (train s 0) 1) e).st = (if bothClocks s then .training 0 else .down) ∧
    (dir (train (train s 0) 1) e).wire = [] := by
  have same : bothClocks (train s 0) = bothClocks s := rfl
  rw [train, dir_modDir, same, train, dir_modDir]
  fin_cases e <;> exact ⟨rfl, rfl⟩

theorem writeFbCtrl_fb (s : State) (m : W32) : (writeFbCtrl s m).fb.spareEn = m.getLsbD 1 ∧
    (writeFbCtrl s m).fb.replayLimit = (if m.extractLsb' 8 5 = 0 then s.fb.replayLimit else m.extractLsb' 8 5) ∧
    (m.getLsbD 0 = true → ∀ e, (dir (writeFbCtrl s m) e).st = (if bothClocks s then .training 0 else .down) ∧ (dir (writeFbCtrl s m) e).wire = []) ∧
    (m.getLsbD 0 = false → (writeFbCtrl s m).fb.dirs = s.fb.dirs) := by
  unfold writeFbCtrl
  dsimp only
  split
  next h => exact ⟨rfl, rfl, fun _ e => dir_train_both _ e, fun no => absurd h (by rw [no]; exact Bool.false_ne_true)⟩
  next h => exact ⟨rfl, rfl, fun yes => absurd yes h, fun _ => rfl⟩

theorem linkRetrain_writes {s : State} {port : RegPort} {m : W32} (hp : portReady s port = true) (hm : isMgmt port = true) :
    ∃ t, execLinkRetrain port m s = .next t ∧ kept s t ∧ t.fb.spareEn = m.getLsbD 1 ∧
      t.fb.replayLimit = (if m.extractLsb' 8 5 = 0 then s.fb.replayLimit else m.extractLsb' 8 5) ∧
      (m.getLsbD 0 = true → ∀ x, (dir t x).st = (if bothClocks s then .training 0 else .down) ∧ (dir t x).wire = []) ∧
      (m.getLsbD 0 = false → t.fb.dirs = s.fb.dirs) := by
  refine ⟨after (ack (writeFbCtrl s m) port), by simp [execLinkRetrain, hp, hm, finish_eq_after],
    kept_after ((ack_store _ _).trans (writeFbCtrl_store _ _)), ?_⟩
  simp only [after_fb, ack_fb, dir_after, dir_ack]
  exact writeFbCtrl_fb s m

/-! ## The phases of a training (R365 to R367) -/

section Training

variable {s : State} {d : Half} (hl : live s = true) (hc : bothClocks s = true)

theorem failTraining_fails {u : State} (h : store u = store s) : kept s (after (failTraining u d)) ∧
    (dir (after (failTraining u d)) d).st = .fault ∧ (after (failTraining u d)).fb.trainFailed = true := by
  refine ⟨kept_after ((failTraining_store u d).trans h), ?_, ?_⟩
  · rw [dir_after, failTraining, dir, linkFault_fb, vget_vmod_same]
  · rw [after_fb, failTraining, linkFault_fb]

include hl hc

theorem trainClockDone_locks (hs : (dir s d).st = .training 0) :
    execTrainClockDone d [] s = .next (after (modDir s d (fun x => { x with st := .training 1 }))) := by
  simp [execTrainClockDone, hl, hc, hs, finish_eq_after]

theorem trainClockDone_fails {u : List (Fin 4 × Fin 2)} (hs : (dir s d).st = .training 0) (hu : u ≠ []) :
    ∃ t, execTrainClockDone d u s = .next t ∧ kept s t ∧ (dir t d).st = .fault ∧ t.fb.trainFailed = true :=
  ⟨after (failTraining s d), by simp [execTrainClockDone, hl, hc, hs, hu, finish_eq_after], failTraining_fails rfl⟩

theorem trainDeskewDone_goesOn (hs : (dir s d).st = .training 1) :
    execTrainDeskewDone d s = .next (after (modDir s d (fun x => { x with st := .training 2 }))) := by
  simp [execTrainDeskewDone, hl, hc, hs, finish_eq_after]

theorem trainFrameDone_side {fails : FrameFails} (hs : (dir s d).st = .training 2) (hside : fails.side ≠ []) :
    ∃ t, execTrainFrameDone d fails s = .next t ∧ kept s t ∧ (dir t d).st = .fault ∧ t.fb.trainFailed = true :=
  ⟨after (failTraining s d), by simp [execTrainFrameDone, hl, hc, hs, hside, finish_eq_after], failTraining_fails rfl⟩

theorem trainFrameDone_good {fails : FrameFails} {u v : State} {ws : List (Fin 4 × Fin 144)} (hs : (dir s d).st = .training 2)
    (hside : fails.side = []) (hu : markSpares s d fails.spares = (u, ws)) (hv : placeWires u d (ws ++ fails.wires) = (v, true)) :
    execTrainFrameDone d fails s = .next (after (modDir v d (fun x => { x with st := .training 3 }))) := by
  simp [execTrainFrameDone, hl, hc, hs, hside, hu, hv, finish_eq_after]

theorem trainFrameDone_noSpare {fails : FrameFails} {u v : State} {ws : List (Fin 4 × Fin 144)} (hs : (dir s d).st = .training 2)
    (hside : fails.side = []) (hu : markSpares s d fails.spares = (u, ws)) (hv : placeWires u d (ws ++ fails.wires) = (v, false)) :
    ∃ t, execTrainFrameDone d fails s = .next t ∧ kept s t ∧ (dir t d).st = .fault ∧ t.fb.trainFailed = true := by
  have marked := markSpares_store s d fails.spares
  have placed := placeWires_store u d (ws ++ fails.wires)
  rw [hu] at marked
  rw [hv] at placed
  exact ⟨after (failTraining v d), by simp [execTrainFrameDone, hl, hc, hs, hside, hu, hv, finish_eq_after],
    failTraining_fails (placed.trans marked)⟩

theorem linkUp_enters (hs : (dir s d).st = .training 3) (hd : (dir s d).sawUp = true) (ho : (dir s (other d)).sawUp = true) :
    let u := startReplay (modDir s d (fun x => { x with st := .up })) d
    execLinkUp d s = .next (after (if (dir u 0).st = .up ∧ (dir u 1).st = .up then { u with fb := { u.fb with trained := true } } else u)) := by
  simp [execLinkUp, hl, hc, hs, hd, ho, finish_eq_after]

omit hl hc

theorem linkUp_waits (h : (dir s d).st ≠ .training 3 ∨ (dir s d).sawUp = false ∨ (dir s (other d)).sawUp = false) :
    execLinkUp d s = .next s := by
  rcases h with h | h | h <;> simp [execLinkUp, h, skip]

/-- With nothing to replay the direction is up. -/
theorem startReplay_up (hr : (dir s d).replay = []) : (dir (startReplay (modDir s d (fun x => { x with st := .up })) d) d).st = .up := by
  simp [startReplay, hr]

end Training

/-! ## Spares (R368, R379) -/

/-- A wire that no spare replaces takes the first free one that reaches it, or training fails. -/
theorem placeWires_one (s : State) (d : Half) {g : Fin 4} {w : Fin 144} (h : replaced (vget (dir s d).map g) w = false) :
    (∀ i, freeSpare (vget (dir s d).map g) w = some i → placeWires s d [(g, w)] = (recordSpare s d g i (wireByte w), true)) ∧
      (freeSpare (vget (dir s d).map g) w = none → (placeWires s d [(g, w)]).2 = false) :=
  ⟨fun i hi => by simp [placeWires, h, hi], fun hn => by simp [placeWires, h, hn]⟩

/-! ## Link flits (R380 to R382) -/

section Flits

variable {s : State} {l : Half} {ty : BitVec 4} {noise : BitVec 304} {f : State → Fin 4 → Fin 144 → Fin 8 → State} {g0 : Fin 4}
  {x : BitVec 288} {rest : List (Fin 4 × BitVec 288)} (ho : linkOpen s l = true) (hx : (dir s l).link = (g0, x) :: rest)
include ho hx

theorem takeLink_other (ht : linkType (flitPayload x) ≠ ty) : takeLink s l ty noise f = .next s := by
  simp [takeLink, ho, hx, ht, skip]

theorem takeLink_badCrc (ht : linkType (flitPayload x) = ty) (hcrc : flitCrcOk (arrives s l g0 x noise) = false) :
    takeLink s l ty noise f = .next (after (countCrc (linkPop s l) l)) := by
  simp [takeLink, ho, hx, ht, hcrc, finish_eq_after]

theorem takeLink_garbled (ht : linkType (flitPayload x) = ty) (hcrc : flitCrcOk (arrives s l g0 x noise) = true)
    (hg : flitLink (arrives s l g0 x noise) = false ∨ linkType (flitPayload (arrives s l g0 x noise)) ≠ ty) :
    takeLink s l ty noise f = .next (after (linkPop s l)) := by
  rcases hg with hg | hg <;> simp [takeLink, ho, hx, ht, hcrc, hg, finish_eq_after]

omit ho in
theorem linkPop_link : (dir (linkPop s l) l).link = rest := by simp [linkPop, hx]

end Flits

/-- A link flit of type ty with these fields is the oldest of direction l, and arrives as it was sent (R380). -/
structure FlitTaken (s : State) (l : Half) (ty : BitVec 4) (noise : BitVec 304) (g0 : Fin 4) (x : BitVec 288)
    (rest : List (Fin 4 × BitVec 288)) (g : Fin 4) (w : Fin 144) (i : Fin 8) : Prop where
  isOpen : linkOpen s l = true
  link : (dir s l).link = (g0, x) :: rest
  type : linkType (flitPayload x) = ty
  crc : flitCrcOk (arrives s l g0 x noise) = true
  isLink : flitLink (arrives s l g0 x noise) = true
  typeGot : linkType (flitPayload (arrives s l g0 x noise)) = ty
  args : linkArgs (flitPayload (arrives s l g0 x noise)) = (g, w, i)

section Taken

variable {s : State} {d : Half} {ty : BitVec 4} {noise : BitVec 304} {g0 g : Fin 4} {x : BitVec 288}
  {rest : List (Fin 4 × BitVec 288)} {w : Fin 144} {i : Fin 8}

theorem takeLink_taken {l : Half} {f : State → Fin 4 → Fin 144 → Fin 8 → State} (h : FlitTaken s l ty noise g0 x rest g w i) :
    takeLink s l ty noise f = .next (after (f (linkPop s l) g w i)) := by
  simp [takeLink, h.isOpen, h.link, h.type, h.crc, h.isLink, h.typeGot, h.args, finish_eq_after]

theorem linkPop_other {l e : Half} (h : l ≠ e) : dir (linkPop s l) e = dir s e := dir_modDir_other s _ h

/-- RETIRE_REQ: the transmitter drives the spare and answers on another group. -/
theorem retireReq_taken (h : FlitTaken s (other d) 1 noise g0 x rest g w i) :
    ∃ t, execRetireReq d s noise = .next t ∧ kept s t ∧ (dir t d).txDrive.contains (g, w, i) = true ∧
      (dir t d).link = (dir s d).link ++ [(g + 1, mkFlit linkTag (linkFlit 2 g w i))] ∧ (dir t (other d)).link = rest := by
  refine ⟨_, takeLink_taken h, kept_after ?_, ?_⟩
  · rw [sendLink_store, modDir_store, linkPop_store]
  · simp only [dir_after, sendLink, dir_modDir_same, dir_modDir_other _ _ (other_ne d).symm, linkPop_link h.link, linkPop_other (other_ne d)]
    refine ⟨?_, trivial, trivial⟩
    split
    · assumption
    · simp

/-- RETIRE_DUP: the receiver records the spare for the wire and answers. -/
theorem retireDup_taken (h : FlitTaken s d 2 noise g0 x rest g w i) :
    ∃ t, execRetireDup d s noise = .next t ∧ kept s t ∧
      vget (dir t d).map g = setSpare (vget (dir s d).map g) i (wireByte w) ∧ (dir t d).retiring.contains (g, w, i) = false ∧
      (dir t (other d)).link = (dir s (other d)).link ++ [(0, mkFlit linkTag (linkFlit 3 g w i))] ∧ (dir t d).link = rest := by
  refine ⟨_, takeLink_taken h, kept_after ?_, ?_⟩
  · rw [sendLink_store, modDir_store, recordSpare_store, linkPop_store]
  · have popped := linkPop_link h.link
    simp only [dir_after, sendLink, recordSpare, dir_modDir_same, dir_modDir_other _ _ (other_ne d), dir_modDir_other _ _ (other_ne d).symm,
      linkPop_other (other_ne d).symm, popped, vget_vmod_same]
    refine ⟨?_, ?_, trivial, trivial⟩
    · simp [linkPop]
    · simp

/-- RETIRE_DONE ends the double drive and sets RETIRED. -/
theorem retireDone_taken (h : FlitTaken s (other d) 3 noise g0 x rest g w i) :
    ∃ t, execRetireDone d s noise = .next t ∧ kept s t ∧ t.fb.retired = true ∧ (dir t d).txDrive.contains (g, w, i) = false ∧
      (dir t (other d)).link = rest := by
  refine ⟨_, takeLink_taken h, kept_after (linkPop_store s (other d)), ?_⟩
  have drive : ∀ (v : State) e, dir { v with fb := { v.fb with retired := true } } e = dir v e := fun _ _ => rfl
  simp only [after_fb, dir_after, drive, dir_modDir_same, dir_modDir_other _ _ (other_ne d).symm, linkPop_link h.link]
  exact ⟨trivial, by simp, trivial⟩

end Taken

theorem foldl_sendLink_link (s : State) (l : Half) (es : List (Fin 4 × Fin 144 × Fin 8)) :
    (dir (es.foldl (fun s e => sendLink s l 0 (linkFlit 1 e.1 e.2.1 e.2.2)) s) l).link =
      (dir s l).link ++ es.map (fun e => (0, mkFlit linkTag (linkFlit 1 e.1 e.2.1 e.2.2))) := by
  induction es generalizing s with
  | nil => simp
  | cons e es ih => rw [List.foldl_cons, ih]; simp [sendLink]

theorem retireReqRepeat_sends {s : State} {d : Half} (ho : linkOpen s (other d) = true) (hr : (dir s d).retiring ≠ []) :
    ∃ t, execRetireReqRepeat d s = .next t ∧ kept s t ∧ (dir t (other d)).link = (dir s (other d)).link ++
      (dir s d).retiring.map (fun e => (0, mkFlit linkTag (linkFlit 1 e.1 e.2.1 e.2.2))) := by
  refine ⟨after ((dir s d).retiring.foldl (fun s e => sendLink s (other d) 0 (linkFlit 1 e.1 e.2.1 e.2.2)) s),
    by simp [execRetireReqRepeat, ho, hr, finish_eq_after], kept_after (foldl_store _ _ _ fun _ _ => sendLink_store _ _ _ _), ?_⟩
  rw [dir_after, foldl_sendLink_link]

/-! ## The error window (R381) -/

theorem spareErrorWindow_early {s : State} (h : s.fb.winTicks < s.fb.winEff.toNat) : execSpareErrorWindow s = .next s := by
  simp [execSpareErrorWindow, h, skip]

/-- Both directions with their counts of wire errors cleared. -/
def errsCleared (s : State) : State := modDir (modDir s 0 (fun x => { x with errs := [] })) 1 (fun x => { x with errs := [] })

theorem errsCleared_errs (s : State) (e : Half) : (dir (errsCleared s) e).errs = [] := by
  rw [errsCleared, dir_modDir, dir_modDir]
  fin_cases e <;> rfl

theorem spareErrorWindow_ends {s : State} (hl : live s = true) (h : s.fb.winEff.toNat ≤ s.fb.winTicks) :
    ∃ t, execSpareErrorWindow s = .next t ∧ kept s t ∧ (∀ x, (dir t x).errs = []) ∧ t.fb.winTicks = 0 ∧ t.fb.winEff = s.fb.window ∧
      t.fb.threshEff = s.fb.thresh := by
  have due : ¬ s.fb.winTicks < s.fb.winEff.toNat := by omega
  refine ⟨after { errsCleared s with fb := { (errsCleared s).fb with winTicks := 0, winEff := s.fb.window, threshEff := s.fb.thresh } },
    ?_, kept_after rfl, fun x => ?_, ?_⟩
  · simp only [execSpareErrorWindow, hl, due, finish_eq_after, Bool.not_true, decide_false, Bool.or_false, Bool.false_eq_true, if_false]
    rfl
  · rw [dir_after]
    exact errsCleared_errs s x
  · rw [after_fb]
    exact ⟨rfl, rfl, rfl⟩

/-! ## The statement -/

/-- Settles O54: one lemma for each command and each of its ends. -/
theorem trainingAndWireRetirement : Obligations.TrainingAndWireRetirement := by
  unfold Obligations.TrainingAndWireRetirement
  intro s port m d fails noise
  refine ⟨linkRetrain_cp, linkRetrain_writes, fun hl hc => ⟨?clock, trainDeskewDone_goesOn hl hc, ?frame,
      fun g w => ⟨rfl, rfl, placeWires_one s d⟩, fun hs hd ho => ⟨linkUp_enters hl hc hs hd ho, startReplay_up⟩, linkUp_waits⟩,
    ?flits, ?taken, retireReqRepeat_sends, fun hl => ⟨spareErrorWindow_early, spareErrorWindow_ends hl⟩⟩
  case clock => exact fun hs => ⟨trainClockDone_locks hl hc hs, fun u hu => trainClockDone_fails hl hc hs hu⟩
  case frame =>
    refine fun hs => ⟨trainFrameDone_side hl hc hs, fun hside u ws v good hu hv => ⟨fun hg => ?_, fun hg => ?_⟩⟩
    · subst hg; exact trainFrameDone_good hl hc hs hside hu hv
    · subst hg; exact trainFrameDone_noSpare hl hc hs hside hu hv
  case flits =>
    simp only [List.forall_mem_cons, List.not_mem_nil, false_imp_iff, implies_true, and_true, exec_retireReq, exec_retireDup, exec_retireDone]
    refine ⟨?_, ?_, ?_⟩ <;>
      exact fun g0 x rest ho hx => ⟨takeLink_other ho hx, fun ht hcrc => ⟨takeLink_badCrc ho hx ht hcrc, linkPop_link hx⟩, takeLink_garbled ho hx⟩
  case taken =>
    refine fun g0 g w i rest x => ⟨fun h => ?_, fun h => ?_, fun h => ?_⟩ <;> obtain ⟨ho, hx, ht, hcrc, hlink, hgot, hargs⟩ := h
    · exact retireReq_taken ⟨ho, hx, ht, hcrc, hlink, hgot, hargs⟩
    · exact retireDup_taken ⟨ho, hx, ht, hcrc, hlink, hgot, hargs⟩
    · exact retireDone_taken ⟨ho, hx, ht, hcrc, hlink, hgot, hargs⟩

end Sys2Proof.Machine
end

section
/-! PROOF. The packet at the head of its class acts at the far half (R384 to R389). -/

namespace Sys2Proof.Machine

/-! ## The arms of the packet commands -/

theorem exec_fbPktRead (d s) : exec (.fbPktRead d) s = takePacket s d 0 (fun s p => takePiece s d p) := rfl
theorem exec_fbPktWrite (d s) : exec (.fbPktWrite d) s = takePacket s d 1 (fun s p => takePiece s d p) := rfl
theorem exec_fbPktAtomic (d s) : exec (.fbPktAtomic d) s = takePacket s d 2 packetPiece := rfl
theorem exec_fbPktReadData (d s) : exec (.fbPktReadData d) s = takePacket s d 3 packetBack := rfl
theorem exec_fbPktWriteAck (d s) : exec (.fbPktWriteAck d) s = takePacket s d 4 packetBack := rfl
theorem exec_fbPktAtomicData (d s) : exec (.fbPktAtomicData d) s = takePacket s d 5 packetBack := rfl
theorem exec_fbPktSignal (d s) : exec (.fbPktSignal d) s = takePacket s d 6 arriveSignal := rfl
theorem exec_fbPktSignalAck (d s) : exec (.fbPktSignalAck d) s = takePacket s d 7 ackSignal := rfl
theorem exec_fbPktRetire (d s) : exec (.fbPktRetire d) s = takePacket s d 8 takeCounts := rfl
theorem exec_fbPktControl (d s) : exec (.fbPktControl d) s = execFbPktControl d s := rfl
theorem exec_fbPktStep (d s) : exec (.fbPktStep d) s = takePacket s d 0xA (fun s p => markSteps s d p) := rfl
theorem exec_fbPktEvents (d s) : exec (.fbPktEvents d) s = execFbPktEvents d s := rfl

/-! ## Taking a packet -/

theorem kind_of_rxHead {s : State} {d : Half} {k : BitVec 4} {p : Packet} (h : rxHead s d k = some p) : p.kind = k := by
  unfold rxHead at h
  split at h
  · split at h
    next hk => cases h; exact hk
    · cases h
  · cases h

/-- A packet taken from its class leaves the buffer and frees its flits (R373, R384). -/
theorem rxPop_frees {s : State} {d : Half} {k : BitVec 4} {p : Packet} (h : rxHead s d k = some p) :
    (dir (rxPop s d p) d).rxq = vmod (dir s d).rxq (kindClass k) (List.drop 1) ∧
      vget (dir (rxPop s d p) d).freed (kindClass k) = vget (dir s d).freed (kindClass k) + BitVec.ofNat 8 (flitCount p) := by
  rw [← kind_of_rxHead h, rxPop, dir_modDir_same]
  exact ⟨rfl, vget_vmod_same _ _ _⟩

@[simp] theorem frozen_rxPop (s : State) (d h : Half) (p : Packet) : frozen (rxPop s d p) h = frozen s h := rfl
@[simp] theorem ep_rxPop (s : State) (d : Half) (p : Packet) (q : EPort) : ep (rxPop s d p) q = ep s q := rfl
@[simp] theorem rg_rxPop (s : State) (d : Half) (p : Packet) (r : Region) : rg (rxPop s d p) r = rg s r := rfl

section Taken

variable {s : State} {d : Half} {k : BitVec 4} {p : Packet}

theorem takePacket_none {f : State → Packet → State} (h : rxHead s d k = none) : takePacket s d k f = .next s := by
  simp [takePacket, h, skip]

variable (hc : clocked s (other d) = true)
include hc

theorem takePacket_head {f : State → Packet → State} (h : rxHead s d k = some p) :
    takePacket s d k f = .next (afterSync (f (rxPop s d p) p)) := by
  simp [takePacket, hc, h, finishSync_eq_afterSync]

/-- A piece enters its region; one whose beats lie in more than one block is a protocol fault (R375, R386). -/
theorem takePacket_piece (h : rxHead s d k = some p) :
    (onePiece (rxPop s d p) p = true → takePacket s d k (fun s p => takePiece s d p) = .next (afterSync (packetPiece (rxPop s d p) p))) ∧
      (onePiece (rxPop s d p) p = false → takePacket s d k (fun s p => takePiece s d p) =
        .next (afterSync (fbFault (rxPop s d p) d 0x12 (0#25 ++ fv (rxPop s d p) 1 7)))) :=
  ⟨fun one => by simp [takePacket_head hc h, takePiece, one], fun more => by simp [takePacket_head hc h, takePiece, more]⟩

theorem fbPktControl_acts {m : CtlMsg} (h : rxHead s d 9 = some p) (hm : p.ctl = some m) :
    execFbPktControl d s = .next (afterSync (if frozen s (other d) && !isWake m then rxPop s d p else ctlAct (rxPop s d p) m)) := by
  simp only [execFbPktControl, takePacket_head hc h, hm]
  rfl

theorem fbPktEvents_delivers (h : rxHead s d 0xB = some p) (hf : p.events.all (entryFits s (other d)) = true) :
    execFbPktEvents d s = .next (afterSync (p.events.foldl (fun s e => deliverEntry s (other d) p.first e) (rxPop s d p))) := by
  simp only [execFbPktEvents, h, hf, takePacket_head hc h, if_true]

omit hc

theorem fbPktEvents_waits (h : rxHead s d 0xB = some p) (hf : p.events.all (entryFits s (other d)) = false) :
    execFbPktEvents d s = .next s := by
  simp only [execFbPktEvents, h, hf, skip, Bool.false_eq_true, if_false]

theorem fbPktEvents_none (h : rxHead s d 0xB = none) : execFbPktEvents d s = .next s := by simp only [execFbPktEvents, h, skip]

end Taken

/-! ## Signals (R294, R310, R385) -/

section Signals

variable {s : State} {d : Half} {p : Packet} {port : EPort} {seq : Nat} {e : EReq} (hr : p.ref = some (.engine port seq))
  (hf : findReq (rxPop s d p) port seq = some e) (hs : e.stage ≠ .answered)
include hr hf hs

theorem arriveSignal_frozen (hz : frozen s 0 = true) :
    arriveSignal (rxPop s d p) p = answerSignal (rxPop s d p) port seq frozenC := by
  simp [arriveSignal, hr, hf, hs, hz]

theorem arriveSignal_held (hz : frozen s 0 = false) : (ep (arriveSignal (rxPop s d p) p) port).held =
    (ep s port).held ++ [⟨seq, p.op == 0xB, p.addr, p.word, p.scope, p.stamp, e.stampAll⟩] := by
  simp [arriveSignal, hr, hf, hs, hz]

end Signals

/-! ## STEP (R389) -/

/-- Marking the regions of a list that pass a test touches each of them once. -/
theorem rg_foldl_modEv (l : List Region) (hl : l.Nodup) (c : Region → Bool) (f : REvents → REvents) (s : State) (q : Region) :
    rg (l.foldl (fun s r => if c r then modEv s r f else s) s) q =
      if q ∈ l ∧ c q = true then { rg s q with ev := f (rg s q).ev } else rg s q := by
  induction l generalizing s with
  | nil => simp
  | cons r l ih =>
    obtain ⟨hr, hl⟩ := List.nodup_cons.mp hl
    have first : rg (if c r then modEv s r f else s) q = if r = q ∧ c r = true then { rg s q with ev := f (rg s q).ev } else rg s q := by
      by_cases hcr : c r = true <;> simp [hcr, rg, vget_vmod]
    rw [List.foldl_cons, ih hl, first]
    by_cases hq : r = q
    · subst hq
      simp [hr]
    · simp [hq, Ne.symm hq]

theorem markSteps_seen (s : State) (d : Half) (p : Packet) (r : Region) : (rg (markSteps s d p) r).ev.stepsSeen =
    if halfOf r = other d ∧ p.word.getLsbD r.val = true then (rg s r).ev.stepsSeen ++ [p.first] else (rg s r).ev.stepsSeen := by
  rw [markSteps, rg_foldl_modEv (idx 8) (List.nodup_finRange 8) (fun r => halfOf r == other d && p.word.getLsbD r.val)]
  have listed : r ∈ idx 8 := List.mem_finRange r
  simp only [listed, true_and, Bool.and_eq_true, beq_iff_eq]
  split <;> rfl

theorem fbPktStep_marks {s : State} {d : Half} {p : Packet} (hc : clocked s (other d) = true) (h : rxHead s d 0xA = some p) :
    ∃ t, takePacket s d 0xA (fun s p => markSteps s d p) = .next t ∧ kept s t ∧
      ∀ r, (rg t r).ev.stepsSeen = if halfOf r = other d ∧ p.word.getLsbD r.val = true then (rg s r).ev.stepsSeen ++ [p.first]
        else (rg s r).ev.stepsSeen := by
  refine ⟨_, takePacket_head hc h, kept_afterSync ?_, fun r => ?_⟩
  · rw [markSteps_store, rxPop_store]
  · rw [rg, (afterSync_pollKeeps _).regions, ← rg, markSteps_seen, rg_rxPop]

/-! ## The statement -/

/-- Settles O56: a packet is taken by takePacket, and its kind names what it does. -/
theorem packetKindsActAtTheFarHalf : Obligations.PacketKindsActAtTheFarHalf := by
  unfold Obligations.PacketKindsActAtTheFarHalf
  intro s d k p hc
  simp only [List.forall_mem_cons, List.not_mem_nil, false_imp_iff, implies_true, and_true, exec_fbPktRead, exec_fbPktWrite,
    exec_fbPktAtomic, exec_fbPktReadData, exec_fbPktWriteAck, exec_fbPktAtomicData, exec_fbPktSignal, exec_fbPktSignalAck,
    exec_fbPktRetire, exec_fbPktControl, exec_fbPktStep, exec_fbPktEvents]
  refine ⟨rxPop_frees, ⟨takePacket_piece hc, takePacket_piece hc⟩, takePacket_head hc,
    ⟨takePacket_head hc, takePacket_head hc, takePacket_head hc⟩,
    fun h => ⟨takePacket_head hc h, fun port seq e hr hf hs => ⟨arriveSignal_frozen hr hf hs, arriveSignal_held hr hf hs⟩⟩,
    fun h port seq hr => ?ack, takePacket_head hc, fun h m hm => fbPktControl_acts hc h hm, fbPktStep_marks hc,
    fun h => ⟨fbPktEvents_waits h, fbPktEvents_delivers hc h⟩, ?none⟩
  case ack => rw [takePacket_head hc h, ackSignal, hr]
  case none =>
    exact ⟨takePacket_none, takePacket_none, takePacket_none, takePacket_none, takePacket_none, takePacket_none, takePacket_none,
      takePacket_none, takePacket_none, takePacket_none, takePacket_none, fbPktEvents_none⟩

end Sys2Proof.Machine
end

section
/-! PROOF. What the answers of stop and freeze leave, and what they empty (R288, R310, R453). -/

namespace Sys2Proof.Machine

/-! ## An answer to an engine's request -/

/-- The signals the ports hold (R294). -/
def heldSignals (s : State) (q : EPort) : List Held := (ep s q).held

theorem heldSignals_modEp (s : State) (p : EPort) (f : PortSt → PortSt) (hf : ∀ x, (f x).held = x.held) :
    heldSignals (modEp s p f) = heldSignals s := by
  funext q
  rw [heldSignals, ep_modEp]
  split
  next h => rw [hf, ← h]; rfl
  · rfl

/-- What an answer to an engine leaves: it changes the port's requests, its mark at the Sluice, the tag log and the link alone. -/
def answerKeeps (s : State) :
    Vector RegionSt 8 × Freeze × Faults × Restart × Bandstand × Lodge × (RegPortSt × RegPortSt × RegPortSt) × (EPort → List Held) :=
  (s.regions, s.frz, s.flt, s.rs, s.bst, s.lod, (s.cp, s.mp, s.ghp), heldSignals s)

theorem answerKeeps_frz {s t : State} (h : answerKeeps t = answerKeeps s) : t.frz = s.frz := congrArg (fun k => k.2.1) h

theorem modEp_answerKeeps (s : State) (p : EPort) (f : PortSt → PortSt) (hf : ∀ x, (f x).held = x.held) :
    answerKeeps (modEp s p f) = answerKeeps s := by
  rw [answerKeeps, heldSignals_modEp s p f hf]
  rfl

theorem sendPkt_answerKeeps (s : State) (h : Half) (p : Packet) : answerKeeps (sendPkt s h p) = answerKeeps s := rfl

theorem modDir_answerKeeps (s : State) (h : Half) (f : FbDir → FbDir) : answerKeeps (modDir s h f) = answerKeeps s := rfl

theorem modReq_answerKeeps (s : State) (p : EPort) (n : Nat) (f : EReq → EReq) : answerKeeps (modReq s p n f) = answerKeeps s :=
  modEp_answerKeeps s p _ fun _ => rfl

theorem retireWrite_answerKeeps (s : State) (p : EPort) (n : Nat) : answerKeeps (retireWrite s p n) = answerKeeps s := by
  have counted := modEp_answerKeeps s p (fun x => { x with ret := retireOne x.ret n }) fun _ => rfl
  unfold retireWrite
  dsimp only
  split_ifs
  · exact (modEp_answerKeeps _ p (fun x => { x with seen := x.ret.retired }) fun _ => rfl).trans counted
  · exact counted
  · exact (modDir_answerKeeps _ _ _).trans counted
  · exact (sendPkt_answerKeeps _ _ _).trans counted

theorem closeReq_answerKeeps (s : State) (p : EPort) (e : EReq) : answerKeeps (closeReq s p e) = answerKeeps s := by
  unfold closeReq
  dsimp only
  split
  · rw [retireWrite_answerKeeps, modReq_answerKeeps]
  · exact modReq_answerKeeps s p _ _

theorem tagRequest_answerKeeps (s : State) (p : EPort) (e : EReq) (ended : Bool) :
    answerKeeps (tagRequest s p e ended) = answerKeeps s := by
  unfold tagRequest putTag
  dsimp only
  split_ifs <;> rfl

theorem tagError_answerKeeps (s : State) (p : EPort) (n : Nat) (code : BitVec 3) : answerKeeps (tagError s p n code) = answerKeeps s := by
  unfold tagError
  split
  · rfl
  · split
    · rfl
    · rw [modReq_answerKeeps, tagRequest_answerKeeps]

theorem unhold_answerKeeps (s : State) (p : EPort) (e : EReq) : answerKeeps (unhold s p e) = answerKeeps s := by
  unfold unhold
  split <;> rfl

theorem answerAll_answerKeeps (s : State) (p : EPort) (n : Nat) (code : BitVec 3) : answerKeeps (answerAll s p n code) = answerKeeps s := by
  unfold answerAll
  split
  · rfl
  · split
    · rfl
    · rw [closeReq_answerKeeps, tagError_answerKeeps, modReq_answerKeeps, unhold_answerKeeps]

theorem answerSignal_answerKeeps (s : State) (p : EPort) (n : Nat) (code : BitVec 3) :
    answerKeeps (answerSignal s p n code) = answerKeeps s := by
  unfold answerSignal
  split
  · exact answerAll_answerKeeps s p n code
  · exact sendPkt_answerKeeps s 0 _

theorem frozenHead_answerKeeps (s : State) (p : EPort) (n : Nat) : answerKeeps (frozenHead s p n) = answerKeeps s :=
  answerAll_answerKeeps _ p n frozenC

theorem frozenHeads_answerKeeps (s : State) (ok : EPort → Bool) : answerKeeps (frozenHeads s ok) = answerKeeps s :=
  foldl_keeps answerKeeps _ _ s fun u p => foldl_keeps answerKeeps _ _ u fun v e => frozenHead_answerKeeps v p e.seq

theorem freezeRequests_answerKeeps (s : State) : answerKeeps (freezeRequests s) = answerKeeps s :=
  foldl_keeps answerKeeps _ _ s fun u p => foldl_keeps answerKeeps _ _ u fun v e => frozenHead_answerKeeps v p e.seq

/-! ## The engines' watches (R291, R310) -/

/-- The watch stands for no engine. -/
def notEngines (x : Watch) : Prop := ∀ p q, x.owner ≠ .engine p q

/-- What freeing the watches leaves: everything an answer leaves but the Bandstand. -/
def watchKeeps (s : State) :
    Vector RegionSt 8 × Freeze × Faults × Restart × Lodge × (RegPortSt × RegPortSt × RegPortSt) × (EPort → List Held) :=
  (s.regions, s.frz, s.flt, s.rs, s.lod, (s.cp, s.mp, s.ghp), heldSignals s)

theorem watchKeeps_of_answerKeeps {s t : State} (h : answerKeeps t = answerKeeps s) : watchKeeps t = watchKeeps s := by
  simp only [answerKeeps, Prod.mk.injEq] at h
  obtain ⟨hr, hz, hf, hs, -, hl, hp, hh⟩ := h
  rw [watchKeeps, hr, hz, hf, hs, hl, hh, hp.1, hp.2.1, hp.2.2]
  rfl

/-- One watch freed: an engine's is answered FROZEN. -/
def freezeWatch (s : State) (w : Watch) : State :=
  match w.owner with
  | .engine p seq => answerSignal (dropWatch s w.w) p seq frozenC
  | .control _ => s
  | .rill _ => s

theorem freezeWatches_eq (s : State) : freezeWatches s = s.bst.watches.foldl freezeWatch s := rfl

theorem freezeWatch_watchKeeps (s : State) (w : Watch) : watchKeeps (freezeWatch s w) = watchKeeps s := by
  unfold freezeWatch
  split
  · exact (watchKeeps_of_answerKeeps (answerSignal_answerKeeps (dropWatch s w.w) _ _ _)).trans rfl
  · rfl
  · rfl

theorem freezeWatches_watchKeeps (s : State) : watchKeeps (freezeWatches s) = watchKeeps s := by
  rw [freezeWatches_eq]
  exact foldl_keeps watchKeeps freezeWatch _ s freezeWatch_watchKeeps

theorem watchKeeps_frz {s t : State} (h : watchKeeps t = watchKeeps s) : t.frz = s.frz := congrArg (fun k => k.2.1) h

theorem freezeWatches_frz (s : State) : (freezeWatches s).frz = s.frz := watchKeeps_frz (freezeWatches_watchKeeps s)

theorem freezeWatch_watches (s : State) (w : Watch) :
    (freezeWatch s w).bst.watches = s.bst.watches ∨ (freezeWatch s w).bst.watches = s.bst.watches.filter (fun x => x.w != w.w) := by
  unfold freezeWatch
  split
  · rw [answerSignal_bst]; exact .inr rfl
  · exact .inl rfl
  · exact .inl rfl

theorem freezeWatch_subset (s : State) (w : Watch) : (freezeWatch s w).bst.watches ⊆ s.bst.watches := by
  obtain h | h := freezeWatch_watches s w <;> rw [h]
  · exact List.Subset.refl _
  · exact List.filter_subset_self _

/-- A freed watch is gone if an engine owned it. -/
theorem freezeWatch_frees (s : State) (w : Watch) : ∀ x ∈ (freezeWatch s w).bst.watches, x = w → notEngines x := by
  rintro x hx rfl p q ho
  have gone : (freezeWatch s x).bst.watches = s.bst.watches.filter (fun y => y.w != x.w) := by
    simp only [freezeWatch, ho, answerSignal_bst]
    rfl
  rw [gone] at hx
  simp at hx

theorem foldl_freezeWatch_subset (l : List Watch) (s : State) : (l.foldl freezeWatch s).bst.watches ⊆ s.bst.watches := by
  induction l generalizing s with
  | nil => exact List.Subset.refl _
  | cons w l ih => exact List.Subset.trans (ih _) (freezeWatch_subset s w)

/-- Freeing the watches of a list one by one leaves no engine's watch of that list. -/
theorem foldl_freezeWatch_frees (l : List Watch) (s : State) : ∀ x ∈ (l.foldl freezeWatch s).bst.watches, x ∈ l → notEngines x := by
  induction l generalizing s with
  | nil => intro x _ hx; cases hx
  | cons w l ih =>
    intro x hx hl
    obtain rfl | hl := List.mem_cons.mp hl
    · exact freezeWatch_frees s x x (foldl_freezeWatch_subset l _ hx) rfl
    · exact ih _ x hx hl

theorem freezeWatches_frees (s : State) : ∀ x ∈ (freezeWatches s).bst.watches, notEngines x := fun x hx =>
  foldl_freezeWatch_frees _ s x hx (foldl_freezeWatch_subset _ s hx)

/-! ## The held signals (R294) -/

/-- The signals port p holds are answered FROZEN. -/
def freezeHeldAt (s : State) (p : EPort) : State :=
  (ep s p).held.foldl (fun s h => answerSignal s p h.seq frozenC) (modEp s p (fun x => { x with held := [] }))

theorem freezeHeldAt_answerKeeps (s : State) (p : EPort) :
    answerKeeps (freezeHeldAt s p) = answerKeeps (modEp s p (fun x => { x with held := [] })) :=
  foldl_keeps answerKeeps _ _ _ fun u h => answerSignal_answerKeeps u p h.seq frozenC

theorem heldSignals_freezeHeldAt (s : State) (p q : EPort) :
    heldSignals (freezeHeldAt s p) q = if p = q then [] else heldSignals s q := by
  have h : heldSignals (freezeHeldAt s p) = heldSignals (modEp s p (fun x => { x with held := [] })) :=
    congrArg (fun k => k.2.2.2.2.2.2.2) (freezeHeldAt_answerKeeps s p)
  rw [h, heldSignals, ep_modEp]
  split <;> rfl

/-- What freezing the held signals leaves. -/
def heldKeeps (s : State) : Vector RegionSt 8 × Freeze × Faults × Restart × Bandstand × Lodge × (RegPortSt × RegPortSt × RegPortSt) :=
  (s.regions, s.frz, s.flt, s.rs, s.bst, s.lod, (s.cp, s.mp, s.ghp))

theorem heldKeeps_of_answerKeeps {s t : State} (h : answerKeeps t = answerKeeps s) : heldKeeps t = heldKeeps s :=
  congrArg (fun k => (k.1, k.2.1, k.2.2.1, k.2.2.2.1, k.2.2.2.2.1, k.2.2.2.2.2.1, k.2.2.2.2.2.2.1)) h

theorem freezeHeld_heldKeeps (s : State) : heldKeeps (freezeHeld s) = heldKeeps s :=
  foldl_keeps heldKeeps freezeHeldAt _ s fun u p => (heldKeeps_of_answerKeeps (freezeHeldAt_answerKeeps u p)).trans rfl

theorem parts_of_heldKeeps {s t : State} (h : heldKeeps t = heldKeeps s) : t.frz = s.frz ∧ t.bst = s.bst := by
  simp only [heldKeeps, Prod.mk.injEq] at h
  obtain ⟨-, hz, -, -, hb, -⟩ := h
  exact ⟨hz, hb⟩

theorem freezeHeld_frz (s : State) : (freezeHeld s).frz = s.frz := (parts_of_heldKeeps (freezeHeld_heldKeeps s)).1

theorem freezeHeld_bst (s : State) : (freezeHeld s).bst = s.bst := (parts_of_heldKeeps (freezeHeld_heldKeeps s)).2

theorem heldSignals_foldl_freezeHeldAt (l : List EPort) (s : State) (q : EPort) (hq : q ∈ l ∨ heldSignals s q = []) :
    heldSignals (l.foldl freezeHeldAt s) q = [] := by
  induction l generalizing s with
  | nil => exact hq.resolve_left (by simp)
  | cons p l ih =>
    refine ih _ ?_
    rw [heldSignals_freezeHeldAt]
    obtain hq | hq := hq
    · obtain rfl | hq := List.mem_cons.mp hq
      · exact .inr (if_pos rfl)
      · exact .inl hq
    · right; split
      · rfl
      · exact hq

theorem heldSignals_freezeHeld (s : State) (q : EPort) : heldSignals (freezeHeld s) q = [] :=
  heldSignals_foldl_freezeHeldAt _ s q (.inl (List.mem_finRange q))

/-! ## The deposits in flight (R310) -/

/-- The sender of a deposit cut off is answered. -/
def cutDeposit (s : State) (d : Deposit) : State :=
  match d.sender with
  | .engine p seq => answerSignal s p seq frozenC
  | .port p => busErr s p
  | .gatehouse => s

/-- The deposits on their way to mailbox n are cut off. -/
def freezeDepositsAt (s : State) (n : Fin 64) : State :=
  (box s n).deps.foldl cutDeposit (modBox s n (fun x => { x with deps := [] }))

theorem freezeDeposits_eq (s : State) : freezeDeposits s = (idx 64).foldl freezeDepositsAt s := rfl

/-- What cutting a deposit off leaves; a register port that waited is answered. -/
def cutKeeps (s : State) : Vector RegionSt 8 × Freeze × Faults × Restart × Bandstand × Lodge × (EPort → List Held) :=
  (s.regions, s.frz, s.flt, s.rs, s.bst, s.lod, heldSignals s)

theorem cutDeposit_cutKeeps (s : State) (d : Deposit) : cutKeeps (cutDeposit s d) = cutKeeps s := by
  unfold cutDeposit
  split
  next p n _ =>
    exact congrArg (fun k => (k.1, k.2.1, k.2.2.1, k.2.2.2.1, k.2.2.2.2.1, k.2.2.2.2.2.1, k.2.2.2.2.2.2.2))
      (answerSignal_answerKeeps s p n frozenC)
  next p _ => cases p <;> rfl
  · rfl

theorem freezeDepositsAt_cutKeeps (s : State) (n : Fin 64) :
    cutKeeps (freezeDepositsAt s n) = cutKeeps (modBox s n (fun x => { x with deps := [] })) :=
  foldl_keeps cutKeeps cutDeposit _ _ cutDeposit_cutKeeps

/-- What cutting all deposits off leaves. -/
def depositKeeps (s : State) : Vector RegionSt 8 × Freeze × Faults × Restart × Bandstand × (EPort → List Held) :=
  (s.regions, s.frz, s.flt, s.rs, s.bst, heldSignals s)

theorem freezeDeposits_depositKeeps (s : State) : depositKeeps (freezeDeposits s) = depositKeeps s :=
  foldl_keeps depositKeeps freezeDepositsAt _ s fun u n =>
    congrArg (fun k => (k.1, k.2.1, k.2.2.1, k.2.2.2.1, k.2.2.2.2.1, k.2.2.2.2.2.2)) (freezeDepositsAt_cutKeeps u n)

theorem freezeDeposits_keeps (s : State) : (freezeDeposits s).regions = s.regions ∧ (freezeDeposits s).frz = s.frz ∧
    (freezeDeposits s).flt = s.flt ∧ (freezeDeposits s).rs = s.rs ∧ (freezeDeposits s).bst = s.bst ∧
    heldSignals (freezeDeposits s) = heldSignals s := by
  simpa only [depositKeeps, Prod.mk.injEq] using freezeDeposits_depositKeeps s

theorem freezeDeposits_frz (s : State) : (freezeDeposits s).frz = s.frz := (freezeDeposits_keeps s).2.1

theorem freezeDeposits_bst (s : State) : (freezeDeposits s).bst = s.bst := (freezeDeposits_keeps s).2.2.2.2.1

theorem heldSignals_freezeDeposits (s : State) : heldSignals (freezeDeposits s) = heldSignals s := (freezeDeposits_keeps s).2.2.2.2.2

theorem box_freezeDepositsAt (s : State) (n m : Fin 64) :
    box (freezeDepositsAt s n) m = if n = m then { box s m with deps := [] } else box s m := by
  have h : (freezeDepositsAt s n).lod = (modBox s n (fun x => { x with deps := [] })).lod :=
    congrArg (fun k => k.2.2.2.2.2.1) (freezeDepositsAt_cutKeeps s n)
  rw [box, h, modBox_lod]
  exact vget_vmod _ _ _ _

theorem box_foldl_freezeDepositsAt (l : List (Fin 64)) (s : State) (m : Fin 64) :
    (box (l.foldl freezeDepositsAt s) m).word = (box s m).word ∧
      (m ∈ l ∨ (box s m).deps = [] → (box (l.foldl freezeDepositsAt s) m).deps = []) := by
  induction l generalizing s with
  | nil => exact ⟨rfl, fun h => h.resolve_left (by simp)⟩
  | cons n l ih =>
    obtain ⟨word, deps⟩ := ih (freezeDepositsAt s n)
    rw [box_freezeDepositsAt] at word deps
    refine ⟨word.trans (by split <;> rfl), fun h => deps ?_⟩
    obtain h | h := h
    · obtain rfl | h := List.mem_cons.mp h
      · exact .inr (by rw [if_pos rfl])
      · exact .inl h
    · right; split
      · rfl
      · exact h

/-- No deposit is on its way after the freeze, and every mailbox keeps its word. -/
theorem box_freezeDeposits (s : State) (m : Fin 64) :
    (box (freezeDeposits s) m).word = (box s m).word ∧ (box (freezeDeposits s) m).deps = [] := by
  rw [freezeDeposits_eq]
  obtain ⟨word, deps⟩ := box_foldl_freezeDepositsAt (idx 64) s m
  exact ⟨word, deps (.inl (List.mem_finRange m))⟩

/-- No register port waits. -/
def noneHeld (s : State) : Prop := ∀ p, (rport s p).held = none

theorem cutDeposit_noneHeld {s : State} (d : Deposit) (h : noneHeld s) : noneHeld (cutDeposit s d) := by
  unfold cutDeposit
  split
  next p n _ =>
    have ports : ((answerSignal s p n frozenC).cp, (answerSignal s p n frozenC).mp, (answerSignal s p n frozenC).ghp) = (s.cp, s.mp, s.ghp) :=
      congrArg (fun k => k.2.2.2.2.2.2.1) (answerSignal_answerKeeps s p n frozenC)
    simp only [Prod.mk.injEq] at ports
    intro q
    rw [← h q]
    cases q
    · exact congrArg _ ports.1
    · exact congrArg _ ports.2.1
    · exact congrArg _ ports.2.2
  next p _ =>
    intro q
    by_cases hq : p = q
    · subst hq; rw [busErr, rport_modRport_same]; rfl
    · rw [busErr, rport_modRport_other _ _ hq]; exact h q
  · exact h

theorem freezeDeposits_noneHeld {s : State} (h : noneHeld s) : noneHeld (freezeDeposits s) := by
  have cut : ∀ (l : List Deposit) (u : State), noneHeld u → noneHeld (l.foldl cutDeposit u) := fun l u hu =>
    List.foldlRecOn l cutDeposit hu fun v hv d _ => cutDeposit_noneHeld d hv
  rw [freezeDeposits_eq]
  exact List.foldlRecOn _ _ h fun u hu n _ => cut _ _ fun q => by rw [← hu q]; cases q <;> rfl

end Sys2Proof.Machine
end

section
/-! PROOF. What a waiting register access leaves when it is tried again (R24, R69, R453). -/

namespace Sys2Proof.Machine

/-- What the retry of a register access leaves: the engine ports, the mailboxes, the Bandstand, the data space and, while freeze is
asserted, which halves it has reached. -/
structure RetryKeeps (s t : State) : Prop where
  ports : t.ports = s.ports
  lod : t.lod = s.lod
  bst : t.bst = s.bst
  mem : t.mem = s.mem
  asserted : s.frz.asserted = true → t.frz.asserted = true
  reached : s.frz.asserted = true → t.frz.reached = s.frz.reached

theorem RetryKeeps.refl (s : State) : RetryKeeps s s := ⟨rfl, rfl, rfl, rfl, id, fun _ => rfl⟩

theorem RetryKeeps.trans {s t u : State} (g : RetryKeeps s t) (h : RetryKeeps t u) : RetryKeeps s u where
  ports := h.ports.trans g.ports
  lod := h.lod.trans g.lod
  bst := h.bst.trans g.bst
  mem := h.mem.trans g.mem
  asserted := fun ha => h.asserted (g.asserted ha)
  reached := fun ha => (h.reached (g.asserted ha)).trans (g.reached ha)

theorem RetryKeeps.foldl {α : Type} (f : State → α → State) (l : List α) (s : State) (h : ∀ s a, RetryKeeps s (f s a)) :
    RetryKeeps s (l.foldl f s) :=
  List.foldlRecOn l f (RetryKeeps.refl s) fun u hu a _ => hu.trans (h u a)

theorem RetryKeeps.frozen {s t : State} (g : RetryKeeps s t) {h : Half} (hf : frozen s h = true) : frozen t h = true := by
  simp only [Machine.frozen, Bool.and_eq_true] at hf ⊢
  obtain ⟨ha, hr⟩ := hf
  exact ⟨g.asserted ha, by rw [g.reached ha, hr]⟩

theorem RetryKeeps.of_eq {s t : State} (h : (t.ports, t.lod, t.bst, t.mem, t.frz.asserted, t.frz.reached) =
    (s.ports, s.lod, s.bst, s.mem, s.frz.asserted, s.frz.reached)) : RetryKeeps s t := by
  simp only [Prod.mk.injEq] at h
  obtain ⟨hp, hl, hb, hm, ha, hr⟩ := h
  exact ⟨hp, hl, hb, hm, fun h => ha.trans h, fun _ => hr⟩

theorem RetryKeeps.ite {s t u : State} (c : Prop) [Decidable c] (ht : RetryKeeps s t) (hu : RetryKeeps s u) :
    RetryKeeps s (if c then t else u) := by
  split
  · exact ht
  · exact hu

theorem modRg_retryKeeps (s : State) (r : Region) (f : RegionSt → RegionSt) : RetryKeeps s (modRg s r f) := .of_eq rfl

theorem modRport_retryKeeps (s : State) (p : RegPort) (f : RegPortSt → RegPortSt) : RetryKeeps s (modRport s p f) := by
  cases p <;> exact .of_eq rfl

theorem busErr_retryKeeps (s : State) (p : RegPort) : RetryKeeps s (busErr s p) := modRport_retryKeeps s p _
theorem reply_retryKeeps (s : State) (p : RegPort) (d : W64) : RetryKeeps s (reply s p d) := modRport_retryKeeps s p _
theorem ack_retryKeeps (s : State) (p : RegPort) : RetryKeeps s (ack s p) := reply_retryKeeps s p 0
theorem holdAcc_retryKeeps (s : State) (p : RegPort) (a : HeldAcc) : RetryKeeps s (holdAcc s p a) := modRport_retryKeeps s p _

theorem recordFault_retryKeeps (s : State) (rec : W64) : RetryKeeps s (recordFault s rec) := by
  unfold recordFault assertFreeze
  dsimp only
  split
  · exact .of_eq rfl
  next h => exact ⟨rfl, rfl, rfl, rfl, fun _ => rfl, fun ha => absurd ha h⟩

theorem raise_retryKeeps (s : State) (h : Half) (rec : W64) : RetryKeeps s (raise s h rec) := by
  unfold raise
  split
  · exact recordFault_retryKeeps s rec
  · exact .of_eq rfl

theorem grantWake_retryKeeps {s t : State} {r : Region} {n : Nat} (h : grantWake s r n = some t) : RetryKeeps s t := by
  unfold grantWake at h
  dsimp only at h
  split at h
  · split at h
    · cases h; exact .of_eq rfl
    · cases h
  · cases h

theorem countM_retryKeeps (s : State) (e a n : Nat) : RetryKeeps s (countM s e a n) := by
  unfold countM wrapFlag
  dsimp only
  split <;> exact .of_eq rfl

theorem grantBetween_retryKeeps {s t : State} {r : Region} (h : grantBetween s r = some t) : RetryKeeps s t := by
  unfold grantBetween at h
  dsimp only at h
  split at h
  · cases h
  next u hg =>
    split at h
    · rw [← Option.some.inj h]
      refine RetryKeeps.trans ?_ (countM_retryKeeps _ _ _ _)
      exact (grantWake_retryKeeps hg).trans (.of_eq rfl)
    · cases h

/-- The wait of a region for its step down ends. -/
def endDownWait (s : State) (r : Region) : State :=
  if (rg s r).power.downWait then modPw s r (fun p => { p with downWait := false, ticks := 0 }) else s

theorem endDownWait_retryKeeps (s : State) (r : Region) : RetryKeeps s (endDownWait s r) := by
  unfold endDownWait
  split
  · exact modRg_retryKeeps s r _
  · exact .of_eq rfl

theorem wakeReq_retryKeeps (s : State) (r : Region) : RetryKeeps s (wakeReq s r) := by
  have waits := endDownWait_retryKeeps s r
  unfold wakeReq
  dsimp only
  rw [← endDownWait]
  generalize endDownWait s r = u at waits
  have pending : RetryKeeps s (modPw u r (fun p => { p with pend := true })) := waits.trans (modRg_retryKeeps u r _)
  split
  · exact waits.trans (modRg_retryKeeps u r _)
  · split
    · exact waits
    · split
      · split
        next hg => exact pending.trans (grantBetween_retryKeeps hg)
        · exact pending
      · exact pending

theorem waitWake_retryKeeps (s : State) (p : RegPort) (r : Region) (a : HeldAcc) : RetryKeeps s (waitWake s p r a) :=
  (holdAcc_retryKeeps s p a).trans (wakeReq_retryKeeps _ r)

/-! ## The accesses that wait (R24) -/

theorem trRead_retryKeeps (s : State) (p : RegPort) (r : Region) (bad : Bool) : RetryKeeps s (trRead s p r bad) :=
  have woken := wakeReq_retryKeeps s r
  .ite _ (busErr_retryKeeps s p) <| .ite _ (waitWake_retryKeeps s p r _) <|
    .ite _ ((woken.trans (raise_retryKeeps _ _ _)).trans (busErr_retryKeeps _ p)) <|
      (woken.trans (modRg_retryKeeps _ r _)).trans (reply_retryKeeps _ p _)

theorem trWrite_retryKeeps (s : State) (p : RegPort) (r : Region) (d : W64) : RetryKeeps s (trWrite s p r d) :=
  .ite _ (busErr_retryKeeps s p) <| .ite _ (waitWake_retryKeeps s p r _) <|
    (((wakeReq_retryKeeps s r).trans (modRg_retryKeeps _ r _)).trans (modRg_retryKeeps _ r _)).trans (ack_retryKeeps _ p)

theorem trDelay_retryKeeps (s : State) (p : RegPort) (r : Region) (d : W32) : RetryKeeps s (trDelay s p r d) :=
  .ite _ (busErr_retryKeeps s p) <| .ite _ (waitWake_retryKeeps s p r _) <|
    (((wakeReq_retryKeeps s r).trans (modRg_retryKeeps _ r _)).trans (modRg_retryKeeps _ r _)).trans (ack_retryKeeps _ p)

theorem basinPut_retryKeeps (s : State) (r : Region) (b : Blk) (j : Nat) (bs : List Byte) : RetryKeeps s (basinPut s r b j bs) := by
  unfold basinPut
  split <;> exact .of_eq rfl

theorem basinZero_retryKeeps (s : State) (r : Region) (b : Blk) (j n : Nat) : RetryKeeps s (basinZero s r b j n) := by
  unfold basinZero
  split <;> exact .of_eq rfl

theorem basinClearSegs_retryKeeps (s : State) (r : Region) (segs : BitVec 16) : RetryKeeps s (basinClearSegs s r segs) := by
  refine RetryKeeps.foldl _ _ s fun u b => ?_
  split
  · refine RetryKeeps.foldl _ _ u fun v n => ?_
    split
    · exact basinZero_retryKeeps v r b _ _
    · exact RetryKeeps.refl v
  · exact RetryKeeps.refl u

theorem basinClr_retryKeeps (s : State) (p : RegPort) (r : Region) (d : W32) : RetryKeeps s (basinClr s p r d) :=
  .ite _ (busErr_retryKeeps s p) <| .ite _ (waitWake_retryKeeps s p r _) <| .ite _ (holdAcc_retryKeeps s p _) <|
    ((wakeReq_retryKeeps s r).trans (basinClearSegs_retryKeeps _ r _)).trans (ack_retryKeeps _ p)

theorem basinWr_retryKeeps (s : State) (p : RegPort) (r : Region) (d : W64) : RetryKeeps s (basinWr s p r d) :=
  .ite _ (busErr_retryKeeps s p) <| .ite _ (waitWake_retryKeeps s p r _) <| .ite _ (holdAcc_retryKeeps s p _) <|
    (((wakeReq_retryKeeps s r).trans (basinPut_retryKeeps _ r _ _ _)).trans (modRg_retryKeeps _ r _)).trans (ack_retryKeeps _ p)

theorem basinRd_retryKeeps (s : State) (p : RegPort) (r : Region) (bad : Bool) : RetryKeeps s (basinRd s p r bad) :=
  have woken := wakeReq_retryKeeps s r
  .ite _ (busErr_retryKeeps s p) <| .ite _ (waitWake_retryKeeps s p r _) <| .ite _ (holdAcc_retryKeeps s p _) <|
    .ite _ ((woken.trans (raise_retryKeeps _ _ _)).trans (busErr_retryKeeps _ p)) <|
      (woken.trans (modRg_retryKeeps _ r _)).trans (reply_retryKeeps _ p _)

theorem basinClrRd_retryKeeps (s : State) (p : RegPort) (r : Region) : RetryKeeps s (basinClrRd s p r) :=
  .ite _ (busErr_retryKeeps s p) <| .ite _ (waitWake_retryKeeps s p r _) <| .ite _ (holdAcc_retryKeeps s p _) <|
    (wakeReq_retryKeeps s r).trans (reply_retryKeeps _ p 0)

theorem sweepRdAcc_retryKeeps (s : State) (p : RegPort) (r : Region) (bad : Bool) : RetryKeeps s (sweepRdAcc s p r bad) :=
  have woken := wakeReq_retryKeeps s r
  .ite _ (busErr_retryKeeps s p) <| .ite _ (waitWake_retryKeeps s p r _) <|
    .ite _ ((woken.trans (raise_retryKeeps _ _ _)).trans (busErr_retryKeeps _ p)) <|
      (woken.trans (modRg_retryKeeps _ r _)).trans (reply_retryKeeps _ p _)

theorem retryAcc_retryKeeps (s : State) (r : Region) (p : RegPort) : RetryKeeps s (retryAcc s r p) := by
  unfold retryAcc
  split
  · exact .ite _ (trRead_retryKeeps s p r _) (.refl s)
  · exact .ite _ (trWrite_retryKeeps s p r _) (.refl s)
  · exact .ite _ (trDelay_retryKeeps s p r _) (.refl s)
  · exact .ite _ (basinClr_retryKeeps s p r _) (.refl s)
  · exact .ite _ (basinWr_retryKeeps s p r _) (.refl s)
  · exact .ite _ (basinRd_retryKeeps s p r _) (.refl s)
  · exact .ite _ (basinClrRd_retryKeeps s p r) (.refl s)
  · exact .ite _ (sweepRdAcc_retryKeeps s p r _) (.refl s)
  all_goals exact RetryKeeps.refl s

theorem retryRegion_retryKeeps (s : State) (r : Region) : RetryKeeps s (retryRegion s r) :=
  ((retryAcc_retryKeeps s r .cp).trans (retryAcc_retryKeeps _ r .mp)).trans (retryAcc_retryKeeps _ r .gh)

/-- Where no access waits there is nothing to try again. -/
theorem retryRegion_noneHeld {s : State} (h : noneHeld s) (r : Region) : retryRegion s r = s := by
  have idle : ∀ p, retryAcc s r p = s := fun p => by rw [retryAcc, h p]
  rw [retryRegion, idle, idle, idle]

end Sys2Proof.Machine
end
section
/-! PROOF. Freeze reaches a half (R310, R453). -/

namespace Sys2Proof.Machine

/-- What freeze cuts off in the West half at once: the engines' watches, the held signals and the deposits in flight. -/
def cutWest (s : State) : State := freezeDeposits (freezeHeld (freezeWatches s))

/-- Freeze is known to the half. -/
def markReached (s : State) (h : Half) : State := { s with frz := { s.frz with reached := vset s.frz.reached h true } }

theorem cutWest_frz (s : State) : (cutWest s).frz = s.frz := by
  rw [cutWest, freezeDeposits_frz, freezeHeld_frz, freezeWatches_frz]

/-- Nothing is held, on its way to a mailbox, or watched for an engine. -/
structure WestCut (t : State) : Prop where
  held : ∀ p, heldSignals t p = []
  deps : ∀ n, (box t n).deps = []
  watches : ∀ x ∈ t.bst.watches, notEngines x

theorem cutWest_westCut (s : State) : WestCut (cutWest s) where
  held := fun p => by rw [cutWest, heldSignals_freezeDeposits, heldSignals_freezeHeld]
  deps := fun n => (box_freezeDeposits _ n).2
  watches := by
    rw [cutWest, freezeDeposits_bst, freezeHeld_bst]
    exact freezeWatches_frees s

theorem WestCut.of_answerKeeps {s t : State} (c : WestCut s) (h : answerKeeps t = answerKeeps s) : WestCut t := by
  simp only [answerKeeps, Prod.mk.injEq] at h
  obtain ⟨-, -, -, -, hb, hl, -, hh⟩ := h
  exact ⟨fun p => by rw [hh, c.held], fun n => by rw [box, hl]; exact c.deps n, by rw [hb]; exact c.watches⟩

theorem WestCut.of_retryKeeps {s t : State} (c : WestCut s) (h : RetryKeeps s t) : WestCut t :=
  ⟨fun p => by rw [heldSignals, ep, h.ports]; exact c.held p, fun n => by rw [box, h.lod]; exact c.deps n,
    by rw [h.bst]; exact c.watches⟩

theorem cutWest_store (s : State) : store (cutWest s) = store s := by
  rw [cutWest, freezeDeposits_store, freezeHeld_store, freezeWatches_store]

/-- What freeze cuts off in the half, before the requests are answered. -/
def cutHalf (s : State) (h : Half) : State := if h = 0 then cutWest (markReached s h) else markReached s h

theorem cutHalf_keeps (s : State) (h : Half) : store (cutHalf s h) = store s ∧ (cutHalf s h).frz = (markReached s h).frz := by
  unfold cutHalf
  split
  · exact ⟨cutWest_store _, cutWest_frz _⟩
  · exact ⟨rfl, rfl⟩

/-- Freeze reached a half: the half is frozen; in the West half what R310 and R453 cut off is gone. -/
theorem reachHalf_freezes {s : State} {h : Half} (ha : s.frz.asserted = true) :
    (reachHalf s h).mem = s.mem ∧ frozen (reachHalf s h) h = true ∧ (h = 0 → WestCut (reachHalf s h)) := by
  obtain ⟨hs, hz⟩ := cutHalf_keeps s h
  have answered := freezeRequests_answerKeeps (cutHalf s h)
  have retried : RetryKeeps (freezeRequests (cutHalf s h)) (reachHalf s h) := RetryKeeps.foldl retryRegion _ _ retryRegion_retryKeeps
  refine ⟨?_, retried.frozen ?_, fun hw => WestCut.of_retryKeeps ?_ retried⟩
  · exact retried.mem.trans (kept_of_store ((freezeRequests_store (cutHalf s h)).trans hs)).1
  · have frz := (answerKeeps_frz answered).trans hz
    simp [frozen, frz, markReached, ha]
  · refine WestCut.of_answerKeeps ?_ answered
    rw [cutHalf, if_pos hw]
    exact cutWest_westCut _

end Sys2Proof.Machine
end

section
/-! PROOF. A fence takes effect in its blocks (R463, R464). -/

namespace Sys2Proof.Machine

theorem answerKeeps_regions {s t : State} (h : answerKeeps t = answerKeeps s) : t.regions = s.regions := congrArg (fun k => k.1) h

/-- What the end of a beat and the tag of an event leave: freeze, every fence word and every block. -/
def fenceKeeps (s : State) : Freeze × (Region → W32) × (Region → Vector Block 32) :=
  (s.frz, fun q => (rg s q).fence, fun q => (rg s q).blocks)

theorem fenceKeeps_of_regions {s t : State} (hr : t.regions = s.regions) (hz : t.frz = s.frz) : fenceKeeps t = fenceKeeps s := by
  simp only [fenceKeeps, rg, hr, hz]

theorem parts_of_fenceKeeps {s t : State} (h : fenceKeeps t = fenceKeeps s) :
    t.frz = s.frz ∧ (∀ q, (rg t q).fence = (rg s q).fence) ∧ ∀ q b, blk t q b = blk s q b := by
  simp only [fenceKeeps, Prod.mk.injEq] at h
  obtain ⟨hz, hf, hb⟩ := h
  exact ⟨hz, congrFun hf, fun q b => congrArg (vget · b) (congrFun hb q)⟩

theorem modRg_fenceKeeps (s : State) (r : Region) (f : RegionSt → RegionSt) (hf : ∀ g, (f g).fence = g.fence ∧ (f g).blocks = g.blocks) :
    fenceKeeps (modRg s r f) = fenceKeeps s := by
  have same : ∀ q, (rg (modRg s r f) q).fence = (rg s q).fence ∧ (rg (modRg s r f) q).blocks = (rg s q).blocks := fun q => by
    rw [rg_modRg]
    split
    · exact hf _
    · exact ⟨rfl, rfl⟩
  exact Prod.ext rfl (Prod.ext (funext fun q => (same q).1) (funext fun q => (same q).2))

theorem fenceKeeps_of_answerKeeps {s t : State} (h : answerKeeps t = answerKeeps s) : fenceKeeps t = fenceKeeps s :=
  fenceKeeps_of_regions (answerKeeps_regions h) (answerKeeps_frz h)

theorem setRes_fenceKeeps (s : State) (p : EPort) (n first : Nat) (rs : List BeatRes) : fenceKeeps (setRes s p n first rs) = fenceKeeps s := by
  unfold setRes
  dsimp only
  split
  · rfl
  split
  · rfl
  split
  · exact fenceKeeps_of_answerKeeps ((closeReq_answerKeeps _ _ _).trans (modReq_answerKeeps _ _ _ _))
  · exact fenceKeeps_of_answerKeeps (modReq_answerKeeps _ _ _ _)

theorem pieceBack_fenceKeeps (s : State) (src : BSrc) (op : CellOp) (first : Nat) (rs : List BeatRes) :
    fenceKeeps (pieceBack s src op first rs) = fenceKeeps s := by
  unfold pieceBack
  dsimp only
  split
  · exact setRes_fenceKeeps s _ _ _ _
  · split
    · rfl
    · refine foldl_keeps fenceKeeps _ _ s fun u m => ?_
      split
      · exact setRes_fenceKeeps u _ _ _ _
      · rfl
  · split
    · rfl
    · split <;> rfl
  · split <;> rfl
  · split <;> rfl

theorem pieceDone_fenceKeeps (s : State) (r : Region) (p : RPiece) : fenceKeeps (pieceDone s r p) = fenceKeeps s := by
  have left := modRg_fenceKeeps s r (fun g => { g with inq := g.inq.filter (fun x => x.uid != p.uid) }) fun _ => ⟨rfl, rfl⟩
  unfold pieceDone
  dsimp only
  split
  · exact (pieceBack_fenceKeeps _ _ _ _ _).trans left
  · exact left

theorem beatDone_fenceKeeps (s : State) (r : Region) (uid i : Nat) (performed : Bool) (x : BeatRes) :
    fenceKeeps (beatDone s r uid i performed x) = fenceKeeps s := by
  have noted := modRg_fenceKeeps s r (fun g => { g with inq := g.inq.map (fun p =>
    if p.uid = uid then { p with granted := p.granted || performed, res := p.res.mapIdx (fun j o => if j = i then some x else o) } else p) })
    fun _ => ⟨rfl, rfl⟩
  unfold beatDone
  dsimp only
  split
  · exact noted
  split
  · exact (pieceDone_fenceKeeps _ _ _).trans noted
  · exact noted

theorem putTag_fenceKeeps (s : State) (e : BitVec 128) : fenceKeeps (putTag s e) = fenceKeeps s := by
  unfold putTag
  split <;> rfl

theorem settleTag_fenceKeeps (s : State) (r : Region) (tag : Option Nat) : fenceKeeps (settleTag s r tag) = fenceKeeps s := by
  unfold settleTag
  dsimp only
  split
  · rfl
  split
  · rfl
  split
  · rfl
  · exact (putTag_fenceKeeps _ _).trans rfl

theorem wrapFlag_fenceKeeps (s : State) (w : Bool) : fenceKeeps (wrapFlag s w) = fenceKeeps s := by
  unfold wrapFlag
  split <;> rfl

theorem countR_fenceKeeps (s : State) (r : Region) (e a n : Nat) : fenceKeeps (countR s r e a n) = fenceKeeps s := by
  unfold countR
  dsimp only
  split
  · exact (wrapFlag_fenceKeeps _ _).trans (modRg_fenceKeeps s r _ fun _ => ⟨rfl, rfl⟩)
  · rfl

theorem evCount_fenceKeeps (s : State) (r : Region) (i : Fin 5) (n : Nat) : fenceKeeps (evCount s r i n) = fenceKeeps s := by
  unfold evCount
  rw [countR_fenceKeeps]
  exact modRg_fenceKeeps s r _ fun _ => ⟨rfl, rfl⟩

/-! ## One block becomes fenced -/

theorem blk_modBlk (s : State) (r : Region) (b x : Blk) (f : Block → Block) :
    blk (modBlk s r b f) r x = if b = x then f (blk s r x) else blk s r x := by
  rw [blk, modBlk, rg_modRg_same]
  exact vget_vmod _ _ _ _

theorem fence_modBlk (s : State) (r q : Region) (b : Blk) (f : Block → Block) : (rg (modBlk s r b f) q).fence = (rg s q).fence := by
  rw [modBlk, rg_modRg]
  split <;> rfl

/-- The block without its queued beats and its grant. -/
def withoutBeats (x : Block) : Block := { x with xq := [], aq := [], fq := [], sched := [], grant := none }

/-- The block without its queued row-events. -/
def withoutRows (x : Block) : Block := { x with evq := [], released := [], ring := Vector.replicate 16 [] }

theorem fenceStop_fenceKeeps (s : State) (r : Region) (b : Blk) : fenceKeeps (fenceStop s r b) = fenceKeeps (modBlk s r b withoutBeats) :=
  foldl_keeps fenceKeeps _ _ _ fun u q => beatDone_fenceKeeps u r q.uid q.i false _

theorem fenceRows_fenceKeeps (s : State) (r : Region) (b : Blk) : fenceKeeps (fenceRows s r b) = fenceKeeps (modBlk s r b withoutRows) := by
  refine (foldl_keeps fenceKeeps (fun s (e : RowEv) => settleTag s r e.tag) _ _ fun u e => settleTag_fenceKeeps u r e.tag).trans ?_
  exact evCount_fenceKeeps _ r 3 _

/-- No sweep runs in the block and, outside freeze, no row-event waits. -/
def Cut (s : State) (r : Region) (b : Blk) : Prop :=
  (blk s r b).sweep = none ∧ (s.frz.asserted = false → (blk s r b).evq = [] ∧ (blk s r b).released = [])

/-- What a change of one region's fence leaves: freeze, the other regions' fence words, and the blocks outside l. -/
structure FenceStep (s t : State) (r : Region) (l : List Blk) : Prop where
  frz : t.frz = s.frz
  fence : ∀ q, q ≠ r → (rg t q).fence = (rg s q).fence
  blocks : ∀ x, x ∉ l → blk t r x = blk s r x
  cut : ∀ x ∈ l, Cut t r x

/-- The beats and the sweep of a block newly fenced end. -/
theorem fenceBlock_ends (s : State) (r : Region) (b : Blk) {t : State}
    (h : t = modBlk (fenceStop (modRg s r (fun g => { g with fence := g.fence ||| mask32 b })) r b) r b (fun x => { x with sweep := none })) :
    t.frz = s.frz ∧ (∀ q, q ≠ r → (rg t q).fence = (rg s q).fence) ∧ (∀ x, x ≠ b → blk t r x = blk s r x) ∧ (blk t r b).sweep = none := by
  obtain ⟨hz, hf, hb⟩ := parts_of_fenceKeeps (fenceStop_fenceKeeps (modRg s r (fun g => { g with fence := g.fence ||| mask32 b })) r b)
  have marked : ∀ x, blk (modRg s r (fun g => { g with fence := g.fence ||| mask32 b })) r x = blk s r x := fun x => by
    rw [blk, rg_modRg_same]; rfl
  subst h
  refine ⟨hz, fun q hq => ?_, fun x hx => ?_, ?_⟩
  · rw [fence_modBlk, hf, fence_modBlk, rg_modRg, if_neg (Ne.symm hq)]
  · rw [blk_modBlk, if_neg (Ne.symm hx), hb, blk_modBlk, if_neg (Ne.symm hx), marked]
  · rw [blk_modBlk, if_pos rfl]

theorem fenceBlock_fenceStep (s : State) (r : Region) (b : Blk) : FenceStep s (fenceBlock s r b) r [b] := by
  obtain ⟨hz, hf, hb, hs⟩ := fenceBlock_ends s r b rfl
  unfold fenceBlock
  dsimp only
  revert hz hf hb hs
  generalize modBlk (fenceStop (modRg s r (fun g => { g with fence := g.fence ||| mask32 b })) r b) r b (fun x => { x with sweep := none }) = u
  intro hz hf hb hs
  split
  next ha =>
    exact ⟨hz, hf, fun x hx => hb x (by simpa using hx), fun x hx => by
      rw [List.mem_singleton.mp hx]; exact ⟨hs, fun h => absurd (ha.symm.trans h) (by simp)⟩⟩
  · obtain ⟨rz, rf, rb⟩ := parts_of_fenceKeeps (fenceRows_fenceKeeps u r b)
    refine ⟨rz.trans hz, fun q hq => ?_, fun x hx => ?_, fun x hx => ?_⟩
    · rw [rf, fence_modBlk, hf q hq]
    · have hx : x ≠ b := by simpa using hx
      rw [rb, blk_modBlk, if_neg (Ne.symm hx), hb x hx]
    · rw [List.mem_singleton.mp hx, Cut, rb, blk_modBlk, if_pos rfl]
      exact ⟨hs, fun _ => ⟨rfl, rfl⟩⟩

/-! ## The fence word of a region -/

theorem FenceStep.cons {s t u : State} {r : Region} {b : Blk} {l : List Blk} (g : FenceStep s t r [b]) (h : FenceStep t u r l) :
    FenceStep s u r (b :: l) where
  frz := h.frz.trans g.frz
  fence := fun q hq => (h.fence q hq).trans (g.fence q hq)
  blocks := fun x hx => by
    rw [List.mem_cons, not_or] at hx
    rw [h.blocks x hx.2, g.blocks x (by simpa using hx.1)]
  cut := fun x hx => by
    by_cases hl : x ∈ l
    · exact h.cut x hl
    · have hb := (List.mem_cons.mp hx).resolve_right hl
      have cut := g.cut x (by simpa using hb)
      rwa [Cut, ← h.blocks x hl, ← h.frz] at cut

theorem foldl_fenceBlock_fenceStep (l : List Blk) (s : State) (r : Region) :
    FenceStep s (l.foldl (fun s b => fenceBlock s r b) s) r l := by
  induction l generalizing s with
  | nil => exact ⟨rfl, fun _ _ => rfl, fun _ _ => rfl, fun x hx => by cases hx⟩
  | cons b l ih => exact (fenceBlock_fenceStep s r b).cons (ih _)

/-- An accepted fence write sets the word of its region alone and cuts off what ran in a block newly fenced. -/
theorem writeFence_cuts (s : State) (r : Region) (w : W32) : (writeFence s r w).frz = s.frz ∧ (rg (writeFence s r w) r).fence = w ∧
    (∀ q, q ≠ r → (rg (writeFence s r w) q).fence = (rg s q).fence) ∧
    ∀ b, bit32 w b = true → fenced s r b = false → Cut (writeFence s r w) r b := by
  have step := foldl_fenceBlock_fenceStep ((idx 32).filter (fun b => bit32 w b && !fenced s r b)) s r
  unfold writeFence
  dsimp only
  revert step
  generalize List.foldl (fun s b => fenceBlock s r b) s _ = u
  intro step
  refine ⟨step.frz, by rw [rg_modRg_same], fun q hq => ?_, fun b hw hf => ?_⟩
  · rw [rg_modRg, if_neg (Ne.symm hq), step.fence q hq]
  · have cut := step.cut b (List.mem_filter.mpr ⟨List.mem_finRange b, by rw [hw, hf]; rfl⟩)
    have same : blk (modRg u r (fun g => { g with fence := w })) r b = blk u r b := by rw [blk, rg_modRg_same]; rfl
    rwa [Cut, same]

end Sys2Proof.Machine
end
section
/-! PROOF. GO of a job restart (R457, R460). -/

namespace Sys2Proof.Machine

/-- The region is in Run and stays there. -/
def upNow (s : State) (r : Region) : Bool := (rg s r).power.st == .run && !(rg s r).power.down && !(rg s r).power.waking

/-- The basin of a region in Run is zeroed. -/
def zeroIfUp (s : State) (r : Region) : State := if upNow s r then basinZeroRegion s r else s

/-- The basins of the regions in Run are zeroed. -/
def zeroBasins (s : State) : State := (idx 8).foldl zeroIfUp s

/-- The registers and buffers of z as GO leaves them for a restart from s, before the seam is trained. -/
def restartFrom (z s : State) (keep : Bool) : State :=
  { z with
    rs := restartState s keep
    flt := { faults0 with irqIe := s.flt.irqIe }
    regions := vmap (fun _ g => restartRegion g) s.regions
    ports := vmap (fun _ x => restartPort x) s.ports
    ingress := Vector.replicate 8 []
    egress := vmap (fun _ x => restartEgress x) s.egress
    bst := restartBandstand s.bst
    lod := restartLodge s.lod
    rill := restartRill s.rill
    slu := restartSluice s.slu
    fb := { s.fb with steps := Vector.replicate 2 [], dirs := vmap (fun _ x => restartDir x) s.fb.dirs }
    pwr := { s.pwr with wakeDone := 0, ceiling := false, fclkReq := false }
    cnt := restartCounters s.cnt }

/-- The state GO makes of s, before the seam is trained. -/
def restarted (s : State) (keep : Bool) : State := restartFrom (zeroBasins s) s keep

/-- A direction in fault trains again. -/
def trainFaulted (rs : Restart) (s : State) : State := (idx 2).foldl (fun s d => if vget rs.train d then train s d else s) s

theorem restartGo_eq (s : State) (keep : Bool) : restartGo s keep =
    (idx 8).foldl retryRegion (trainFaulted (restartState (freezeDeposits s) keep) (restarted (freezeDeposits s) keep)) := rfl

/-! ## The basins of the regions in Run (R460) -/

/-- What zeroing a basin leaves. -/
def zeroKeeps (s : State) : Table Byte × Aon × List Instr × Freeze × Vector RegionSt 8 × RegPortSt × RegPortSt × RegPortSt :=
  (s.mem, s.aon, s.pending, s.frz, s.regions, s.cp, s.mp, s.ghp)

theorem zeroIfUp_zeroKeeps (s : State) (r : Region) : zeroKeeps (zeroIfUp s r) = zeroKeeps s := by
  unfold zeroIfUp basinZeroRegion
  split
  · split <;> rfl
  · rfl

theorem zeroBasins_zeroKeeps (s : State) : zeroKeeps (zeroBasins s) = zeroKeeps s := foldl_keeps zeroKeeps zeroIfUp _ s zeroIfUp_zeroKeeps

theorem basinByte_basinZeroRegion {s : State} (hw : canWrite s = true) (r q : Region) (b : Blk) {j : Nat} (hj : j < 16384) :
    basinByte (basinZeroRegion s r) q b j = if r = q then 0 else basinByte s q b j := by
  rw [basinZeroRegion, if_pos hw, basinByte, tget_tclear]
  simp only [basinAddr]
  refine if_congr ⟨fun h => Fin.ext ?_, fun h => ?_⟩ rfl rfl
  · have := b.isLt; have : (0 : Blk).val = 0 := rfl; omega
  · subst h; have := b.isLt; have : (0 : Blk).val = 0 := rfl; omega

theorem basinByte_zeroIfUp {s : State} (hw : canWrite s = true) (r q : Region) (b : Blk) {j : Nat} (hj : j < 16384) :
    basinByte (zeroIfUp s r) q b j = if r = q ∧ upNow s q = true then 0 else basinByte s q b j := by
  unfold zeroIfUp
  by_cases hu : upNow s r = true
  · rw [if_pos hu, basinByte_basinZeroRegion hw r q b hj]
    refine if_congr ⟨fun h => ⟨h, h ▸ hu⟩, And.left⟩ rfl rfl
  · rw [if_neg hu, if_neg]
    rintro ⟨rfl, h⟩
    exact hu h

theorem basinByte_foldl_zeroIfUp (l : List Region) {s : State} (hw : canWrite s = true) (q : Region) (b : Blk) {j : Nat} (hj : j < 16384) :
    basinByte (l.foldl zeroIfUp s) q b j = if q ∈ l ∧ upNow s q = true then 0 else basinByte s q b j := by
  induction l generalizing s with
  | nil => simp
  | cons r l ih =>
    have kept := zeroIfUp_zeroKeeps s r
    simp only [zeroKeeps, Prod.mk.injEq] at kept
    obtain ⟨-, ha, -, -, hr, -⟩ := kept
    have write : canWrite (zeroIfUp s r) = true := by rw [canWrite, ha]; exact hw
    have up : upNow (zeroIfUp s r) q = upNow s q := by simp only [upNow, rg, hr]
    rw [List.foldl_cons, ih write, up, basinByte_zeroIfUp hw r q b hj]
    by_cases hq : r = q
    · subst hq; by_cases hu : upNow s r = true <;> simp [hu]
    · simp [hq, Ne.symm hq]

theorem basinByte_zeroBasins {s : State} (hw : canWrite s = true) (q : Region) (b : Blk) {j : Nat} (hj : j < 16384) :
    basinByte (zeroBasins s) q b j = if upNow s q = true then 0 else basinByte s q b j := by
  rw [zeroBasins, basinByte_foldl_zeroIfUp _ hw q b hj]
  simp [idx]

theorem upNow_iff (s : State) (q : Region) :
    upNow s q = true ↔ (rg s q).power.st = .run ∧ (rg s q).power.down = false ∧ (rg s q).power.waking = false := by
  simp [upNow, and_assoc]

/-! ## The state GO leaves -/

/-- What training leaves: everything but the link. -/
def trainKeeps (s : State) : (Table Byte × Table Byte × Aon × List Instr) × (Freeze × Restart × Faults) × Bandstand × Lodge ×
    Vector PortSt 32 × Vector RegionSt 8 × RegPortSt × RegPortSt × RegPortSt :=
  (store s, (s.frz, s.rs, s.flt), s.bst, s.lod, s.ports, s.regions, s.cp, s.mp, s.ghp)

theorem trainFaulted_trainKeeps (rs : Restart) (s : State) : trainKeeps (trainFaulted rs s) = trainKeeps s := by
  refine foldl_keeps trainKeeps _ _ s fun u d => ?_
  split
  · rfl
  · rfl

theorem noneHeld_iff (s : State) : noneHeld s ↔ s.cp.held = none ∧ s.mp.held = none ∧ s.ghp.held = none :=
  ⟨fun h => ⟨h .cp, h .mp, h .gh⟩, fun ⟨hc, hm, hg⟩ p => by cases p <;> assumption⟩

theorem retryRegions_noneHeld {s : State} (h : noneHeld s) (l : List Region) : l.foldl retryRegion s = s := by
  induction l with
  | nil => rfl
  | cons r l ih => rw [List.foldl_cons, retryRegion_noneHeld h, ih]

/-- What the registers that GO resets leave of the state whose basins are zeroed. -/
theorem restartFrom_keeps (z s : State) (keep : Bool) : (restartFrom z s keep).mem = z.mem ∧ (restartFrom z s keep).aon = z.aon ∧
    (restartFrom z s keep).pending = z.pending ∧ (restartFrom z s keep).frz = z.frz ∧ (restartFrom z s keep).basin = z.basin ∧
    (noneHeld z → noneHeld (restartFrom z s keep)) :=
  ⟨rfl, rfl, rfl, rfl, rfl, fun h p => by rw [← h p]; cases p <;> rfl⟩

theorem restarted_keeps (s : State) (keep : Bool) : (restarted s keep).mem = s.mem ∧ (restarted s keep).aon = s.aon ∧
    (restarted s keep).pending = s.pending ∧ (restarted s keep).frz = s.frz ∧ (restarted s keep).basin = (zeroBasins s).basin ∧
    (noneHeld s → noneHeld (restarted s keep)) := by
  have kept := zeroBasins_zeroKeeps s
  simp only [zeroKeeps, Prod.mk.injEq] at kept
  obtain ⟨hm, ha, hp, hz, -, hcp, hmp, hgh⟩ := kept
  obtain ⟨rm, ra, rp, rz, rb, rh⟩ := restartFrom_keeps (zeroBasins s) s keep
  refine ⟨rm.trans hm, ra.trans ha, rp.trans hp, rz.trans hz, rb, fun h => rh ?_⟩
  rw [noneHeld_iff] at h ⊢
  rwa [hcp, hmp, hgh]

/-- Where no register access waits, GO leaves the restarted state, its directions in fault training. -/
theorem restartGo_trainKeeps {s : State} (keep : Bool) (hn : noneHeld s) :
    trainKeeps (restartGo s keep) = trainKeeps (restarted (freezeDeposits s) keep) := by
  have trained := trainFaulted_trainKeeps (restartState (freezeDeposits s) keep) (restarted (freezeDeposits s) keep)
  have none := (noneHeld_iff _).mp ((restarted_keeps (freezeDeposits s) keep).2.2.2.2.2 (freezeDeposits_noneHeld hn))
  have held : noneHeld (trainFaulted (restartState (freezeDeposits s) keep) (restarted (freezeDeposits s) keep)) := by
    simp only [trainKeeps, Prod.mk.injEq] at trained
    obtain ⟨-, -, -, -, -, -, hc, hm, hg⟩ := trained
    rw [noneHeld_iff, hc, hm, hg]
    exact none
  rw [restartGo_eq, retryRegions_noneHeld held, trained]

end Sys2Proof.Machine
end

section
/-! PROOF. The state after GO of a job restart (R457, R460). -/

namespace Sys2Proof.Machine

theorem restartFrom_sets (z s : State) (keep : Bool) : (restartFrom z s keep).rs = restartState s keep ∧
    (restartFrom z s keep).flt = { faults0 with irqIe := s.flt.irqIe } ∧ (restartFrom z s keep).bst = restartBandstand s.bst ∧
    (restartFrom z s keep).lod = restartLodge s.lod ∧ (restartFrom z s keep).ports = vmap (fun _ x => restartPort x) s.ports ∧
    (restartFrom z s keep).regions = vmap (fun _ g => restartRegion g) s.regions := ⟨rfl, rfl, rfl, rfl, rfl, rfl⟩

/-- What GO leaves as it was, and the basins, where no register access waits. -/
theorem restartGo_leaves {s : State} (keep : Bool) (hn : noneHeld s) : (restartGo s keep).mem = s.mem ∧ (restartGo s keep).aon = s.aon ∧
    (restartGo s keep).pending = s.pending ∧ (restartGo s keep).frz = s.frz ∧
    (restartGo s keep).basin = (zeroBasins (freezeDeposits s)).basin := by
  have parts := restartGo_trainKeeps keep hn
  simp only [trainKeeps, store, Prod.mk.injEq] at parts
  obtain ⟨⟨hm, hb, ha, hp⟩, ⟨hz, -⟩, -⟩ := parts
  obtain ⟨rm, ra, rp, rz, rb, -⟩ := restarted_keeps (freezeDeposits s) keep
  obtain ⟨dm, -, da, dp⟩ := kept_of_store (freezeDeposits_store s)
  exact ⟨hm.trans (rm.trans dm), ha.trans (ra.trans da), hp.trans (rp.trans dp), hz.trans (rz.trans (freezeDeposits_frz s)), hb.trans rb⟩

/-- What GO resets. -/
theorem restartGo_resets {s : State} (keep : Bool) (hn : noneHeld s) : (restartGo s keep).rs = restartState (freezeDeposits s) keep ∧
    (restartGo s keep).flt = { faults0 with irqIe := s.flt.irqIe } ∧ (restartGo s keep).bst = restartBandstand s.bst ∧
    (restartGo s keep).lod = restartLodge (freezeDeposits s).lod ∧
    (∀ p, ep (restartGo s keep) p = restartPort (ep (freezeDeposits s) p)) ∧ ∀ q, rg (restartGo s keep) q = restartRegion (rg s q) := by
  have parts := restartGo_trainKeeps keep hn
  simp only [trainKeeps, Prod.mk.injEq] at parts
  obtain ⟨-, ⟨-, hs, hf⟩, hb, hl, hp, hr, -⟩ := parts
  obtain ⟨rs, rf, rb, rl, rp, rr⟩ := restartFrom_sets (zeroBasins (freezeDeposits s)) (freezeDeposits s) keep
  obtain ⟨dr, -, df, -, db, -⟩ := freezeDeposits_keeps s
  refine ⟨hs.trans rs, hf.trans (rf.trans (by rw [df])), hb.trans (rb.trans (by rw [db])), hl.trans rl, fun p => ?_, fun q => ?_⟩
  · rw [ep, hp, restarted, rp, vget_vmap]; rfl
  · rw [rg, hr, restarted, rr, vget_vmap, dr]; rfl

/-- Each mailbox but the first two loses its word. -/
theorem box_restartGo {s : State} (keep : Bool) (hn : noneHeld s) (n : Fin 64) :
    (box (restartGo s keep) n).word = if n.val < 2 then (box s n).word else none := by
  obtain ⟨-, -, -, hl, -⟩ := restartGo_resets keep hn
  rw [box, hl, restartLodge, vget_vmap]
  exact if_congr Iff.rfl (box_freezeDeposits s n).1 rfl

/-- The basins of the regions in Run read 0, the others as before. -/
theorem basinByte_restartGo {s : State} (keep : Bool) (hn : noneHeld s) (hw : canWrite s = true) (q : Region) (b : Blk) {j : Nat}
    (hj : j < 16384) : basinByte (restartGo s keep) q b j =
      if (rg s q).power.st = .run ∧ (rg s q).power.down = false ∧ (rg s q).power.waking = false then 0 else basinByte s q b j := by
  obtain ⟨-, hb, ha, -⟩ := kept_of_store (freezeDeposits_store s)
  obtain ⟨hr, -⟩ := freezeDeposits_keeps s
  obtain ⟨-, -, -, -, hz⟩ := restartGo_leaves keep hn
  have write : canWrite (freezeDeposits s) = true := by rw [canWrite, ha]; exact hw
  have zeroed := basinByte_zeroBasins write q b hj
  have up : upNow (freezeDeposits s) q = upNow s q := by simp only [upNow, rg, hr]
  rw [up, basinByte, ← hz] at zeroed
  rw [basinByte, zeroed, basinByte, hb]
  exact if_congr (upNow_iff s q) rfl rfl

end Sys2Proof.Machine
end
section
/-! PROOF. Stop, freeze, faults, job restart and fences. -/

namespace Sys2Proof.Machine

/-! ## The arms -/

theorem exec_stop (p s) : exec (.stop p) s = execStop p s := rfl
theorem exec_freeze (p st s) : exec (.freeze p st) s = execFreeze p st s := rfl
theorem exec_injected (p v s) : exec (.injected p v) s = execInjected p v s := rfl
theorem exec_jobRestartGo (p keep rel s) : exec (.jobRestartGo p keep rel) s = execJobRestartGo p keep rel s := rfl
theorem exec_jobRestartRelease (p keep s) : exec (.jobRestartRelease p keep) s = execJobRestartRelease p keep s := rfl
theorem exec_fenceSet (p r w s) : exec (.fenceSet p r w) s = fenceWrite p r w s := rfl
theorem exec_fenceClear (p r w s) : exec (.fenceClear p r w) s = fenceWrite p r w s := rfl
theorem exec_eastFaultRaise (s) : exec .eastFaultRaise s = execEastFaultRaise s := rfl
theorem exec_stopQuiescent (s) : exec .stopQuiescent s = execStopQuiescent s := rfl
theorem exec_freezeReachHalf (h s) : exec (.freezeReachHalf h) s = execFreezeReachHalf h s := rfl
theorem exec_restartClearsDone (s) : exec .restartClearsDone s = execRestartClearsDone s := rfl

/-! ## The writes of the control registers (R24) -/

section Ready

variable {s : State} {port : RegPort} (hp : portReady s port = true)
include hp

/-- From the control port every such write is refused. -/
theorem controls_of_cp (hm : isMgmt port = false) (st keep rel : Bool) (v w : W32) (r : Region) :
    ∀ c ∈ [Instr.stop port, Instr.freeze port st, Instr.injected port v, Instr.jobRestartGo port keep rel,
        Instr.jobRestartRelease port keep, Instr.fenceSet port r w, Instr.fenceClear port r w],
      exec c s = .next (after (busErr s port)) := by
  have fences : fenceWrite port r w s = .next (after (busErr s port)) := by simp [fenceWrite, hp, hm, finish_eq_after]
  simp only [List.forall_mem_cons, List.not_mem_nil, false_implies, implies_true, and_true]
  refine ⟨?_, ?_, ?_, ?_, ?_, fences, fences⟩
  · rw [exec_stop, execStop, mgmtWrite_of_cp _ hp hm]
  · rw [exec_freeze, execFreeze, mgmtWrite_of_cp _ hp hm]
  · rw [exec_injected, execInjected, mgmtWrite_of_cp _ hp hm]
  · simp [exec_jobRestartGo, execJobRestartGo, hp, hm, finish_eq_after]
  · simp [exec_jobRestartRelease, execJobRestartRelease, hp, hm, finish_eq_after]

variable (hm : isMgmt port = true)
include hm

/-- Under freeze neither command has an effect. -/
theorem stopFreeze_asserted (ha : s.frz.asserted = true) (st : Bool) :
    ∀ c ∈ [Instr.stop port, Instr.freeze port st], exec c s = .next (after (ack s port)) := by
  simp only [List.forall_mem_cons, List.not_mem_nil, false_implies, implies_true, and_true]
  constructor
  · rw [exec_stop, execStop, mgmtWrite_of_mgmt _ hp hm]; simp [ha]
  · rw [exec_freeze, execFreeze, mgmtWrite_of_mgmt _ hp hm]; simp [assertFreeze, ha]

/-- FREEZE asserts freeze (R453). -/
theorem freeze_asserts (ha : s.frz.asserted = false) (st : Bool) : ∃ t, exec (.freeze port st) s = .next t ∧ kept s t ∧ t.flt = s.flt ∧
    t.regions = s.regions ∧
    t.frz = { s.frz with asserted := true, cause := .command, stopping := false, reached := Vector.replicate 2 false } := by
  refine ⟨after (assertFreeze (ack s port) .command), ?_, kept_after ((assertFreeze_store _ _).trans (ack_store _ _)), ?_, ?_, ?_⟩
  · rw [exec_freeze, execFreeze, mgmtWrite_of_mgmt _ hp hm]
  all_goals simp [assertFreeze, ha]

/-- The state STOP makes of s. -/
def stopped (s : State) : State := freezeWatches (frozenHeads { s with frz := { s.frz with stopping := true, stopped := true } } (fun _ => true))

omit hp hm in
theorem stopped_keeps (s : State) : watchKeeps (stopped s) = watchKeeps { s with frz := { s.frz with stopping := true, stopped := true } } :=
  (freezeWatches_watchKeeps _).trans (watchKeeps_of_answerKeeps (frozenHeads_answerKeeps _ _))

omit hp hm in
theorem frozenHeads_store (s : State) (ok : EPort → Bool) : store (frozenHeads s ok) = store s :=
  foldl_store _ _ s fun u p => foldl_store _ _ u fun v e => frozenHead_store v p e.seq

omit hp hm in
theorem stopped_store (s : State) : store (stopped s) = store s := by
  rw [stopped, freezeWatches_store, frozenHeads_store]
  rfl

omit hp hm in
theorem stopped_frees (s : State) : ∀ x ∈ (stopped s).bst.watches, notEngines x := by
  rw [stopped]
  exact freezeWatches_frees _

/-- STOP closes the intake and frees the engines' watches (R310, R454). -/
theorem stop_closes (ha : s.frz.asserted = false) (hs : s.frz.stopping = false) : ∃ t, exec (.stop port) s = .next t ∧ kept s t ∧
    t.flt = s.flt ∧ t.regions = s.regions ∧ t.frz = { s.frz with stopping := true, stopped := true } ∧ (∀ h, closed t h = true) ∧
    ∀ x ∈ t.bst.watches, ∀ p q, x.owner ≠ .engine p q := by
  have parts := stopped_keeps (ack s port)
  simp only [watchKeeps, Prod.mk.injEq, ack_frz, ack_flt, ack_regions] at parts
  obtain ⟨hr, hz, hf, -⟩ := parts
  refine ⟨after (stopped (ack s port)), ?_, kept_after ((stopped_store _).trans (ack_store _ _)), ?_, ?_, ?_, fun h => ?_, ?_⟩
  · rw [exec_stop, execStop, mgmtWrite_of_mgmt _ hp hm]; simp [ha, hs, stopped]
  · rw [after_flt, hf]
  · rw [after_regions, hr]
  · rw [after_frz, hz]
  · simp [closed, hz]
  · rw [after_bst]; exact stopped_frees _

omit hp hm in
/-- A fault asserts freeze or keeps the first cause. -/
theorem assertFreeze_fault (s : State) : (s.frz.asserted = true → (assertFreeze s .fault).frz = s.frz) ∧ (s.frz.asserted = false →
    (assertFreeze s .fault).frz.asserted = true ∧ (assertFreeze s .fault).frz.cause = .fault ∧ (assertFreeze s .fault).frz.stopping = false) := by
  constructor <;> intro h <;> simp [assertFreeze, h]

omit hp hm in
theorem recordFault_keeps (s : State) (rec : W64) : (recordFault s rec).flt = logFault s.flt s.aon.sundial rec ∧
    (recordFault s rec).regions = s.regions ∧ (recordFault s rec).frz = (assertFreeze s .fault).frz ∧
    (recordFault s rec).rs = { s.rs with st := if s.rs.st = .clearing then .failed else s.rs.st } := by
  unfold recordFault assertFreeze
  dsimp only
  split <;> exact ⟨rfl, rfl, rfl, rfl⟩

theorem injected_records (v : W32) : ∃ t, exec (.injected port v) s = .next t ∧ kept s t ∧ t.regions = s.regions ∧
    t.flt = logFault s.flt s.aon.sundial (faultRec 0x1F 4 0 0 0 v) ∧ (s.frz.asserted = true → t.frz = s.frz) ∧
    (s.frz.asserted = false → t.frz.asserted = true ∧ t.frz.cause = .fault ∧ t.frz.stopping = false) := by
  obtain ⟨hf, hr, hz, -⟩ := recordFault_keeps (ack s port) (faultRec 0x1F 4 0 0 0 v)
  obtain ⟨on, off⟩ := assertFreeze_fault (ack s port)
  rw [ack_frz] at on off
  rw [← hz] at on off
  refine ⟨after (wholeFault (ack s port) 0x1F v), ?_, kept_after ((wholeFault_store _ _ _).trans (ack_store _ _)), ?_, ?_, ?_, ?_⟩
  · rw [exec_injected, execInjected, mgmtWrite_of_mgmt _ hp hm]
  · rw [after_regions, wholeFault, hr, ack_regions]
  · rw [after_flt, wholeFault, hf, ack_flt, ack_aon]
  · rw [after_frz, wholeFault]; exact on
  · rw [after_frz, wholeFault]; exact off

/-! ## Job restart (R457, R460, R461) -/

omit hm in
theorem restartGo_refused {keep rel : Bool}
    (h : s.frz.asserted = false ∨ drained s = false ∨ s.rs.st = .clearing ∨ s.aon.rail = true ∨ rel = true) :
    exec (.jobRestartGo port keep rel) s = .next (after (busErr s port)) := by
  have refused : goRefused s rel = true := by
    obtain h | h | h | h | h := h <;> simp [goRefused, h]
  simp [exec_jobRestartGo, execJobRestartGo, hp, refused, finish_eq_after]

/-- GO enters CLEARING. -/
theorem restartGo_clears {keep : Bool} (ha : s.frz.asserted = true) (hd : drained s = true) (hc : s.rs.st ≠ .clearing)
    (hw : s.aon.rail = false) (hn : ∀ p, (rport s p).held = none) :
    ∃ t, exec (.jobRestartGo port keep false) s = .next t ∧ t.mem = s.mem ∧ t.aon = s.aon ∧ t.pending = s.pending ∧
      t.frz = s.frz ∧ t.rs.st = .clearing ∧ t.rs.keep = keep ∧ t.flt = { faults0 with irqIe := s.flt.irqIe } ∧ t.bst.sem = [] ∧
      t.lod.rejects = 0 ∧ (∀ p, (ep t p).reqs = []) ∧ (∀ q, (rg t q).ev.epoch = 0 ∧ (rg t q).fence = (rg s q).fence) ∧
      (∀ n, (box t n).word = if n.val < 2 then (box s n).word else none) ∧
      ∀ q b j, j < 16384 → basinByte t q b j =
        (if (rg s q).power.st = .run ∧ (rg s q).power.down = false ∧ (rg s q).power.waking = false then 0 else basinByte s q b j) := by
  have accepted : goRefused s false = false := by simp [goRefused, ha, hd, hc, hw]
  obtain ⟨gm, ga, gp, gz, -⟩ := restartGo_leaves keep hn
  obtain ⟨rs, rf, rb, rl, rp, rr⟩ := restartGo_resets keep hn
  refine ⟨after (ack (restartGo s keep) port), ?_, ?_, ?_, ?_, ?_, ?_, ?_, ?_, ?_, ?_, fun p => ?_, fun q => ?_, fun n => ?_,
    fun q b j hj => ?_⟩
  · simp [exec_jobRestartGo, execJobRestartGo, hp, hm, accepted, finish_eq_after]
  · rw [after_mem, ack_mem, gm]
  · rw [after_aon, ack_aon, ga]
  · rw [after_pending, ack_pending, gp]
  · rw [after_frz, ack_frz, gz]
  · rw [after_rs, ack_rs, rs]; rfl
  · rw [after_rs, ack_rs, rs]; rfl
  · rw [after_flt, ack_flt, rf]
  · rw [after_bst, ack_bst, rb]; rfl
  · rw [after_lod, ack_lod, rl]; rfl
  · rw [ep_after, ep_ack, rp]; rfl
  · rw [rg_after, rg_ack, rr]; exact ⟨rfl, rfl⟩
  · rw [box_after, box_ack, box_restartGo keep hn]
  · have write : canWrite s = true := by rw [canWrite, hw]; rfl
    rw [basinByte, after_basin, ack_basin, ← basinByte, basinByte_restartGo keep hn write q b hj]

omit hm in
theorem restartRelease_refused {keep : Bool} (h : s.rs.st ≠ .done) :
    exec (.jobRestartRelease port keep) s = .next (after (busErr s port)) := by
  simp [exec_jobRestartRelease, execJobRestartRelease, hp, h, finish_eq_after]

theorem restartRelease_done {keep : Bool} (h : s.rs.st = .done) :
    exec (.jobRestartRelease port keep) s = .next (afterSync (ack (releaseFreeze s keep) port)) := by
  simp [exec_jobRestartRelease, execJobRestartRelease, hp, hm, h, finishSync_eq_afterSync]

/-! ## Fences (R463, R464) -/

omit hm in
theorem fence_refused {r : Region} {w : W32} (h : fenceRefused s r w = true) :
    ∀ c ∈ [Instr.fenceSet port r w, Instr.fenceClear port r w], exec c s = .next (after (busErr s port)) := by
  have fences : fenceWrite port r w s = .next (after (busErr s port)) := by simp [fenceWrite, hp, h, finish_eq_after]
  simp only [List.forall_mem_cons, List.not_mem_nil, false_implies, implies_true, and_true]
  exact ⟨fences, fences⟩

omit hp hm in
/-- Outside freeze a fence may only be set where the arbiter of the block is frozen. -/
theorem fenceRefused_of_running {r : Region} {w : W32}
    (h : ∃ b, bit32 w b = true ∧ fenced s r b = false ∧ s.frz.asserted = false ∧ bit32 (rg s r).arb.freeze b = false) :
    fenceRefused s r w = true := by
  obtain ⟨b, hw, hf, ha, hb⟩ := h
  exact List.any_eq_true.mpr ⟨b, List.mem_finRange b, by simp [hw, hf, maySetFence, ha, hb]⟩

theorem fence_accepted {r : Region} {w : W32} (h : fenceRefused s r w = false) :
    ∀ c ∈ [Instr.fenceSet port r w, Instr.fenceClear port r w],
      ∃ t, exec c s = .next t ∧ t.mem = s.mem ∧ t.basin = s.basin ∧ t.aon = s.aon ∧ t.pending = s.pending ∧ (rg t r).fence = w ∧
        (∀ q, q ≠ r → (rg t q).fence = (rg s q).fence) ∧
        ∀ b, bit32 w b = true → fenced s r b = false →
          (blk t r b).sweep = none ∧ (s.frz.asserted = false → (blk t r b).evq = [] ∧ (blk t r b).released = []) := by
  obtain ⟨hz, hf, ho, hc⟩ := writeFence_cuts s r w
  have written : fenceWrite port r w s = .next (after (ack (writeFence s r w) port)) := by simp [fenceWrite, hp, hm, h, finish_eq_after]
  obtain ⟨km, kb, ka, kp⟩ : kept s (after (ack (writeFence s r w) port)) :=
    kept_after ((ack_store _ _).trans (writeFence_store _ _ _))
  have effect : ∀ q, rg (after (ack (writeFence s r w) port)) q = rg (writeFence s r w) q := fun q => by rw [rg_after, rg_ack]
  have cut : ∀ c, exec c s = fenceWrite port r w s → ∃ t, exec c s = .next t ∧ t.mem = s.mem ∧ t.basin = s.basin ∧ t.aon = s.aon ∧
      t.pending = s.pending ∧ (rg t r).fence = w ∧ (∀ q, q ≠ r → (rg t q).fence = (rg s q).fence) ∧
      ∀ b, bit32 w b = true → fenced s r b = false →
        (blk t r b).sweep = none ∧ (s.frz.asserted = false → (blk t r b).evq = [] ∧ (blk t r b).released = []) := fun c he =>
    ⟨_, he.trans written, km, kb, ka, kp, by rw [effect, hf], fun q hq => by rw [effect, ho q hq], fun b hw hb => by
      rw [blk, effect, ← hz]; exact hc b hw hb⟩
  simp only [List.forall_mem_cons, List.not_mem_nil, false_implies, implies_true, and_true]
  exact ⟨cut _ (exec_fenceSet port r w s), cut _ (exec_fenceClear port r w s)⟩

end Ready

/-! ## The events of the always-on logic -/

/-- A fault logged: the first record stands, later ones are counted and logged once each, up to 16 (R439, R440). -/
theorem logFault_cases (f : Faults) (now rec : W64) : (logFault f now rec).irq = true ∧
    (f.firstValid = false → (logFault f now rec).first = rec ∧ (logFault f now rec).firstTime = now ∧
      (logFault f now rec).firstValid = true ∧ (logFault f now rec).log = f.log ∧ (logFault f now rec).more = f.more) ∧
    (f.firstValid = true → (logFault f now rec).first = f.first ∧ (logFault f now rec).firstTime = f.firstTime ∧
      (logFault f now rec).more = f.more + 1 ∧
      (logFault f now rec).log = if rec = f.first ∨ rec ∈ f.log ∨ 16 ≤ f.log.length then f.log else f.log ++ [rec]) := by
  cases hv : f.firstValid
  · simp [logFault, hv]
  · simp [logFault, hv, or_assoc]

section Live

variable {s : State} (hl : live s = true)
include hl

theorem eastFault_records {rec : W64} {more : List W64} (he : s.frz.east = rec :: more) :
    ∃ t, exec .eastFaultRaise s = .next t ∧ kept s t ∧ t.regions = s.regions ∧ t.frz.east = more ∧
      t.frz.asserted = true ∧ t.flt.irq = true ∧ (s.rs.st = .clearing → t.rs.st = .failed) ∧
      (s.flt.firstValid = false → t.flt.first = rec ∧ t.flt.firstTime = s.aon.sundial ∧ t.flt.firstValid = true ∧
        t.flt.log = s.flt.log ∧ t.flt.more = s.flt.more) ∧
      (s.flt.firstValid = true → t.flt.first = s.flt.first ∧ t.flt.firstTime = s.flt.firstTime ∧ t.flt.more = s.flt.more + 1 ∧
        t.flt.log = if rec = s.flt.first ∨ rec ∈ s.flt.log ∨ 16 ≤ s.flt.log.length then s.flt.log else s.flt.log ++ [rec]) := by
  obtain ⟨hf, hr, hz, hs⟩ := recordFault_keeps { s with frz := { s.frz with east := more } } rec
  obtain ⟨irq, fresh, later⟩ := logFault_cases s.flt s.aon.sundial rec
  rw [← hf] at irq fresh later
  refine ⟨after (recordFault { s with frz := { s.frz with east := more } } rec), ?_, kept_after (recordFault_store _ _), ?_, ?_, ?_, ?_,
    fun hc => ?_, ?_, ?_⟩
  · simp [exec_eastFaultRaise, execEastFaultRaise, he, hl, finish_eq_after]
  · rw [after_regions, hr]
  · rw [after_frz, hz, assertFreeze]; split <;> rfl
  · rw [after_frz, hz, assertFreeze]; split <;> trivial
  · rw [after_flt]; exact irq
  · rw [after_rs, hs]; simp [hc]
  · rw [after_flt]; exact fresh
  · rw [after_flt]; exact later

theorem stopQuiescent_ends (hs : s.frz.stopping = true) (ha : s.frz.asserted = false) (h0 : quiet s 0 = true) (h1 : quiet s 1 = true) :
    ∃ t, exec .stopQuiescent s = .next t ∧ kept s t ∧ t.regions = s.regions ∧
      t.frz.asserted = true ∧ t.frz.cause = .stop ∧ t.frz.stopping = false ∧ t.frz.quiescent = Vector.replicate 2 true := by
  refine ⟨after (assertFreeze { s with frz := { s.frz with quiescent := Vector.replicate 2 true } } .stop), ?_,
    kept_after (assertFreeze_store _ _), ?_, ?_, ?_, ?_, ?_⟩
  · simp [exec_stopQuiescent, execStopQuiescent, hl, hs, h0, h1, finish_eq_after]
  all_goals simp [assertFreeze, ha]

omit hl in
theorem stopQuiescent_waits {h : Half} (hq : quiet s h = false) : exec .stopQuiescent s = .next s := by
  have loud : (!quiet s 0 || !quiet s 1) = true := by
    match h with
    | 0 => simp [hq]
    | 1 => simp [hq]
  rw [exec_stopQuiescent, execStopQuiescent, Bool.or_assoc, loud, Bool.or_true]
  rfl

theorem freezeReachHalf_freezes {h : Half} (ha : s.frz.asserted = true) (hr : vget s.frz.reached h = false) :
    ∃ t, exec (.freezeReachHalf h) s = .next t ∧ t.mem = s.mem ∧ t.aon = s.aon ∧ t.pending = s.pending ∧ frozen t h = true ∧
      (h = 0 → (∀ p, (ep t p).held = []) ∧ (∀ n, (box t n).deps = []) ∧ ∀ x ∈ t.bst.watches, ∀ p q, x.owner ≠ .engine p q) := by
  obtain ⟨mem, frz, west⟩ := reachHalf_freezes (h := h) ha
  have rest := reachHalf_rest s h
  simp only [Machine.rest, store, Prod.mk.injEq] at rest
  obtain ⟨aon, pending⟩ := rest
  refine ⟨after (reachHalf s h), ?_, ?_, ?_, ?_, ?_, fun hw => ⟨fun p => ?_, fun n => ?_, ?_⟩⟩
  · simp [exec_freezeReachHalf, execFreezeReachHalf, hl, ha, hr, finish_eq_after]
  · rw [after_mem, mem]
  · rw [after_aon, aon]
  · rw [after_pending, pending]
  · rw [frozen, after_frz]; exact frz
  · rw [ep_after]; exact (west hw).held p
  · rw [box_after]; exact (west hw).deps n
  · rw [after_bst]; exact (west hw).watches

theorem restartClears_end (hc : s.rs.st = .clearing) (h0 : s.rs.clearing = 0) (hb : s.rs.wakeBasin = 0)
    (hu : ∀ d, vget s.rs.train d = true → (dir s d).st = .up) :
    exec .restartClearsDone s = .next (after { s with rs := { s.rs with st := .done } }) := by
  have up : (idx 2).all (fun d => !vget s.rs.train d || (dir s d).st == .up) = true := List.all_eq_true.mpr fun d _ => by
    cases ht : vget s.rs.train d
    · rfl
    · simp [hu d ht]
  simp only [exec_restartClearsDone, execRestartClearsDone, up]
  simp [hl, hc, h0, hb, finish_eq_after]

omit hl in
theorem restartClears_wait (h : s.rs.clearing ≠ 0) : exec .restartClearsDone s = .next s := by
  rw [exec_restartClearsDone, execRestartClearsDone]
  rw [if_pos]
  · rfl
  · simp only [Bool.or_eq_true, decide_eq_true_eq]
    exact .inl (.inl (.inr h))

end Live

/-- Settles O58: each write of a control register and each event of the always-on logic by its own lemma; what freeze, stop and a fence
cut off is gone by the folds that cut it off. -/
theorem stopFreezeFaultsRestartAndFences : Obligations.StopFreezeFaultsRestartAndFences := by
  unfold Obligations.StopFreezeFaultsRestartAndFences
  intro s port st keep rel v w r h rec more
  refine ⟨fun hp => ⟨fun hm => controls_of_cp hp hm st keep rel v w r, fun hm => ⟨?_, ?_, ?_, ?_, ?_, ?_, ?_, ?_, ?_, ?_⟩⟩,
    fun hl => ⟨?_, ?_, ?_, ?_⟩⟩
  · exact fun ha => stopFreeze_asserted hp hm ha st
  · exact fun ha => ⟨freeze_asserts hp hm ha st, stop_closes hp hm ha⟩
  · exact injected_records hp hm v
  · exact restartGo_refused hp
  · exact restartGo_clears hp hm
  · exact restartRelease_refused hp
  · exact fun hd => ⟨restartRelease_done hp hm hd, rfl, rfl, rfl, rfl, rfl, rfl⟩
  · exact fence_refused hp
  · exact fenceRefused_of_running
  · exact fence_accepted hp hm
  · exact eastFault_records hl
  · exact fun hs ha => ⟨stopQuiescent_ends hl hs ha, stopQuiescent_waits⟩
  · exact freezeReachHalf_freezes hl
  · exact fun hc => ⟨restartClears_end hl hc, restartClears_wait⟩

end Sys2Proof.Machine
end

section
/-! PROOF. Resets, clock pins and rails, and the instructions of the wrapper (R54, R60 to R64, R365, R409 to R412, R505 to R509). -/

namespace Sys2Proof.Machine

/-! ## The arms of the resets, the pins and the wrapper -/

theorem exec_aonReset (a s) : exec (.aonReset a) s = execAonReset a s := rfl
theorem exec_macroResetAssert (s) : exec .macroResetAssert s = execMacroResetAssert s := rfl
theorem exec_macroResetRelease (src s) : exec (.macroResetRelease src) s = execMacroResetRelease src s := rfl
theorem exec_fclkOkRise (h s) : exec (.fclkOkRise h) s = execFclkOkRise h s := rfl
theorem exec_fclkOkFall (h s) : exec (.fclkOkFall h) s = execFclkOkFall h s := rfl
theorem exec_railLoss (h rail s) : exec (.railLoss h rail) s = execRailLoss h rail s := rfl
theorem exec_railUndervolt (h rail s) : exec (.railUndervolt h rail) s = execRailUndervolt h rail s := rfl
theorem exec_wrapperReset (a s) : exec (.wrapperReset a) s = execWrapperReset a s := rfl
theorem exec_testModeChange (v s) : exec (.testModeChange v) s = execTestModeChange v s := rfl
theorem exec_wsBypass (bit s) : exec (.wsBypass bit) s = selectInstr s false .bypass (fun w => { w with bypass := bit }) := rfl
theorem exec_wsExtest (cells s) : exec (.wsExtest cells) s = execWsExtest cells s := rfl
theorem exec_plId (s) : exec .plId s = selectInstr s true .id (fun w => { w with captured := idVersion }) := rfl
theorem exec_plTctrl (w s) : exec (.plTctrl w) s = selectInstr s true .tctrl (loadTctrl w) := rfl
theorem exec_plTstat (s) : exec .plTstat s = selectInstr s true .tstat (fun w => { w with captured := tstat w }) := rfl
theorem exec_plTresult (s) : exec .plTresult s = selectInstr s true .tresult id := rfl
theorem exec_plRepair (s) : exec .plRepair s = selectInstr s true .repair id := rfl

/-! ## Resets (R60, R62, R425, R434) -/

@[simp] theorem after_rst (s : State) : (after s).pins.rst = s.pins.rst := by simp [after]
@[simp] theorem after_fclkOk (s : State) : (after s).pins.fclkOk = s.pins.fclkOk := by simp [after]

/-- Under reset the clock handshake stands (R58). -/
theorem after_pwr_of_rst {s : State} (h : s.pins.rst = true) : (after s).pwr = s.pwr := by
  simp [after, settle, h]

/-- Under reset every interrupt output is 0 (R48, R62). -/
theorem irq_of_rst {s : State} (h : s.pins.rst = true) : irq s = 0 := by simp [irq, live, h]

/-- Asserting mac_rst_n puts every region in Off (R62). -/
theorem macroReset_off (s : State) (r : Region) : (rg (macroReset s) r).power.st = .off := by
  simp only [rg, macroReset, State.reset, vget_replicate]
  rfl

theorem aonReset_asserted (s : State) : ∃ t, exec (.aonReset true) s = .next t ∧ t.aon = aon0 ∧ t.pwr = pwr0 ∧ t.pins.rst = true ∧
    (∀ r, (rg t r).power.st = .off) ∧ t.frz.asserted = false ∧ t.frz.stopping = false ∧ irq t = 0 ∧ t.pending = s.pending := by
  refine ⟨after { macroReset s with aon := aon0, pwr := pwr0 }, rfl, by simp, after_pwr_of_rst rfl, by simp [macroReset], fun r => ?_,
    by simp [macroReset, State.reset, freeze0], by simp [macroReset, State.reset, freeze0], irq_of_rst (by simp [macroReset]),
    by simp [macroReset]⟩
  rw [rg_after]
  exact macroReset_off s r

theorem aonReset_released {s : State} (h : s.pins.rst = true) :
    exec (.aonReset false) s = .next (after { s with aon := { s.aon with rst := false } }) := by
  simp [exec_aonReset, execAonReset, h, finish_eq_after]

/-- The ledgers are always-on logic and stay (R60). -/
theorem macroReset_asserted (s : State) : ∃ t, exec .macroResetAssert s = .next t ∧ t.aon = s.aon ∧
    (∀ h, (stager t h).rise = (stager s h).rise ∧ (stager t h).fall = (stager s h).fall) ∧ t.pins.rst = true ∧
    (∀ r, (rg t r).power.st = .off) ∧ t.frz.asserted = false ∧ t.frz.stopping = false ∧ irq t = 0 ∧ t.flt = faults0 ∧
    t.meas = meas0 ∧ t.pending = s.pending := by
  refine ⟨after (macroReset s), rfl, by simp [macroReset], fun h => ?_, by simp [macroReset], fun r => ?_,
    by simp [macroReset, State.reset, freeze0], by simp [macroReset, State.reset, freeze0], irq_of_rst (by simp [macroReset]),
    by simp [macroReset, State.reset], by simp [macroReset, State.reset], by simp [macroReset]⟩
  · rw [stager, after_pwr_of_rst rfl]
    simp [stager, macroReset]
  · rw [rg_after]
    exact macroReset_off s r

/-- A count that wraps was all ones. -/
theorem succ_wraps (n : BitVec 32) : (n + 1 == 0) = (n == BitVec.allOnes 32) := by
  rw [Bool.eq_iff_iff, beq_iff_eq, beq_iff_eq]
  have ones : BitVec.allOnes 32 = 0xFFFFFFFF#32 := by decide
  rw [ones]
  constructor <;> intro h <;> bv_omega

theorem macroReset_released {s : State} (src : Bool) (hr : s.pins.rst = true) (ha : s.aon.rst = false) (hl : s.aon.lost = false) :
    ∃ t, exec (.macroResetRelease src) s = .next t ∧ t.pins.rst = false ∧ t.aon.bootCount = s.aon.bootCount + 1 ∧
      t.aon.bootWrap = (s.aon.bootWrap || s.aon.bootCount == BitVec.allOnes 32) ∧ t.gh.src = src ∧
      t.aon.sundial = s.aon.sundial ∧ t.mem = s.mem ∧ t.basin = s.basin := by
  have released : exec (.macroResetRelease src) s = .next (after (train (train { s with
      pins := { s.pins with rst := false }
      aon := { s.aon with bootCount := s.aon.bootCount + 1, bootWrap := s.aon.bootWrap || s.aon.bootCount + 1 == 0 }
      gh := { s.gh with src := src } } 0) 1)) := by
    simp [exec_macroResetRelease, execMacroResetRelease, hr, ha, hl, finish_eq_after]
  exact ⟨_, released, by simp [train], by simp [train], by simp only [after_aon, train, modDir_aon, succ_wraps], by simp [train],
    by simp [train], by simp [train], by simp [train]⟩

/-- Settles O7: each reset's assertion and its release. -/
theorem resetsLeave : Obligations.ResetsLeave := by
  unfold Obligations.ResetsLeave
  exact fun s => ⟨aonReset_asserted s, aonReset_released, macroReset_asserted s, macroReset_released⟩

/-! ## Clock pins and rails (R58, R64, R365, R409 to R412) -/

/-- A fault of a half: the West half's is recorded and asserts freeze, the East half's goes to the raise wires (R453). -/
theorem halfFault_recorded (s : State) (h : Half) (code unit : Nat) (detail : W32) :
    (h = 0 → (halfFault s h code unit detail).frz.asserted = true ∧ (halfFault s h code unit detail).flt.firstValid = true) ∧
      (h = 1 → (halfFault s h code unit detail).frz.east = s.frz.east ++ [faultRec code 3 1 unit 0 detail]) := by
  constructor
  · rintro rfl
    constructor
    · cases ha : s.frz.asserted <;> simp [halfFault, raise, recordFault, assertFreeze, ha]
    · obtain ⟨hf, -⟩ := recordFault_keeps s (faultRec code 3 0 unit 0 detail)
      have logged : ∀ f now rec, (logFault f now rec).firstValid = true := fun f now rec => by
        cases hv : f.firstValid <;> simp [logFault, hv]
      exact (congrArg Faults.firstValid hf).trans (logged _ _ _)
  · rintro rfl; rfl

theorem fclkOkRise_sets {s : State} {h : Half} (hok : vget s.pins.fclkOk h = false) :
    ∃ t, exec (.fclkOkRise h) s = .next t ∧ vget t.pins.fclkOk h = true ∧ t.mem = s.mem ∧ t.basin = s.basin ∧ t.flt = s.flt ∧
      t.frz = s.frz := by
  simp only [exec_fclkOkRise, execFclkOkRise, hok, Bool.false_eq_true, if_false, finish_eq_after]
  refine ⟨_, rfl, ?_⟩
  split <;> simp [train]

/-- No self-test runs in a live block, so none is aborted (R508, R509). -/
theorem abortRun_of_idle {s : State} (h : s.wrp.busy = false) : abortRun s = s := by simp [abortRun, h]

theorem basinZeroRegion_pins (s : State) (r : Region) : (basinZeroRegion s r).pins = s.pins := by unfold basinZeroRegion; split <;> rfl
theorem memZeroRegion_pins (s : State) (r : Region) : (memZeroRegion s r).pins = s.pins := by unfold memZeroRegion; split <;> rfl

theorem loseArrays_pins (s : State) : (loseArrays s).pins = s.pins := by
  refine foldl_keeps State.pins _ _ s fun u r => ?_
  exact (basinZeroRegion_pins _ r).trans ((memZeroRegion_pins _ r).trans rfl)

theorem abortRun_pins (s : State) : (abortRun s).pins = s.pins := by
  unfold abortRun
  split
  · exact loseArrays_pins _
  · rfl

theorem assertFreeze_pins (s : State) (c : Cause) : (assertFreeze s c).pins = s.pins := by unfold assertFreeze; split <;> rfl
theorem halfFault_pins (s : State) (h : Half) (code unit : Nat) (detail : W32) : (halfFault s h code unit detail).pins = s.pins := by
  unfold halfFault raise
  split
  · exact assertFreeze_pins _ _
  · rfl

theorem fclkOkFall_clears {s : State} {h : Half} (hok : vget s.pins.fclkOk h = true) :
    ∃ t, exec (.fclkOkFall h) s = .next t ∧ vget t.pins.fclkOk h = false ∧
      (live s = true → fclkNeed s h = true → (h = 0 → t.frz.asserted = true ∧ t.flt.firstValid = true) ∧
        (h = 1 → faultRec 0x13 3 1 1 0 0 ∈ t.frz.east)) := by
  simp only [exec_fclkOkFall, execFclkOkFall, hok, Bool.not_true, Bool.false_eq_true, if_false, finish_eq_after]
  refine ⟨_, rfl, ?_, fun hl hn => ?_⟩
  · rw [after_fclkOk]
    split <;> simp [halfFault_pins, train, abortRun_pins]
  · simp only [hl, hn, Bool.and_self, if_true, after_frz, after_flt]
    obtain ⟨west, east⟩ := halfFault_recorded (train (train (abortRun { s with
      pins := { s.pins with fclkOk := vset s.pins.fclkOk h false }
      slu := { s.slu with pos := vset s.slu.pos h (fv s 6 10) } }) 0) 1) h 0x13 h.val 0
    refine ⟨west, ?_⟩
    rintro rfl
    rw [east rfl]
    simp

theorem railLoss_keepsNothing (s : State) (h : Half) (rail : Rail) :
    ∃ t, exec (.railLoss h rail) s = .next t ∧ (∀ r, (rg t r).power.st = .off) ∧ t.frz = freeze0 ∧ t.flt = faults0 ∧
      t.aon.sundial = 0 ∧ t.aon.lost = true ∧ (h, rail) ∈ t.aon.bleed ∧ t.mem = [] ∧ t.pending = s.pending := by
  refine ⟨_, rfl, fun r => ?_, ?_⟩
  · rw [rg, settle_regions, step1_regions, State.reset, vget_replicate]
    rfl
  · rw [settle_frz, settle_flt, settle_aon, settle_mem, settle_pending]
    refine ⟨rfl, rfl, rfl, rfl, ?_, rfl, rfl⟩
    rw [step1_aon]
    dsimp only
    split
    next listed => exact List.contains_iff_mem.mp listed
    · simp

theorem railUndervolt_sets {s : State} {h : Half} {rail : Rail} (hl : live s = true) (hr : rail ≠ .vddaon) :
    ∃ t, exec (.railUndervolt h rail) s = .next t ∧ t.aon.rail = true ∧ t.mem = s.mem ∧ t.basin = s.basin := by
  have faulted := halfFault_store { s with aon := { s.aon with rail := true } } h 0x14 h.val (if rail = .vdda then 1 else 0)
  obtain ⟨hm, hb, ha, -⟩ := kept_after faulted
  refine ⟨_, ?_, by rw [ha], hm, hb⟩
  simp [exec_railUndervolt, execRailUndervolt, hl, hr, finish_eq_after]

/-- Settles O8: one lemma for each event. -/
theorem clockAndRailEvents : Obligations.ClockAndRailEvents := by
  unfold Obligations.ClockAndRailEvents
  exact fun s h rail => ⟨fclkOkRise_sets, fclkOkFall_clears, railLoss_keepsNothing s h rail, railUndervolt_sets⟩

/-! ## The wrapper (R54, R60, R505 to R509) -/

/-- An instruction that is no Plofa instruction, or one while test_mode is 1, enters the register (R505). -/
theorem selectInstr_enters {s : State} {plofa : Bool} {i : WsInstr} {f : Wrapper → Wrapper} (hr : s.wrp.rst = false)
    (h : plofa = false ∨ s.pins.testMode = true) :
    selectInstr s plofa i f = .next (after { s with wrp := f { s.wrp with instr := i } }) := by
  rcases h with h | h <;> simp [selectInstr, hr, h, finish_eq_after, modWrp]

/-- While test_mode is 0 a Plofa instruction acts as WS_BYPASS (R505). -/
theorem selectInstr_bypasses {s : State} {i : WsInstr} {f : Wrapper → Wrapper} (hr : s.wrp.rst = false) (h : s.pins.testMode = false) :
    selectInstr s true i f = .next (after { s with wrp := { s.wrp with instr := .bypass } }) := by
  simp [selectInstr, hr, h, finish_eq_after, modWrp]

theorem wrapperReset_clears {s : State} (h : s.wrp.busy = false) :
    exec (.wrapperReset true) s = .next (after { s with wrp := wrapper0 }) := by
  simp [exec_wrapperReset, execWrapperReset, h, abortRun_of_idle h, modWrp, finish_eq_after]

theorem testModeChange_sets {s : State} {v : Bool} (h : s.pins.rst = true) :
    exec (.testModeChange v) s = .next (after { s with pins := { s.pins with testMode := v } }) := by
  simp [exec_testModeChange, execTestModeChange, h, finish_eq_after]

/-- The test control register as the statement writes it (R506, R507). -/
theorem loadTctrl_eq (d : W32) (w : Wrapper) : loadTctrl d w = { w with
    mode := if d.extractLsb' 1 2 = 3 then w.mode else d.extractLsb' 1 2
    regions := d.extractLsb' 8 8
    wholeMem := d.getLsbD 16
    startReq := d.getLsbD 0 && !w.busy && decide (d.extractLsb' 1 2 ≠ 3)
    startErr := if d.getLsbD 0 then w.busy || decide (d.extractLsb' 1 2 = 3) else w.startErr } := by
  have reserved : (d.extractLsb' 1 2 == 3) = decide (d.extractLsb' 1 2 = 3) := rfl
  simp only [loadTctrl, reserved, decide_not, Bool.not_or, Bool.and_assoc]

/-- Settles O9: selectInstr says what every instruction of the wrapper has in common. -/
theorem wrapperInstructionsLoadTheirRegister : Obligations.WrapperInstructionsLoadTheirRegister := by
  unfold Obligations.WrapperInstructionsLoadTheirRegister
  intro s v bit cells w
  refine ⟨wrapperReset_clears, rfl, testModeChange_sets, fun hr => ⟨?bypass, ?extest, ?inactive, fun ht => ?plofa⟩⟩
  case bypass => rw [exec_wsBypass, selectInstr_enters hr (.inl rfl)]
  case extest =>
    rw [exec_wsExtest, execWsExtest, selectInstr_enters hr (.inl rfl)]
    exact ⟨_, by simp, rfl⟩
  case inactive =>
    simp only [List.forall_mem_cons, List.not_mem_nil, false_imp_iff, implies_true, and_true, exec_plId, exec_plTctrl, exec_plTstat,
      exec_plTresult, exec_plRepair]
    exact ⟨selectInstr_bypasses hr, selectInstr_bypasses hr, selectInstr_bypasses hr, selectInstr_bypasses hr, selectInstr_bypasses hr⟩
  case plofa =>
    rw [exec_plId, exec_plTctrl, exec_plTstat, exec_plTresult, exec_plRepair]
    iterate 5 rw [selectInstr_enters hr (.inr ht)]
    rw [loadTctrl_eq]
    exact ⟨rfl, rfl, rfl, rfl, rfl⟩

end Sys2Proof.Machine
end

section
/-! PROOF. The edge of sclk and the governor's interval (R60, R62, R187, R403 to R406, R414). -/

namespace Sys2Proof.Machine

/-! ## The arms of the edge and the interval -/

theorem exec_stagerEdge (s) : exec .stagerEdge s = execStagerEdge s := rfl
theorem exec_governorInterval (h s) : exec (.governorInterval h) s = execGovernorInterval h s := rfl

/-! ## The fault registers over the edge's operations -/

@[simp] theorem countM_flt (s : State) (e a n : Nat) : (countM s e a n).flt = s.flt := by unfold countM wrapFlag; dsimp only; split <;> rfl

section Wakes

variable {α : Type} (g : State → α) (hpw : ∀ s r f, g (modPw s r f) = g s) (hst : ∀ s h f, g (modStager s h f) = g s)
  (hcnt : ∀ s e a n, g (countM s e a n) = g s)
include hpw hst

theorem grantWake_keeps {s t : State} {r : Region} {n : Nat} (h : grantWake s r n = some t) : g t = g s := by
  unfold grantWake at h
  dsimp only at h
  split at h
  · split at h
    · rw [← Option.some.inj h, hpw, hst]
    · cases h
  · cases h

include hcnt

theorem grantBetween_keeps {s t : State} {r : Region} (h : grantBetween s r = some t) : g t = g s := by
  unfold grantBetween at h
  dsimp only at h
  split at h
  · cases h
  next u hg =>
    split at h
    · rw [← Option.some.inj h, hcnt, hst, grantWake_keeps g hpw hst hg]
    · cases h

/-- A wake request changes its region's power state, the stagers and the counters alone. -/
theorem wakeReq_keeps (s : State) (r : Region) : g (wakeReq s r) = g s := by
  have ended : g (endDownWait s r) = g s := by
    unfold endDownWait
    split
    · exact hpw s r _
    · rfl
  rw [← ended]
  unfold wakeReq
  dsimp only
  rw [← endDownWait]
  generalize endDownWait s r = u
  split
  · exact hpw u r _
  · split
    · rfl
    · split
      · split
        next hg => rw [grantBetween_keeps g hpw hst hcnt hg, hpw]
        · exact hpw u r _
      · exact hpw u r _

end Wakes

@[simp] theorem wakeReq_flt (s : State) (r : Region) : (wakeReq s r).flt = s.flt :=
  wakeReq_keeps State.flt (fun _ _ _ => rfl) (fun _ _ _ => rfl) countM_flt s r

theorem routePiece_flt (s : State) (pc : Piece) (a : BitVec 29) : (routePiece s pc a).flt = s.flt := by
  unfold routePiece
  split
  · exact wakeReq_flt _ _
  · rfl

theorem routeBeats_flt (s : State) (src : BSrc) (op : CellOp) (hp : Bool) (bs : List NBeat) : (routeBeats s src op hp bs).flt = s.flt :=
  foldl_keeps State.flt _ _ s fun u run => by
    split
    · exact routePiece_flt u _ _
    · rfl

theorem startGather_flt (s : State) (r : Region) (g : Gather) : (startGather s r g).flt = s.flt := by
  unfold startGather launchGather
  split
  · rfl
  · exact (routeBeats_flt _ _ _ _ _).trans (foldl_keeps State.flt _ _ _ fun _ _ => rfl)

theorem grantDown_flt (s : State) (r : Region) : (grantDown s r).flt = s.flt := by
  unfold grantDown
  dsimp only
  split
  · rfl
  · split
    · rfl
    · split
      · exact foldl_keeps State.flt _ _ _ fun u g => startGather_flt u r g
      · rfl

theorem grantFirsts_flt (h : Half) (rs : List Region) : ∀ s, (grantFirsts s h rs).1.flt = s.flt := by
  induction rs with
  | nil => exact fun _ => rfl
  | cons r rs ih =>
    intro s
    unfold grantFirsts
    split
    · rfl
    · split
      · rfl
      · split
        · exact ih _
        · rfl

theorem bookRest_flt (s : State) (h : Half) (f : FirstStep) : (bookRest s h f).flt = s.flt := by
  unfold bookRest
  dsimp only
  split
  · rfl
  · split <;> rfl

/-- Half h at an edge before its downward steps: first steps granted, later ones booked, the reserve and the allowance set (R404). -/
def edgeBooked (s : State) (h : Half) : State :=
  let granted := grantFirsts (turnStager s h) h (askOrder (turnStager s h) h)
  setAllowance (setReserve (granted.2.foldl (fun s g => bookRest s h g) granted.1) h) h

theorem edgeHalf_eq (s : State) (h : Half) : edgeHalf s h = ((idx 8).filter (fun r => halfOf r == h)).foldl grantDown
    (if anyPending (edgeBooked s h) h then countM (edgeBooked s h) 0x71 h.val 1 else edgeBooked s h) := rfl

theorem edgeBooked_flt (s : State) (h : Half) : (edgeBooked s h).flt = s.flt := by
  have turned : ∀ u, (turnStager u h).flt = u.flt := fun _ => rfl
  have reserved : ∀ u, (setAllowance (setReserve u h) h).flt = u.flt := fun _ => rfl
  rw [edgeBooked, reserved, foldl_keeps State.flt _ _ _ fun u g => bookRest_flt u h g, grantFirsts_flt, turned]

theorem edgeHalf_flt (s : State) (h : Half) : (edgeHalf s h).flt = s.flt := by
  rw [edgeHalf_eq, foldl_keeps State.flt _ _ _ grantDown_flt]
  split
  · rw [countM_flt, edgeBooked_flt]
  · exact edgeBooked_flt s h

/-! ## The edge -/

/-- What the stagers and the counts of ticks make of a state at an edge (R403, R404). -/
def edgeWork (s : State) : State := (idx 8).foldl tickPolicy (tickCounts (countM (edgeHalf (edgeHalf s 0) 1) 0x01 3 1))

theorem edgeWork_store (s : State) : store (edgeWork s) = store s :=
  (foldl_store _ _ _ tickPolicy_store).trans
    ((tickCounts_store _).trans ((countM_store _ _ _ _).trans ((edgeHalf_store _ _).trans (edgeHalf_store _ _))))

theorem edgeWork_flt (s : State) : (edgeWork s).flt = s.flt := by
  have policy : ∀ u r, (tickPolicy u r).flt = u.flt := fun u r => by unfold tickPolicy; dsimp only; split <;> rfl
  have counts : ∀ u, (tickCounts u).flt = u.flt := fun _ => rfl
  rw [edgeWork, foldl_keeps State.flt _ _ _ policy, counts, countM_flt, edgeHalf_flt, edgeHalf_flt]

/-- The steps of the tick that ends (R402, R403). -/
def edgeSteps (s : State) : State := if live s then (idx 8).foldl (passSteps 32) s else s

theorem edgeSteps_aon (s : State) : (edgeSteps s).aon = s.aon := by
  have passed : rest (edgeSteps s) = rest s := by
    unfold edgeSteps
    split
    · exact foldl_rest _ _ s fun u r => passSteps_rest 32 u r
    · rfl
  exact congrArg Prod.fst passed

/-- A region with no step booked passes none. -/
theorem passSteps_none {n : Nat} {s : State} {r : Region} (h : (rg s r).power.steps = []) : passSteps n s r = s := by
  cases n with
  | zero => rfl
  | succ n => simp only [passSteps, h]

theorem edgeSteps_none {s : State} (h : ∀ r, (rg s r).power.steps = []) : edgeSteps s = s := by
  have idle : ∀ r, passSteps 32 s r = s := fun r => passSteps_none (h r)
  unfold edgeSteps
  split
  · exact List.foldl_fixed' idle _
  · rfl

/-- The state once the tick's steps are made and the Sundial has advanced (R187). -/
def ticked (s : State) : State := { edgeSteps s with aon := { (edgeSteps s).aon with sundial := (edgeSteps s).aon.sundial + 1 } }

/-- The state an edge makes: in a live block the stagers act on the new tick. -/
def edged (s : State) : State := if live (ticked s) then edgeWork (ticked s) else ticked s

theorem stagerEdge_edged {s : State} (hr : s.aon.rst = false) (hl : s.aon.lost = false) : exec .stagerEdge s = .next (after (edged s)) := by
  rw [exec_stagerEdge, execStagerEdge, if_neg (by simp [hr, hl])]
  change (if (!live (ticked s)) = true then finish (ticked s) else finish (edgeWork (ticked s))) = _
  unfold edged
  cases live (ticked s) <;> rfl

theorem edged_store (s : State) : store (edged s) = store (ticked s) := by
  unfold edged
  split
  · exact edgeWork_store _
  · rfl

theorem edged_flt (s : State) : (edged s).flt = (edgeSteps s).flt := by
  unfold edged
  split
  · exact edgeWork_flt _
  · rfl

theorem stagerEdge_advances {s : State} (hr : s.aon.rst = false) (hl : s.aon.lost = false) :
    ∃ t, exec .stagerEdge s = .next t ∧ t.aon = { s.aon with sundial := s.aon.sundial + 1 } ∧
      ((∀ r, (rg s r).power.steps = []) → t.mem = s.mem ∧ t.basin = s.basin ∧ t.flt = s.flt) := by
  obtain ⟨hm, hb, ha, -⟩ := kept_after (edged_store s)
  refine ⟨_, stagerEdge_edged hr hl, ?_, fun none => ?_⟩
  · rw [ha, ticked, edgeSteps_aon]
  · rw [ticked, edgeSteps_none none] at hm hb
    exact ⟨hm, hb, by rw [after_flt, edged_flt, edgeSteps_none none]⟩

/-! ## The governor's interval (R405, R406, R414) -/

@[simp] theorem countM_pwr (s : State) (e a n : Nat) : (countM s e a n).pwr = s.pwr := by unfold countM wrapFlag; dsimp only; split <;> rfl

/-- The clock handshake writes FCLK_REQ of the power registers alone (R409). -/
theorem after_pwr (s : State) : ∃ q, (after s).pwr = { s.pwr with fclkReq := q } := by
  obtain ⟨n, q, e⟩ := settle_eq (step1 s)
  exact ⟨q, by rw [after, e]; rfl⟩

/-- The state after an interval of half h but for its counts. -/
def intervalEnded (s : State) (h : Half) : State :=
  let act := (gov s h).limited && (gov s h).byCeil
  { modStager s h (fun st => { st with gov := endInterval s h, ceilEff := ceilReg s h, ceilActive := act }) with
    pwr := { (modStager s h (fun st => { st with gov := endInterval s h, ceilEff := ceilReg s h, ceilActive := act })).pwr with
      ceiling := s.pwr.ceiling || (act && !(stager s h).ceilActive) } }

/-- A count of the interval's limit, where it was limited. -/
def intervalCounted (s : State) (h : Half) : State :=
  if (gov s h).limited && (gov s h).byCeil then countM (intervalEnded s h) 0x74 h.val 1
  else if (gov s h).limited then countM (intervalEnded s h) 0x73 h.val 1 else intervalEnded s h

theorem governorInterval_counts {s : State} {h : Half} (hc : clocked s h = true) :
    exec (.governorInterval h) s = .next (after (intervalCounted s h)) := by
  rw [exec_governorInterval, execGovernorInterval, if_neg (by simp [hc])]
  rfl

/-- The counts leave the power registers, the byte stores and the regions. -/
theorem intervalCounted_keeps (s : State) (h : Half) : (intervalCounted s h).pwr = (intervalEnded s h).pwr ∧
    store (intervalCounted s h) = store s ∧ (intervalCounted s h).regions = s.regions := by
  have counted : ∀ e, (countM (intervalEnded s h) e h.val 1).pwr = (intervalEnded s h).pwr ∧
      store (countM (intervalEnded s h) e h.val 1) = store s ∧ (countM (intervalEnded s h) e h.val 1).regions = s.regions :=
    fun e => ⟨countM_pwr _ _ _ _, countM_store _ _ _ _, countM_regions _ _ _ _⟩
  unfold intervalCounted
  split
  · exact counted _
  · split
    · exact counted _
    · exact ⟨rfl, rfl, rfl⟩

theorem governorInterval_takesCeiling {s : State} {h : Half} (hc : clocked s h = true) :
    ∃ t, exec (.governorInterval h) s = .next t ∧ (stager t h).ceilEff = (if h = 0 then s.pwr.ceilW else s.pwr.ceilE) ∧
      (stager t h).ceilActive = ((gov s h).limited && (gov s h).byCeil) ∧
      t.pwr.ceiling = (s.pwr.ceiling || ((gov s h).limited && (gov s h).byCeil && !(stager s h).ceilActive)) ∧
      (∀ r, vget (gov t h).act (inHalf r) = 0) ∧ t.mem = s.mem ∧ t.basin = s.basin ∧ t.regions = s.regions := by
  obtain ⟨counted, stores, regions⟩ := intervalCounted_keeps s h
  obtain ⟨hm, hb, -, -⟩ := kept_after stores
  obtain ⟨q, hq⟩ := after_pwr (intervalCounted s h)
  rw [counted] at hq
  have ended : stager (after (intervalCounted s h)) h =
      { stager s h with gov := endInterval s h, ceilEff := ceilReg s h, ceilActive := (gov s h).limited && (gov s h).byCeil } := by
    rw [stager, hq]
    exact vget_vmod_same _ _ _
  refine ⟨_, governorInterval_counts hc, ?_, ?_, ?_, fun r => ?_, hm, hb, by rw [after_regions, regions]⟩
  · rw [ended]; rfl
  · rw [ended]
  · rw [hq]; rfl
  · rw [gov, ended]
    simp [endInterval]

/-- Settles O12: the edge and the interval. -/
theorem sclkEdgeAdvancesTheSundial : Obligations.SclkEdgeAdvancesTheSundial := by
  unfold Obligations.SclkEdgeAdvancesTheSundial
  exact fun s h => ⟨stagerEdge_advances, governorInterval_takesCeiling⟩

end Sys2Proof.Machine
end

section
/-! PROOF. The Trellis registers (R170, R180 to R184). -/

namespace Sys2Proof.Machine

/-! ## The arms of the registers of a region -/

theorem exec_trellisDataWrite (port r d s) : exec (.trellisDataWrite port r d) s = execTrellisDataWrite port r d s := rfl
theorem exec_trellisDataRead (port r bad s) : exec (.trellisDataRead port r bad) s = execTrellisDataRead port r bad s := rfl
theorem exec_trellisDelayWrite (port r d s) : exec (.trellisDelayWrite port r d) s = execTrellisDelayWrite port r d s := rfl

/-! ## The holding register of a port (R46) -/

@[simp] theorem wideWrite_regions (s : State) (p : RegPort) (d : W64) : (wideWrite s p d).regions = s.regions := by
  unfold wideWrite; split <;> simp
@[simp] theorem wideRead_regions (s : State) (p : RegPort) : (wideRead s p).regions = s.regions := by
  unfold wideRead; split <;> simp
@[simp] theorem wideWrite_pln (s : State) (p : RegPort) (d : W64) : (wideWrite s p d).pln = s.pln := by
  unfold wideWrite; split <;> simp
@[simp] theorem wideRead_pln (s : State) (p : RegPort) : (wideRead s p).pln = s.pln := by
  unfold wideRead; split <;> simp
@[simp] theorem rg_wideWrite (s : State) (p : RegPort) (d : W64) (r : Region) : rg (wideWrite s p d) r = rg s r := by simp [rg]
@[simp] theorem rg_wideRead (s : State) (p : RegPort) (r : Region) : rg (wideRead s p) r = rg s r := by simp [rg]
@[simp] theorem inRun_wideWrite (s : State) (p : RegPort) (d : W64) (r : Region) : inRun (wideWrite s p d) r = inRun s r := by simp [inRun]
@[simp] theorem inRun_wideRead (s : State) (p : RegPort) (r : Region) : inRun (wideRead s p) r = inRun s r := by simp [inRun]
@[simp] theorem loadingR_wideWrite (s : State) (p : RegPort) (d : W64) (r : Region) : loadingR (wideWrite s p d) r = loadingR s r := by
  simp [loadingR]
@[simp] theorem loadingR_wideRead (s : State) (p : RegPort) (r : Region) : loadingR (wideRead s p) r = loadingR s r := by
  simp [loadingR]
@[simp] theorem frozen_wideRead (s : State) (p : RegPort) (h : Half) : frozen (wideRead s p) h = frozen s h := by
  unfold wideRead; split <;> simp [frozen]

@[simp] theorem trRefused_wideWrite (s : State) (p : RegPort) (d : W64) (r : Region) (w : Bool) :
    trRefused (wideWrite s p d) r w = trRefused s r w := by simp [trRefused, planned]
@[simp] theorem trRefused_wideRead (s : State) (p : RegPort) (r : Region) (w : Bool) : trRefused (wideRead s p) r w = trRefused s r w := by
  simp [trRefused, planned]

/-- A 64-bit access by two 32-bit ones leaves its upper half in the holding register (R46). -/
theorem wide_holds {port : RegPort} (h : port ≠ .cp) (s : State) (d : W64) :
    (rport (wideWrite s port d) port).hold = d.extractLsb' 32 32 ∧ (rport (wideRead s port) port).shape = .lower := by
  simp [wideWrite, wideRead, h]

/-! ## Entry words (R170) -/

/-- Setting the clear parity bit adds one to the ones of a word. -/
theorem ones_or_msb {v : W64} (h : v.getLsbD 63 = false) : ones (v ||| 0x8000000000000000) = ones v + 1 := by
  have low : ∀ i < 63, (v ||| 0x8000000000000000).getLsbD i = v.getLsbD i := fun i hi => by
    have clear : ∀ i < 63, (0x8000000000000000 : W64).getLsbD i = false := by decide
    rw [BitVec.getLsbD_or, clear i hi, Bool.or_false]
  have below : ∀ (a : Nat), ∀ i ∈ List.range 63,
      (if (v ||| 0x8000000000000000).getLsbD i then a + 1 else a) = if v.getLsbD i then a + 1 else a :=
    fun a i hi => by rw [low i (List.mem_range.mp hi)]
  have top : (v ||| 0x8000000000000000).getLsbD 63 = true := by
    have set : (0x8000000000000000 : W64).getLsbD 63 = true := by decide
    rw [BitVec.getLsbD_or, set, Bool.or_true]
  simp only [ones, List.range_succ (n := 63), List.foldl_append, List.foldl_cons, List.foldl_nil, top, h, if_true, Bool.false_eq_true,
    if_false]
  rw [List.foldl_ext _ _ 0 below]

/-- A word with DELAY replaced and the parity bit clear (R170). -/
def delayed (w : W64) (v : BitVec 4) : W64 := (w &&& ~~~(0x800000001E000000 : W64)) ||| field 25 v

theorem withDelay_eq (w : W64) (v : BitVec 4) :
    withDelay w v = if evenParity (delayed w v) then delayed w v else delayed w v ||| 0x8000000000000000 := rfl

theorem delayed_bit (w : W64) (v : BitVec 4) {i : Nat} (hi : i < 63) :
    (delayed w v).getLsbD i = if 25 ≤ i ∧ i < 29 then v.getLsbD (i - 25) else w.getLsbD i := by
  have mask : ∀ i < 63, (0x800000001E000000 : W64).getLsbD i = decide (25 ≤ i ∧ i < 29) := by decide
  have inside : i < 64 := by omega
  simp only [delayed, field, BitVec.getLsbD_or, BitVec.getLsbD_and, BitVec.getLsbD_not, BitVec.getLsbD_shiftLeft, BitVec.getLsbD_setWidth,
    mask i hi, inside, decide_true, Bool.true_and]
  by_cases h : 25 ≤ i ∧ i < 29
  · have low : ¬ i < 25 := by omega
    have off : i - 25 < 64 := by omega
    simp [h, low, off]
  · by_cases low : i < 25
    · simp [h, low]
    · have off : v.getLsbD (i - 25) = false := BitVec.getLsbD_of_ge _ _ (by omega)
      simp [h, low, off]

theorem delayed_msb (w : W64) (v : BitVec 4) : (delayed w v).getLsbD 63 = false := by
  simp [delayed, field]

theorem withDelay_bit (w : W64) (v : BitVec 4) {i : Nat} (hi : i < 63) :
    (withDelay w v).getLsbD i = if 25 ≤ i ∧ i < 29 then v.getLsbD (i - 25) else w.getLsbD i := by
  rw [withDelay_eq, ← delayed_bit w v hi]
  split
  · rfl
  · have clear : ∀ i < 63, (0x8000000000000000 : W64).getLsbD i = false := by decide
    rw [BitVec.getLsbD_or, clear i hi, Bool.or_false]

theorem withDelay_evenParity (w : W64) (v : BitVec 4) : evenParity (withDelay w v) = true := by
  rw [withDelay_eq]
  split
  next h => exact h
  next h =>
    simp only [evenParity, ones_or_msb (delayed_msb w v), beq_iff_eq] at h ⊢
    omega

/-- Bits of an entry word that the new DELAY leaves (R170). -/
theorem withDelay_other (w : W64) (v : BitVec 4) {lo n : Nat} (h : lo + n ≤ 25 ∨ 29 ≤ lo) (hn : lo + n ≤ 63) :
    (withDelay w v).extractLsb' lo n = w.extractLsb' lo n := by
  refine BitVec.eq_of_getLsbD_eq fun i hi => ?_
  have out : ¬ (25 ≤ lo + i ∧ lo + i < 29) := by omega
  rw [BitVec.getLsbD_extractLsb', BitVec.getLsbD_extractLsb', withDelay_bit w v (by omega), if_neg out]

theorem withDelay_delay (w : W64) (v : BitVec 4) : (withDelay w v).extractLsb' 25 4 = v := by
  refine BitVec.eq_of_getLsbD_eq fun i hi => ?_
  rw [BitVec.getLsbD_extractLsb', withDelay_bit w v (by omega), if_pos (by omega)]
  simp [hi]

/-! ## The registers (R180 to R184) -/

section Ready

variable {s : State} {port : RegPort} (hp : portReady s port = true) (r : Region)
include hp

theorem trellisDataRead_ready (bad : Bool) : exec (.trellisDataRead port r bad) s = .next (after (trRead (wideRead s port) port r bad)) := by
  simp [exec_trellisDataRead, execTrellisDataRead, hp, finish_eq_after]

theorem trellisDataWrite_ready (d : W64) : exec (.trellisDataWrite port r d) s = .next (after (trWrite (wideWrite s port d) port r d)) := by
  simp [exec_trellisDataWrite, execTrellisDataWrite, hp, finish_eq_after]

theorem trellisDelayWrite_ready (x : W32) : exec (.trellisDelayWrite port r x) s = .next (after (trDelay s port r x)) := by
  simp [exec_trellisDelayWrite, execTrellisDelayWrite, hp, finish_eq_after]

end Ready

/-- The word that a write of RG_TR_DATA would store is well formed (R180). -/
def trWord (s : State) (r : Region) (d : W64) : Bool :=
  if (rg s r).ev.trSpace then d.extractLsb' 32 32 == 0 else evenParity d && entryFieldsOk d

theorem trWord_index {s : State} {r : Region} (d : W64) (h : (rg s r).ev.trSpace = true) : trWord s r d = (d.extractLsb' 32 32 == 0) := by
  simp [trWord, h]

theorem trWord_entry {s : State} {r : Region} (d : W64) (h : (rg s r).ev.trSpace = false) :
    trWord s r d = (evenParity d && entryFieldsOk d) := by simp [trWord, h]

/-- What a write of RG_TR_DATA stores (R180). -/
def trStore (e : REvents) (d : W64) (p : PlanTabs) : PlanTabs :=
  if e.trSpace then { p with index := tset 0 p.index e.trEntry.toNat (lo32 d) } else { p with entry := tset 0 p.entry e.trEntry.toNat d }

/-- A write of RG_TR_DATA: refused, waiting for its region, or one word stored (R180). -/
theorem trWrite_eq (s : State) (port : RegPort) (r : Region) (d : W64) : trWrite s port r d =
    if trRefused s r true || !trWord s r d then busErr s port
    else if !inRun s r then waitWake s port r (.trWrite r d)
    else ack (modEv (modRg (wakeReq s r) r (fun g => { g with plan := trStore (rg s r).ev d g.plan })) r trStep) port := by
  have ill : (if (rg s r).ev.trSpace then d.extractLsb' 32 32 != 0 else !evenParity d || !entryFieldsOk d) = !trWord s r d := by
    unfold trWord
    split
    · rfl
    · rw [Bool.not_and]
  unfold trWrite
  dsimp only
  rw [ill]
  rfl

section Accesses

variable {s : State} {port : RegPort} {r : Region}

theorem trWord_wideWrite (d e : W64) : trWord (wideWrite s port e) r d = trWord s r d := by simp [trWord]

theorem trWrite_refused {d : W64} (h : trRefused s r true = true ∨ trWord s r d = false) :
    trWrite (wideWrite s port d) port r d = busErr (wideWrite s port d) port := by
  rw [trWrite_eq, trRefused_wideWrite, trWord_wideWrite]
  rcases h with h | h <;> simp [h]

theorem trWrite_waits {d : W64} (ha : trRefused s r true = false) (hw : trWord s r d = true) (hr : inRun s r = false) :
    trWrite (wideWrite s port d) port r d = wakeReq (holdAcc (wideWrite s port d) port (.trWrite r d)) r := by
  rw [trWrite_eq, trRefused_wideWrite, trWord_wideWrite, inRun_wideWrite]
  simp [ha, hw, hr, waitWake]

theorem trWrite_stores {d : W64} (ha : trRefused s r true = false) (hw : trWord s r d = true) (hr : inRun s r = true) :
    trWrite (wideWrite s port d) port r d = ack (modEv (modRg (wakeReq (wideWrite s port d) r) r (fun g =>
      { g with plan := trStore (rg s r).ev d g.plan })) r trStep) port := by
  rw [trWrite_eq, trRefused_wideWrite, trWord_wideWrite, inRun_wideWrite]
  simp [ha, hw, hr]

theorem trRead_refused (ha : trRefused s r false = true) (bad : Bool) :
    trRead (wideRead s port) port r bad = busErr (wideRead s port) port := by simp [trRead, ha]

theorem trRead_waits (ha : trRefused s r false = false) (hr : inRun s r = false) (bad : Bool) :
    trRead (wideRead s port) port r bad = wakeReq (holdAcc (wideRead s port) port (.trRead r bad)) r := by
  simp [trRead, ha, hr, waitWake]

theorem trRead_answers (ha : trRefused s r false = false) (hr : inRun s r = true) :
    trRead (wideRead s port) port r false = reply (modEv (wakeReq (wideRead s port) r) r trStep) port
        (if (rg s r).ev.trSpace then (tget 0 (rg s r).plan.index (rg s r).ev.trEntry.toNat).setWidth 64
          else tget 0 (rg s r).plan.entry (rg s r).ev.trEntry.toNat) ∧
      trRead (wideRead s port) port r true = busErr (regionFault (wakeReq (wideRead s port) r) r 8
        ((b1 (rg s r).ev.trSpace).setWidth 32 <<< 31 ||| (rg s r).ev.trEntry.setWidth 32)) port := by
  constructor <;> simp [trRead, ha, hr]

theorem trDelay_refused (x : W32) (h : trRefused s r true = true ∨ (rg s r).ev.trSpace = true) :
    trDelay s port r x = busErr s port := by
  rcases h with h | h <;> simp [trDelay, h]

theorem trDelay_waits (x : W32) (ha : trRefused s r true = false) (he : (rg s r).ev.trSpace = false) (hr : inRun s r = false) :
    trDelay s port r x = wakeReq (holdAcc s port (.trDelay r x)) r := by
  simp [trDelay, ha, he, hr, waitWake]

theorem trDelay_stores (x : W32) (ha : trRefused s r true = false) (he : (rg s r).ev.trSpace = false) (hr : inRun s r = true) :
    trDelay s port r x = ack (modEv (modRg (wakeReq s r) r (fun g => { g with plan := { g.plan with entry :=
      (tset 0 g.plan.entry (rg s r).ev.trEntry.toNat
        (withDelay (tget 0 g.plan.entry (rg s r).ev.trEntry.toNat) (x.extractLsb' 0 4))) } })) r trStep) port := by
  simp [trDelay, ha, he, hr]

end Accesses

/-- Settles O37: a register is read or written as trRead, trWrite and trDelay say. -/
theorem trellisRegisterAccesses : Obligations.TrellisRegisterAccesses := by
  unfold Obligations.TrellisRegisterAccesses
  intro s port r d x hp
  simp only [trellisDataRead_ready hp, trellisDataWrite_ready hp, trellisDelayWrite_ready hp]
  refine ⟨fun ha bad => ?_, fun ha => ?_, fun he hw => ?_, fun he hw => ?_, fun he => ?_, fun ha hr bad => ?_, fun ha hr => ?_,
    fun ha hr => ?_, fun ha hr => ?_, fun w v => ?_, fun h => wide_holds h s d⟩
  · rw [trRead_refused ha]
  · rw [trWrite_refused (.inl ha), trDelay_refused x (.inl ha)]
    exact ⟨rfl, rfl⟩
  · rw [trWrite_refused (.inr (by rw [trWord_entry d he, hw]))]
  · rw [trWrite_refused (.inr ((trWord_index d he).trans (beq_false_of_ne hw)))]
  · rw [trDelay_refused x (.inr he)]
  · rw [trRead_waits ha hr]
  · refine ⟨fun he hb hf => ?_, fun he hw => ?_⟩
    · rw [trWrite_waits ha (by simp [trWord_entry d he, hb, hf]) hr, trDelay_waits x ha he hr]
      exact ⟨rfl, rfl⟩
    · rw [trWrite_waits ha (by simp [trWord_index d he, hw]) hr]
  · obtain ⟨good, bad⟩ := trRead_answers (port := port) ha hr
    rw [good, bad]
    exact ⟨rfl, rfl⟩
  · refine ⟨fun he hb hf => ?_, fun he hw => ?_, fun he => ?_⟩
    · rw [trWrite_stores ha (by simp [trWord_entry d he, hb, hf]) hr]
      simp [trStore, he]
    · rw [trWrite_stores ha (by simp [trWord_index d he, hw]) hr]
      simp [trStore, he]
    · rw [trDelay_stores x ha he hr]
  · exact ⟨withDelay_evenParity w v, withDelay_delay w v, withDelay_other w v (.inl (by omega)) (by omega),
      withDelay_other w v (.inr (by omega)) (by omega)⟩

end Sys2Proof.Machine
end

section
/-! PROOF. The basin registers and the sweep store register (R208 to R217, R245, R246). -/

namespace Sys2Proof.Machine

/-! ## The arms of the registers -/

theorem exec_basinClear (port r d s) : exec (.basinClear port r d) s = execBasinClear port r d s := rfl
theorem exec_basinDataWrite (port r d s) : exec (.basinDataWrite port r d) s = execBasinDataWrite port r d s := rfl
theorem exec_basinDataRead (port r bad s) : exec (.basinDataRead port r bad) s = execBasinDataRead port r bad s := rfl
theorem exec_sweepDataRead (port r bad s) : exec (.sweepDataRead port r bad) s = execSweepDataRead port r bad s := rfl

section Ready

variable {s : State} {port : RegPort} (hp : portReady s port = true) (r : Region)
include hp

theorem basinClear_ready (m : W32) : exec (.basinClear port r m) s = .next (after (basinClr s port r m)) := by
  simp [exec_basinClear, execBasinClear, hp, finish_eq_after]

theorem basinDataWrite_ready (d : W64) : exec (.basinDataWrite port r d) s = .next (after (basinWr (wideWrite s port d) port r d)) := by
  simp [exec_basinDataWrite, execBasinDataWrite, hp, finish_eq_after]

theorem basinDataRead_ready (bad : Bool) : exec (.basinDataRead port r bad) s = .next (after (basinRd (wideRead s port) port r bad)) := by
  simp [exec_basinDataRead, execBasinDataRead, hp, finish_eq_after]

theorem sweepDataRead_ready (bad : Bool) : exec (.sweepDataRead port r bad) s = .next (after (sweepRdAcc s port r bad)) := by
  simp [exec_sweepDataRead, execSweepDataRead, hp, finish_eq_after]

end Ready

/-! ## The holding register of a port (R46) -/

@[simp] theorem fenced_wideWrite (s : State) (p : RegPort) (d : W64) (r : Region) (b : Blk) :
    fenced (wideWrite s p d) r b = fenced s r b := by simp [fenced]
@[simp] theorem fenced_wideRead (s : State) (p : RegPort) (r : Region) (b : Blk) : fenced (wideRead s p) r b = fenced s r b := by
  simp [fenced]
@[simp] theorem closing_wideWrite (s : State) (p : RegPort) (d : W64) (r : Region) : closing (wideWrite s p d) r = closing s r := by
  simp [closing]
@[simp] theorem closing_wideRead (s : State) (p : RegPort) (r : Region) : closing (wideRead s p) r = closing s r := by simp [closing]
@[simp] theorem basinGet_wideRead (s : State) (p : RegPort) (r : Region) (b : Blk) (j n : Nat) :
    basinGet (wideRead s p) r b j n = basinGet s r b j n := by
  unfold wideRead; split <;> simp [basinGet]

/-! ## Bytes of the basins (R199, R215) -/

@[simp] theorem canWrite_basinZero (s : State) (r : Region) (b : Blk) (j n : Nat) : canWrite (basinZero s r b j n) = canWrite s := by
  unfold basinZero; split <;> rfl

@[simp] theorem basinZero_regions (s : State) (r : Region) (b : Blk) (j n : Nat) : (basinZero s r b j n).regions = s.regions := by
  unfold basinZero; split <;> rfl

theorem basinZero_of_rail {s : State} (h : canWrite s = false) (r : Region) (b : Blk) (j n : Nat) : basinZero s r b j n = s := by
  simp [basinZero, h]

/-- A byte of a basin after a segment of one is zeroed. -/
theorem basinByte_basinZero (s : State) (r q : Region) (b c : Blk) (n j : Nat) (hn : n < 16) (hj : j < 16384) :
    basinByte (basinZero s r b (1024 * n) 1024) q c j =
      if canWrite s = true ∧ q = r ∧ c = b ∧ j / 1024 = n then 0 else basinByte s q c j := by
  by_cases hw : canWrite s = true
  · have inside : (basinAddr r b + 1024 * n ≤ basinAddr q c + j ∧ basinAddr q c + j < basinAddr r b + 1024 * n + 1024) ↔
        (q = r ∧ c = b ∧ j / 1024 = n) := by
      simp only [basinAddr, Fin.ext_iff]
      have := b.isLt
      have := c.isLt
      omega
    simp only [basinZero, hw, if_true, basinByte, tget_tclear, inside, true_and]
  · rw [basinZero_of_rail (by simpa using hw), if_neg (fun h => hw h.1)]

/-- The named segments of one basin set to zero (R215). -/
def zeroSegs (s : State) (r : Region) (b : Blk) (segs : BitVec 16) : List (Fin 16) → State :=
  List.foldl (fun s n => if segs.getLsbD n.val then basinZero s r b (1024 * n.val) 1024 else s) s

theorem basinClearSegs_eq (s : State) (r : Region) (segs : BitVec 16) : basinClearSegs s r segs = (idx 32).foldl (fun s b =>
    if bit32 (rg s r).lanes.clrBlk b && !fenced s r b then zeroSegs s r b segs (idx 16) else s) s := rfl

theorem zeroSegs_keeps (r : Region) (b : Blk) (segs : BitVec 16) (l : List (Fin 16)) (s : State) :
    canWrite (zeroSegs s r b segs l) = canWrite s ∧ (zeroSegs s r b segs l).regions = s.regions := by
  refine ⟨foldl_keeps canWrite _ l s fun u n => ?_, foldl_keeps State.regions _ l s fun u n => ?_⟩ <;> split <;> simp

theorem basinByte_zeroSegs (r q : Region) (b c : Blk) (segs : BitVec 16) (j : Nat) (hj : j < 16384) (l : List (Fin 16)) :
    ∀ s, basinByte (zeroSegs s r b segs l) q c j =
      if canWrite s = true ∧ q = r ∧ c = b ∧ segs.getLsbD (j / 1024) = true ∧ (∃ n ∈ l, j / 1024 = n.val) then 0
      else basinByte s q c j := by
  induction l with
  | nil => intro s; simp [zeroSegs]
  | cons n l ih =>
    intro s
    have step : zeroSegs s r b segs (n :: l) = zeroSegs (if segs.getLsbD n.val then basinZero s r b (1024 * n.val) 1024 else s) r b segs l := rfl
    rw [step, ih]
    by_cases hn : segs.getLsbD n.val = true
    · rw [if_pos hn, canWrite_basinZero, basinByte_basinZero s r q b c n.val j n.isLt hj, ← ite_or]
      refine if_congr ?_ rfl rfl
      have first : j / 1024 = n.val → segs.getLsbD (j / 1024) = true := fun e => e ▸ hn
      rw [List.exists_mem_cons_iff]
      generalize (∃ x ∈ l, j / 1024 = x.val) = later
      tauto
    · rw [if_neg hn]
      refine if_congr ?_ rfl rfl
      have other : segs.getLsbD (j / 1024) = true → ¬ j / 1024 = n.val := fun h e => hn (e ▸ h)
      rw [List.exists_mem_cons_iff]
      tauto

/-- The blocks that a write of RG_BASIN_CLR clears (R215). -/
def clears (s : State) (r : Region) (b : Blk) : Bool := bit32 (rg s r).lanes.clrBlk b && !fenced s r b

theorem clears_of_regions {s t : State} (h : t.regions = s.regions) (r : Region) : clears t r = clears s r := by
  funext b
  simp only [clears, fenced, rg, h]

theorem basinByte_clearSegs (r q : Region) (c : Blk) (segs : BitVec 16) (j : Nat) (hj : j < 16384) (l : List Blk) :
    ∀ s, basinByte (l.foldl (fun s b => if clears s r b then zeroSegs s r b segs (idx 16) else s) s) q c j =
      if canWrite s = true ∧ q = r ∧ c ∈ l ∧ clears s r c = true ∧ segs.getLsbD (j / 1024) = true then 0 else basinByte s q c j := by
  have segment : ∃ n ∈ idx 16, j / 1024 = (n : Fin 16).val := ⟨⟨j / 1024, by omega⟩, List.mem_finRange _, rfl⟩
  induction l with
  | nil => intro s; simp
  | cons b l ih =>
    intro s
    rw [List.foldl_cons, ih]
    obtain ⟨write, regions⟩ := zeroSegs_keeps r b segs (idx 16) s
    have same := congrFun (clears_of_regions regions r) c
    by_cases hb : clears s r b = true
    · rw [if_pos hb, write, same, basinByte_zeroSegs r q b c segs j hj]
      rw [← ite_or]
      refine if_congr ?_ rfl rfl
      have first : c = b → clears s r c = true := fun e => e ▸ hb
      rw [List.mem_cons]
      tauto
    · rw [if_neg hb]
      refine if_congr ?_ rfl rfl
      have other : clears s r c = true → ¬ c = b := fun h e => hb (e ▸ h)
      rw [List.mem_cons]
      tauto

theorem basinByte_basinClearSegs (s : State) (r q : Region) (c : Blk) (segs : BitVec 16) (j : Nat) (hj : j < 16384) :
    basinByte (basinClearSegs s r segs) q c j =
      if canWrite s = true ∧ q = r ∧ clears s r c = true ∧ segs.getLsbD (j / 1024) = true then 0 else basinByte s q c j := by
  have listed : c ∈ idx 32 := List.mem_finRange c
  exact (basinByte_clearSegs r q c segs j hj (idx 32) s).trans (if_congr (by simp only [listed, true_and]) rfl rfl)

/-- After a RAIL fault no basin is cleared (R412). -/
theorem basinClearSegs_of_rail {s : State} (h : canWrite s = false) (r : Region) (segs : BitVec 16) : basinClearSegs s r segs = s := by
  have still : ∀ b, zeroSegs s r b segs (idx 16) = s := fun b => List.foldl_fixed' (fun n => by rw [basinZero_of_rail h, ite_self]) _
  rw [basinClearSegs_eq]
  exact List.foldl_fixed' (fun b => by rw [still, ite_self]) _


/-! ## The registers -/

theorem canWrite_wakeReq (s : State) (r : Region) : canWrite (wakeReq s r) = canWrite s := by
  obtain ⟨-, -, ha, -⟩ := kept_of_store (wakeReq_store s r)
  rw [canWrite, ha, ← canWrite]

theorem clears_wakeReq (s : State) (r q : Region) : clears (wakeReq s r) q = clears s q := by
  obtain ⟨p, hp⟩ := wakeReq_powerOnly s r q
  funext b
  simp only [clears, fenced, hp]

theorem basinByte_wakeReq (s : State) (r q : Region) (b : Blk) (j : Nat) : basinByte (wakeReq s r) q b j = basinByte s q b j := by
  obtain ⟨-, hb, -, -⟩ := kept_of_store (wakeReq_store s r)
  rw [basinByte, hb, ← basinByte]

section Accesses

variable {s : State} {port : RegPort} {r : Region}

theorem basinClr_refused (m : W32) (h : loadingR s r = true ∨ frozen s (halfOf r) = true) : basinClr s port r m = busErr s port := by
  rcases h with h | h <;> simp [basinClr, h]

theorem basinClr_waits (m : W32) (hl : loadingR s r = false) (hf : frozen s (halfOf r) = false) :
    (inRun s r = false → basinClr s port r m = waitWake s port r (.basinClr r m)) ∧
      (inRun s r = true → closing s r = true → basinClr s port r m = holdAcc s port (.basinClr r m)) := by
  constructor
  · intro hr; simp [basinClr, hl, hf, hr]
  · intro hr hc; simp [basinClr, hl, hf, hr, hc]

/-- RG_BASIN_CLR zeroes the named segments of the named unfenced blocks (R210, R215). -/
theorem basinClr_clears (m : W32) (hl : loadingR s r = false) (hf : frozen s (halfOf r) = false) (hr : inRun s r = true)
    (hc : closing s r = false) :
    (after (basinClr s port r m)).mem = s.mem ∧
      (canWrite s = true → ∀ (b : Blk) (j : Nat), j < 16384 → basinByte (after (basinClr s port r m)) r b j =
        if bit32 (rg s r).lanes.clrBlk b && !fenced s r b && m.getLsbD (j / 1024) then 0 else basinByte s r b j) ∧
      (canWrite s = false → (after (basinClr s port r m)).basin = s.basin) ∧
      ∀ q, q ≠ r → ∀ (b : Blk) (j : Nat), j < 16384 → basinByte (after (basinClr s port r m)) q b j = basinByte s q b j := by
  have cleared : basinClr s port r m = ack (basinClearSegs (wakeReq s r) r (m.extractLsb' 0 16)) port := by
    simp [basinClr, hl, hf, hr, hc]
  have bytes : ∀ q b j, j < 16384 → basinByte (after (basinClr s port r m)) q b j =
      if canWrite s = true ∧ q = r ∧ clears s r b = true ∧ (m.extractLsb' 0 16).getLsbD (j / 1024) = true then 0
      else basinByte s q b j := fun q b j hj => by
    have same : basinByte (after (basinClr s port r m)) q b j = basinByte (basinClearSegs (wakeReq s r) r (m.extractLsb' 0 16)) q b j := by
      simp only [basinByte, after_basin, cleared, ack_basin]
    rw [same, basinByte_basinClearSegs _ r q b _ j hj, canWrite_wakeReq, clears_wakeReq, basinByte_wakeReq]
  refine ⟨?_, fun hw b j hj => ?_, fun hw => ?_, fun q hq b j hj => ?_⟩
  · rw [after_mem, (basinClr_retryKeeps s port r m).mem]
  · rw [bytes r b j hj]
    refine if_congr ?_ rfl rfl
    have seg : j / 1024 < 16 := by omega
    simp [hw, clears, seg]
  · obtain ⟨-, hb, -, -⟩ := kept_of_store (wakeReq_store s r)
    rw [after_basin, cleared, ack_basin, basinClearSegs_of_rail (by rw [canWrite_wakeReq, hw]), hb]
  · rw [bytes q b j hj, if_neg (fun h => hq h.2.1)]

theorem basinWr_refused (d : W64) (h : loadingR s r = true ∨ frozen s (halfOf r) = true ∨ fenced s r (rg s r).lanes.block = true) :
    basinWr (wideWrite s port d) port r d = busErr (wideWrite s port d) port := by
  rcases h with h | h | h <;> simp [basinWr, h]

theorem basinWr_performed (d : W64) (hl : loadingR s r = false) (hf : frozen s (halfOf r) = false)
    (hb : fenced s r (rg s r).lanes.block = false) :
    (inRun s r = false → basinWr (wideWrite s port d) port r d = waitWake (wideWrite s port d) port r (.basinWr r d)) ∧
      (inRun s r = true → closing s r = true →
        basinWr (wideWrite s port d) port r d = holdAcc (wideWrite s port d) port (.basinWr r d)) ∧
      (inRun s r = true → closing s r = false → basinWr (wideWrite s port d) port r d =
        ack (basinStep (basinPut (wakeReq (wideWrite s port d) r) r (rg s r).lanes.block (8 * (rg s r).lanes.word.toNat) (bytesOf d 8)) r)
          port) := by
  refine ⟨fun hr => ?_, fun hr hc => ?_, fun hr hc => ?_⟩
  · simp [basinWr, hl, hf, hb, hr]
  · simp [basinWr, hl, hf, hb, hr, hc]
  · simp [basinWr, hl, hf, hb, hr, hc]

theorem basinRd_refused (bad : Bool) (h : loadingR s r = true ∨ fenced s r (rg s r).lanes.block = true) :
    basinRd (wideRead s port) port r bad = busErr (wideRead s port) port := by
  rcases h with h | h <;> simp [basinRd, h]

theorem basinRd_waits (bad : Bool) (hl : loadingR s r = false) (hb : fenced s r (rg s r).lanes.block = false) :
    (inRun s r = false → basinRd (wideRead s port) port r bad = waitWake (wideRead s port) port r (.basinRd r bad)) ∧
      (inRun s r = true → closing s r = true →
        basinRd (wideRead s port) port r bad = holdAcc (wideRead s port) port (.basinRd r bad)) := by
  constructor
  · intro hr; simp [basinRd, hl, hb, hr]
  · intro hr hc; simp [basinRd, hl, hb, hr, hc]

theorem basinRd_answers (hl : loadingR s r = false) (hb : fenced s r (rg s r).lanes.block = false) (hr : inRun s r = true)
    (hc : closing s r = false) :
    basinRd (wideRead s port) port r false = reply (basinStep (wakeReq (wideRead s port) r) r) port
        (wordOf 64 (basinGet s r (rg s r).lanes.block (8 * (rg s r).lanes.word.toNat) 8)) ∧
      basinRd (wideRead s port) port r true = busErr (blockFault (wakeReq (wideRead s port) r) r (rg s r).lanes.block 2 1 0
        ((rg s r).lanes.word.setWidth 32)) port := by
  constructor <;> simp [basinRd, hl, hb, hr, hc]

/-- A read of RG_SWEEP_DATA is refused (R245, R246). -/
def sweepRefused (s : State) (r : Region) : Bool :=
  loadingR s r || !planned s r || ((rg s r).sweep.space != 2 && fenced s r (rg s r).sweep.block) ||
    decide (sweepWords (rg s r).sweep.space ≤ (rg s r).sweep.word.toNat)

theorem sweepRdAcc_eq (bad : Bool) : sweepRdAcc s port r bad =
    if sweepRefused s r then busErr s port
    else if !inRun s r then waitWake s port r (.sweepRd r bad)
    else if bad then busErr (blockFault (wakeReq s r) r (rg s r).sweep.block 4 1 0
      (((rg s r).sweep.space.setWidth 32) <<< 16 ||| (rg s r).sweep.word.setWidth 32)) port
    else reply (sweepStep (wakeReq s r) r) port ((sweepStored s r).setWidth 64) := rfl

end Accesses

/-- Settles O43: one lemma for each register, for its refusals, its waits and its effect. -/
theorem basinAndSweepStoreRegisters : Obligations.BasinAndSweepStoreRegisters := by
  unfold Obligations.BasinAndSweepStoreRegisters
  intro s port r m d hp
  simp only [basinClear_ready hp, basinDataWrite_ready hp, basinDataRead_ready hp, sweepDataRead_ready hp]
  refine ⟨fun h => ?_, fun h => ?_, fun hl hf => ⟨fun hr => ?_, fun hr hc => ?_, fun hr hc => ?_⟩,
    fun hl hb => ⟨fun hr bad => ?_, fun hr hc bad => ?_, fun hr hc => ?_⟩, fun h bad => ?_, fun h hr bad => ?_, fun h hr => ?_⟩
  · rw [basinClr_refused m h, basinWr_refused d (h.imp_right .inl)]
    exact ⟨rfl, rfl⟩
  · rw [basinWr_refused d (h.imp_right .inr)]
    exact ⟨rfl, fun bad => by rw [basinRd_refused bad h]⟩
  · rw [(basinClr_waits m hl hf).1 hr]
    exact ⟨rfl, fun hb => by rw [(basinWr_performed d hl hf hb).1 hr]⟩
  · rw [(basinClr_waits m hl hf).2 hr hc]
    exact ⟨rfl, fun hb => by rw [(basinWr_performed d hl hf hb).2.1 hr hc]⟩
  · exact ⟨⟨_, rfl, basinClr_clears m hl hf hr hc⟩, fun hb => by rw [(basinWr_performed d hl hf hb).2.2 hr hc]⟩
  · rw [(basinRd_waits bad hl hb).1 hr]
  · rw [(basinRd_waits bad hl hb).2 hr hc]
  · obtain ⟨good, bad⟩ := basinRd_answers (port := port) hl hb hr hc
    rw [good, bad]
    exact ⟨rfl, rfl⟩
  · rw [sweepRdAcc_eq, sweepRefused, if_pos h]
  · rw [sweepRdAcc_eq, sweepRefused, h, hr]
    rfl
  · rw [sweepRdAcc_eq, sweepRdAcc_eq, sweepRefused, h, hr]
    exact ⟨rfl, rfl⟩

end Sys2Proof.Machine
end

section
/-! PROOF. Requests join their port, and response beats leave it (R33, R36, R43, R108 to R125, R294). -/

namespace Sys2Proof.Machine

/-! ## The arms of the engine ports -/

theorem exec_write (p q s) : exec (.write p q) s = execWrite p q s := rfl
theorem exec_responseBeatTaken (p ch id s) : exec (.responseBeatTaken p ch id) s = execResponseBeatTaken p ch id s := rfl

/-! ## A request joins (R111, R112, R294) -/

/-- The scopes' issue counts before a request joins: those of a write are counted (R294). -/
def issued (s : State) (p : EPort) (op : ReqOp) (q : ReqF) (w : Option WBeat) : State :=
  if writes op && !requestBad op q w then
    issueWrite s p (ep s p).nextSeq (scopesOf p ((reqPlaces s q (answerBeats op q)).map (·.region)))
  else s

/-- A request at port p is offered to the tag buffer (R488). -/
def offered (s : State) (p : EPort) : State × Bool := if isCandidate s false p.val then candidate s else (s, false)

/-- The request that joins without write data at a port which is to give it this number. -/
def newReq (u : State) (p : EPort) (seq : Nat) (op : ReqOp) (q : ReqF) (tag : Bool) : EReq :=
  { seq := seq, op := op, q := q, stage := .sluice, got := [], carry := [], broke := false, begun := false, fwd := 0,
    res := List.replicate (answerBeats op q) none, taken := 0, detached := false, gather := none,
    stamp := vget (ep u p).ret.issue (if q.top = 2 then 0 else if q.top = 1 then 1 else 2), stampAll := vget (ep u p).ret.issue 2,
    tagged := tag, mark := 0 }

/-- The request without write data that joins port p of s. -/
def joining (s : State) (p : EPort) (op : ReqOp) (q : ReqF) : EReq :=
  newReq (offered (issued s p op q none) p).1 p (ep s p).nextSeq op q (offered (issued s p op q none) p).2

theorem takeReq_none (s : State) (p : EPort) (op : ReqOp) (q : ReqF) : takeReq s p op q none =
    modEp (offered (issued s p op q none) p).1 p (fun x =>
      { x with reqs := x.reqs ++ [joining s p op q], nextSeq := (ep s p).nextSeq + 1 }) := by
  unfold takeReq joining newReq
  cases (needsData (ep s p)).isNone <;> rfl

/-- The request joins at the end: counting the issue and offering the tag leave the requests outstanding. -/
theorem takeReq_reqs (s : State) (p : EPort) (op : ReqOp) (q : ReqF) :
    (ep (takeReq s p op q none) p).reqs = (ep s p).reqs ++ [joining s p op q] := by
  have offers : ∀ v, ep (offered v p).1 p = ep v p := fun v => by unfold offered; split <;> rfl
  have counts : (ep (issued s p op q none) p).reqs = (ep s p).reqs := by
    unfold issued issueWrite
    split
    · rw [ep_modEp_same]
    · rfl
  rw [takeReq_none, ep_modEp_same, offers, counts]

/-- The block in service, no command given yet. -/
def inService : State :=
  { State.reset with
    pins := ⟨false, false, Vector.replicate 2 true, Vector.replicate 2 true⟩
    aon := { aon0 with rst := false } }

/-- A write of one beat at address 0. -/
def oneBeat : ReqF := ⟨0, 0, 0, 0, false⟩

/-- Refutes O16: a write that transfers is counted in the issue counts of its port before it takes them (R294), so the count that
the request carries is 1 where the statement has the port's count before the command, 0. -/
theorem not_requestJoinsItsPort : ¬ Obligations.RequestJoinsItsPort := by
  unfold Obligations.RequestJoinsItsPort
  intro h
  have ready : engineReady inService 0 = true := by decide +kernel
  obtain ⟨-, -, writes, -⟩ := (h inService 0 oneBeat 0).1 ready
  obtain ⟨t, ht, -, -, -, -, -, e, joins, -, -, -, -, -, -, -, -, -, stamped, -⟩ := writes (.inl rfl)
  rw [exec_write, execWrite, if_pos (.inl rfl), presentReq, if_pos ready, finish_eq_after, Host.Outcome.next.injEq] at ht
  rw [← ht, ep_after, takeReq_reqs, List.append_cancel_left_eq, List.singleton_inj] at joins
  rw [← joins] at stamped
  have counted : (joining inService 0 .write oneBeat).stampAll = 1 := by decide +kernel
  have before : vget (ep inService 0).ret.issue 2 = 0 := by decide +kernel
  rw [counted, before] at stamped
  exact absurd stamped (by decide)

/-! ## Response beats (R112, R113, R125) -/

/-- The numbers of the requests outstanding at a port. -/
def seqs (s : State) (p : EPort) : List Nat := (ep s p).reqs.map (·.seq)

theorem seqs_modReq (s : State) (q p : EPort) (n : Nat) (f : EReq → EReq) (hf : ∀ e, (f e).seq = e.seq) :
    seqs (modReq s q n f) p = seqs s p := by
  unfold seqs modReq
  rw [ep_modEp]
  split
  · rw [List.map_map]
    refine List.map_congr_left fun e _ => ?_
    rw [Function.comp_apply]
    split
    · exact hf e
    · rfl
  · rfl

/-- A member that falls behind stays outstanding until its DETACHED beat is taken (R125). -/
theorem seqs_detachSlow (s : State) (r : Region) (g : Gather) (p : EPort) : seqs (detachSlow s r g) p = seqs s p := by
  refine foldl_keeps (fun u => seqs u p) _ _ s fun u m => ?_
  split
  · split
    · rfl
    · exact seqs_modReq u m.1 p m.2 _ fun _ => rfl
  · rfl

/-- The request whose last beat is taken leaves its port. -/
def lastTaken (s : State) (p : EPort) (ch : Channel) (e : EReq) : State :=
  modEp (tagRequest s p e true) p (fun x =>
    { x with reqs := x.reqs.filter (fun y => y.seq != e.seq), cur := if ch = .rd then none else x.cur })

theorem seqs_lastTaken (s : State) (p : EPort) (ch : Channel) (e : EReq) : e.seq ∉ seqs (lastTaken s p ch e) p := by
  rw [seqs, lastTaken, ep_modEp_same, List.mem_map]
  rintro ⟨y, hy, h⟩
  have := (List.mem_filter.mp hy).2
  simp [h] at this

section Responses

variable {s : State} {p : EPort} {ch : Channel} {id : BitVec 6}

theorem takeResponse_none (h : nextResp (ep s p) ch id = none) : takeResponse p ch id s = .next s := by simp [takeResponse, h, skip]

theorem takeResponse_waits {e : EReq} (h : nextResp (ep s p) ch id = some e) (hr : respReady e = false) :
    takeResponse p ch id s = .next s := by simp [takeResponse, h, hr, skip]

variable (hc : clocked s (portHalf p) = true)
include hc

theorem takeResponse_last {e : EReq} (h : nextResp (ep s p) ch id = some e) (hr : respReady e = true) (hl : (respBeat e).2.2 = true) :
    ∃ t, takeResponse p ch id s = .next t ∧ kept s t ∧ ∀ y ∈ (ep t p).reqs, y.seq ≠ e.seq := by
  have stored : store (lastTaken s p ch e) = store s := tagRequest_store s p e true
  have ends : ∀ t, store t = store s → seqs t p = seqs (lastTaken s p ch e) p →
      ∃ v, finish t = .next v ∧ kept s v ∧ ∀ y ∈ (ep v p).reqs, y.seq ≠ e.seq := fun t ht hs => by
    refine ⟨after t, rfl, kept_after ht, fun y hy hy' => seqs_lastTaken s p ch e ?_⟩
    rw [ep_after] at hy
    rw [← hs, ← hy']
    exact List.mem_map_of_mem hy
  simp only [takeResponse, hc, h, hr, hl, Bool.not_true, Bool.false_eq_true, if_false, if_true]
  rw [← lastTaken]
  split
  · exact ends _ stored rfl
  · split
    · exact ends _ stored rfl
    · exact ends _ ((closeGather_store _ _ _).trans ((detachSlow_store _ _ _).trans stored)) (seqs_detachSlow _ _ _ p)

theorem takeResponse_middle {e : EReq} (h : nextResp (ep s p) ch id = some e) (hr : respReady e = true) (hl : (respBeat e).2.2 = false)
    (hg : e.gather = none) : takeResponse p ch id s =
      .next (after (modEp (modReq s p e.seq (fun y => { y with taken := y.taken + 1 })) p (fun x => { x with cur := some e.seq }))) := by
  simp [takeResponse, hc, h, hr, hl, hg, finish_eq_after]

end Responses

/-- Both response channels of an engine port are served alike. -/
theorem responseBeatTaken_engine {ch : Channel} (h : ch = .rd ∨ ch = .wr) (p : EPort) (id : BitVec 6) (s : State) :
    exec (.responseBeatTaken p ch id) s = takeResponse p ch id s := by
  rcases h with rfl | rfl <;> rfl

theorem responseBeatTaken_reg (p : EPort) (port : RegPort) (id : BitVec 6) (s : State) :
    exec (.responseBeatTaken p (.reg port) id) s = takeRegRsp port s := rfl

/-- Settles O19: an engine port's beat and a register port's response. -/
theorem lastResponseBeatEndsTheRequest : Obligations.LastResponseBeatEndsTheRequest := by
  unfold Obligations.LastResponseBeatEndsTheRequest
  intro s p ch id
  refine ⟨fun hc hch => ?_, fun port => ⟨fun h => ?_, fun a more hl h => ?_⟩⟩
  · rw [responseBeatTaken_engine hch]
    exact ⟨takeResponse_none, fun e h => ⟨takeResponse_waits h, fun hr => ⟨takeResponse_last hc h hr, takeResponse_middle hc h hr⟩⟩⟩
  · simp [responseBeatTaken_reg, takeRegRsp, h, skip]
  · simp [responseBeatTaken_reg, takeRegRsp, h, hl, finish_eq_after]

end Sys2Proof.Machine
end

section
/-! PROOF. Events are routed, placed and leave, and models switch (R38, R39, R75, R76, R103 to R107, R153, R163 to R166, R176, R185, R235). -/

namespace Sys2Proof.Machine

/-! ## The arms of the event path -/

theorem exec_eventIngress (n w s) : exec (.eventIngress n w) s = execEventIngress n w s := rfl
theorem exec_copyPlaced (n dst bad s) : exec (.copyPlaced n dst bad) s = execCopyPlaced n dst bad s := rfl
theorem exec_emitBufferPass (r b bad s) : exec (.emitBufferPass r b bad) s = execEmitBufferPass r b bad s := rfl
theorem exec_egressEventTaken (n s) : exec (.egressEventTaken n) s = execEgressEventTaken n s := rfl
theorem exec_modelSwitch (port r d s) : exec (.modelSwitch port r d) s = execModelSwitch port r d s := rfl
theorem exec_modelSwitchComplete (r s) : exec (.modelSwitchComplete r) s = execModelSwitchComplete r s := rfl

@[simp] theorem after_ingress (s : State) : (after s).ingress = s.ingress := by simp [after]
@[simp] theorem after_egress (s : State) : (after s).egress = s.egress := by simp [after]
@[simp] theorem countM_ingress (s : State) (e a n : Nat) : (countM s e a n).ingress = s.ingress := by
  unfold countM wrapFlag; dsimp only; split <;> rfl
@[simp] theorem countM_egress (s : State) (e a n : Nat) : (countM s e a n).egress = s.egress := by
  unfold countM wrapFlag; dsimp only; split <;> rfl

/-! ## Two updates of one region -/

/-- What an update does to a region depends on its value there. -/
theorem modRg_congr {s : State} {r : Region} {f g : RegionSt → RegionSt} (h : f (rg s r) = g (rg s r)) : modRg s r f = modRg s r g := by
  simp only [rg] at h
  simp only [modRg, vmod, h]

theorem vset_vset {α : Type} {n : Nat} (v : Vector α n) (i : Fin n) (x y : α) : vset (vset v i x) i y = vset v i y := by
  simp [vset]

theorem modRg_modRg (s : State) (r : Region) (f g : RegionSt → RegionSt) : modRg (modRg s r f) r g = modRg s r (fun x => g (f x)) := by
  simp [modRg, vmod, vset_vset]

/-! ## Ingress (R38, R163) -/

/-- An event that transferred, counted. -/
def eventCounted (s : State) (n : EvPort) : State := countM s 0x41 n.val 1

/-- A counted event, offered to the tag buffer (R488). -/
def eventOffered (u : State) (n : EvPort) : State × Bool := if isCandidate u true n.val then candidate u else (u, false)

/-- The tag of an event opens, where it has one (R488). -/
def tagOpened (o : State × Bool) (n : EvPort) (m : Byte) : State :=
  if o.2 then { o.1 with cnt := { o.1.cnt with
    nextTag := o.1.cnt.nextTag + 1, open_ := o.1.cnt.open_ ++ [(o.1.cnt.nextTag, n, lowRegion m, none, 0)] } }
  else o.1

/-- The entry of an event with these destinations. -/
def ingressEntry (o : State × Bool) (n : EvPort) (w : W64) (m : Byte) : InEvent :=
  ⟨w, m &&& halfMask (evHalf n), m &&& halfMask (other (evHalf n)), boundaryOf (tagOpened o n m) (evHalf n),
    if o.2 then some o.1.cnt.nextTag else none, lowRegion m⟩

theorem eventCounted_keeps (s : State) (n : EvPort) : store (eventCounted s n) = store s ∧ (eventCounted s n).ingress = s.ingress ∧
    (eventCounted s n).regions = s.regions := by
  unfold eventCounted
  exact ⟨countM_store s 0x41 n.val 1, countM_ingress s 0x41 n.val 1, countM_regions s 0x41 n.val 1⟩

/-- The tag buffer's count leaves the stores, the regions and the ingress buffers. -/
theorem eventOffered_keeps (u : State) (n : EvPort) : store (eventOffered u n).1 = store u ∧ (eventOffered u n).1.ingress = u.ingress ∧
    (eventOffered u n).1.regions = u.regions := by
  unfold eventOffered
  split
  · exact ⟨candidate_store u, rfl, rfl⟩
  · exact ⟨rfl, rfl, rfl⟩

theorem tagOpened_keeps (o : State × Bool) (n : EvPort) (m : Byte) : store (tagOpened o n m) = store o.1 ∧
    (tagOpened o n m).ingress = o.1.ingress ∧ (tagOpened o n m).regions = o.1.regions := by
  unfold tagOpened
  split <;> exact ⟨rfl, rfl, rfl⟩

section Ingress

variable {s : State} {n : EvPort} (w : W64)

theorem eventIngress_waits (h : ingressReady s n = false) : execEventIngress n w s = .next s := by simp [execEventIngress, h, skip]

/-- An accepted event is counted and offered to the tag buffer; then it is discarded, or joins its port's buffer. -/
theorem eventIngress_eq (h : ingressReady s n = true) : execEventIngress n w s =
    let o := eventOffered (eventCounted s n) n
    let m := routeMask s.map (evSrc w)
    if m = 0 then finish (countM o.1 0x40 0 1)
    else finish { tagOpened o n m with ingress := vmod (tagOpened o n m).ingress n (· ++ [ingressEntry o n w m]) } := by
  rw [execEventIngress, if_neg (by simp [h]), eventCounted, eventOffered]
  generalize countM s 0x41 n.val 1 = u
  dsimp only
  generalize (if isCandidate u true n.val then candidate u else (u, false)) = o
  obtain ⟨v, tag⟩ := o
  cases tag <;> simp [tagOpened, ingressEntry]

/-- An event that no route entry names is discarded (R75). -/
theorem eventIngress_discards (h : ingressReady s n = true) (hm : routeMask s.map (evSrc w) = 0) :
    ∃ t, execEventIngress n w s = .next t ∧ kept s t ∧ t.ingress = s.ingress ∧ t.regions = s.regions := by
  obtain ⟨counted, ingress, regions⟩ := eventCounted_keeps s n
  obtain ⟨offered, ingress', regions'⟩ := eventOffered_keeps (eventCounted s n) n
  rw [eventIngress_eq w h]
  generalize eventOffered (eventCounted s n) n = o at offered ingress' regions' ⊢
  refine ⟨after (countM o.1 0x40 0 1), by simp [hm, finish_eq_after],
    kept_after ((countM_store o.1 0x40 0 1).trans (offered.trans counted)), ?_, ?_⟩
  · rw [after_ingress, countM_ingress, ingress', ingress]
  · rw [after_regions, countM_regions, regions', regions]

theorem eventIngress_appends (h : ingressReady s n = true) (hm : routeMask s.map (evSrc w) ≠ 0) :
    ∃ t e, execEventIngress n w s = .next t ∧ kept s t ∧ t.regions = s.regions ∧
      t.ingress = vset s.ingress n (vget s.ingress n ++ [e]) ∧ e.ev = w ∧ e.near = routeMask s.map (evSrc w) &&& halfMask (evHalf n) ∧
      e.far = routeMask s.map (evSrc w) &&& halfMask (other (evHalf n)) := by
  obtain ⟨counted, ingress, regions⟩ := eventCounted_keeps s n
  obtain ⟨offered, ingress', regions'⟩ := eventOffered_keeps (eventCounted s n) n
  rw [eventIngress_eq w h]
  generalize eventOffered (eventCounted s n) n = o at offered ingress' regions' ⊢
  generalize routeMask s.map (evSrc w) = m at hm ⊢
  obtain ⟨opened, ingress'', regions''⟩ := tagOpened_keeps o n m
  refine ⟨after { tagOpened o n m with ingress := vmod (tagOpened o n m).ingress n (· ++ [ingressEntry o n w m]) }, ingressEntry o n w m,
    by simp only [hm, if_false, finish_eq_after], kept_after (opened.trans (offered.trans counted)), ?_, ?_, rfl, rfl, rfl⟩
  · rw [after_regions]
    exact regions''.trans (regions'.trans regions)
  · rw [after_ingress]
    dsimp only
    rw [ingress'', ingress', ingress, vmod]

end Ingress

/-! ## Placing (R153, R164, R165) -/

section Placing

variable {s : State} {n : EvPort} {e : InEvent} {es : List InEvent} (hc : clocked s (evHalf n) = true)
  (hf : frozen s (evHalf n) = false) (hn : vget s.ingress n = e :: es)
include hc hf hn

theorem copyPlaced_region_waits {r : Region} (h : mayPlace s r e = false ∨ hTurn s r ≠ some (ingressSrc n)) (bad : Bool) :
    execCopyPlaced n (.region r) bad s = .next s := by
  have waits : (!mayPlace s r e || hTurn s r != some (ingressSrc n)) = true := by
    rcases h with h | h
    · simp [h]
    · simp [h]
  simp [execCopyPlaced, hc, hf, hn, waits, skip]

theorem copyPlaced_region {r : Region} (hm : mayPlace s r e = true) (ht : hTurn s r = some (ingressSrc n)) :
    execCopyPlaced n (.region r) true s = .next (after (halfFault s (evHalf n) 0x10 0 (BitVec.ofNat 32 (r.val % 4)))) ∧
      execCopyPlaced n (.region r) false s = .next (after (flushSteps { modRg s r (fun g =>
          { g with ev := { g.ev with arriving := g.ev.arriving ++ [⟨e.ev, if e.tagRegion = r then e.tag else none⟩] },
                   arb := { g.arb with hlast := ingressSrc n } }) with
          ingress := vset s.ingress n (placedHead (e :: es) (~~~mask8 r) 0xFF) } (evHalf n))) := by
  constructor
  · simp [execCopyPlaced, hc, hf, hn, hm, ht, finish_eq_after]
  · simp only [execCopyPlaced, hc, hf, hn, hm, ht, modEv, modRg_modRg, modRg_ingress, vmod, Bool.not_true, Bool.or_self, bne_self_eq_false,
      Bool.false_eq_true, if_false, finish_eq_after]

theorem copyPlaced_seam_waits (h : e.far = 0 ∨ (vget s.fb.steps (evHalf n)).any (fun x => e.post.contains x.1) = true) (bad : Bool) :
    execCopyPlaced n .seam bad s = .next s := by
  rcases h with h | h <;> simp only [execCopyPlaced, hc, hf, hn, h] <;> simp [skip]

theorem copyPlaced_seam (hm : e.far ≠ 0) (hs : (vget s.fb.steps (evHalf n)).any (fun x => e.post.contains x.1) = false) :
    execCopyPlaced n .seam true s = .next (after (halfFault s (evHalf n) 0x10 0 9)) ∧
      execCopyPlaced n .seam false s = .next (after (flushSteps { sendPkt s (evHalf n) (copyPkt e n) with
        ingress := vset s.ingress n (placedHead (e :: es) 0xFF 0) } (evHalf n))) := by
  constructor <;> simp only [execCopyPlaced, hc, hf, hn, hs, hm] <;> simp [finish_eq_after, vmod, hn, sendPkt]

end Placing

/-- Settles O33: an event transfers, or its copy is placed at a region or in the Footbridge queue. -/
theorem eventsAreRoutedAndPlaced : Obligations.EventsAreRoutedAndPlaced := by
  unfold Obligations.EventsAreRoutedAndPlaced
  simp only [exec_eventIngress, exec_copyPlaced]
  exact ⟨fun s n w => ⟨eventIngress_waits w, eventIngress_discards w, eventIngress_appends w⟩,
    fun s n e es r hc hf hn => ⟨copyPlaced_region_waits hc hf hn, copyPlaced_region hc hf hn, copyPlaced_seam_waits hc hf hn,
      copyPlaced_seam hc hf hn⟩⟩

/-! ## Egress (R39, R153) -/

/-- Serving a block at an output moves the turn alone. -/
theorem emitServed_buf (s : State) (h : Half) (n j) (k : EvPort) : (vget (emitServed s h n j).egress k).buf = (vget s.egress k).buf := by
  unfold emitServed
  split
  · dsimp only
    rw [vget_vmod]
    split <;> simp_all
  · rfl

theorem emitServed_frz (s : State) (h : Half) (n j) : (emitServed s h n j).frz = s.frz := by unfold emitServed modDir; split <;> rfl

section Emit

variable {s : State} {r : Region} {b : Blk} {w : W64} {ws : List W64} (hc : clocked s (halfOf r) = true)
  (hf : frozen s (halfOf r) = false) (hw : (blk s r b).emits = w :: ws)
include hc hf hw

/-- An event of the emit buffer, out of its turn or into a full port, waits; else it goes to its port or to the Footbridge queue. -/
theorem emitBufferPass_eq (bad : Bool) : execEmitBufferPass r b bad s =
    let n := egressOf s r b
    let j : Fin 256 := fin 256 (32 * r.val + b.val)
    let s1 := modBlk (emitServed s (halfOf r) n j) r b (fun x => { x with emits := ws })
    if emitTurn s (halfOf r) n j = false then .next s
    else if evHalf n = halfOf r then
      if 16 ≤ (vget s.egress n).buf.length then .next s
      else if bad then .next (after (halfFault s (halfOf r) 0x10 0 (BitVec.ofNat 32 (5 + n.val % 4))))
      else .next (after (toEgress s1 n w))
    else if bad then .next (after (halfFault s (halfOf r) 0x10 0 9))
    else .next (after (sendPkt s1 (halfOf r) (outputPkt r n w))) := by
  simp [execEmitBufferPass, hc, hf, hw, skip, finish_eq_after]

omit hc hw in
theorem toEgress_served (n : EvPort) (j : Fin 256) (hn : evHalf n = halfOf r) :
    let s1 := modBlk (emitServed s (halfOf r) n j) r b (fun x => { x with emits := ws })
    (vget (toEgress s1 n w).egress n).buf = (vget s.egress n).buf ++ [w] ∧ (vget (toEgress s1 n w).egress n).presented = true := by
  have running : frozen (modBlk (emitServed s (halfOf r) n j) r b (fun x => { x with emits := ws })) (evHalf n) = false := by
    rw [hn]
    exact (congrArg (fun f : Freeze => f.asserted && vget f.reached (halfOf r)) (emitServed_frz s (halfOf r) n j)).trans hf
  simp only [toEgress, vget_vmod_same, running, Bool.not_false, Bool.or_true, and_true]
  exact congrArg (· ++ [w]) (emitServed_buf s (halfOf r) n j n)

end Emit

section Taken

variable {s : State} {n : EvPort} {w : W64} {ws : List W64} (hc : clocked s (evHalf n) = true) (hb : (vget s.egress n).buf = w :: ws)
include hc hb

omit hc hb in
theorem egressEventTaken_waits (h : (vget s.egress n).presented = false) : execEgressEventTaken n s = .next s := by
  simp [execEgressEventTaken, h, skip]

theorem egressEventTaken_next (h : (vget s.egress n).presented = true) : ∃ t, execEgressEventTaken n s = .next t ∧ kept s t ∧
    (vget t.egress n).buf = ws ∧ (vget t.egress n).presented = (!ws.isEmpty && !frozen s (evHalf n)) ∧
    (∀ k, k ≠ n → vget t.egress k = vget s.egress k) ∧ t.regions = s.regions := by
  let u : State := { s with egress := vmod s.egress n (fun x => { x with buf := ws, presented := !ws.isEmpty && !frozen s (evHalf n) }) }
  have egress : (after (countM u 0x42 n.val 1)).egress = u.egress := by rw [after_egress, countM_egress]
  refine ⟨after (countM u 0x42 n.val 1), by simp [execEgressEventTaken, hc, hb, h, u, finish_eq_after],
    kept_after (countM_store u 0x42 n.val 1), ?_, ?_, fun k hk => ?_, ?_⟩
  · rw [egress]; simp [u]
  · rw [egress]; simp [u]
  · rw [egress]; exact vget_vmod_other s.egress _ (Ne.symm hk)
  · rw [after_regions, countM_regions]

end Taken

/-! ## The model switch (R103 to R107) -/

section Select

variable {s : State} {r : Region} {k : BitVec 6}

theorem selectModel_invalid (h : (descOf (rg s r) k).valid = false) :
    selectModel s r k = modRg s r (fun g => { g with model := { g.model with invalid := true } }) :=
  modRg_congr (by simp [h])

theorem selectModel_first (h : (descOf (rg s r) k).valid = true) (hr : inRun s r = true) (hs : (rg s r).model.switching = false) :
    selectModel s r k = modRg s r (fun g => { g with model := { g.model with sel := k, target := k, switching := true, hold := true } }) := by
  simp only [inRun, Bool.and_eq_true, beq_iff_eq, Bool.not_eq_true'] at hr
  exact modRg_congr (by simp [h, hr, hs])

theorem selectModel_behind (h : (descOf (rg s r) k).valid = true) (hr : inRun s r = true) (hs : (rg s r).model.switching = true) :
    selectModel s r k = modRg s r (fun g => { g with model := { g.model with sel := k, again := true } }) := by
  simp only [inRun, Bool.and_eq_true, beq_iff_eq, Bool.not_eq_true'] at hr
  exact modRg_congr (by simp [h, hr, hs])

theorem selectModel_resting (h : (descOf (rg s r) k).valid = true) (hr : inRun s r = false) :
    selectModel s r k = modRg s r (fun g => resort { g with model :=
      { g.model with sel := k, target := k, active := k, tt := (descOf g k).tt, ttPending := false, switching := false, hold := false,
                     again := false } }) := by
  have resting : ((rg s r).power.st != .run || (rg s r).power.down) = true := by
    simpa [inRun, ← Bool.not_eq_true, imp_iff_not_or] using hr
  exact modRg_congr (by simp only [h, resting, Bool.not_true, Bool.false_eq_true, if_false, if_true])

variable {port : RegPort} (hp : portReady s port = true) (d : W32)
include hp

theorem modelSwitch_loading (hl : loadingR s r = true) : execModelSwitch port r d s = .next (after (busErr s port)) := by
  simp [execModelSwitch, hp, hl, finish_eq_after]

theorem modelSwitch_selects (hl : loadingR s r = false) :
    execModelSwitch port r d s = .next (after (ack (selectModel s r (d.extractLsb' 0 6)) port)) := by
  simp [execModelSwitch, hp, hl, finish_eq_after]

end Select

theorem completeSwitch_active (g : RegionSt) : (completeSwitch g).model.active = g.model.target := by
  unfold completeSwitch; dsimp only; split <;> rfl

theorem completeSwitch_newTimetable {g : RegionSt} (h : (descOf g g.model.target).tt ≠ g.model.tt) :
    (completeSwitch g).model = { g.model with active := g.model.target, hold := false, ttPending := true } := by
  simp only [completeSwitch, h, if_false]

theorem completeSwitch_sameTimetable {g : RegionSt} (h : (descOf g g.model.target).tt = g.model.tt) :
    (completeSwitch g).model = { g.model with active := g.model.target, target := g.model.sel, switching := g.model.again,
                                              hold := g.model.again, again := false, ttPending := false } := by
  simp only [completeSwitch, h, if_true]

theorem modelSwitchComplete_completes {s : State} {r : Region} (ho : stepOpen s r = true) (hs : (rg s r).model.switching = true)
    (hh : (rg s r).model.hold = true) (hg : (rg s r).ev.groups = []) (hw : sweeping (rg s r) = false) :
    execModelSwitchComplete r s = .next (after (modRg s r completeSwitch)) := by
  simp [execModelSwitchComplete, ho, hs, hh, hg, hw, finish_eq_after]

/-- Settles O36: the exits of EMIT_BUFFER_PASS, EGRESS_EVENT_TAKEN and the two model switch commands, in the order of the statement. -/
theorem egressAndModelSwitch : Obligations.EgressAndModelSwitch := by
  unfold Obligations.EgressAndModelSwitch
  simp only [exec_emitBufferPass, exec_egressEventTaken, exec_modelSwitch, exec_modelSwitchComplete]
  refine ⟨fun s r b w ws hc hf hw => ⟨fun ht bad => ?_, fun ht => ⟨fun hn hl bad => ?_, fun hn hl => ⟨?_, ?_, ?_⟩, fun hn => ?_⟩⟩,
    fun s n w ws hc hb => ⟨egressEventTaken_waits, egressEventTaken_next hc hb⟩,
    fun s port r d => ⟨fun hp hl => modelSwitch_loading hp d hl, fun hp hl => ?_, fun ho hs hh hg hw => ?_⟩⟩
  · simp [emitBufferPass_eq hc hf hw, ht]
  · simp [emitBufferPass_eq hc hf hw, ht, hn, hl]
  · simp [emitBufferPass_eq hc hf hw, ht, hn, hl]
  · simp [emitBufferPass_eq hc hf hw, ht, hn, hl]
  · exact toEgress_served hf _ _ hn
  · simp [emitBufferPass_eq hc hf hw, ht, hn]
  · rw [modelSwitch_selects hp d hl]
    exact ⟨fun h => by rw [selectModel_invalid h], fun h hr => ⟨fun hs => by rw [selectModel_first h hr hs],
      fun hs => by rw [selectModel_behind h hr hs]⟩, fun h hr => by rw [selectModel_resting h hr]⟩
  · refine ⟨modelSwitchComplete_completes ho hs hh hg hw, completeSwitch_active _, fun h => ?_, fun h => ?_⟩
    · simp [completeSwitch_newTimetable h, hs]
    · simp [completeSwitch_sameTimetable h]

end Sys2Proof.Machine
end

section
/-! PROOF. Every command but five keeps the always-on logic and the queue (R60, R62, R187, R411, R412, R434, R462). -/

namespace Sys2Proof.Machine

/-- The state that o answers has the always-on logic and the queue of s. (KeepsForm says another fact of the same outcomes, and does not
give this one: a command may rewrite the byte stores in canonical form.) -/
def KeepsRest (s : State) (o : Host.Outcome State Fault Refusal) : Prop := ∀ t, o = .next t → rest t = rest s

namespace KeepsRest

variable {s u : State} {a b : Host.Outcome State Fault Refusal}

theorem next (h : rest u = rest s) : KeepsRest s (.next u) := fun t e => by cases e; exact h

theorem skip : KeepsRest s (skip s) := next rfl

/-- A command whose effect keeps the always-on logic, and may write the byte stores. -/
theorem finishRest (h : rest u = rest s) : KeepsRest s (finish u) := next ((rest_of_store (after_store u)).trans h)

theorem finishSyncRest (h : rest u = rest s) : KeepsRest s (finishSync u) := next ((rest_of_store (afterSync_store u)).trans h)

/-- A command whose effect writes neither the always-on logic nor a byte store. -/
theorem finish (h : store u = store s) : KeepsRest s (finish u) := finishRest (rest_of_store h)

theorem finishSync (h : store u = store s) : KeepsRest s (finishSync u) := finishSyncRest (rest_of_store h)

theorem ite {c : Prop} [Decidable c] (h : KeepsRest s a) (g : KeepsRest s b) : KeepsRest s (if c then a else b) := by
  split; exacts [h, g]

/-- A command that runs on a state with the same always-on logic. -/
theorem of_rest (h : rest u = rest s) (g : KeepsRest u a) : KeepsRest s a := fun t e => (g t e).trans h

theorem of_store (h : store u = store s) (g : KeepsRest u a) : KeepsRest s a := of_rest (rest_of_store h) g

/-- Two commands in a row. -/
theorem andThen {f : State → Host.Outcome State Fault Refusal} (h : KeepsRest s a) (g : ∀ t, KeepsRest t (f t)) :
    KeepsRest s (andThen a f) := by
  intro t e
  cases a with
  | next u => exact (g u t e).trans (h u rfl)
  | fault => cases e
  | refused => cases e

end KeepsRest

/-! ## Shapes that several commands share -/

theorem presentReq_keepsRest (s p op q w) : KeepsRest s (presentReq s p op q w) := .ite (.finish (takeReq_store _ _ _ _ _)) .skip

theorem mgmtWrite_keepsRest (s port) {f : State → State} (h : ∀ u, store (f u) = store u) : KeepsRest s (mgmtWrite s port f) :=
  .ite .skip (.ite (.finish (busErr_store _ _)) (.finish ((h _).trans (ack_store _ _))))

theorem writeReg_keepsRest (s port r) {f : State → State} (h : ∀ u, store (f u) = store u) : KeepsRest s (writeReg s port r f) :=
  .ite .skip (.finish ((ack_store _ _).trans ((h _).trans (wakeReq_store _ _))))

theorem presentOp_keepsRest (src n w s) : KeepsRest s (presentOp src n w s) := by
  cases src with
  | reg port =>
    have done := (bstDo_store (wideWrite s port w) .ctrl none n w).trans (wideWrite_store s port w)
    have refused := (busErr_store (wideWrite s port w) port).trans (wideWrite_store s port w)
    exact .ite .skip (.ite (.finish refused) (.ite (.finish refused)
      (.ite (.finishSync ((ack_store _ _).trans done)) (.finishSync ((busErr_store _ _).trans done)))))
  | engine p =>
    refine .ite .skip ?_
    split; exacts [.ite (.finishSync (releaseSignal_store _ _)) .skip, .skip]

theorem takeResponse_keepsRest (p ch id s) : KeepsRest s (takeResponse p ch id s) := by
  refine .ite .skip ?_
  split
  · exact .skip
  next e _ =>
    refine .ite .skip ?_
    have taken : store (if (respBeat e).2.2 = true then
          modEp (tagRequest s p e true) p (fun x =>
            { x with reqs := x.reqs.filter (fun y => y.seq != e.seq), cur := if ch = .rd then none else x.cur })
        else modEp (modReq s p e.seq (fun y => { y with taken := y.taken + 1 })) p (fun x => { x with cur := some e.seq })) = store s := by
      split
      · exact tagRequest_store s p e true
      · rfl
    dsimp only
    split
    · exact .finish taken
    · split
      · exact .finish taken
      · exact .finish ((closeGather_store _ _ _).trans ((detachSlow_store _ _ _).trans taken))

theorem takeRegRsp_keepsRest (port s) : KeepsRest s (takeRegRsp port s) := by
  unfold takeRegRsp; split; exacts [.skip, .ite (.finish (modRport_store _ _ _)) .skip]

theorem takePacket_keepsRest (s d k) {f : State → Packet → State} (h : ∀ u p, store (f u p) = store u) :
    KeepsRest s (takePacket s d k f) :=
  .ite .skip (by split; exacts [.skip, .finishSync ((h _ _).trans (rxPop_store _ _ _))])

theorem takeLink_keepsRest (s l ty noise) {f : State → Fin 4 → Fin 144 → Fin 8 → State} (h : ∀ u g w i, store (f u g w i) = store u) :
    KeepsRest s (takeLink s l ty noise f) := by
  refine .ite .skip ?_
  split
  · exact .skip
  · exact .ite .skip (.ite (.finish ((countCrc_store _ _).trans (linkPop_store _ _)))
      (.ite (.finish (linkPop_store _ _)) (.finish ((h _ _ _ _).trans (linkPop_store _ _)))))

theorem governed_keepsRest (s r cost) {f : State → Host.Outcome State Fault Refusal} (h : ∀ u, KeepsRest u (f u)) :
    KeepsRest s (governed s r cost f) :=
  .ite (.of_store (addAct_store _ _ _) (h _)) (.finish (limitAct_store _ _))

theorem fenceWrite_keepsRest (port r w s) : KeepsRest s (fenceWrite port r w s) :=
  .ite .skip (.ite (.finish (busErr_store _ _)) (.finish ((ack_store _ _).trans (writeFence_store _ _ _))))

theorem instrRow_keepsRest (s r b op chk) {f : Sweep → W32 → State} (h : ∀ w x, rest (f w x) = rest s) :
    KeepsRest s (instrRow s r b op chk f) := by
  unfold instrRow
  split
  · exact .skip
  · refine .ite .skip ?_
    split
    next _ fault => exact .finish (chkFault_store _ _ _ _ _ _ _ _ _ fault)
    · exact .finishRest (h _ _)

theorem instrRow_keepsRest_of_store (s r b op chk) {f : Sweep → W32 → State} (h : ∀ w x, store (f w x) = store s) :
    KeepsRest s (instrRow s r b op chk f) :=
  instrRow_keepsRest s r b op chk fun w x => rest_of_store (h w x)

theorem aluRow_keepsRest (r b op chk s f) : KeepsRest s (aluRow r b op chk s f) :=
  instrRow_keepsRest_of_store _ _ _ _ _ fun _ _ => (arithSat_store _ _ _).trans (putSweep_store _ _ _ _)

theorem issueChecked_keepsRest (s k t i tag chk) {f : State → State} (h : ∀ u, store (f u) = store u) :
    KeepsRest s (issueChecked s k t i tag chk f) :=
  .ite (.finish (halfFault_store _ _ _ _ _)) (.finish ((h _).trans (issueBeat_store _ _ _ _ _ _)))

/-! ## Arbiters (R138 to R151) -/

theorem execBlockGrant_keepsRest (r b m chk s) : KeepsRest s (execBlockGrant r b m chk s) := by
  refine .ite .skip ?_
  cases chk with
  | xbarParity out => exact .finish (regionFault_store _ _ _ _)
  | good | arrayParity | factorParity => exact .finishRest (blockCycle_rest _ _ _ _ _)

theorem execTimetableSlot_keepsRest (r bad m chk s) : KeepsRest s (execTimetableSlot r bad m chk s) := by
  refine .ite .skip (.ite (.finish (regionFault_store _ _ _ _)) (.ite (.finish rfl) ?_))
  cases chk with
  | xbarParity out => exact .finish (regionFault_store _ _ _ _)
  | good | arrayParity | factorParity => exact .finishRest (serveSlot_rest (modRg s r advanceSlot) _ _ _ _)

theorem execSlotSlipIssue_keepsRest (r b m chk s) : KeepsRest s (execSlotSlipIssue r b m chk s) := by
  refine .ite .skip ?_
  split
  · exact .skip
  · cases chk with
    | xbarParity out => exact .finish (regionFault_store _ _ _ _)
    | good | arrayParity | factorParity => exact .finishRest (issueSched_rest _ _ _ _ _ _)

theorem execStarvationLimit_keepsRest (r src s) : KeepsRest s (execStarvationLimit r src s) := by
  refine .ite .skip ?_
  cases src <;> exact .finish rfl

/-! ## Engine ports and gathers (R110 to R137) -/

theorem execWriteDataBeat_keepsRest (p w s) : KeepsRest s (execWriteDataBeat p w s) :=
  .ite .skip (by split; exacts [.skip, .finish ((pumpPort_store _ _).trans ((passCarried_store _ _).trans (takeBeat_store _ _ _ _)))])

theorem execResponseBeatTaken_keepsRest (p ch id s) : KeepsRest s (execResponseBeatTaken p ch id s) := by
  cases ch with
  | rd => exact takeResponse_keepsRest p .rd id s
  | wr => exact takeResponse_keepsRest p .wr id s
  | reg port => exact takeRegRsp_keepsRest port s

theorem execGatherTimeout_keepsRest (r g s) : KeepsRest s (execGatherTimeout r g s) :=
  .ite .skip (by split; exacts [.finish (startGather_store _ _ _), .skip])

theorem execSluiceRelease_keepsRest (p urg s) : KeepsRest s (execSluiceRelease p urg s) := by
  refine .ite .skip ?_
  split
  · exact .finish (pumpPort_store _ _)
  · exact .ite (.finish (pumpPort_store _ _)) (.finish ((pumpPort_store _ _).trans (sluiceTest_store _ _ _ _)))

theorem execSluiceConfigWrite_keepsRest (port reg d s) : KeepsRest s (execSluiceConfigWrite port reg d s) :=
  .ite .skip (by split; exacts [.finish (busErr_store _ _), .finish (ack_store _ _)])

/-! ## Bandstand (R286 to R325) -/

theorem execSignalHoldRelease_keepsRest (p s) : KeepsRest s (execSignalHoldRelease p s) :=
  .ite .skip (by split; exacts [.finishSync (releaseSignal_store _ _), .skip])

theorem execWatchTimeout_keepsRest (w s) : KeepsRest s (execWatchTimeout w s) := by
  refine .ite .skip ?_
  split
  · exact .skip
  · refine .ite .skip ?_
    dsimp only
    split
    · exact .finishSync ((answerSignal_store _ _ _ _).trans (dropWatch_store _ _))
    · exact .finishSync (queueMsg_store _ _ _)
    · exact .finishSync rfl

theorem execWatchRegister_keepsRest (port d s) : KeepsRest s (execWatchRegister port d s) := by
  have wide := wideWrite_store s port d
  refine .ite .skip (.ite (.finish ((busErr_store _ _).trans wide)) ?_)
  dsimp only
  split
  · exact .finish ((busErr_store _ _).trans wide)
  next t registered =>
    have kept := (regWatch_store _ _ _ _ _ _ _ registered).trans wide
    split
    · split
      · split
        · exact .finishSync ((ack_store _ _).trans ((meetWatch_store _ _).trans kept))
        · exact .finishSync ((ack_store _ _).trans kept)
      · exact .finishSync ((ack_store _ _).trans kept)
    · exact .finishSync ((ack_store _ _).trans kept)

theorem execWatchCancel_keepsRest (port ck s) : KeepsRest s (execWatchCancel port ck s) :=
  .ite .skip (.ite (.finish (busErr_store _ _)) (.finishSync (ack_store _ _)))

theorem execControlMessageTake_keepsRest (port s) : KeepsRest s (execControlMessageTake port s) := by
  have wide := wideRead_store s port
  refine .ite .skip ?_
  dsimp only
  split; exacts [.finish ((reply_store _ _ _).trans wide), .finishSync ((reply_store _ _ _).trans wide)]

theorem execBarrierConfigWrite_keepsRest (port b reg d s) : KeepsRest s (execBarrierConfigWrite port b reg d s) := by
  refine .ite .skip ?_
  have wide : store (match reg with | .cfg => s | .cnt => wideWrite s port d) = store s := by
    cases reg with
    | cfg => rfl
    | cnt => exact wideWrite_store s port d
  dsimp only
  split
  · exact .finish ((busErr_store _ _).trans wide)
  next _ written => exact .finishSync ((ack_store _ _).trans ((writeBar_store _ _ _ _ _ written).trans wide))

theorem execPairWrite_keepsRest (port n d s) : KeepsRest s (execPairWrite port n d s) :=
  .ite .skip (.ite (.finish ((busErr_store _ _).trans (wideWrite_store _ _ _)))
    (.finishSync ((ack_store _ _).trans ((setPair_store _ _ _ _).trans (wideWrite_store _ _ _)))))

theorem execRoleWrite_keepsRest (port d s) : KeepsRest s (execRoleWrite port d s) :=
  .ite .skip (.ite (.finish (busErr_store _ _)) (.finish (ack_store _ _)))

theorem execSyncMessageSend_keepsRest (s) : KeepsRest s (execSyncMessageSend s) :=
  .ite .skip (by split; exacts [.skip, .finishSync ((drainSync_store _ _).trans (syncSend_store _ _))])

/-! ## Power (R394 to R421) -/

theorem execStagedStepStart_keepsRest (r s) : KeepsRest s (execStagedStepStart r s) := by
  unfold execStagedStepStart; split; exacts [.skip, .ite .skip (.finish (modPw_store _ _ _))]

theorem execStagedStepEnd_keepsRest (r s) : KeepsRest s (execStagedStepEnd r s) := by
  unfold execStagedStepEnd; split; exacts [.skip, .ite .skip (.finishRest ((retryRegion_rest _ _).trans (endStep_rest _ _ _ _)))]

theorem execGovernorInterval_keepsRest (h s) : KeepsRest s (execGovernorInterval h s) := by
  refine .ite .skip (.finish ?_)
  split
  · exact countM_store _ _ _ _
  · split
    · exact countM_store _ _ _ _
    · rfl

theorem execPwrWakeReq_keepsRest (port req hold s) : KeepsRest s (execPwrWakeReq port req hold s) :=
  mgmtWrite_keepsRest _ _ fun _ => writeWake_store _ _ _

theorem execPwrFclkWrite_keepsRest (port h d s) : KeepsRest s (execPwrFclkWrite port h d s) := by
  refine .ite .skip (.ite (.finish (busErr_store _ _)) (.finish ((ack_store _ _).trans ?_)))
  split <;> rfl

theorem execPolicyWrite_keepsRest (port r which d s) : KeepsRest s (execPolicyWrite port r which d s) :=
  mgmtWrite_keepsRest _ _ fun _ => applyPolicy_store _ _

/-! ## Events (R152 to R190) -/

theorem execEventIngress_keepsRest (n w s) : KeepsRest s (execEventIngress n w s) := by
  have tagged := (offerTag_store (countM s 0x41 n.val 1) true n.val).trans (countM_store s 0x41 n.val 1)
  refine .ite .skip ?_
  dsimp only
  generalize (if isCandidate (countM s 0x41 n.val 1) true n.val = true then candidate (countM s 0x41 n.val 1)
    else (countM s 0x41 n.val 1, false)) = offered at tagged ⊢
  refine .ite (.finish ((countM_store _ _ _ _).trans tagged)) (.finish ?_)
  refine Eq.trans ?_ tagged
  split <;> rfl

theorem execCopyPlaced_keepsRest (n dst bad s) : KeepsRest s (execCopyPlaced n dst bad s) := by
  refine .ite .skip ?_
  split
  · exact .skip
  next e _ _ =>
    cases dst with
    | region r => exact .ite .skip (.ite (.finish (halfFault_store _ _ _ _ _)) (.finish (flushSteps_store _ _)))
    | seam =>
      exact .ite .skip (.ite (.finish (halfFault_store _ _ _ _ _)) (.finish ((flushSteps_store _ _).trans (sendPkt_store s (evHalf n) (copyPkt e n)))))

theorem execCopyAtEntry_keepsRest (r s) : KeepsRest s (execCopyAtEntry r s) := by
  refine .ite .skip ?_
  split
  · exact .skip
  next c cs _ =>
    have taken : store (evCount (modEv (markTag (modEv s r (fun x => { x with arriving := cs })) c.tag 1) r
        (fun x => { x with entry := x.entry ++ [c] })) r 0 1) = store s := (evCount_store _ _ _ _).trans (markTag_store _ _ _)
    have dropped : ∀ k, store (settleTag (evCount (modEv s r (fun x => { x with arriving := cs })) r k 1) r c.tag) = store s :=
      fun k => (settleTag_store _ _ _).trans (evCount_store _ _ _ _)
    exact .ite (.finish ((wakeReq_store _ _).trans taken)) (.ite (.finish taken) (.ite (.finish (dropped 1))
      (.ite (.finish (dropped 2)) (.finish ((wakeReq_store _ _).trans taken)))))

theorem execExpandCopy_keepsRest (r chk s) : KeepsRest s (execExpandCopy r chk s) := by
  refine .ite .skip ?_
  split
  · exact .skip
  next c cs _ =>
    have marked : store (modEv (markTag s c.tag 2) r (fun x => { x with entry := cs })) = store s := markTag_store _ _ _
    dsimp only
    split
    · exact .finish ((settleTag_store _ _ _).trans ((evCount_store _ _ _ _).trans marked))
    · cases chk with
      | xbarParity out => exact .finish (regionFault_store _ _ _ _)
      | index => exact .finish ((settleTag_store _ _ _).trans ((regionFault_store _ _ _ _).trans marked))
      | good => exact .finish ((settleTag_store _ _ _).trans ((expandRun_store _ _ _ _ _).trans marked))
      | entry j =>
        exact .ite (.finish ((settleTag_store _ _ _).trans ((regionFault_store _ _ _ _).trans ((expandRun_store _ _ _ _ _).trans marked))))
          (.finish ((settleTag_store _ _ _).trans ((expandRun_store _ _ _ _ _).trans marked)))

theorem execGroupToQueue_keepsRest (r s) : KeepsRest s (execGroupToQueue r s) := by
  refine .ite .skip ?_
  split
  · exact .skip
  next g gs _ =>
    have served : store (entryServed (modEv s r (fun x => { x with groups := gs })) r g.block) = store s := entryServed_store _ _ _
    exact .ite .skip (.ite (.finish ((settleTag_store _ _ _).trans ((evCount_store _ _ _ _).trans served)))
      (.finish ((modBlk_store _ _ _ _).trans ((markRows_store _ _).trans served))))

theorem execStepEntryComplete_keepsRest (r s) : KeepsRest s (execStepEntryComplete r s) :=
  .ite .skip (by split; exacts [.skip, .ite (.finish (moveClose_store _ _ _)) .skip])

theorem execStepDrained_keepsRest (r s bad) : KeepsRest s (execStepDrained r s bad) :=
  .ite .skip (by split; exacts [.skip, .ite (.finish ((firstFault_store _ _ _).trans ((startSweeps_store _ _).trans (moveClose_store _ _ _)))) .skip])

theorem execStepSweepsDone_keepsRest (r s) : KeepsRest s (execStepSweepsDone r s) := by
  refine .ite .skip ?_
  split
  · exact .skip
  next c _ =>
    have closed : store (countR (reportSweep (advanceEpoch (sweepLength s r) r c) r c) r 0x2F 0 1) = store s :=
      (countR_store _ _ _ _ _).trans ((reportSweep_store _ _ _).trans ((advanceEpoch_store _ _ _).trans (sweepLength_store _ _)))
    exact .ite .skip (.finishSyncRest ((retryRegion_rest _ _).trans (rest_of_store closed)))

theorem execEmitBufferPass_keepsRest (r b bad s) : KeepsRest s (execEmitBufferPass r b bad s) := by
  refine .ite .skip ?_
  split
  · exact .skip
  · exact .ite .skip (.ite (.ite .skip (.ite (.finish (halfFault_store _ _ _ _ _))
        (.finish ((toEgress_store _ _ _).trans ((modBlk_store _ _ _ _).trans (emitServed_store _ _ _ _))))))
      (.ite (.finish (halfFault_store _ _ _ _ _)) (.finish ((sendPkt_store _ _ _).trans ((modBlk_store _ _ _ _).trans (emitServed_store _ _ _ _))))))

theorem execModelSwitch_keepsRest (port r d s) : KeepsRest s (execModelSwitch port r d s) :=
  .ite .skip (.ite (.finish (busErr_store _ _)) (.finish ((ack_store _ _).trans (selectModel_store _ _ _))))

theorem execEntryHold_keepsRest (port r v s) : KeepsRest s (execEntryHold port r v s) := by
  refine writeReg_keepsRest s port r fun u => ?_
  rfl

theorem execTrellisDataWrite_keepsRest (port r d s) : KeepsRest s (execTrellisDataWrite port r d s) :=
  .ite .skip (.finish ((trWrite_store _ _ _ _).trans (wideWrite_store _ _ _)))

theorem execTrellisDataRead_keepsRest (port r bad s) : KeepsRest s (execTrellisDataRead port r bad s) :=
  .ite .skip (.finish ((trRead_store _ _ _ _).trans (wideRead_store _ _)))

/-! ## Plan (R86 to R104) -/

theorem execPlanDataWord_keepsRest (port w s) : KeepsRest s (execPlanDataWord port w s) :=
  .ite .skip (.ite (.finish (busErr_store _ _)) (.finish (plnWord_store _ _ _)))

theorem execPlanHeader_keepsRest (s) : KeepsRest s (execPlanHeader s) := by
  refine .ite .skip ?_
  dsimp only
  split
  · exact .finish ((retryPln_store _).trans (rejectLoad_store _ _ _))
  · exact .finishRest ((rest_of_store ((retryPln_store _).trans (measureTaken_store _))).trans (startLoad_rest _ _))

theorem execPlanSection_keepsRest (s) : KeepsRest s (execPlanSection s) := by
  refine .ite .skip ?_
  split
  · exact .skip
  · refine .ite (.finish ((retryPln_store _).trans (rejectLoad_store _ _ _))) ?_
    dsimp only
    split
    · exact .finish ((retryPln_store _).trans (rejectLoad_store _ _ _))
    · exact .ite (.finish ((retryPln_store _).trans ((sectionDone_store _ _ _ _).trans (applySection_store _ _)))) .skip

/-! ## Gatehouse (R424 to R449, R467) -/

theorem execFuseAck_keepsRest (d s) : KeepsRest s (execFuseAck d s) :=
  .ite .skip (by split; exacts [.skip, .ite (.finishRest (fuseDone_rest _)) (.finish rfl)])

theorem execFuseTimeout_keepsRest (s) : KeepsRest s (execFuseTimeout s) := by
  refine .ite .skip (.ite ?_ (.finish rfl))
  dsimp only
  split; exacts [.finishRest (loseChanged_rest _ _), .finishRest (loseChanged_rest _ _)]

theorem execFwDataWord_keepsRest (port w s) : KeepsRest s (execFwDataWord port w s) :=
  .ite .skip (.ite (.finish (busErr_store _ _)) (.finish (fwWord_store _ _ _)))

theorem execMeasureExtend_keepsRest (port slot s) : KeepsRest s (execMeasureExtend port slot s) :=
  .ite .skip (.ite (.finish (busErr_store _ _)) (.finish (ack_store _ _)))

theorem execSlotExtendComplete_keepsRest (s) : KeepsRest s (execSlotExtendComplete s) := by
  refine .ite .skip ?_
  split
  · exact .skip
  next e es _ =>
    have booted : ∀ u, store u = store s →
        store (if (u.gh.stage = s.gh.stage || u.gh.stage != .running) = true then u else jumped u) = store s := by
      intro u hu
      split; exacts [hu, (jumped_store u).trans hu]
    have extended := booted { s with
      meas := { extendSlot s.meas e with queue := es }, gh := bootAfter s.gh s.fuse e.slot } rfl
    dsimp only
    split
    · exact .finish ((retryWords_store _).trans ((takeReport_store _ _ _ _).trans extended))
    · exact .finish ((retryWords_store _).trans extended)

theorem execMeasure_keepsRest (s) : KeepsRest s (execMeasure s) := by
  unfold execMeasure; split; exacts [.skip, .finish (measureRequest_store _ _ _ _)]

theorem execBootStatus_keepsRest (s) : KeepsRest s (execBootStatus s) := by
  unfold execBootStatus; split; exacts [.skip, .finish (takeRequest_store _ _)]

theorem execFuseReread_keepsRest (s) : KeepsRest s (execFuseReread s) := by
  unfold execFuseReread
  split
  · exact .skip
  next w _ => exact .ite (.finish (takeRequest_store _ _)) (.ite .skip (.finish (takeRequest_store s (.fuses w))))

theorem execSignedMeasure_keepsRest (sk s) : KeepsRest s (execSignedMeasure sk s) := by
  unfold execSignedMeasure; split; exacts [.skip, .finish (measureRequest_store _ _ _ _)]

theorem execUnknownRequest_keepsRest (s) : KeepsRest s (execUnknownRequest s) := by
  unfold execUnknownRequest; split; exacts [.skip, .finish (takeRequest_store _ _)]

theorem execGatehouseReply_keepsRest (s) : KeepsRest s (execGatehouseReply s) :=
  .ite .skip (by split; exacts [.ite .skip (.ite (.finish (sendBox_store _ _ _ _)) (.finish (sendBox_store _ _ _ _))), .skip])

theorem execSigningResponse_keepsRest (ws err s) : KeepsRest s (execSigningResponse ws err s) :=
  .ite .skip (by split; exacts [.ite (.finish rfl) (.finish rfl), .skip])

theorem execSigningTimeout_keepsRest (s) : KeepsRest s (execSigningTimeout s) :=
  .ite .skip (by split; exacts [.ite .skip (.finish rfl), .skip])

/-! ## Rill (R246 to R284) -/

theorem execRingBell_keepsRest (port n s) : KeepsRest s (execRingBell port n s) := by
  refine .ite .skip (.ite (.finish (busErr_store _ _)) ?_)
  split
  · exact .finish (busErr_store _ _)
  next _ rung => exact .finishSync ((ack_store _ _).trans (ringStream_store _ _ _ rung))

theorem execStreamSlotWrite_keepsRest (port n j d s) : KeepsRest s (execStreamSlotWrite port n j d s) := by
  refine .ite .skip (.ite (.finish (busErr_store _ _)) ?_)
  split
  · exact .finish (busErr_store _ _)
  next _ written => exact .finishSync ((ack_store _ _).trans (writeSlot_store _ _ _ _ _ _ written))

theorem execAdmitDescriptor_keepsRest (k s) : KeepsRest s (execAdmitDescriptor k s) := by
  refine .ite .skip ?_
  split
  · exact .skip
  · split
    · exact .finish (popAdmit_store _ _)
    · refine .ite (.finish ((modStream_store _ _ _).trans (popAdmit_store _ _)))
        (.ite (.finish ((halfFault_store _ _ _ _ _).trans (popAdmit_store _ _)))
          (.ite (.finishSync ((modStream_store _ _ _).trans (popAdmit_store _ _))) (.ite ?_ (.ite (.finishSync (admitTile_store _ _ _ _ _)) .skip))))
      split; exacts [.ite .skip (.finish (wicketWait_store _ _)), .finishSync (admitTile_store _ _ _ _ _)]

theorem execRillIssue_keepsRest (k chk s) : KeepsRest s (execRillIssue k chk s) := by
  refine .ite .skip (.of_store (fetchWait_store s k) ?_)
  dsimp only
  split
  · exact .finish ((wicketWon_store _ _ _ _).trans (issueFetch_store _ _ _ _))
  · exact issueChecked_keepsRest _ _ _ _ _ _ fun _ => wicketWon_store _ _ _ _
  · exact issueChecked_keepsRest _ _ _ _ _ _ fun _ => (wicketWon_store _ _ _ _).trans (modRp_store _ _ _)
  · exact .skip

/-! ## Rill's responses and tiles (R257 to R284) -/

theorem execRillReadResponse_keepsRest (k tag d resp s) : KeepsRest s (execRillReadResponse k tag d resp s) := by
  refine .ite .skip ?_
  split
  · exact .finish (halfFault_store _ _ _ _ _)
  next o _ =>
    have dropped := dropOut_store s k o
    refine .ite (.finishSync ((settleAll_store _ _).trans ((mergedRead_store _ _ _ _ _).trans ?_)))
      (.ite (.finish ((settleAll_store _ _).trans ((placeBeats_store _ _ _ _).trans ((rillError_store _ _ _).trans dropped))))
        (.ite (.finish ((settleAll_store _ _).trans ((placeBeats_store _ _ _ _).trans dropped)))
          (.ite (.finishSync ((settleAll_store _ _).trans ((xlateBeats_store _ _ _).trans dropped)))
            (.finishSync ((settleAll_store _ _).trans ((placeBeats_store _ _ _ _).trans ?_))))))
    · split
      · exact (dropWicket_store _ _).trans dropped
      · exact (ghFetched_store _ _ _ _).trans ((dropWicket_store _ _).trans dropped)
    · split
      · exact (modRp_store _ _ _).trans dropped
      · exact dropped

theorem execRillWriteResponse_keepsRest (k tag resp s) : KeepsRest s (execRillWriteResponse k tag resp s) := by
  refine .ite .skip ?_
  split
  · exact .finish (halfFault_store _ _ _ _ _)
  next o _ =>
    have dropped := dropOut_store s k o
    exact .ite (.finishSync ((settleAll_store _ _).trans ((placeBeats_store _ _ _ _).trans dropped)))
      (.ite (.finish ((settleAll_store _ _).trans ((placeBeats_store _ _ _ _).trans ((rillError_store _ _ _).trans dropped))))
        (.ite (.finish ((settleAll_store _ _).trans ((placeBeats_store _ _ _ _).trans dropped)))
          (.finishSync ((settleAll_store _ _).trans ((xlateBeats_store _ _ _).trans dropped)))))

theorem execFillPieceWrite_keepsRest (k chk s) : KeepsRest s (execFillPieceWrite k chk s) := by
  refine .ite .skip ?_
  split
  · exact .skip
  · refine .ite (.finish (halfFault_store _ _ _ _ _)) ?_
    split; exacts [.finish (halfFault_store _ _ _ _ _), .finish ((movePiece_store _ _ _ _ _).trans (modRp_store _ _ _))]

theorem execDrainPieceRead_keepsRest (k s chk) : KeepsRest s (execDrainPieceRead k s chk) := by
  refine .ite .skip ?_
  split
  · exact .skip
  · split
    · exact .finish (halfFault_store _ _ _ _ _)
    · exact .finish ((movePiece_store _ _ _ _ _).trans (modRp_store _ _ _))

theorem execTileComplete_keepsRest (n s) : KeepsRest s (execTileComplete n s) :=
  .ite .skip (by split; exacts [.skip, .ite (.finishSync (completeTile_store _ _ _ _)) .skip])

theorem execEchoInvalidate_keepsRest (port a b s) : KeepsRest s (execEchoInvalidate port a b s) := by
  refine .ite .skip ?_
  split
  · exact .finish (busErr_store _ _)
  next _ begun => exact .finish ((ack_store _ _).trans (echInv_store _ _ _ _ begun))

theorem execEchoEnableWrite_keepsRest (port a b s) : KeepsRest s (execEchoEnableWrite port a b s) :=
  .ite .skip (.finish ((ack_store _ _).trans ((setEcho_store _ _ _).trans (setEcho_store _ _ _))))

/-! ## Counters, dumps and tags (R477 to R496) -/

theorem execDumpBodyWrite_keepsRest (s) : KeepsRest s (execDumpBodyWrite s) := by
  unfold execDumpBodyWrite; split; exacts [.skip, .finish ((foldl_store _ _ _ fun _ _ => dumpBeat_store _ _ _ _).trans (dumpMove_store _ _ _ _))]

theorem execDumpHeaderClose_keepsRest (s) : KeepsRest s (execDumpHeaderClose s) := by
  unfold execDumpHeaderClose; split; exacts [.skip, .finish ((dumpBeat_store _ _ _ _).trans (dumpMove_store _ _ _ _))]

theorem execDumpComplete_keepsRest (s) : KeepsRest s (execDumpComplete s) := by
  unfold execDumpComplete
  split
  · exact .skip
  next d _ =>
    refine .finishSync ?_
    split
    · exact rillSem_store { s with cnt := { s.cnt with seq := d.seq, dumpDone := true, dump := none } } s.cnt.sem
    · rfl

theorem execDumpNow_keepsRest (port s) : KeepsRest s (execDumpNow port s) := by
  refine mgmtWrite_keepsRest s port fun u => ?_
  rfl

theorem execCounterWrite_keepsRest (port c d s) : KeepsRest s (execCounterWrite port c d s) := by
  refine .ite .skip (.of_store (wideWrite_store s port d) (mgmtWrite_keepsRest _ _ fun u => ?_))
  dsimp only
  split; exacts [wakeCnt_store u c, (modCnt_store _ _ _).trans (wakeCnt_store u c)]

/-! ## Faults, freeze and restart (R439 to R466) -/

theorem execStop_keepsRest (port s) : KeepsRest s (execStop port s) := by
  refine mgmtWrite_keepsRest _ _ fun u => ?_
  split
  · rfl
  · exact (freezeWatches_store _).trans (foldl_store _ _ _ fun _ _ => foldl_store _ _ _ fun _ _ => frozenHead_store _ _ _)

theorem execFreeze_keepsRest (port st s) : KeepsRest s (execFreeze port st s) := mgmtWrite_keepsRest _ _ fun _ => assertFreeze_store _ _

theorem execEastFaultRaise_keepsRest (s) : KeepsRest s (execEastFaultRaise s) := by
  unfold execEastFaultRaise; split; exacts [.skip, .ite .skip (.finish (recordFault_store _ _))]

theorem execInjected_keepsRest (port v s) : KeepsRest s (execInjected port v s) := mgmtWrite_keepsRest _ _ fun _ => wholeFault_store _ _ _

theorem execJobRestartGo_keepsRest (port keep rel s) : KeepsRest s (execJobRestartGo port keep rel s) :=
  .ite .skip (.ite (.finish (busErr_store _ _)) (.finishRest
    ((rest_of_store (ack_store _ _)).trans (restartGo_rest _ _))))

theorem execJobRestartRelease_keepsRest (port keep s) : KeepsRest s (execJobRestartRelease port keep s) :=
  .ite .skip (.ite (.finish (busErr_store _ _)) (.finishSync ((ack_store _ _).trans (releaseFreeze_store _ _))))

/-! ## Footbridge (R363 to R396) -/

theorem execLinkRetrain_keepsRest (port d s) : KeepsRest s (execLinkRetrain port d s) :=
  .ite .skip (.ite (.finish (busErr_store _ _)) (.finish ((ack_store _ _).trans (writeFbCtrl_store _ _))))

theorem execTrainFrameDone_keepsRest (d fails s) : KeepsRest s (execTrainFrameDone d fails s) := by
  have placed := (placeWires_store (markSpares s d fails.spares).1 d ((markSpares s d fails.spares).2 ++ fails.wires)).trans
    (markSpares_store s d fails.spares)
  exact .ite .skip (.ite (.finish (failTraining_store _ _)) (.ite (.finish ((modDir_store _ _ _).trans placed))
    (.finish ((failTraining_store _ _).trans placed))))

theorem execLinkUp_keepsRest (d s) : KeepsRest s (execLinkUp d s) := by
  have replayed := (startReplay_store (modDir s d (fun x => { x with st := .up })) d).trans (modDir_store s d _)
  refine .ite .skip (.finish ?_)
  split <;> exact replayed

theorem execPacketStart_keepsRest (d c s) : KeepsRest s (execPacketStart d c s) :=
  .ite .skip (by split; exacts [.skip, .ite .skip (.finish ((countM_store _ _ _ _).trans (modDir_store _ _ _)))])

theorem execSideWordReceive_keepsRest (d c noise s) : KeepsRest s (execSideWordReceive d c noise s) := by
  refine .ite .skip (.finish ?_)
  split
  · exact (takeSide_store _ _ _).trans (modDir_store _ _ _)
  · rfl

theorem execFlitReceive_keepsRest (d noise s) : KeepsRest s (execFlitReceive d noise s) := by
  refine .ite .skip ?_
  split
  · refine .finish ?_
    split
    · rfl
    · exact countCrc_store _ _
  · exact .ite (.finish ((badFlit_store _ _ _ _).trans (modDir_store _ _ _)))
      (.ite (.finish (modDir_store _ _ _)) (.finish ((acceptFlit_store _ _ _).trans (modDir_store _ _ _))))

theorem execFbPktControl_keepsRest (d s) : KeepsRest s (execFbPktControl d s) := by
  refine takePacket_keepsRest _ _ _ fun u p => ?_
  split
  · rfl
  · split
    · rfl
    · exact ctlAct_store _ _

theorem execFbPktEvents_keepsRest (d s) : KeepsRest s (execFbPktEvents d s) := by
  unfold execFbPktEvents; split
  exacts [.skip, .ite (takePacket_keepsRest _ _ _ fun _ _ => foldl_store _ _ _ fun _ _ => deliverEntry_store _ _ _ _) .skip]

/-! ## Lanes and basins (R199 to R224) -/

theorem execRowEventIssue_keepsRest (r b chk s) : KeepsRest s (execRowEventIssue r b chk s) := by
  refine .ite .skip ?_
  split
  · refine .ite .skip (governed_keepsRest _ _ _ fun u => .finishRest ((rowChecked_rest _ _ _ _ _).trans (rest_of_store ?_)))
    exact (markTag_store _ _ _).trans ((countB_store _ _ _ _ _ _).trans (modBlk_store _ _ _ _))
  · exact .skip

theorem execBasinClear_keepsRest (port r d s) : KeepsRest s (execBasinClear port r d s) := .ite .skip (.finishRest (basinClr_rest _ _ _ _))

theorem execBasinDataWrite_keepsRest (port r d s) : KeepsRest s (execBasinDataWrite port r d s) :=
  .ite .skip (.finishRest ((basinWr_rest _ _ _ _).trans (rest_of_store (wideWrite_store _ _ _))))

theorem execBasinDataRead_keepsRest (port r bad s) : KeepsRest s (execBasinDataRead port r bad s) :=
  .ite .skip (.finish ((basinRd_store _ _ _ _).trans (wideRead_store _ _)))

/-! ## Lodge (R330 to R345) -/

theorem execMailboxSend_keepsRest (port n d s) : KeepsRest s (execMailboxSend port n d s) := by
  have sent := (sendBox_store (wideWrite s port d) n d (.port port)).trans (wideWrite_store s port d)
  refine .ite .skip (.ite (.finish ((busErr_store _ _).trans (wideWrite_store _ _ _))) ?_)
  dsimp only
  split
  · exact .finish ((ack_store _ _).trans sent)
  · exact .finish ((busErr_store _ _).trans sent)
  · exact .finish ((holdAcc_store _ _ _).trans sent)

theorem execDepositAnnounce_keepsRest (n s) : KeepsRest s (execDepositAnnounce n s) := by
  refine .ite .skip ?_
  split
  · exact .skip
  · refine .ite .skip ?_
    dsimp only
    split
    next added =>
      exact .finishSync ((answerSender_store _ _ _).trans ((countM_store _ _ _ _).trans
        ((pairAdd_store _ _ _ _ _ _ added).trans (modBox_store _ _ _))))
    · exact .finishSync ((answerSender_store _ _ _).trans ((rejectSend_store _).trans ((modBox_store _ _ _).trans
        ((refuseOp_store _ _).trans (modBox_store _ _ _)))))

theorem execMailboxTake_keepsRest (port n s) : KeepsRest s (execMailboxTake port n s) := by
  have wide := wideRead_store s port
  refine .ite .skip (.ite (.finish ((busErr_store _ _).trans wide)) ?_)
  split
  · exact .finish ((reply_store _ _ _).trans wide)
  · exact .finish ((reply_store _ _ _).trans ((modBox_store _ _ _).trans wide))
  · exact .finish ((reply_store _ _ _).trans wide)

theorem execMailboxConfigWrite_keepsRest (port n d s) : KeepsRest s (execMailboxConfigWrite port n d s) :=
  .ite .skip (.ite (.finish ((busErr_store _ _).trans (wideWrite_store _ _ _)))
    (.finish ((ack_store _ _).trans ((modBox_store _ _ _).trans (wideWrite_store _ _ _)))))

/-! ## Sweeps (R225 to R245) -/

theorem execRange_keepsRest (r b chk s) : KeepsRest s (execRange r b chk s) := by
  unfold execRange; split; exacts [.skip, .ite .skip (.ite (.finish (storeFault_store _ _ _ _ _)) (.finish (modSweep_store _ _ _ _)))]

theorem execSweepGroupStart_keepsRest (r b chk s) : KeepsRest s (execSweepGroupStart r b chk s) := by
  unfold execSweepGroupStart
  split
  · exact .skip
  · exact .ite .skip (.ite (.finish (storeFault_store _ _ _ _ _)) (governed_keepsRest _ _ _ fun _ =>
      .finish ((countB_store _ _ _ _ _ _).trans (modSweep_store _ _ _ _))))

theorem execLdb_keepsRest (r b chk s) : KeepsRest s (execLdb r b chk s) :=
  instrRow_keepsRest _ _ _ _ _ fun _ _ => by
    refine (rest_of_store ((arithSat_store _ _ _).trans ((countB_store _ _ _ _ _ _).trans (putSweep_store _ _ _ _)))).trans ?_
    split
    · exact basinZero_rest _ _ _ _ _
    · rfl

theorem execEmit_keepsRest (r b chk s) : KeepsRest s (execEmit r b chk s) := by
  refine instrRow_keepsRest_of_store _ _ _ _ _ fun _ _ => ?_
  dsimp only
  split
  · exact (countB_store _ _ _ _ _ _).trans ((modRg_store _ _ _).trans (putSweep_store _ _ _ _))
  · split
    · exact modRg_store _ _ _
    · exact (countB_store _ _ _ _ _ _).trans ((modRg_store _ _ _).trans ((modBlk_store _ _ _ _).trans (putSweep_store _ _ _ _)))

theorem execSweepDataRead_keepsRest (port r bad s) : KeepsRest s (execSweepDataRead port r bad s) := .ite .skip (.finish (sweepRdAcc_store _ _ _ _))

/-! ## Wrapper (R505 to R510) -/

/-! ## Resets and rails (R58 to R64, R412): a reset empties both stores -/

theorem execFclkOkRise_keepsRest (h s) : KeepsRest s (execFclkOkRise h s) := by
  refine .ite .skip (.finish ?_)
  split
  · exact train_train_store _
  · rfl

theorem execFclkOkFall_keepsRest (h s) : KeepsRest s (execFclkOkFall h s) := by
  refine .ite .skip (.finishRest ?_)
  split
  · exact (rest_of_store ((halfFault_store _ _ _ _ _).trans (train_train_store _))).trans (abortRun_rest _)
  · exact (rest_of_store (train_train_store _)).trans (abortRun_rest _)

/-! ## The control-space map (R24): an access is performed as the row of its register -/

theorem putSlot_keepsRest (port n j d m s) : KeepsRest s (putSlot port n j d m s) := by
  unfold putSlot
  split
  · exact .finish (busErr_store _ _)
  next _ written => exact .finishSync ((ack_store _ _).trans (writeSlot_store _ _ _ _ _ _ written))

theorem putRestart_keepsRest (port d s) : KeepsRest s (putRestart port d s) :=
  .ite (execJobRestartGo_keepsRest _ _ _ _) (.ite (execJobRestartRelease_keepsRest _ _ _)
    (.finish ((ack_store _ _).trans (plainWrite_store _ _ _))))

theorem putGhCmd_keepsRest (port d s) : KeepsRest s (putGhCmd port d s) :=
  .ite (execFreeze_keepsRest _ _ _) (.ite (execStop_keepsRest _ _) (.finish (ack_store s port)))

/-- A write: one case for each register with a row of its own, and the plain ones. -/
theorem putReg_keepsRest (port x d s) : KeepsRest s (putReg port x d s) := by
  have plain : KeepsRest s (if fwLocked s x then finish (busErr s port) else finish (ack (plainWrite (touch s x) x d) port)) :=
    .ite (.finish (busErr_store _ _)) (.finish ((ack_store _ _).trans ((plainWrite_store _ _ _).trans (touch_store _ _))))
  unfold putReg
  cases x with
  | ghCtrl => exact .finish (ghCtrl_store _ _ _ _ _)
  | ghCmd => exact putGhCmd_keepsRest _ _ _
  | ghFwData => exact execFwDataWord_keepsRest _ _ _
  | ghExtCtrl => exact .ite (execMeasureExtend_keepsRest _ _ _) (.finish (ack_store _ _))
  | plnCtrl => exact .finish (plnCtrl_store _ _ _ _ _)
  | plnData => exact execPlanDataWord_keepsRest _ _ _
  | pwrFclk => exact execPwrFclkWrite_keepsRest _ _ _ _
  | pwrWake => exact execPwrWakeReq_keepsRest _ _ _ _
  | pwrPolicy => exact execPolicyWrite_keepsRest _ _ _ _ _
  | fltInject => exact execInjected_keepsRest _ _ _
  | rsCtrl => exact putRestart_keepsRest _ _ _
  | fnFence => exact fenceWrite_keepsRest _ _ _ _
  | slu => exact execSluiceConfigWrite_keepsRest _ _ _ _
  | fbCtrl => exact execLinkRetrain_keepsRest _ _ _
  | echCtrl => exact execEchoEnableWrite_keepsRest _ _ _ _
  | echInv => exact execEchoInvalidate_keepsRest _ _ _ _
  | cntCtrl => exact .ite (execDumpNow_keepsRest _ _) (.finish (ack_store _ _))
  | cntTagCtrl => exact .finish ((writeTag_store _ _ _ _ _).trans (ack_store _ _))
  | cntVal => exact execCounterWrite_keepsRest _ _ _ _
  | bstSem => exact presentOp_keepsRest _ _ _ _
  | bstRole => exact execRoleWrite_keepsRest _ _ _
  | bstWcancel => exact execWatchCancel_keepsRest _ _ _
  | bstWreg => exact execWatchRegister_keepsRest _ _ _
  | bstPair => exact execPairWrite_keepsRest _ _ _ _
  | barCfg => exact execBarrierConfigWrite_keepsRest _ _ _ _ _
  | barCnt => exact execBarrierConfigWrite_keepsRest _ _ _ _ _
  | mbData => exact execMailboxSend_keepsRest _ _ _ _
  | mbCfg => exact execMailboxConfigWrite_keepsRest _ _ _ _
  | slot => exact putSlot_keepsRest _ _ _ _ _ _
  | modelSel => exact execModelSwitch_keepsRest _ _ _ _
  | evCtrl => exact execEntryHold_keepsRest _ _ _ _
  | trData => exact execTrellisDataWrite_keepsRest _ _ _ _
  | trDelay => exact .ite .skip (.finish (trDelay_store _ _ _ _))
  | basinClr => exact execBasinClear_keepsRest _ _ _ _
  | basinData => exact execBasinDataWrite_keepsRest _ _ _ _
  | rcntVal => exact execCounterWrite_keepsRest _ _ _ _
  | bcntVal => exact execCounterWrite_keepsRest _ _ _ _
  | ttStat => exact .finish ((ack_store _ _).trans (wakeReq_store _ _))
  | _ => exact plain

theorem getReg_keepsRest (port x s) : KeepsRest s (getReg port x s) := by
  unfold getReg
  split
  · exact execTrellisDataRead_keepsRest _ _ _ _
  · exact execBasinDataRead_keepsRest _ _ _ _
  · exact execSweepDataRead_keepsRest _ _ _ _
  · exact .finish (basinClrRd_store _ _ _)
  · exact execMailboxTake_keepsRest _ _ _
  · exact execControlMessageTake_keepsRest _ _
  · exact .finish ((reply_store _ _ _).trans ((rcClear_store _ _).trans (touch_store _ _)))

theorem access_keepsRest (port x wr s) : KeepsRest s (access port x wr s) := by
  cases wr with
  | none => exact getReg_keepsRest port x s
  | some d => exact putReg_keepsRest port x d s

theorem narrow_keepsRest (port x hi wr s) : KeepsRest s (narrow port x hi wr s) := by
  unfold narrow
  split
  · unfold slotHalf
    split; exacts [.finish (reply_store _ _ _), putSlot_keepsRest _ _ _ _ _ _]
  · exact access_keepsRest _ _ _ _

/-- The two halves of a 64-bit access are performed one after the other. -/
theorem pairAccess_keepsRest (port x y wr s) : KeepsRest s (pairAccess port x y wr s) := by
  refine .ite (.finish (busErr_store _ _)) (.andThen (.of_store (withRsps_store _ _ _) (access_keepsRest _ _ _ _)) fun t => ?_)
  have second : store (if wr.isSome = true then withRsps t port []
      else shaped (withRsps t port []) port (.upper (lo32 (answerOf t port)))) = store t := by
    split; exacts [withRsps_store _ _ _, (shaped_store _ _ _).trans (withRsps_store _ _ _)]
  exact .andThen (.of_store second (access_keepsRest _ _ _ _)) fun u => .next (rest_of_store (behind_store _ _ _))

theorem cpAccess_keepsRest (o size64 wr s) : KeepsRest s (cpAccess o size64 wr s) := by
  have bad : KeepsRest s (finish (busErr s .cp)) := .finish (busErr_store _ _)
  refine .ite (.ite bad ?_) (.ite bad ?_)
  · split
    · exact .ite bad (.ite (access_keepsRest _ _ _ _) (pairAccess_keepsRest _ _ _ _ _))
    · exact bad
  · split
    · exact .ite bad (narrow_keepsRest _ _ _ _ _)
    · exact bad

theorem mgmtAccess_keepsRest (port o wr s) : KeepsRest s (mgmtAccess port o wr s) := by
  have bad : KeepsRest s (finish (busErr s port)) := .finish (busErr_store _ _)
  refine .ite bad ?_
  split
  · exact bad
  · refine .ite bad (.ite (narrow_keepsRest _ _ _ _ _) ?_)
    split
    · exact .ite (.finish (reply_store _ _ _)) (.of_store (shaped_store _ _ _) (getReg_keepsRest _ _ _))
    · exact .ite (.finish ((ack_store _ _).trans (modRport_store _ _ _))) (putReg_keepsRest _ _ _ _)

theorem perform_keepsRest (port a s) : KeepsRest s (perform port a s) := by
  refine .ite (.finish ((busErr_store _ _).trans (wholeFault_store _ _ _))) ?_
  cases port with
  | cp => exact cpAccess_keepsRest _ _ _ _
  | mp => exact mgmtAccess_keepsRest _ _ _ _
  | gh => exact mgmtAccess_keepsRest _ _ _ _

theorem serveQueue_keepsRest (n : Nat) (port s) : KeepsRest s (serveQueue n port s) := by
  induction n generalizing s with
  | zero => exact .next rfl
  | succ n ih =>
    unfold serveQueue
    split
    · exact .andThen (.of_store (withQueue_store _ _ _) (perform_keepsRest _ _ _)) fun t => .of_store (withQueue_store _ _ _) (ih _)
    · exact .next rfl

theorem accept_keepsRest (port a s) : KeepsRest s (accept port a s) :=
  .andThen (serveQueue_keepsRest _ _ _) fun _ => .ite (perform_keepsRest _ _ _) (.finish (modRport_store _ _ _))

/-! ## The statement -/

/-- Every other command keeps the always-on logic and the queue: one case for each row, or for the rows of one shape. -/
theorem exec_keepsRest {i : Instr} (s : State) (ha : ∀ a, i ≠ .aonReset a) (hm : ∀ b, i ≠ .macroResetRelease b)
    (hl : ∀ h r, i ≠ .railLoss h r) (hu : ∀ h r, i ≠ .railUndervolt h r) (he : i ≠ .stagerEdge) : KeepsRest s (exec i s) := by
  unfold exec
  cases i with
  | aonReset a => exact absurd rfl (ha a)
  | macroResetAssert => exact .finishRest (macroReset_rest s)
  | macroResetRelease b => exact absurd rfl (hm b)
  | wrapperReset => exact .ite (.finishRest (abortRun_rest s)) (.finish rfl)
  | testModeChange | sluiceWindowBoundary | quotaWindowEnd | modelSwitchComplete | echoInvalidateDone | trainDeskewDone
  | spareErrorWindow | fuseReadStart | mgmtPortReady | timerInterrupt | restartClearsDone | selfTestStart =>
    exact .ite .skip (.finish rfl)
  | fclkOkRise => exact execFclkOkRise_keepsRest _ _
  | fclkOkFall => exact execFclkOkFall_keepsRest _ _
  | railLoss h r => exact absurd rfl (hl h r)
  | railUndervolt h r => exact absurd rfl (hu h r)
  | read | write | writeBitSet | writeBitClear | streamDoorbell | mailboxDoorbell | multicastRead =>
    exact .ite (presentReq_keepsRest _ _ _ _ _) .skip
  | atomAddS8 | atomAddI32 | atomAddF32 | atomMinI32 | atomMaxI32 | atomSwap64 | atomCas64 | atomTrace | sem
  | reservedOp => exact presentReq_keepsRest _ _ _ _ _
  | writeDataBeat => exact execWriteDataBeat_keepsRest _ _ _
  | responseBeatTaken => exact execResponseBeatTaken_keepsRest _ _ _ _
  | gatherTimeout => exact execGatherTimeout_keepsRest _ _ _
  | sluiceRelease => exact execSluiceRelease_keepsRest _ _ _
  | sluiceConfigWrite => exact execSluiceConfigWrite_keepsRest _ _ _ _
  | blockGrant => exact execBlockGrant_keepsRest _ _ _ _ _
  | timetableSlot => exact execTimetableSlot_keepsRest _ _ _ _ _
  | slotSlipIssue => exact execSlotSlipIssue_keepsRest _ _ _ _ _
  | starvationLimit => exact execStarvationLimit_keepsRest _ _ _
  | eventIngress => exact execEventIngress_keepsRest _ _ _
  | copyPlaced => exact execCopyPlaced_keepsRest _ _ _ _
  | copyAtEntry => exact execCopyAtEntry_keepsRest _ _
  | entryHold => exact execEntryHold_keepsRest _ _ _ _
  | expandCopy => exact execExpandCopy_keepsRest _ _ _
  | groupToQueue => exact execGroupToQueue_keepsRest _ _
  | rowEventIssue => exact execRowEventIssue_keepsRest _ _ _ _
  | ringRowsToQueue => exact .ite .skip (.ite .skip (.finish ((modBlk_store _ _ _ _).trans (markRows_store _ _))))
  | stepEntryComplete => exact execStepEntryComplete_keepsRest _ _
  | stepDrained => exact execStepDrained_keepsRest _ _ _
  | stepSweepsDone => exact execStepSweepsDone_keepsRest _ _
  | emitBufferPass => exact execEmitBufferPass_keepsRest _ _ _ _
  | egressEventTaken => exact .ite .skip (.finish (countM_store _ _ _ _))
  | modelSwitch => exact execModelSwitch_keepsRest _ _ _ _
  | trellisDataWrite => exact execTrellisDataWrite_keepsRest _ _ _ _
  | trellisDataRead => exact execTrellisDataRead_keepsRest _ _ _ _
  | trellisDelayWrite => exact .ite .skip (.finish (trDelay_store _ _ _ _))
  | basinClear => exact execBasinClear_keepsRest _ _ _ _
  | basinDataWrite => exact execBasinDataWrite_keepsRest _ _ _ _
  | basinDataRead => exact execBasinDataRead_keepsRest _ _ _ _
  | sweepGroupStart => exact execSweepGroupStart_keepsRest _ _ _ _
  | endProg => exact instrRow_keepsRest_of_store _ _ _ _ _ fun _ _ => modSweep_store _ _ _ _
  | range => exact execRange_keepsRest _ _ _ _
  | lds =>
    exact instrRow_keepsRest_of_store _ _ _ _ _ fun _ _ => (countB_store _ _ _ _ _ _).trans ((countB_store _ _ _ _ _ _).trans
      (putSweep_store _ _ _ _))
  | sts =>
    exact instrRow_keepsRest _ _ _ _ _ fun _ _ => (rest_of_store ((countB_store _ _ _ _ _ _).trans ((countB_store _ _ _ _ _ _).trans
      (putSweep_store _ _ _ _)))).trans (putRows_rest _ _ _ _ _)
  | ldb => exact execLdb_keepsRest _ _ _ _
  | stb =>
    exact instrRow_keepsRest _ _ _ _ _ fun _ _ => (rest_of_store ((arithSat_store _ _ _).trans ((countB_store _ _ _ _ _ _).trans
      (putSweep_store _ _ _ _)))).trans (basinPut_rest _ _ _ _ _)
  | ldi | sweepAdd | sweepSub | addc | mulc | shri | max | min | sel | rst => exact aluRow_keepsRest _ _ _ _ _ _
  | add | sub | wait | set | padd | cadd | pwaitFull | pwaitSpace | arrive | sync | bwait | swait | bstReservedOp =>
    exact .ite (presentOp_keepsRest _ _ _ _) .skip
  | cmp => exact instrRow_keepsRest_of_store _ _ _ _ _ fun _ _ => putSweep_store _ _ _ _
  | emit => exact execEmit_keepsRest _ _ _ _
  | trc => exact instrRow_keepsRest_of_store _ _ _ _ _ fun _ _ => (modRg_store _ _ _).trans (putSweep_store _ _ _ _)
  | invalidInstruction => exact instrRow_keepsRest_of_store _ _ _ _ _ fun _ _ => (modRg_store _ _ _).trans (modSweep_store _ _ _ _)
  | sweepDataRead => exact execSweepDataRead_keepsRest _ _ _ _
  | ringBell => exact execRingBell_keepsRest _ _ _
  | streamAbort => exact .ite .skip (.ite (.finish (busErr_store _ _)) (.finishSync ((ack_store _ _).trans (askAbort_store _ _))))
  | streamSlotWrite => exact execStreamSlotWrite_keepsRest _ _ _ _ _
  | admitDescriptor => exact execAdmitDescriptor_keepsRest _ _
  | rillIssue => exact execRillIssue_keepsRest _ _ _
  | rillReadResponse => exact execRillReadResponse_keepsRest _ _ _ _ _
  | rillWriteResponse => exact execRillWriteResponse_keepsRest _ _ _ _
  | fillPieceWrite => exact execFillPieceWrite_keepsRest _ _ _
  | drainPieceRead => exact execDrainPieceRead_keepsRest _ _ _
  | tileComplete => exact execTileComplete_keepsRest _ _
  | echoInvalidate => exact execEchoInvalidate_keepsRest _ _ _ _
  | echoEnableWrite => exact execEchoEnableWrite_keepsRest _ _ _ _
  | signalHoldRelease => exact execSignalHoldRelease_keepsRest _ _
  | watchTimeout => exact execWatchTimeout_keepsRest _ _
  | watchRegister => exact execWatchRegister_keepsRest _ _ _
  | watchCancel => exact execWatchCancel_keepsRest _ _ _
  | controlMessageTake => exact execControlMessageTake_keepsRest _ _
  | barrierConfigWrite => exact execBarrierConfigWrite_keepsRest _ _ _ _ _
  | pairWrite => exact execPairWrite_keepsRest _ _ _ _
  | roleWrite => exact execRoleWrite_keepsRest _ _ _
  | syncMessageSend => exact execSyncMessageSend_keepsRest _
  | syncArriveReceived | syncReleaseReceived => exact .ite .skip (.ite .skip (.ite (.finish rfl) (.finishSync (drainSync_store _ _))))
  | mailboxSend => exact execMailboxSend_keepsRest _ _ _ _
  | depositAnnounce => exact execDepositAnnounce_keepsRest _ _
  | mailboxTake => exact execMailboxTake_keepsRest _ _ _
  | mailboxConfigWrite => exact execMailboxConfigWrite_keepsRest _ _ _ _
  | measure => exact execMeasure_keepsRest _
  | bootStatus => exact execBootStatus_keepsRest _
  | fuseReread => exact execFuseReread_keepsRest _
  | signedMeasure => exact execSignedMeasure_keepsRest _ _
  | unknownRequest => exact execUnknownRequest_keepsRest _
  | gatehouseReply => exact execGatehouseReply_keepsRest _
  | signingResponse => exact execSigningResponse_keepsRest _ _ _
  | signingTimeout => exact execSigningTimeout_keepsRest _
  | linkRetrain => exact execLinkRetrain_keepsRest _ _ _
  | trainClockDone => exact .ite .skip (.ite (.finish (modDir_store _ _ _)) (.finish (failTraining_store _ _)))
  | trainFrameDone => exact execTrainFrameDone_keepsRest _ _ _
  | linkUp => exact execLinkUp_keepsRest _ _
  | packetStart => exact execPacketStart_keepsRest _ _ _
  | flitReceive => exact execFlitReceive_keepsRest _ _ _
  | sideWordReceive => exact execSideWordReceive_keepsRest _ _ _ _
  | nakRepeatReplay | ackStallReplay => exact .ite .skip (.finish (startReplay_store _ _))
  | sideWordTimeout => exact .ite .skip (.finish (linkFault_store _ _ _ _ _))
  | retireReq => exact takeLink_keepsRest _ _ _ _ fun _ _ _ _ => (sendLink_store _ _ _ _).trans (modDir_store _ _ _)
  | retireDup =>
    exact takeLink_keepsRest _ _ _ _ fun _ _ _ _ => (sendLink_store _ _ _ _).trans ((modDir_store _ _ _).trans (recordSpare_store _ _ _
      _ _))
  | retireDone => exact takeLink_keepsRest _ _ _ _ fun _ _ _ _ => rfl
  | retireReqRepeat => exact .ite .skip (.finish (foldl_store _ _ _ fun _ _ => sendLink_store _ _ _ _))
  | fbPktRead | fbPktWrite => exact takePacket_keepsRest _ _ _ fun _ _ => takePiece_store _ _ _
  | fbPktAtomic => exact takePacket_keepsRest _ _ _ fun _ _ => packetPiece_store _ _
  | fbPktReadData | fbPktWriteAck | fbPktAtomicData => exact takePacket_keepsRest _ _ _ fun _ _ => packetBack_store _ _
  | fbPktSignal => exact takePacket_keepsRest _ _ _ fun _ _ => arriveSignal_store _ _
  | fbPktSignalAck => exact takePacket_keepsRest _ _ _ fun _ _ => ackSignal_store _ _
  | fbPktRetire => exact takePacket_keepsRest _ _ _ fun _ _ => takeCounts_store _ _
  | fbPktControl => exact execFbPktControl_keepsRest _ _
  | fbPktStep => exact takePacket_keepsRest _ _ _ fun _ _ => markSteps_store _ _ _
  | fbPktEvents => exact execFbPktEvents_keepsRest _ _
  | idleTimeout | retainTimeout | offTimeout => exact .ite .skip (.finish (askDown_store _ _))
  | stagerEdge => exact absurd rfl he
  | stagedStepStart => exact execStagedStepStart_keepsRest _ _
  | stagedStepEnd => exact execStagedStepEnd_keepsRest _ _
  | governorInterval => exact execGovernorInterval_keepsRest _ _
  | pwrWakeReq => exact execPwrWakeReq_keepsRest _ _ _ _
  | pwrWakeHold => exact mgmtWrite_keepsRest _ _ fun _ => writeWake_store _ _ _
  | pwrFclkWrite => exact execPwrFclkWrite_keepsRest _ _ _ _
  | policyWrite => exact execPolicyWrite_keepsRest _ _ _ _ _
  | fuseAck => exact execFuseAck_keepsRest _ _
  | fuseTimeout => exact execFuseTimeout_keepsRest _
  | fwStart | fwAbort | cpOpen => exact .ite .skip (.ite (.finish (busErr_store _ _)) (.finish (ghCtrl_store _ _ _ _ _)))
  | fwDataWord => exact execFwDataWord_keepsRest _ _ _
  | fwImageEnd => exact .ite .skip (.ite (.finish (fwFail_store _ _)) (.finish (queueExtend_store s 0 s.gh.fwGot)))
  | gatehouseSleep | gatehouseWake => exact .ite .skip (.finish (coreRuns_store _ _))
  | measureExtend => exact execMeasureExtend_keepsRest _ _ _
  | mgmtLinkAccess | rcRead | registerWrite => exact .ite .skip (accept_keepsRest _ _ _)
  | planStart | planAbort => exact .ite .skip (.ite (.finish (busErr_store _ _)) (.finish (plnCtrl_store _ _ _ _ _)))
  | planDataWord => exact execPlanDataWord_keepsRest _ _ _
  | planHeader => exact execPlanHeader_keepsRest _
  | planSection => exact execPlanSection_keepsRest _
  | stop => exact execStop_keepsRest _ _
  | freeze => exact execFreeze_keepsRest _ _ _
  | stopQuiescent => exact .ite .skip (.finish (assertFreeze_store _ _))
  | eastFaultRaise => exact execEastFaultRaise_keepsRest _
  | freezeReachHalf => exact .ite .skip (.finishRest (reachHalf_rest _ _))
  | injected => exact execInjected_keepsRest _ _ _
  | jobRestartGo => exact execJobRestartGo_keepsRest _ _ _ _
  | jobRestartRelease => exact execJobRestartRelease_keepsRest _ _ _
  | fenceSet | fenceClear => exact fenceWrite_keepsRest _ _ _ _
  | counterSample => exact .ite .skip (.ite (.finish rfl) (.finish (takeSample_store _)))
  | dumpNow => exact execDumpNow_keepsRest _ _
  | dumpBodyWrite => exact execDumpBodyWrite_keepsRest _
  | dumpHeaderClose => exact execDumpHeaderClose_keepsRest _
  | dumpComplete => exact execDumpComplete_keepsRest _
  | taggingEnable | tagClear => exact mgmtWrite_keepsRest _ _ fun _ => writeTag_store _ _ _ _ _
  | counterWrite => exact execCounterWrite_keepsRest _ _ _ _
  | wsBypass | wsExtest | plId | plTctrl | plTstat | plTresult | plRepair => exact .ite .skip (.ite (.finish rfl) (.finish rfl))
  | selfTestDone => exact .ite .skip (.finishRest (loseArrays_rest _))
  | slotExtendComplete => exact execSlotExtendComplete_keepsRest _

/-- Settles O6: the always-on logic is part of what exec_keepsRest says is kept. -/
theorem alwaysOnStateKept : Obligations.AlwaysOnStateKept := by
  unfold Obligations.AlwaysOnStateKept
  exact fun i s t ht ha hm hl hu he => congrArg Prod.fst (exec_keepsRest s ha hm hl hu he t ht)

end Sys2Proof.Machine
end

section
/-! PROOF. Rill admits, issues, takes responses, moves pieces and completes tiles (R41, R42, R254, R258, R259, R262, R264, R265, R267,
R271, R273, R451). A simp only that may already close its goal ends in <;> rfl, which settles two copies of one match. -/

namespace Sys2Proof.Machine

/-! ## The arms of Rill -/

theorem exec_admitDescriptor (k s) : exec (.admitDescriptor k) s = execAdmitDescriptor k s := rfl
theorem exec_rillIssue (k chk s) : exec (.rillIssue k chk) s = execRillIssue k chk s := rfl
theorem exec_rillReadResponse (k g b x s) : exec (.rillReadResponse k g b x) s = execRillReadResponse k g b x s := rfl
theorem exec_rillWriteResponse (k g x s) : exec (.rillWriteResponse k g x) s = execRillWriteResponse k g x s := rfl
theorem exec_fillPieceWrite (k chk s) : exec (.fillPieceWrite k chk) s = execFillPieceWrite k chk s := rfl
theorem exec_drainPieceRead (k chk s) : exec (.drainPieceRead k chk) s = execDrainPieceRead k s chk := rfl
theorem exec_tileComplete (n s) : exec (.tileComplete n) s = execTileComplete n s := rfl

/-! ## Admission (R254, R258, R259, R271) -/

section Admit

variable {s : State} {k : RPort} {ctx slot : BitVec 12} {l : List (BitVec 12)} (hc : clocked s k = true) (ho : closed s k = false)
  (hq : (rp s k).queue = ctx :: l)
include hc ho hq

theorem admitDescriptor_drops (hn : (stream s ctx).next = none) : execAdmitDescriptor k s = .next (after (popAdmit s k)) := by
  simp [execAdmitDescriptor, hc, ho, hq, hn, finish_eq_after]

variable (hn : (stream s ctx).next = some slot)
include hn

theorem admitDescriptor_free (hk : slotKind s slot = 0) : execAdmitDescriptor k s =
    .next (after (modStream (popAdmit s k) ctx (fun x => { x with asked := false, waitSlot := true }))) := by
  simp [execAdmitDescriptor, hc, ho, hq, hn, hk, finish_eq_after]

theorem admitDescriptor_faulty (hk : slotKind s slot ≠ 0) (hg : descGood s slot = false) : execAdmitDescriptor k s =
    .next (after (halfFault (popAdmit s k) k 0x1B k.val (slot.setWidth 32 ||| (ctx.setWidth 32 <<< 16)))) := by
  simp only [execAdmitDescriptor, hc, ho, hq, hn, hk, hg, finish_eq_after, Bool.not_true, Bool.or_self, Bool.not_false, Bool.false_eq_true,
    if_false, if_true]

variable (hg : descGood s slot = true)
include hg

/-- A good descriptor waits for its dependence, or is admitted with a Wicket tag or with staging. -/
theorem admitDescriptor_good : execAdmitDescriptor k s =
    if depHolds s ctx slot = false then .next (afterSync (modStream (popAdmit s k) ctx (fun x => { x with asked := false })))
    else if (readDesc s slot).rows * (readDesc s slot).rowBeats = 1 then
      match wicketFor s (some k) with
      | none => if (wicketLine s).contains (some k) then .next s else .next (after (wicketWait s (some k)))
      | some w => .next (afterSync (admitTile s k ctx slot (some w)))
    else if staged (rp s k) + (readDesc s slot).rows * (readDesc s slot).rowBeats ≤ 4096 then .next (afterSync (admitTile s k ctx slot none))
    else .next s := by
  have kind : slotKind s slot ≠ 0 := by
    simp only [descGood, Bool.and_eq_true, beq_iff_eq] at hg
    obtain ⟨⟨⟨⟨kind, -⟩, -⟩, -⟩, -⟩ := hg
    rw [kind]; decide
  simp only [execAdmitDescriptor, hc, ho, hq, hn, hg, kind, skip, finish_eq_after, finishSync_eq_afterSync, Bool.not_true, Bool.or_self,
    Bool.false_eq_true, if_false, Bool.not_eq_true'] <;> rfl

end Admit

/-! ## What the counters and the Footbridge leave of Rill -/

@[simp] theorem countM_rill (s : State) (e a n : Nat) : (countM s e a n).rill = s.rill := by unfold countM wrapFlag; dsimp only; split <;> rfl
@[simp] theorem sendPkt_rill (s : State) (h : Half) (p : Packet) : (sendPkt s h p).rill = s.rill := rfl
@[simp] theorem sendCtl_rill (s : State) (h : Half) (m : CtlMsg) : (sendCtl s h m).rill = s.rill := rfl

theorem rp_of_rill {s t : State} (h : t.rill = s.rill) (k : RPort) : rp t k = rp s k := by rw [rp, rp, h]

/-! ## Issue (R262, R264, R271, R273) -/

@[simp] theorem setBeat_outs (s : State) (k : RPort) (uid i : Nat) (b : BeatSt) : (rp (setBeat s k uid i b) k).outs = (rp s k).outs := by
  simp [setBeat, modTile]

@[simp] theorem sendOut_outs (s : State) (k : RPort) (o : ROut) (d : Beat) : (rp (sendOut s k o d) k).outs = (rp s k).outs ++ [o] := by
  simp [sendOut]

/-- The transfer of a tile's beat becomes outstanding. -/
theorem issueOut_mem (s : State) (k : RPort) (t : Tile) (i : Nat) (tag : BitVec 11) (d : Beat) (alloc : Bool) :
    ⟨tag, .tile, t.drain, some (t.uid, i), t.ext.getD i 0, alloc⟩ ∈ (rp (issueOut s k t i tag d alloc) k).outs := by
  have port : ∀ u e a n, rp (countM u e a n) k = rp u k := fun u e a n => rp_of_rill (countM_rill u e a n) k
  simp [issueOut, port]

section Beat

variable {s : State} {k : RPort} {t : Tile} {i : Nat} (tag : BitVec 11)

/-- A beat that no lookup is made for is transferred. -/
theorem issueBeat_mem (h : isStaged (t.beats.getD i .done) = true ∨ t.share = false ∨ (rp s k).echoEn = false) (bad : Bool) :
    ⟨tag, .tile, t.drain, some (t.uid, i), t.ext.getD i 0, false⟩ ∈ (rp (issueBeat s k t i tag bad) k).outs := by
  unfold issueBeat
  dsimp only
  split
  · exact issueOut_mem s k t i tag _ false
  next unstaged =>
    have direct : (!t.share || !(rp s k).echoEn) = true := by
      rcases h with h | h | h
      · exfalso
        generalize t.beats.getD i .done = x at h unstaged
        cases x with
        | staged d => exact unstaged d rfl
        | _ => simp [isStaged] at h
      · simp [h]
      · simp [h]
    rw [if_pos direct]
    exact issueOut_mem s k t i tag 0 false

variable (hb : isStaged (t.beats.getD i .done) = false) (hs : t.share = true) (he : (rp s k).echoEn = true)
include hb hs he

/-- A shareable read is looked up: it hits, merges with a read of its line, or is transferred. -/
theorem issueBeat_lookup : issueBeat s k t i tag false =
    match echoHit (rp s k) (t.ext.getD i 0) with
    | some d => countM (setBeat (modRp s k (fun p => echoUse p (t.ext.getD i 0))) k t.uid i (.staged d)) 0x50 k.val 1
    | none =>
      if (rp s k).outs.any (fun o => !o.write && o.addr == t.ext.getD i 0) then countM (setBeat s k t.uid i .merged) 0x52 k.val 1
      else countM (issueOut s k t i tag 0 (echoOpen (rp s k) (t.ext.getD i 0))) 0x51 k.val 1 := by
  unfold issueBeat
  dsimp only
  split
  next staged => rw [staged] at hb; simp [isStaged] at hb
  · simp only [hs, he, Bool.not_true, Bool.or_self, Bool.false_eq_true, if_false, Bool.false_and] <;> rfl

theorem issueBeat_miss (hh : echoHit (rp s k) (t.ext.getD i 0) = none)
    (ho : (rp s k).outs.any (fun o => !o.write && o.addr == t.ext.getD i 0) = false) :
    ⟨tag, .tile, t.drain, some (t.uid, i), t.ext.getD i 0, echoOpen (rp s k) (t.ext.getD i 0)⟩ ∈ (rp (issueBeat s k t i tag false) k).outs := by
  rw [issueBeat_lookup tag hb hs he, hh]
  dsimp only
  rw [ho, if_neg Bool.false_ne_true, rp_of_rill (countM_rill _ _ _ _)]
  exact issueOut_mem s k t i tag 0 _

end Beat

/-- The stream that goes next at port k, and its beat (R262). -/
def nextStream (u : State) (k : RPort) : Option (BitVec 12 × Tile × Nat) :=
  (pickStream u k (rp u k).rr (fun c => (streamIssue u k c).isSome)).bind (fun c => (streamIssue u k c).map (fun x => (c, x.1, x.2)))

/-- The stream that goes next, under the tag it is issued with. -/
def taggedStream (u : State) (k : RPort) : Option (BitVec 12 × Tile × Nat × BitVec 11) :=
  match freeTag (rp u k) with
  | none => none
  | some tag => (pickStream u k (rp u k).rr (fun c => (streamIssue u k c).isSome)).bind
      (fun c => (streamIssue u k c).map (fun (x : Tile × Nat) => (c, x.1, x.2, tag)))

theorem taggedStream_eq (u : State) (k : RPort) :
    taggedStream u k = (freeTag (rp u k)).bind (fun tag => (nextStream u k).map (fun x => (x.1, x.2.1, x.2.2, tag))) := by
  unfold taggedStream nextStream
  cases freeTag (rp u k) with
  | none => rfl
  | some tag => simp [Option.map_bind, Function.comp_def]

theorem taggedStream_isSome (u : State) (k : RPort) : (taggedStream u k).isSome = ((freeTag (rp u k)).isSome && (nextStream u k).isSome) := by
  rw [taggedStream_eq]
  cases freeTag (rp u k) <;> simp

/-- What port k issues, where st is the stream that goes next: the Gatehouse's fetch, then a Wicket beat, then the stream's; the stream
before them after three wins of the Wicket (R262). -/
def issueChoice (u : State) (k : RPort) (chk : IssueChk) (st : Option (BitVec 12 × Tile × Nat × BitVec 11)) : Host.Outcome State Fault Refusal :=
  let yields := st.isSome && (rp u k).wicketRun.val == 3
  match (if yields then none else fetchReady u k), (if yields then none else wicketIssue u k), st with
  | some ((a, kind), w), _, _ => finish (wicketWon (issueFetch u a kind w) k true st.isSome)
  | none, some (t, i), _ => issueChecked u k t i (t.wtag.getD 0) chk (fun s => wicketWon s k true st.isSome)
  | none, none, some (c, t, i, tag) =>
    issueChecked u k t i tag chk (fun s => wicketWon (modRp s k (fun p => { p with rr := if isBound s c then p.rr else c })) k false false)
  | none, none, none => skip u

theorem rillIssue_eq {s : State} {k : RPort} (hc : clocked s k = true) (hf : frozen s k = false) (chk : IssueChk) :
    execRillIssue k chk s = issueChoice (fetchWait s k) k chk (taggedStream (fetchWait s k) k) := by
  rw [execRillIssue, if_neg (by simp [hc, hf])]
  dsimp only
  generalize fetchWait s k = u
  unfold issueChoice taggedStream
  dsimp only <;> cases freeTag (rp u k) <;> rfl

section Issue

variable {u : State} {k : RPort} {st : Option (BitVec 12 × Tile × Nat × BitVec 11)} (chk : IssueChk)

theorem issueChoice_fetch {a : BitVec 58} {kind : OutKind} {w : BitVec 11} (hy : (st.isSome && (rp u k).wicketRun.val == 3) = false)
    (h : fetchReady u k = some ((a, kind), w)) :
    issueChoice u k chk st = finish (wicketWon (issueFetch u a kind w) k true st.isSome) := by
  simp only [issueChoice, hy, h, Bool.false_eq_true, if_false]

theorem issueChoice_wicket {t : Tile} {i : Nat} (hy : (st.isSome && (rp u k).wicketRun.val == 3) = false) (hn : fetchReady u k = none)
    (h : wicketIssue u k = some (t, i)) :
    issueChoice u k chk st = issueChecked u k t i (t.wtag.getD 0) chk (fun x => wicketWon x k true st.isSome) := by
  simp only [issueChoice, hy, hn, h, Bool.false_eq_true, if_false]

theorem issueChoice_stream {c : BitVec 12} {t : Tile} {i : Nat} {tag : BitVec 11}
    (hn : (rp u k).wicketRun.val = 3 ∨ (fetchReady u k = none ∧ wicketIssue u k = none)) :
    issueChoice u k chk (some (c, t, i, tag)) = issueChecked u k t i tag chk
      (fun x => wicketWon (modRp x k (fun p => { p with rr := if isBound x c then p.rr else c })) k false false) := by
  rcases hn with hn | ⟨hn, hw⟩
  · simp only [issueChoice, hn, Option.isSome_some, Bool.true_and, beq_self_eq_true, if_true]
  · simp only [issueChoice, hn, hw, ite_self]

end Issue

/-- A staged beat that fails parity ends the job; any other goes (R269, R451). -/
theorem issueChecked_eq (u : State) (k : RPort) (t : Tile) (i : Nat) (tag : BitVec 11) (chk : IssueChk) (next : State → State) :
    issueChecked u k t i tag chk next =
      .next (after (if chk = .staging ∧ isStaged (t.beats.getD i .done) = true then halfFault u k 0x1C k.val (stagingDetail u t)
        else next (issueBeat u k t i tag (chk == .echo)))) := by
  simp only [issueChecked, finish_eq_after, Bool.and_eq_true, decide_eq_true_eq]
  split <;> rfl

/-- Only port 0 issues for the Gatehouse (R271). -/
theorem fetchReady_west {u : State} {k : RPort} {x : (BitVec 58 × OutKind) × BitVec 11} (h : fetchReady u k = some x) : k = 0 := by
  unfold fetchReady at h
  by_contra hk
  simp [hk] at h

theorem issueFetch_mem (u : State) (a : BitVec 58) (kind : OutKind) (w : BitVec 11) :
    ⟨w, kind, false, none, a, true⟩ ∈ (rp (issueFetch u a kind w) 0).outs := by
  have port : rp (issueFetch u a kind w) 0 = rp (sendOut u 0 ⟨w, kind, false, none, a, true⟩ 0) 0 :=
    rp_of_rill (countM_rill (wicketTake (sendOut u 0 ⟨w, kind, false, none, a, true⟩ 0) none w) 0x56 0 1) 0
  simp [port]

theorem wicketWon_outs (s : State) (k : RPort) (won waits : Bool) : (rp (wicketWon s k won waits) k).outs = (rp s k).outs := by
  rw [wicketWon, rp_modRp_same]

/-- The Wicket goes first: it has not won three times running, or no stream waits (R262). -/
theorem yieldsNot {u : State} {k : RPort}
    (h : (rp u k).wicketRun.val < 3 ∨ ((freeTag (rp u k)).isSome && (nextStream u k).isSome) = false) :
    ((taggedStream u k).isSome && (rp u k).wicketRun.val == 3) = false := by
  rw [taggedStream_isSome]
  rcases h with h | h
  · simp [Nat.ne_of_lt h]
  · simp [h]

section Issues

variable {s : State} {k : RPort} (hc : clocked s k = true) (hf : frozen s k = false) (chk : IssueChk)
include hc hf

theorem rillIssue_fetches {a : BitVec 58} {kind : OutKind} {w : BitVec 11}
    (hy : ((taggedStream (fetchWait s k) k).isSome && (rp (fetchWait s k) k).wicketRun.val == 3) = false)
    (h : fetchReady (fetchWait s k) k = some ((a, kind), w)) :
    ∃ v, execRillIssue k chk s = .next v ∧ kept s v ∧ ⟨w, kind, false, none, a, true⟩ ∈ (rp v k).outs := by
  obtain rfl := fetchReady_west h
  let v := wicketWon (issueFetch (fetchWait s 0) a kind w) 0 true (taggedStream (fetchWait s 0) 0).isSome
  refine ⟨after v, (rillIssue_eq hc hf chk).trans (issueChoice_fetch chk hy h),
    kept_after ((wicketWon_store _ _ _ _).trans ((issueFetch_store _ _ _ _).trans (fetchWait_store s 0))), ?_⟩
  rw [rp_of_rill (after_rill v), wicketWon_outs]
  exact issueFetch_mem (fetchWait s 0) a kind w

theorem rillIssue_wicket {t : Tile} {i : Nat}
    (hy : ((taggedStream (fetchWait s k) k).isSome && (rp (fetchWait s k) k).wicketRun.val == 3) = false)
    (hn : fetchReady (fetchWait s k) k = none) (h : wicketIssue (fetchWait s k) k = some (t, i)) :
    execRillIssue k chk s = .next (after (if chk = .staging ∧ isStaged (t.beats.getD i .done) = true then
        halfFault (fetchWait s k) k 0x1C k.val (stagingDetail (fetchWait s k) t)
      else wicketWon (issueBeat (fetchWait s k) k t i (t.wtag.getD 0) (chk == .echo)) k true
        ((freeTag (rp (fetchWait s k) k)).isSome && (nextStream (fetchWait s k) k).isSome))) := by
  rw [rillIssue_eq hc hf, issueChoice_wicket chk hy hn h, issueChecked_eq, taggedStream_isSome]

theorem rillIssue_stream {c : BitVec 12} {t : Tile} {i : Nat} {tag : BitVec 11} (hg : freeTag (rp (fetchWait s k) k) = some tag)
    (hs : nextStream (fetchWait s k) k = some (c, t, i))
    (hn : (rp (fetchWait s k) k).wicketRun.val = 3 ∨ (fetchReady (fetchWait s k) k = none ∧ wicketIssue (fetchWait s k) k = none)) :
    execRillIssue k chk s = .next (after (if chk = .staging ∧ isStaged (t.beats.getD i .done) = true then
        halfFault (fetchWait s k) k 0x1C k.val (stagingDetail (fetchWait s k) t)
      else wicketWon (modRp (issueBeat (fetchWait s k) k t i tag (chk == .echo)) k (fun p =>
        { p with rr := if isBound (issueBeat (fetchWait s k) k t i tag (chk == .echo)) c then p.rr else c })) k false false)) := by
  have next : taggedStream (fetchWait s k) k = some (c, t, i, tag) := by rw [taggedStream_eq, hg, hs]; rfl
  rw [rillIssue_eq hc hf, next, issueChoice_stream chk hn, issueChecked_eq]

end Issues

/-! ## Responses (R41, R42, R267 to R271, R273) -/

section Responses

variable {s : State} {k : RPort} {g : BitVec 11} (hc : clocked s k = true)
include hc

theorem readResponse_unknown (h : (rp s k).outs.find? (fun o => o.tag == g && !o.write) = none) (b : Beat) (x : BitVec 2) :
    execRillReadResponse k g b x s = .next (after (halfFault s k 0x19 k.val ((0#1).setWidth 32 <<< 12 ||| g.setWidth 32))) := by
  have west : ((0#1).setWidth 32 <<< 12 ||| g.setWidth 32 : W32) = g.setWidth 32 := by simp
  simp only [execRillReadResponse, hc, h, Bool.not_true, Bool.false_eq_true, if_false, finish_eq_after, west]

theorem writeResponse_unknown (h : (rp s k).outs.find? (fun o => o.tag == g && o.write) = none) (x : BitVec 2) :
    execRillWriteResponse k g x s = .next (after (halfFault s k 0x19 k.val ((1#1).setWidth 32 <<< 12 ||| g.setWidth 32))) := by
  simp only [execRillWriteResponse, hc, h, Bool.not_true, Bool.false_eq_true, if_false, finish_eq_after]
  rfl

section Read

variable {o : ROut} (ho : (rp s k).outs.find? (fun o => o.tag == g && !o.write) = some o) (b : Beat) (x : BitVec 2)
include ho

/-- The data of a Gatehouse fetch goes to the Gatehouse and to the beats merged with it (R271, R273). -/
theorem readResponse_fetch (hw : o.who.isNone = true) : execRillReadResponse k g b x s = .next (afterSync (settleAll (mergedRead
    (if frozen s k = true ∨ o.alloc = false then dropWicket (dropOut s k o) (some g)
      else ghFetched (dropWicket (dropOut s k o) (some g)) o.kind b (x == 0)) k o b x) k)) := by
  simp only [execRillReadResponse, hc, ho, hw, Bool.not_true, Bool.false_eq_true, if_false, if_true, finishSync_eq_afterSync, Bool.or_eq_true,
    Bool.not_eq_true']

/-- A response to a stream's read, case by case. -/
theorem readResponse_stream (hw : o.who.isSome = true) : execRillReadResponse k g b x s =
    if 2 ≤ x.toNat then .next (after (settleAll (placeBeats (rillError (dropOut s k o) k o) k o .idle) k))
    else if frozen s k then .next (after (settleAll (placeBeats (dropOut s k o) k o .idle) k))
    else if x = 1 then .next (afterSync (settleAll (xlateBeats (dropOut s k o) k o) k))
    else .next (afterSync (settleAll (placeBeats (if o.alloc && echoOpen (rp s k) o.addr then modRp (dropOut s k o) k (fun p => echoPut p o.addr b)
      else dropOut s k o) k o (.staged b)) k)) := by
  have tile : o.who.isNone = false := by rw [Option.isNone_eq_false_iff]; exact hw
  simp only [execRillReadResponse, hc, ho, tile, Bool.not_true, Bool.false_eq_true, if_false, finishSync_eq_afterSync, finish_eq_after]

end Read

theorem writeResponse_known {o : ROut} (ho : (rp s k).outs.find? (fun o => o.tag == g && o.write) = some o) (x : BitVec 2) :
    execRillWriteResponse k g x s =
      if x = 0 then .next (afterSync (settleAll (placeBeats (dropOut s k o) k o .done) k))
      else if 2 ≤ x.toNat then .next (after (settleAll (placeBeats (rillError (dropOut s k o) k o) k o .idle) k))
      else if frozen s k then .next (after (settleAll (placeBeats (dropOut s k o) k o .idle) k))
      else .next (afterSync (settleAll (xlateBeats (dropOut s k o) k o) k)) := by
  simp only [execRillWriteResponse, hc, ho, Bool.not_true, Bool.false_eq_true, if_false, finishSync_eq_afterSync, finish_eq_after]

end Responses

/-! ## Pieces (R264, R267, R451) -/

section Pieces

variable {s : State} {k : RPort} {t : Tile} {run : List NBeat} {turn : RillPort → RillPort} (hc : clocked s k = true)
  (hf : frozen s k = false)
include hc hf

/-- A staged piece goes to its block; a beat or a flit that fails parity raises its fault and is not used. -/
theorem fillPieceWrite_moves (hp : pickPiece s k (streamMoves s) (fillPiece s) = some (t, run, turn)) :
    execFillPieceWrite k .good s = .next (after (movePiece (modRp s k turn) k t .write run)) ∧
      execFillPieceWrite k .staging s = .next (after (halfFault s k 0x1C k.val (stagingDetail s t))) ∧
      execFillPieceWrite k .there s = .next (after (halfFault s k 0x10 0 (BitVec.ofNat 32 (pieceOutput k run)))) ∧
      execFillPieceWrite k .back s = .next (after (halfFault s k 0x10 0 4#32)) := by
  refine ⟨?_, ?_, ?_, ?_⟩ <;>
    simp only [execFillPieceWrite, hc, hf, hp, pieceFault, finish_eq_after, Bool.not_true, Bool.or_self, Bool.false_eq_true, if_false,
      if_true, reduceCtorEq]

theorem drainPieceRead_moves (hp : pickPiece s k (streamLive s) (drainPiece s) = some (t, run, turn)) :
    execDrainPieceRead k s .good = .next (after (movePiece (modRp s k turn) k t .read run)) ∧
      execDrainPieceRead k s .there = .next (after (halfFault s k 0x10 0 (BitVec.ofNat 32 (pieceOutput k run)))) ∧
      execDrainPieceRead k s .back = .next (after (halfFault s k 0x10 0 4#32)) := by
  refine ⟨?_, ?_, ?_⟩ <;>
    simp only [execDrainPieceRead, hc, hf, hp, pieceFault, finish_eq_after, Bool.not_true, Bool.or_self, Bool.false_eq_true, if_false]

end Pieces

/-! ## Completion (R265): what the postings of a stream's end leave of Rill -/

/-- What no posting changes: the ports, and what a stream's state and count of tiles say. -/
structure StreamsKeep (s t : State) : Prop where
  ports : t.rill.ports = s.rill.ports
  tiles : ∀ n, (stream t n).tiles = (stream s n).tiles
  st : ∀ n, (stream t n).st = (stream s n).st

namespace StreamsKeep

variable {s t u : State}

theorem of_rill (h : t.rill = s.rill) : StreamsKeep s t :=
  ⟨by rw [h], fun n => by rw [stream, stream, h], fun n => by rw [stream, stream, h]⟩

theorem refl (s : State) : StreamsKeep s s := of_rill rfl

theorem trans (h : StreamsKeep s t) (g : StreamsKeep t u) : StreamsKeep s u where
  ports := g.ports.trans h.ports
  tiles n := (g.tiles n).trans (h.tiles n)
  st n := (g.st n).trans (h.st n)

theorem foldl {α : Type} (f : State → α → State) (h : ∀ s a, StreamsKeep s (f s a)) (l : List α) (s : State) :
    StreamsKeep s (l.foldl f s) := by
  induction l generalizing s with
  | nil => exact .refl s
  | cons a l ih => exact (h s a).trans (ih (f s a))

end StreamsKeep

theorem tellRill_streamsKeep (s : State) (c : BitVec 12) : StreamsKeep s (tellRill s c) := by
  unfold tellRill
  split
  · exact .of_rill rfl
  · refine ⟨rfl, fun n => ?_, fun n => ?_⟩ <;> rw [stream_modStream] <;> split <;> simp_all

theorem retireWrite_rill (s : State) (p : EPort) (seq : Nat) : (retireWrite s p seq).rill = s.rill := by
  unfold retireWrite
  dsimp only
  split_ifs <;> rfl

theorem closeReq_rill (s : State) (p : EPort) (e : EReq) : (closeReq s p e).rill = s.rill := by
  unfold closeReq
  dsimp only
  split
  · rw [retireWrite_rill, modReq, modEp_rill]
  · rfl

theorem tagRequest_rill (s : State) (p : EPort) (e : EReq) (ended : Bool) : (tagRequest s p e ended).rill = s.rill := by
  unfold tagRequest putTag
  dsimp only
  split_ifs <;> rfl

theorem tagError_rill (s : State) (p : EPort) (seq : Nat) (code : BitVec 3) : (tagError s p seq code).rill = s.rill := by
  unfold tagError
  split
  · rfl
  · split
    · rfl
    · rw [modReq, modEp_rill, tagRequest_rill]

theorem answerSignal_rill (s : State) (p : EPort) (seq : Nat) (code : BitVec 3) : (answerSignal s p seq code).rill = s.rill := by
  unfold answerSignal answerAll unhold
  split
  · split
    · rfl
    · dsimp only
      split
      · rfl
      · rw [closeReq_rill, tagError_rill, modReq, modEp_rill]
        split <;> rfl
  · rfl

theorem queueMsg_rill (s : State) (w : Watch) (m : W64) : (queueMsg s w m).rill = s.rill := by unfold queueMsg; split <;> rfl

theorem meetWatch_streamsKeep (s : State) (w : Watch) : StreamsKeep s (meetWatch s w) := by
  unfold meetWatch
  split
  · exact .of_rill (answerSignal_rill (dropWatch s w.w) _ _ _)
  · exact .of_rill (queueMsg_rill s w _)
  next c _ => exact (StreamsKeep.of_rill rfl : StreamsKeep s (dropWatch s w.w)).trans (tellRill_streamsKeep _ c)

theorem testWatches_streamsKeep (s : State) (kinds : List (BitVec 3)) (target : BitVec 12) : StreamsKeep s (testWatches s kinds target) := by
  unfold testWatches
  split
  · exact .refl s
  · refine .foldl _ (fun u w => ?_) _ s
    split
    · exact meetWatch_streamsKeep u w
    · exact .refl u

/-! ### Barriers -/

theorem flushStep_rill (s : State) (h : Half) : (flushStep s h).rill = s.rill := by
  unfold flushStep
  split
  · split <;> rfl
  · rfl

theorem flushSteps_rill (s : State) (h : Half) : (flushSteps s h).rill = s.rill := by
  unfold flushSteps
  generalize (vget s.fb.steps h).length = n
  induction n generalizing s with
  | zero => rfl
  | succ n ih => exact (ih (flushStep s h)).trans (flushStep_rill s h)

theorem wakeReq_rill (s : State) (r : Region) : (wakeReq s r).rill = s.rill :=
  wakeReq_keeps State.rill modPw_rill modStager_rill countM_rill s r

theorem startCloses_rill (s : State) (h : Half) (m : Byte) (b : Fin 64) (uid : Nat) : (startCloses s h m b uid).rill = s.rill := by
  unfold startCloses
  rw [flushSteps_rill]
  refine foldl_keeps State.rill _ _ s fun u r => ?_
  split
  · exact (wakeReq_rill _ r).trans (modEv_rill u r _)
  · rfl

/-- A release at the chip and its messages. -/
theorem releaseBar_streamsKeep (s : State) (b : Fin 64) : StreamsKeep s (releaseBar s b) := by
  unfold releaseBar
  extract_lets x s1 s2 uid bst marked closing s3
  have met : StreamsKeep s s2 := (StreamsKeep.of_rill rfl : StreamsKeep s s1).trans (testWatches_streamsKeep s1 [3] (BitVec.ofNat 12 b.val))
  have closed : StreamsKeep s s3 := by
    unfold s3
    split
    · exact met
    · exact met.trans (.of_rill (startCloses_rill marked 0 x.step b uid))
  split
  · exact closed.trans (.of_rill rfl)
  · exact closed

theorem macroDone_streamsKeep (s : State) (b : Fin 64) : StreamsKeep s (macroDone s b) := by
  unfold macroDone
  dsimp only
  split_ifs <;> exact .of_rill rfl

theorem lookBar_streamsKeep (s : State) (b : Fin 64) : StreamsKeep s (lookBar s b) := by
  have chip : ∀ u, StreamsKeep u (lookChip u b) := fun u => by
    unfold lookChip releaseChip
    split
    · exact (releaseBar_streamsKeep u b).trans (macroDone_streamsKeep _ b)
    · exact .refl u
  unfold lookBar
  dsimp only
  split_ifs
  · exact .refl s
  · exact releaseBar_streamsKeep s b
  · exact .refl s
  · exact (macroDone_streamsKeep s b).trans (chip _)

/-! ### The postings of a stream's end -/

theorem countErr_rill (s : State) : (countErr s).rill = s.rill := rfl

theorem refuseOp_rill (s : State) (op : BitVec 4) : (refuseOp s op).rill = s.rill := by
  unfold refuseOp
  dsimp only
  split
  · rw [countM_rill]; rfl
  · rfl

theorem rillArrive_streamsKeep (s : State) (b : BitVec 12) (k : RPort) : StreamsKeep s (rillArrive s b k) := by
  unfold rillArrive
  dsimp only
  split
  · exact .of_rill rfl
  · exact (StreamsKeep.of_rill (modBar_rill s _ _)).trans (lookBar_streamsKeep _ _)

theorem rillSem_streamsKeep (s : State) (n : BitVec 12) : StreamsKeep s (rillSem s n) := by
  have set : ∀ v, StreamsKeep s (putSem s n v) := fun v =>
    (StreamsKeep.of_rill rfl : StreamsKeep s (setSem s n v)).trans (testWatches_streamsKeep (setSem s n v) [0] n)
  unfold rillSem
  dsimp only
  split
  · exact .of_rill (refuseOp_rill s 0)
  · exact (set _).trans (.of_rill (countM_rill (putSem s n (semVal s n + 1)) 0x60 0 1))

theorem tellPair_rill (s : State) (n : Byte) (posted : Option Bool) : (tellPair s n posted).rill = s.rill := by
  unfold tellPair; split <;> rfl

theorem setPair_streamsKeep (s : State) (n : Byte) (w : W64) (posted : Option Bool) : StreamsKeep s (setPair s n w posted) := by
  let u : State := { s with bst := { s.bst with pairs := tset 0 s.bst.pairs n.toNat w } }
  have met : StreamsKeep s (testWatches u [1, 2] (n.setWidth 12)) :=
    (StreamsKeep.of_rill rfl : StreamsKeep s u).trans (testWatches_streamsKeep u [1, 2] (n.setWidth 12))
  exact met.trans (.of_rill (tellPair_rill (testWatches u [1, 2] (n.setWidth 12)) n posted))

theorem pairAdd_streamsKeep {s t : State} {n : Byte} {producer : Bool} {k : W32} {posted : Option Bool}
    (h : pairAdd s n producer k posted = some t) : StreamsKeep s t := by
  unfold pairAdd at h
  extract_lets w w' at h
  split at h
  · cases h
  · rw [← Option.some.inj h]
    exact setPair_streamsKeep s n w' posted

theorem rillPair_streamsKeep (s : State) (n : Byte) (producer : Bool) (posted : Option Bool) : StreamsKeep s (rillPair s n producer posted) := by
  have refused := StreamsKeep.of_rill (refuseOp_rill s (if producer then 4 else 5))
  unfold rillPair
  split
  next t added => exact (pairAdd_streamsKeep added).trans (.of_rill (countM_rill t 0x60 (if producer then 4 else 5) 1))
  · dsimp only
    split
    · exact refused.trans (.of_rill (tellPair_rill _ n posted))
    · exact refused

theorem postPair_streamsKeep (s : State) (k : RPort) (n : Byte) (producer : Bool) : StreamsKeep s (postPair s k n producer) := by
  unfold postPair
  split
  · exact rillPair_streamsKeep s n producer none
  · exact ⟨rfl, fun _ => rfl, fun _ => rfl⟩

theorem postOr_streamsKeep (s : State) (k : RPort) {f : State → State} (h : ∀ u, StreamsKeep u (f u)) (m : CtlMsg) :
    StreamsKeep s (postOr s k f m) := by
  unfold postOr
  split
  · exact h s
  · exact .of_rill rfl

/-- The postings of a stream's end. -/
def endPostings (s : State) (k : RPort) (h w : W64) : State :=
  let t := if h.getLsbD 9 then postOr s k (fun s => rillSem s (w.extractLsb' 0 12)) (.rillSem (w.extractLsb' 0 12)) else s
  if h.getLsbD 10 then postOr t k (fun s => rillArrive s (w.extractLsb' 32 12) k) (.rillArrive (w.extractLsb' 32 12) k) else t

theorem endPostings_streamsKeep (s : State) (k : RPort) (h w : W64) : StreamsKeep s (endPostings s k h w) := by
  unfold endPostings
  extract_lets t
  have sem : StreamsKeep s t := by
    unfold t
    split
    · exact postOr_streamsKeep s k (fun u => rillSem_streamsKeep u _) _
    · exact .refl s
  split
  · exact sem.trans (postOr_streamsKeep t k (fun u => rillArrive_streamsKeep u _ k) _)
  · exact sem

theorem endStream_eq (s : State) (k : RPort) (c : BitVec 12) :
    endStream s k c = endPostings (modStream s c (fun x => { x with st := .done })) k (slotWord s c 0) (slotWord s c 2) := rfl

/-- The tile leaves its port and is counted, before anything is posted. -/
def tileTaken (s : State) (k : RPort) (c : BitVec 12) (t : Tile) : State :=
  modStream (modRp (dropWicket s t.wtag) k (fun p => { p with tiles := p.tiles.filter (fun x => x.uid != t.uid) })) c
    (fun x => { x with tiles := x.tiles + 1, posSlot := t.slot, posBeat := BitVec.ofNat 10 (t.beats.length - 1) })

/-- The completion of a bound stream's tile is posted (R265). -/
def tilePosted (s : State) (k : RPort) (c : BitVec 12) (t : Tile) : State :=
  if (slotWord s c 0).getLsbD 8 then postPair (tileTaken s k c t) k ((slotWord s c 0).extractLsb' 16 8) (!t.drain) else tileTaken s k c t

theorem completeTile_eq (s : State) (k : RPort) (c : BitVec 12) (t : Tile) :
    completeTile s k c t = if t.last then endStream (tilePosted s k c t) k c else tilePosted s k c t := rfl

theorem tilePosted_streamsKeep (s : State) (k : RPort) (c : BitVec 12) (t : Tile) : StreamsKeep (tileTaken s k c t) (tilePosted s k c t) := by
  unfold tilePosted
  split
  · exact postPair_streamsKeep _ k _ _
  · exact .refl _

theorem dropWicket_rill (s : State) (w : Option (BitVec 11)) :
    (dropWicket s w).rill.ports = s.rill.ports ∧ (dropWicket s w).rill.streams = s.rill.streams := by
  unfold dropWicket; split <;> exact ⟨rfl, rfl⟩

theorem tileTaken_tiles (s : State) (k : RPort) (c : BitVec 12) (t : Tile) :
    (rp (tileTaken s k c t) k).tiles = (rp s k).tiles.filter (fun x => x.uid != t.uid) ∧
      (stream (tileTaken s k c t) c).tiles = (stream s c).tiles + 1 := by
  obtain ⟨ports, streams⟩ := dropWicket_rill s t.wtag
  constructor
  · change (rp (modRp (dropWicket s t.wtag) k _) k).tiles = _
    rw [rp_modRp_same, rp, ports, rp]
  · rw [tileTaken, stream_modStream_same, stream_modRp, stream, streams, stream]

/-- The tile is counted and released, whatever is posted. -/
theorem completeTile_tiles (s : State) (k : RPort) (c : BitVec 12) (t : Tile) :
    (stream (completeTile s k c t) c).tiles = (stream s c).tiles + 1 ∧
      (rp (completeTile s k c t) k).tiles = (rp s k).tiles.filter (fun x => x.uid != t.uid) := by
  obtain ⟨released, counted⟩ := tileTaken_tiles s k c t
  have posted := tilePosted_streamsKeep s k c t
  rw [completeTile_eq]
  split
  · rw [endStream_eq]
    have ended := endPostings_streamsKeep (modStream (tilePosted s k c t) c (fun x => { x with st := .done })) k
      (slotWord (tilePosted s k c t) c 0) (slotWord (tilePosted s k c t) c 2)
    constructor
    · rw [ended.tiles, stream_modStream_same, posted.tiles, counted]
    · rw [rp, ended.ports, modStream_rill, posted.ports, ← rp, released]
  · constructor
    · rw [posted.tiles, counted]
    · rw [rp, posted.ports, ← rp, released]

/-- A stream's end makes it DONE. -/
theorem completeTile_done {s : State} {k : RPort} {c : BitVec 12} {t : Tile} (h : t.last = true) : (stream (completeTile s k c t) c).st = .done := by
  rw [completeTile_eq, if_pos h, endStream_eq, (endPostings_streamsKeep _ _ _ _).st, stream_modStream_same]

section Complete

variable {s : State} {k : RPort} {ctx : BitVec 12} {t : Tile} (hc : clocked s k = true) (hk : streamPort s ctx = k) (hf : frozen s k = false)
  (hm : streamMoves s ctx = true) (ht : ((rp s k).tiles.filter (fun t => t.ctx == ctx)).head? = some t)
include hc hk hf hm ht

theorem tileComplete_eq : execTileComplete ctx s =
    if t.beats.all (· == .done) = true then .next (afterSync (completeTile s k ctx t)) else .next s := by
  simp only [execTileComplete, hk, hc, hf, hm, ht, Bool.not_true, Bool.or_self, Bool.false_eq_true, if_false, finishSync_eq_afterSync, skip]

end Complete

/-- Settles O45: the exits of the seven commands, in the order of the statement. -/
theorem rillMovesTiles : Obligations.RillMovesTiles := by
  unfold Obligations.RillMovesTiles
  simp only [exec_admitDescriptor, exec_rillIssue, exec_rillReadResponse, exec_rillWriteResponse, exec_fillPieceWrite,
    exec_drainPieceRead, exec_tileComplete]
  intro s k ctx slot t hc
  refine ⟨fun l ho hq => ⟨fun hn => admitDescriptor_drops hc ho hq hn, fun hn => ⟨fun hk => admitDescriptor_free hc ho hq hn hk,
      fun hk hg => admitDescriptor_faulty hc ho hq hn hk hg, fun hg hd => ?_, fun hg hd h1 => ⟨fun w hw => ?_, fun hw => ?_⟩,
      fun hg hd h1 => ?_⟩⟩,
    fun chk hf => ⟨fun hy => ⟨fun a kd w => rillIssue_fetches hc hf chk (yieldsNot hy), fun i => rillIssue_wicket hc hf chk (yieldsNot hy)⟩,
      fun c i tag => rillIssue_stream hc hf chk⟩,
    fun i tag => ⟨issueBeat_mem tag, fun hb hs he => ⟨fun b hh => ?_, fun hh ho => ?_, issueBeat_miss tag hb hs he⟩⟩,
    fun g x => ⟨fun h b => readResponse_unknown hc h b x, fun h => writeResponse_unknown hc h x⟩,
    fun g o b x ho => ⟨readResponse_fetch hc ho b x, fun hw => ⟨fun h2 => ?_, fun h2 hf => ?_, fun hf => ?_, fun hf => ?_⟩⟩,
    fun g o x ho => ⟨?_, fun h2 => ?_, fun hf => ?_, fun hf => ?_⟩,
    fun run turn hf => ⟨fillPieceWrite_moves hc hf, drainPieceRead_moves hc hf⟩,
    fun hk hf hm ht => ⟨fun hd => ?_, fun hd => ⟨?_, (completeTile_tiles s k ctx t).1, completeTile_done,
      (completeTile_tiles s k ctx t).2⟩⟩⟩
  · simp [admitDescriptor_good hc ho hq hn hg, hd]
  · simp [admitDescriptor_good hc ho hq hn hg, hd, h1, hw]
  · simp [admitDescriptor_good hc ho hq hn hg, hd, h1, hw]
  · simp [admitDescriptor_good hc ho hq hn hg, hd, Nat.ne_of_gt h1]
  · rw [issueBeat_lookup tag hb hs he, hh]
  · rw [issueBeat_lookup tag hb hs he, hh]; dsimp only; rw [if_pos ho]
  · rw [readResponse_stream hc ho b x hw, if_pos h2]
  · rw [readResponse_stream hc ho b x hw, if_neg (by omega), if_pos hf]
  · rw [readResponse_stream hc ho b 1 hw]; simp [hf]
  · rw [readResponse_stream hc ho b 0 hw]; simp [hf]
  · simp [writeResponse_known hc ho]
  · rw [writeResponse_known hc ho, if_neg (by rintro rfl; simp at h2), if_pos h2]
  · simp [writeResponse_known hc ho, hf]
  · simp [writeResponse_known hc ho, hf]
  · simp [tileComplete_eq hc hk hf hm ht, hd]
  · simp [tileComplete_eq hc hk hf hm ht, hd]

end Sys2Proof.Machine
end

section
/-! PROOF. What the retry of the waiting register accesses of a region leaves, field by field (R24, R69, R184, R210, R246). -/

namespace Sys2Proof.Machine

/-- What both branches of a choice leave, the choice leaves. -/
theorem ite_keeps {α : Type} {g : State → α} {c : Prop} [Decidable c] {s t u : State} (ht : g t = g s) (hu : g u = g s) :
    g (if c then t else u) = g s := by
  split
  · exact ht
  · exact hu

/-- What g reads of the state is left by every operation of a retry in region r: by the register ports, the fault registers and the basins,
by a wake request, and by a change of the region outside its power controller. -/
structure RetryLeaves {α : Type} (g : State → α) (r : Region) : Prop where
  port : ∀ s p f, g (modRport s p f) = g s
  raised : ∀ s h rec, g (raise s h rec) = g s
  wake : ∀ s, g (wakeReq s r) = g s
  region : ∀ s f, (∀ x, (f x).power = x.power) → g (modRg s r f) = g s
  basin : ∀ (s : State) v, g { s with basin := v } = g s

namespace RetryLeaves

variable {α : Type} {g : State → α} {r : Region} (h : RetryLeaves g r) (s : State) (p : RegPort)
include h

theorem reply (d : W64) : g (reply s p d) = g s := h.port s p _
theorem ack : g (ack s p) = g s := h.reply s p 0
theorem busErr : g (busErr s p) = g s := h.port s p _
theorem holdAcc (a : HeldAcc) : g (holdAcc s p a) = g s := h.port s p _
theorem trStep : g (modEv s r trStep) = g s := h.region s _ fun _ => rfl
theorem waitWake (a : HeldAcc) : g (waitWake s p r a) = g s := (h.wake _).trans (h.holdAcc s p a)

/-- A read whose word fails its check records a fault and answers a bus error. -/
theorem faulted (half : Half) (rec : W64) : g (Machine.busErr (raise (wakeReq s r) half rec) p) = g s :=
  (h.busErr _ p).trans ((h.raised _ half rec).trans (h.wake s))

theorem basinPut (b : Blk) (j : Nat) (bs : List Byte) : g (basinPut s r b j bs) = g s := ite_keeps (h.basin s _) rfl

theorem basinZero (b : Blk) (j n : Nat) : g (basinZero s r b j n) = g s := ite_keeps (h.basin s _) rfl

theorem basinClearSegs (segs : BitVec 16) : g (basinClearSegs s r segs) = g s :=
  foldl_keeps g _ _ s fun u b => ite_keeps (foldl_keeps g _ _ u fun v _ => ite_keeps (h.basinZero v b _ _) rfl) rfl

/-! ## The accesses that wait -/

theorem trRead (bad : Bool) : g (trRead s p r bad) = g s :=
  ite_keeps (h.busErr s p) <| ite_keeps (h.waitWake s p _) <| ite_keeps (h.faulted s p _ _) <|
    (h.reply _ p _).trans ((h.trStep _).trans (h.wake s))

theorem trWrite (d : W64) : g (trWrite s p r d) = g s :=
  ite_keeps (h.busErr s p) <| ite_keeps (h.waitWake s p _) <|
    (h.ack _ p).trans ((h.trStep _).trans ((h.region _ _ (by intro; rfl)).trans (h.wake s)))

theorem trDelay (d : W32) : g (trDelay s p r d) = g s :=
  ite_keeps (h.busErr s p) <| ite_keeps (h.waitWake s p _) <|
    (h.ack _ p).trans ((h.trStep _).trans ((h.region _ _ (by intro; rfl)).trans (h.wake s)))

theorem basinClr (d : W32) : g (basinClr s p r d) = g s :=
  ite_keeps (h.busErr s p) <| ite_keeps (h.waitWake s p _) <| ite_keeps (h.holdAcc s p _) <|
    (h.ack _ p).trans ((h.basinClearSegs _ _).trans (h.wake s))

theorem basinWr (d : W64) : g (basinWr s p r d) = g s :=
  ite_keeps (h.busErr s p) <| ite_keeps (h.waitWake s p _) <| ite_keeps (h.holdAcc s p _) <|
    (h.ack _ p).trans ((h.region _ _ (by intro; rfl)).trans ((h.basinPut _ _ _ _).trans (h.wake s)))

theorem basinRd (bad : Bool) : g (basinRd s p r bad) = g s :=
  ite_keeps (h.busErr s p) <| ite_keeps (h.waitWake s p _) <| ite_keeps (h.holdAcc s p _) <| ite_keeps (h.faulted s p _ _) <|
    (h.reply _ p _).trans ((h.region _ _ (by intro; rfl)).trans (h.wake s))

theorem basinClrRd : g (basinClrRd s p r) = g s :=
  ite_keeps (h.busErr s p) <| ite_keeps (h.waitWake s p _) <| ite_keeps (h.holdAcc s p _) <| (h.reply _ p _).trans (h.wake s)

theorem sweepRdAcc (bad : Bool) : g (sweepRdAcc s p r bad) = g s :=
  ite_keeps (h.busErr s p) <| ite_keeps (h.waitWake s p _) <| ite_keeps (h.faulted s p _ _) <|
    (h.reply _ p _).trans ((h.region _ _ (by intro; rfl)).trans (h.wake s))

theorem retryAcc : g (retryAcc s r p) = g s := by
  unfold Machine.retryAcc
  split
  · exact ite_keeps (h.trRead s p _) rfl
  · exact ite_keeps (h.trWrite s p _) rfl
  · exact ite_keeps (h.trDelay s p _) rfl
  · exact ite_keeps (h.basinClr s p _) rfl
  · exact ite_keeps (h.basinWr s p _) rfl
  · exact ite_keeps (h.basinRd s p _) rfl
  · exact ite_keeps (h.basinClrRd s p) rfl
  · exact ite_keeps (h.sweepRdAcc s p _) rfl
  all_goals rfl

theorem retryRegion : g (retryRegion s r) = g s :=
  (h.retryAcc _ .gh).trans ((h.retryAcc _ .mp).trans (h.retryAcc s .cp))

end RetryLeaves

end Sys2Proof.Machine
end

section
/-! PROOF. Staged steps of the power states (R101, R400 to R402, R419). -/

namespace Sys2Proof.Machine

/-! ## The arms -/

theorem exec_stagedStepStart (r s) : exec (.stagedStepStart r) s = execStagedStepStart r s := rfl
theorem exec_stagedStepEnd (r s) : exec (.stagedStepEnd r) s = execStagedStepEnd r s := rfl

/-! ## The bits of a region mask -/

theorem bit8_mask8 (r : Region) : bit8 (mask8 r) r = true := by
  simp [bit8, mask8, BitVec.getLsbD_ofNat, Nat.testBit_two_pow_self, r.isLt, -BitVec.ofNat_pow]

theorem bit8_clearBit (m : Byte) (r : Region) : bit8 (clearBit m r) r = false := by
  have set : (mask8 r).getLsbD r.val = true := bit8_mask8 r
  simp [bit8, clearBit, set]

theorem bit8_or_mask8 (m : Byte) (r : Region) : bit8 (m ||| mask8 r) r = true := by
  have set : (mask8 r).getLsbD r.val = true := bit8_mask8 r
  simp [bit8, set]

/-! ## What a move of a region shows -/

/-- What the statement about moves reads of region r: the data space, the Plan loader, WAKE_DONE, and the region's power state. -/
def moveSeen (r : Region) (s : State) : Table Byte × Loader × Byte × PState := (s.mem, s.pln, s.pwr.wakeDone, (rg s r).power.st)

theorem modRg_moveSeen (r : Region) (s : State) {f : RegionSt → RegionSt} (h : ∀ g, (f g).power.st = g.power.st) :
    moveSeen r (modRg s r f) = moveSeen r s := by
  simp only [moveSeen, rg_modRg_same, h, modRg_mem, modRg_pln, modRg_pwr]

theorem countM_pln (s : State) (e a n : Nat) : (countM s e a n).pln = s.pln := by unfold countM wrapFlag; dsimp only; split <;> rfl

theorem countM_moveSeen (r : Region) (s : State) (e a n : Nat) : moveSeen r (countM s e a n) = moveSeen r s := by
  obtain ⟨hm, -⟩ := kept_of_store (countM_store s e a n)
  simp only [moveSeen, rg, countM_regions, countM_pwr, countM_pln, hm]

theorem modStager_moveSeen (r : Region) (s : State) (h : Half) (f : Stager → Stager) : moveSeen r (modStager s h f) = moveSeen r s := rfl

theorem raise_moveSeen (r : Region) (s : State) (h : Half) (rec : W64) : moveSeen r (raise s h rec) = moveSeen r s := by
  unfold raise recordFault assertFreeze
  dsimp only
  split
  · split <;> rfl
  · rfl

theorem after_moveSeen (r : Region) (s : State) : moveSeen r (after s) = moveSeen r s := by
  obtain ⟨q, hq⟩ := after_pwr s
  simp only [moveSeen, rg, after_regions, after_mem, after_pln, hq]

theorem grantWake_moveSeen {s t : State} {r : Region} {n : Nat} (h : grantWake s r n = some t) : moveSeen r t = moveSeen r s := by
  unfold grantWake at h
  dsimp only at h
  split at h
  · split at h
    · rw [← Option.some.inj h]
      exact modRg_moveSeen r _ fun _ => rfl
    · cases h
  · cases h

theorem grantBetween_moveSeen {s t : State} {r : Region} (h : grantBetween s r = some t) : moveSeen r t = moveSeen r s := by
  unfold grantBetween at h
  dsimp only at h
  split at h
  · cases h
  next u hg =>
    split at h
    · rw [← Option.some.inj h]
      exact (countM_moveSeen r _ _ _ _).trans ((modStager_moveSeen r u _ _).trans (grantWake_moveSeen hg))
    · cases h

/-- A wake request moves no region by itself. -/
theorem wakeReq_moveSeen (s : State) (r : Region) : moveSeen r (wakeReq s r) = moveSeen r s := by
  have ended : moveSeen r (endDownWait s r) = moveSeen r s := ite_keeps (modRg_moveSeen r s fun _ => rfl) rfl
  rw [← ended]
  unfold wakeReq
  dsimp only
  rw [← endDownWait]
  generalize endDownWait s r = u
  have pending : moveSeen r (modPw u r (fun p => { p with pend := true })) = moveSeen r u := modRg_moveSeen r u fun _ => rfl
  refine ite_keeps (modRg_moveSeen r u fun _ => rfl) (ite_keeps rfl (ite_keeps ?_ pending))
  split
  next hg => exact (grantBetween_moveSeen hg).trans pending
  · exact pending

theorem moveSeen_retryLeaves (r : Region) : RetryLeaves (moveSeen r) r where
  port := fun _ p _ => by cases p <;> rfl
  raised := raise_moveSeen r
  wake := fun s => wakeReq_moveSeen s r
  region := fun s _ h => modRg_moveSeen r s fun x => by rw [h]
  basin := fun _ _ => rfl

theorem countMs_moveSeen (r : Region) (s : State) (sels : List (BitVec 16)) (n : Nat) : moveSeen r (countMs s sels n) = moveSeen r s := by
  unfold countMs wrapFlag
  generalize cntAll s.cnt.counters sels n = counted
  exact ite_keeps rfl rfl

/-! ## A region enters Off (R101, R401) -/

theorem memZeroRegion_regions (s : State) (r : Region) : (memZeroRegion s r).regions = s.regions := ite_keeps (g := State.regions) rfl rfl

theorem basinZeroRegion_regions (s : State) (r : Region) : (basinZeroRegion s r).regions = s.regions :=
  ite_keeps (g := State.regions) rfl rfl

theorem basinZeroRegion_mem (s : State) (r : Region) : (basinZeroRegion s r).mem = s.mem := ite_keeps (g := State.mem) rfl rfl

theorem enterOff_power (s : State) (r : Region) : (rg (enterOff s r) r).power = (rg s r).power := by
  simp only [enterOff, clearRegion, rg, basinZeroRegion_regions, memZeroRegion_regions, modRg_regions, vget_vmod_same]

theorem planned_enterOff (s : State) (r : Region) : planned (enterOff s r) r = false := bit8_clearBit _ r

theorem enterOff_zeroes {s : State} {r : Region} (hw : canWrite s = true) {a : Nat} (ha : r.val * 2 ^ 24 ≤ a) (hb : a < (r.val + 1) * 2 ^ 24) :
    tget 0 (enterOff s r).mem a = 0 := by
  have write : ∀ f, canWrite (modRg s r f) = true := fun _ => hw
  rw [enterOff, clearRegion, basinZeroRegion_mem, memZeroRegion, if_pos (write _), tget_tclear, if_pos ⟨ha, hb⟩]

/-! ## The end of a move (R400, R401) -/

/-- Region r once the effect of its last step b is in place. -/
def stepMade (s : State) (r : Region) (b : Booked) : State := stepEffect (modPw s r (fun p => { p with steps := [] })) r b

/-- A power controller that has come down to state st. -/
def cameDown (p : RPower) (st : PState) : RPower := { p with steps := [], st := st, down := false, ticks := 0 }

section Down

variable {s : State} {r : Region} {b : Booked}

theorem stepMade_clockOff (hk : b.kind = .clockOff) : (rg (stepMade s r b) r).power = cameDown (rg s r).power .idle := by
  simp only [stepMade, stepEffect, hk, modPw, rg_modRg_same, cameDown]

theorem stepMade_periphOff (hk : b.kind = .periphOff) : (rg (stepMade s r b) r).power = cameDown (rg s r).power .retain := by
  simp only [stepMade, stepEffect, hk, modPw, rg_modRg_same, cameDown]

theorem stepMade_arrayOff (hk : b.kind = .arrayOff) : (rg (stepMade s r b) r).power = cameDown (rg s r).power .off := by
  simp only [stepMade, stepEffect, hk, enterOff_power, modPw, rg_modRg_same, cameDown]

theorem arrayOff_unplans (hk : b.kind = .arrayOff) : planned (stepMade s r b) r = false := by
  simp only [stepMade, stepEffect, hk, planned_enterOff]

theorem arrayOff_zeroes (hk : b.kind = .arrayOff) (hw : canWrite s = true) {a : Nat} (ha : r.val * 2 ^ 24 ≤ a)
    (hb : a < (r.val + 1) * 2 ^ 24) : tget 0 (stepMade s r b).mem a = 0 := by
  have write : ∀ f g, canWrite (modPw (modPw s r f) r g) = true := fun _ _ => hw
  simp only [stepMade, stepEffect, hk, enterOff_zeroes (write _ _) ha hb]

/-- The last step of a downward move leaves the region as its effect has it, whether or not a wake request waits for its end. -/
theorem endStep_down (hw : (rg (stepMade s r b) r).power.waking = false) :
    moveSeen r (endStep s r b []) = moveSeen r (stepMade s r b) := by
  change moveSeen r (if (rg (stepMade s r b) r).power.waking = true then _ else _) = _
  rw [if_neg (by simp [hw])]
  exact ite_keeps ((wakeReq_moveSeen _ r).trans (modRg_moveSeen r _ fun _ => rfl)) rfl

end Down

/-- A region that reaches Run is in Run, with WAKE_DONE set for it (R401, R419). -/
theorem reachRun_moveSeen (s : State) (r : Region) : moveSeen r (reachRun s r) = (s.mem, s.pln, s.pwr.wakeDone ||| mask8 r, .run) := by
  have zeroed : ∀ u x, moveSeen r { basinZeroRegion u r with rs := x } = moveSeen r u := fun u x => by
    unfold basinZeroRegion
    split <;> rfl
  unfold reachRun
  dsimp only
  split
  · rw [zeroed, countMs_moveSeen]
    simp [moveSeen, rg, resort]
  · rw [countMs_moveSeen]
    simp [moveSeen, rg, resort]

/-- The last step of a wake: the region reaches Run. -/
theorem endStep_clockOn {s : State} {r : Region} {b : Booked} (hk : b.kind = .clockOn) (hw : (rg s r).power.waking = true) :
    endStep s r b [] = reachRun (modPw s r (fun p => { p with steps := [] })) r := by
  simp [endStep, stepEffect, hk, modPw, hw]

/-! ## The two commands -/

section Steps

variable {s : State} {r : Region} {b : Booked} {bs : List Booked} (hl : live s = true) (hs : (rg s r).power.steps = b :: bs)
include hl hs

theorem stagedStepStart_due (hb : b.begun = false) (hd : b.start / 1000 ≤ s.aon.sundial.toNat) : execStagedStepStart r s =
    if riseWaits s (halfOf r) b.kind = true then .next s
    else .next (after (modPw s r (fun p => { p with steps := { b with begun := true } :: bs }))) := by
  simp only [execStagedStepStart, hs, hl, hb, decide_eq_false (Nat.not_lt.mpr hd), Bool.not_true, Bool.false_or, finish_eq_after, skip]

theorem stagedStepEnd_due (hb : b.begun = true) (hd : b.stop / 1000 ≤ s.aon.sundial.toNat) :
    execStagedStepEnd r s = .next (after (retryRegion (endStep s r b bs) r)) := by
  simp only [execStagedStepEnd, hs, hl, hb, decide_eq_false (Nat.not_lt.mpr hd), Bool.not_true, Bool.or_self, Bool.false_eq_true, if_false,
    finish_eq_after]

end Steps

/-- What the retry and the clock handshake after a step leave of the move. -/
theorem moveSeen_ended (s : State) (r : Region) : moveSeen r (after (retryRegion s r)) = moveSeen r s :=
  (after_moveSeen r _).trans ((moveSeen_retryLeaves r).retryRegion s)

theorem parts_of_moveSeen {s t : State} {r : Region} (h : moveSeen r t = moveSeen r s) :
    t.mem = s.mem ∧ planned t r = planned s r ∧ (rg t r).power.st = (rg s r).power.st := by
  simp only [moveSeen, Prod.mk.injEq] at h
  obtain ⟨hm, hp, -, hst⟩ := h
  exact ⟨hm, by rw [planned, hp, planned], hst⟩

/-- After the last step of a downward move the region shows what the step's effect has made of it. -/
theorem down_ended {s : State} {r : Region} {b : Booked} {st : PState} (hp : (rg (stepMade s r b) r).power = cameDown (rg s r).power st)
    (hw : (rg s r).power.waking = false) :
    let t := after (retryRegion (endStep s r b []) r)
    t.mem = (stepMade s r b).mem ∧ planned t r = planned (stepMade s r b) r ∧ (rg t r).power.st = st := by
  obtain ⟨hm, hl, hst⟩ := parts_of_moveSeen ((moveSeen_ended _ r).trans (endStep_down (s := s) (b := b) (by rw [hp]; exact hw)))
  exact ⟨hm, hl, hst.trans (by rw [hp]; rfl)⟩

/-- After the last step of a wake the region is in Run and WAKE_DONE shows it. -/
theorem wake_ended {s : State} {r : Region} {b : Booked} (hk : b.kind = .clockOn) (hw : (rg s r).power.waking = true) :
    let t := after (retryRegion (endStep s r b []) r)
    (rg t r).power.st = .run ∧ bit8 t.pwr.wakeDone r = true := by
  have seen := (moveSeen_ended (endStep s r b []) r).trans ((congrArg (moveSeen r) (endStep_clockOn hk hw)).trans (reachRun_moveSeen _ r))
  simp only [moveSeen, Prod.mk.injEq] at seen
  obtain ⟨-, -, hdone, hst⟩ := seen
  exact ⟨hst, by rw [hdone]; exact bit8_or_mask8 _ r⟩

/-- Settles O14: the start of a booked step, and each last step of a move. -/
theorem stagedStepsStartAndEnd : Obligations.StagedStepsStartAndEnd := by
  unfold Obligations.StagedStepsStartAndEnd
  simp only [exec_stagedStepStart, exec_stagedStepEnd]
  intro s r b bs hl hs
  refine ⟨fun hb hd hw => ?_, fun hb hd hw => ?_, fun hb hd hn => ?_⟩
  · rw [stagedStepStart_due hl hs hb hd, if_pos hw]
  · rw [stagedStepStart_due hl hs hb hd, if_neg (by simp [hw])]
  · subst hn
    refine ⟨_, stagedStepEnd_due hl hs hb hd, fun hk hw => ?_, fun hk hw => ?_, fun hk hw => ?_, wake_ended⟩
    · obtain ⟨-, -, hst⟩ := down_ended (stepMade_clockOff hk) hw
      exact hst
    · obtain ⟨-, -, hst⟩ := down_ended (stepMade_periphOff hk) hw
      exact hst
    · obtain ⟨hm, hp, hst⟩ := down_ended (stepMade_arrayOff hk) hw
      exact ⟨hst, hp.trans (arrayOff_unplans hk), fun write a lo hi => by rw [hm, arrayOff_zeroes hk write lo hi]⟩

end Sys2Proof.Machine
end

section
/-! PROOF. The slot counter of a timetable, and its slots (R105, R107, R145, R148, R451). -/

namespace Sys2Proof.Machine

theorem exec_timetableSlot (r bad m chk s) : exec (.timetableSlot r bad m chk) s = execTimetableSlot r bad m chk s := rfl

/-! ## The counter (R105, R107, R145) -/

/-- The slot whose cycle comes next: the one the region entered Run with, then each in turn, modulo 1,024 (R145). -/
def nextSlot (g : RegionSt) : Nat := if g.model.fresh then g.model.slot.val else (g.model.slot.val + 1) % 1024

/-- The counter one slot on. -/
def slotAfter (k : Fin 1024) : Fin 1024 := if h : k.val + 1 < 1024 then ⟨k.val + 1, h⟩ else 0

theorem slotAfter_val (k : Fin 1024) : (slotAfter k).val = (k.val + 1) % 1024 := by
  unfold slotAfter
  split
  next h => exact (Nat.mod_eq_of_lt h).symm
  · have wraps : k.val + 1 = 1024 := by omega
    rw [wraps]; rfl

section Advance

variable {g : RegionSt}

/-- The first slot after the region entered Run leaves the counter. -/
theorem advanceSlot_fresh (h : g.model.fresh = true) : (advanceSlot g).model = { g.model with fresh := false } := by
  simp [advanceSlot, h]

/-- At the wrap a pending timetable takes effect and ends the switch; a write of DESC that waits starts the next one. -/
theorem advanceSlot_wrap (h : g.model.fresh = false) (hk : slotAfter g.model.slot = 0) (hp : g.model.ttPending = true) :
    (advanceSlot g).model = { g.model with
      slot := 0, slotBad := false, ttPending := false, tt := (vget g.plan.descs (fin 64 g.model.active.toNat)).tt,
      switching := g.model.again, hold := g.model.again, target := g.model.sel, again := false } := by
  unfold slotAfter at hk
  simp [advanceSlot, h, hk, hp, resort]

theorem advanceSlot_counts (h : g.model.fresh = false) (hn : ¬(slotAfter g.model.slot = 0 ∧ g.model.ttPending = true)) :
    (advanceSlot g).model = { g.model with slot := slotAfter g.model.slot, slotBad := false } := by
  unfold slotAfter at hn ⊢
  simp only [advanceSlot, h, hn, Bool.false_eq_true, if_false]

theorem advanceSlot_slot (g : RegionSt) : (advanceSlot g).model.slot.val = nextSlot g := by
  unfold nextSlot
  cases hf : g.model.fresh with
  | true => rw [advanceSlot_fresh hf]; rfl
  | false =>
    rw [if_neg Bool.false_ne_true, ← slotAfter_val]
    by_cases hw : slotAfter g.model.slot = 0 ∧ g.model.ttPending = true
    · obtain ⟨hk, hp⟩ := hw
      rw [advanceSlot_wrap hf hk hp, hk]
    · rw [advanceSlot_counts hf hw]

theorem slotAfter_eq_zero (h : (g.model.slot.val + 1) % 1024 = 0) : slotAfter g.model.slot = 0 :=
  Fin.ext ((slotAfter_val _).trans h)

theorem advanceSlot_switches (hf : g.model.fresh = false) (hk : nextSlot g = 0) (hp : g.model.ttPending = true) :
    (advanceSlot g).model.tt = (vget g.plan.descs (fin 64 g.model.active.toNat)).tt ∧ (advanceSlot g).model.ttPending = false ∧
      (advanceSlot g).model.switching = g.model.again ∧ (advanceSlot g).model.target = g.model.sel := by
  rw [nextSlot, hf, if_neg Bool.false_ne_true] at hk
  rw [advanceSlot_wrap hf (slotAfter_eq_zero hk) hp]
  exact ⟨rfl, rfl, rfl, rfl⟩

theorem advanceSlot_keepsTimetable (h : g.model.fresh = true ∨ nextSlot g ≠ 0 ∨ g.model.ttPending = false) :
    (advanceSlot g).model.tt = g.model.tt ∧ (advanceSlot g).model.switching = g.model.switching := by
  cases hf : g.model.fresh with
  | true => rw [advanceSlot_fresh hf]; exact ⟨rfl, rfl⟩
  | false =>
    rw [advanceSlot_counts hf]
    · exact ⟨rfl, rfl⟩
    · rintro ⟨hk, hp⟩
      simp [nextSlot, hf, hp, ← slotAfter_val, hk] at h

end Advance

/-! ## The beats of a slot (R145) -/

/-- The beat that a slot issues at a block waits there, at a cell that the slot names, and is the owner's. -/
theorem ownedBeat_owned {g : RegionSt} {w : W64} {b : Blk} {l : List BReq} {q : BReq} (h : ownedBeat g w b l = some q) :
    q ∈ l ∧ slotOwns w b q.beat.cell = true ∧ ∃ seq, q.src = .engine (slotOwner w) seq := by
  have chosen := List.find?_some h
  simp only [Bool.and_eq_true] at chosen
  obtain ⟨⟨owned, from_⟩, -⟩ := chosen
  refine ⟨List.mem_of_find?_eq_some h, owned, ?_⟩
  cases hs : q.src with
  | engine p seq => rw [hs] at from_; exact ⟨seq, by rw [eq_of_beq from_]⟩
  | mcast | rill | lodge | dump => rw [hs] at from_; cases from_

theorem slotBeats_owned {g : RegionSt} {w : W64} {b : Blk} {q : BReq} (h : (b, q) ∈ slotBeats g w) :
    q ∈ (vget g.blocks b).sched ∧ slotOwns w b q.beat.cell = true ∧ ∃ seq, q.src = .engine (slotOwner w) seq := by
  simp only [slotBeats, List.mem_filterMap, Option.map_eq_some_iff, Prod.mk.injEq] at h
  obtain ⟨c, -, x, hx, rfl, rfl⟩ := h
  exact ownedBeat_owned hx

/-! ## What a slot leaves: the basins, and the model registers of its region -/

/-- The basins and the model registers of region r, its slot counter among them. -/
def slotKeeps (r : Region) (s : State) : Table Byte × Model := (s.basin, (rg s r).model)

section Keeps

variable (r : Region) (s : State)

theorem slotKeeps_of_regions {s t : State} (hs : store t = store s) (hr : t.regions = s.regions) : slotKeeps r t = slotKeeps r s := by
  obtain ⟨-, hb, -⟩ := kept_of_store hs
  simp only [slotKeeps, rg, hb, hr]

theorem modRg_slotKeeps {f : RegionSt → RegionSt} (h : ∀ g, (f g).model = g.model) : slotKeeps r (modRg s r f) = slotKeeps r s := by
  simp only [slotKeeps, rg_modRg_same, h, modRg_basin]

theorem modBlk_slotKeeps (b : Blk) (f : Block → Block) : slotKeeps r (modBlk s r b f) = slotKeeps r s := modRg_slotKeeps r s fun _ => rfl

theorem wrapFlag_slotKeeps (w : Bool) : slotKeeps r (wrapFlag s w) = slotKeeps r s := ite_keeps rfl rfl

theorem countBs_slotKeeps (b : Blk) (sels : List (BitVec 16)) (n : Nat) : slotKeeps r (countBs s r b sels n) = slotKeeps r s :=
  ite_keeps ((wrapFlag_slotKeeps r _ _).trans (modRg_slotKeeps r s fun _ => rfl)) rfl

theorem countB_slotKeeps (b : Blk) (e a n : Nat) : slotKeeps r (countB s r b e a n) = slotKeeps r s := countBs_slotKeeps r s b _ n

theorem countPB_slotKeeps (b : Blk) (c : Fin 8) (e : Nat) : slotKeeps r (countPB s r b c e) = slotKeeps r s := countBs_slotKeeps r s b _ 1

/-- A fault leaves every region. -/
theorem raise_regions (h : Half) (rec : W64) : (raise s h rec).regions = s.regions := by
  obtain ⟨-, recorded, -⟩ := recordFault_keeps s rec
  exact ite_keeps (g := State.regions) recorded rfl

theorem raise_slotKeeps (h : Half) (rec : W64) : slotKeeps r (raise s h rec) = slotKeeps r s :=
  slotKeeps_of_regions r (raise_store s h rec) (raise_regions s h rec)

/-! ### The answer of a beat -/

theorem setRes_regions (p : EPort) (n first : Nat) (rs : List BeatRes) : (setRes s p n first rs).regions = s.regions := by
  unfold setRes
  split
  · rfl
  · refine ite_keeps (g := State.regions) rfl (ite_keeps ?_ rfl)
    exact (answerKeeps_regions (closeReq_answerKeeps _ p _)).trans (answerKeeps_regions (modReq_answerKeeps s p n _))

/-- The answers of a piece change no region. -/
theorem pieceBack_regions (src : BSrc) (op : CellOp) (first : Nat) (rs : List BeatRes) : (pieceBack s src op first rs).regions = s.regions := by
  cases src with
  | engine p n => exact setRes_regions s p n first rs
  | mcast q inst =>
    unfold pieceBack
    dsimp only
    split
    · rfl
    · exact foldl_keeps State.regions _ _ s fun u m => ite_keeps (setRes_regions u m.1 m.2 first rs) rfl
  | rill k uid =>
    unfold pieceBack
    dsimp only
    split
    · rfl
    · exact ite_keeps (g := State.regions) rfl rfl
  | lodge n uid => exact ite_keeps (g := State.regions) rfl rfl
  | dump => exact ite_keeps (g := State.regions) rfl rfl

theorem pieceDone_slotKeeps (p : RPiece) : slotKeeps r (pieceDone s r p) = slotKeeps r s := by
  have left : slotKeeps r (modRg s r (fun g => { g with inq := g.inq.filter (fun x => x.uid != p.uid) })) = slotKeeps r s :=
    modRg_slotKeeps r s fun _ => rfl
  exact ite_keeps ((slotKeeps_of_regions r (pieceBack_store _ _ _ _ _) (pieceBack_regions _ _ _ _ _)).trans left) left

theorem beatDone_slotKeeps (uid i : Nat) (performed : Bool) (x : BeatRes) : slotKeeps r (beatDone s r uid i performed x) = slotKeeps r s := by
  unfold beatDone
  refine Eq.trans ?_ (modRg_slotKeeps r s (f := fun g => { g with inq := g.inq.map (fun p =>
    if p.uid = uid then { p with granted := p.granted || performed, res := p.res.mapIdx (fun j o => if j = i then some x else o) } else p) })
    fun _ => rfl)
  dsimp only
  split
  · rfl
  · exact ite_keeps (pieceDone_slotKeeps r _ _) rfl

theorem modReq_slotKeeps (p : EPort) (n : Nat) (f : EReq → EReq) : slotKeeps r (modReq s p n f) = slotKeeps r s := rfl

theorem markBegun_slotKeeps (src : BSrc) : slotKeeps r (markBegun s src) = slotKeeps r s := by
  unfold markBegun
  split
  · rfl
  · split
    · exact foldl_keeps (slotKeeps r) _ _ s fun u m => modReq_slotKeeps r u m.1 m.2 _
    · rfl
  all_goals rfl

theorem markStage_slotKeeps (src : BSrc) (k : Nat) : slotKeeps r (markStage s src k) = slotKeeps r s := by
  unfold markStage
  split
  · rfl
  · split
    · exact foldl_keeps (slotKeeps r) _ _ s fun u m => modReq_slotKeeps r u m.1 m.2 _
    · rfl
  all_goals rfl

/-! ### The beat at the cell -/

/-- A cell's access writes the data space, and of its region at most TRACE_SAT. -/
theorem cellAccess_slotKeeps (b : Blk) (op : CellOp) (q : PBeat) : slotKeeps r (cellAccess s r b op q).1 = slotKeeps r s := by
  have written : ∀ d e, slotKeeps r (writeBeat s r b q.cell q.row d e) = slotKeeps r s := fun _ _ => ite_keeps rfl rfl
  have row : ∀ bs, slotKeeps r (putRow s r b q.cell q.row bs) = slotKeeps r s := fun _ => ite_keeps rfl rfl
  cases op with
  | read => rfl
  | write | setBits | clrBits => exact written _ _
  | atom a =>
    unfold cellAccess
    refine Eq.trans ?_ (row (atomBeat a (rg s r).ev.epoch (factorOf s r) q.off (readBeat s r b q.cell q.row) q.data q.strb).1)
    exact ite_keeps (modRg_slotKeeps r _ fun _ => rfl) rfl

theorem beatFault_slotKeeps {b : Blk} {q : BReq} {chk : BeatChk} {t : State} (h : beatFault s r b q chk = some t) :
    slotKeeps r t = slotKeeps r s := by
  cases chk with
  | good | xbarParity => cases h
  | arrayParity =>
    unfold beatFault at h
    dsimp only at h
    split at h
    · cases h
    · rw [← Option.some.inj h]; exact raise_slotKeeps r s _ _
  | factorParity d =>
    unfold beatFault at h
    dsimp only at h
    split at h
    · rw [← Option.some.inj h]; exact raise_slotKeeps r s _ _
    · cases h

/-- The block when a beat's check is made at port B: a stall of this cell is over, and one of port A in its place is counted (R139). -/
def atPortB (s : State) (r : Region) (b : Blk) (q : BReq) (m : Meet) : State :=
  let u := modBlk s r b (fun z => { z with stalled := if z.stalled = some q.beat.cell then none else z.stalled })
  if stallsA (blk s r b) q m then countB u r b 0x09 0 1 else u

theorem atPortB_slotKeeps (b : Blk) (q : BReq) (m : Meet) : slotKeeps r (atPortB s r b q m) = slotKeeps r s := by
  have unstalled := modBlk_slotKeeps r s b (fun z => { z with stalled := if z.stalled = some q.beat.cell then none else z.stalled })
  unfold atPortB
  dsimp only
  split
  · rw [countB_slotKeeps, unstalled]
  · exact unstalled

/-- A beat at port B fails its check, is answered BUSY, or is performed, and each slot of the port is counted (R118, R139, R480). -/
theorem portB_state (b : Blk) (q : BReq) (m : Meet) (chk : BeatChk) :
    (∃ t, beatFault (atPortB s r b q m) r b q chk = some t ∧ (portB s r b q m chk).1 = countPB t r b q.beat.cell 0x0C) ∨
      (portB s r b q m chk).1 = countPB (countB (atPortB s r b q m) r b 0x13 0 1) r b q.beat.cell 0x0D ∨
      ∃ c, (portB s r b q m chk).1 = countPB (if c = true then (cellAccess (atPortB s r b q m) r b q.op q.beat).1
        else countPB (cellAccess (atPortB s r b q m) r b q.op q.beat).1 r b q.beat.cell 0x0C) r b q.beat.cell 0x0C := by
  unfold portB
  dsimp only
  rw [← atPortB]
  split
  next t fault => exact .inl ⟨t, fault, rfl⟩
  · split
    · exact .inr (.inl rfl)
    · exact .inr (.inr ⟨_, rfl⟩)

theorem portB_slotKeeps (b : Blk) (q : BReq) (m : Meet) (chk : BeatChk) : slotKeeps r (portB s r b q m chk).1 = slotKeeps r s := by
  have start := atPortB_slotKeeps r s b q m
  obtain ⟨t, fault, h⟩ | h | ⟨c, h⟩ := portB_state r s b q m chk
  · rw [h, countPB_slotKeeps, beatFault_slotKeeps r _ fault, start]
  · rw [h, countPB_slotKeeps, countB_slotKeeps, start]
  · have performed := (cellAccess_slotKeeps r (atPortB s r b q m) b q.op q.beat).trans start
    rw [h, countPB_slotKeeps]
    split
    · exact performed
    · rw [countPB_slotKeeps, performed]

theorem slip_slotKeeps (b : Blk) (q : BReq) : slotKeeps r (slip s r b q) = slotKeeps r s := modBlk_slotKeeps r s b _

theorem stallBeat_slotKeeps (b : Blk) (q : BReq) : slotKeeps r (stallBeat s r b q) = slotKeeps r s :=
  (countPB_slotKeeps r _ b _ _).trans (modBlk_slotKeeps r s b _)

/-- A scheduled beat that is stalled slips; one that is performed leaves the queue, and its piece is answered with its last beat. -/
theorem issueSched_slotKeeps (b : Blk) (q : BReq) (m : Meet) (chk : BeatChk) : slotKeeps r (issueSched s r b q m chk) = slotKeeps r s := by
  unfold issueSched
  split
  · rw [markBegun_slotKeeps, slip_slotKeeps, stallBeat_slotKeeps]
  · rw [beatDone_slotKeeps, markStage_slotKeeps, markBegun_slotKeeps, modBlk_slotKeeps, portB_slotKeeps]
    exact ite_keeps (countB_slotKeeps r s b _ _ _) rfl

theorem idleCells_slotKeeps (w : W64) : slotKeeps r (idleCells s r w) = slotKeeps r s :=
  foldl_keeps (slotKeeps r) _ _ s fun u b => foldl_keeps (slotKeeps r) _ _ u fun v c => ite_keeps (countPB_slotKeeps r v b c _) rfl

theorem serveSlot_slotKeeps (w : W64) (m : Meet) (chk : BeatChk) : slotKeeps r (serveSlot s r w m chk) = slotKeeps r s := by
  unfold serveSlot
  refine Eq.trans ?_ (idleCells_slotKeeps r s w)
  dsimp only
  split
  · rfl
  next b q _ => exact ite_keeps (issueSched_slotKeeps r _ b q m chk) (ite_keeps (slip_slotKeeps r _ b q) rfl)

end Keeps

/-! ## The command -/

theorem raise_recorded (s : State) (h : Half) (rec : W64) : (h = 0 → (raise s h rec).frz.asserted = true) ∧
    (h = 1 → (raise s h rec).frz.east.length = s.frz.east.length + 1) := by
  constructor
  · rintro rfl
    cases ha : s.frz.asserted <;> simp [raise, recordFault, assertFreeze, ha]
  · rintro rfl
    simp [raise]

/-- Once the counter has advanced, nothing in the slot changes it, nor a basin. -/
theorem slot_ended {s u : State} {r : Region} (h : slotKeeps r u = slotKeeps r (modRg s r advanceSlot)) :
    (rg (after u) r).model.slot.val = nextSlot (rg s r) ∧ (after u).basin = s.basin := by
  simp only [slotKeeps, rg_modRg_same, modRg_basin, Prod.mk.injEq] at h
  obtain ⟨hb, hm⟩ := h
  exact ⟨by rw [rg, after_regions, ← rg, hm, advanceSlot_slot], by rw [after_basin, hb]⟩

section Slot

variable {s : State} {r : Region} (hc : clocked s (halfOf r) = true) (hr : inRun s r = true)
include hc hr

/-- An entry that fails parity leaves its slot open, and is a fault of the region (R148, R451). -/
theorem timetableSlot_bad (m : Meet) (chk : BeatChk) : ∃ t, execTimetableSlot r true m chk s = .next t ∧ kept s t ∧
    (rg t r).model.slot.val = nextSlot (rg s r) ∧ (rg t r).model.slotBad = true ∧
    (halfOf r = 0 → t.frz.asserted = true) ∧ (halfOf r = 1 → t.frz.east.length = s.frz.east.length + 1) := by
  simp only [execTimetableSlot, hc, hr, Bool.not_true, Bool.or_self, Bool.false_eq_true, if_false, if_true, finish_eq_after]
  refine ⟨_, rfl, kept_after (regionFault_store _ _ _ _), ?_, ?_, ?_⟩
  · rw [rg, after_regions, regionFault, raise_regions, ← rg, rg_modRg_same, rg_modRg_same]
    exact advanceSlot_slot _
  · rw [rg, after_regions, regionFault, raise_regions, ← rg, rg_modRg_same]
  · rw [after_frz]
    exact raise_recorded _ _ _

theorem timetableSlot_open (hw : (slotEntry (advanceSlot (rg s r)) (nextSlot (rg s r))).getLsbD 47 = false) (m : Meet) (chk : BeatChk) :
    execTimetableSlot r false m chk s = .next (after (modRg s r advanceSlot)) := by
  rw [← advanceSlot_slot] at hw
  simp only [execTimetableSlot, hc, hr, rg_modRg_same, hw, Bool.not_true, Bool.not_false, Bool.or_self, Bool.true_or, Bool.false_eq_true,
    if_false, if_true, finish_eq_after]

/-- A slot whose entry passes its check: the counter has advanced, whatever its owner issues. -/
theorem timetableSlot_good (m : Meet) (chk : BeatChk) :
    ∃ t, execTimetableSlot r false m chk s = .next t ∧ (rg t r).model.slot.val = nextSlot (rg s r) ∧ t.basin = s.basin := by
  simp only [execTimetableSlot, hc, hr, Bool.not_true, Bool.or_self, Bool.false_eq_true, if_false, finish_eq_after]
  split
  · exact ⟨_, rfl, slot_ended rfl⟩
  · cases chk with
    | xbarParity out => exact ⟨_, rfl, slot_ended (raise_slotKeeps r _ _ _)⟩
    | good | arrayParity | factorParity => exact ⟨_, rfl, slot_ended (serveSlot_slotKeeps r _ _ m _)⟩

end Slot

/-- Settles O31: the three exits of the command, the advance of the counter, and the beats of a slot. -/
theorem slotCounterAdvances : Obligations.SlotCounterAdvances := by
  unfold Obligations.SlotCounterAdvances
  simp only [exec_timetableSlot]
  exact fun s r m chk hc hr => ⟨timetableSlot_good hc hr m chk, timetableSlot_bad hc hr m chk, fun hw => timetableSlot_open hc hr hw m chk,
    advanceSlot_switches, advanceSlot_keepsTimetable, fun _ _ _ => slotBeats_owned⟩

end Sys2Proof.Machine
end

section
/-! PROOF. Bit-set writes, bit-clear writes and atomics at the cell (R119 to R121, R412). -/

namespace Sys2Proof.Machine

/-! ## Words and their bytes (R11) -/

/-- Words of n bytes are equal when their bytes are. -/
theorem eq_of_bytes {n w : Nat} (hw : w = 8 * n) {x y : BitVec w}
    (h : ∀ i < n, x.extractLsb' (8 * i) 8 = y.extractLsb' (8 * i) 8) : x = y := by
  refine BitVec.eq_of_getLsbD_eq fun k hk => ?_
  have same := congrArg (fun v : BitVec 8 => v.getLsbD (k % 8)) (h (k / 8) (by omega))
  simpa [Nat.mod_lt, Nat.div_add_mod] using same

theorem byte_of_extract {w : Nat} (x : BitVec w) (start len i : Nat) (h : 8 * i + 8 ≤ len) :
    (x.extractLsb' start len).extractLsb' (8 * i) 8 = x.extractLsb' (start + 8 * i) 8 := by
  ext k hk
  simp only [BitVec.getElem_extractLsb', BitVec.getLsbD_extractLsb']
  rw [decide_eq_true (by omega), Bool.true_and, Nat.add_assoc]

theorem byte_of_not {w : Nat} (x : BitVec w) (i : Nat) (h : 8 * i + 8 ≤ w) :
    (~~~x).extractLsb' (8 * i) 8 = ~~~x.extractLsb' (8 * i) 8 := by
  ext k hk
  have within : 8 * i + k < w := by omega
  simp [within]

theorem bytesOf_length {w : Nat} (v : BitVec w) (n : Nat) : (bytesOf v n).length = n := by simp [bytesOf]

theorem bytesOf_getElem {w : Nat} (v : BitVec w) (n i : Nat) (h : i < (bytesOf v n).length) :
    (bytesOf v n)[i] = v.extractLsb' (8 * i) 8 := by simp [bytesOf]

/-- The bytes of a word make the word. -/
theorem wordOf_bytesOf {n w : Nat} (hw : w = 8 * n) (v : BitVec w) : wordOf w (bytesOf v n) = v :=
  eq_of_bytes hw fun i hi => by
    have inside : i < (bytesOf v n).length := by rw [bytesOf_length]; exact hi
    rw [wordOf_byte _ i inside (by omega), bytesOf_getElem]

theorem beatBytes_length (d : Beat) (i n : Nat) : (beatBytes d i n).length = n := by simp [beatBytes]

theorem beatBytes_getElem (d : Beat) (i n k : Nat) (h : k < (beatBytes d i n).length) :
    (beatBytes d i n)[k] = d.extractLsb' (8 * (i + k)) 8 := by simp [beatBytes]

/-! ## Bit-set and bit-clear (R119) -/

/-- An enabled byte of a written beat takes the beat's byte, and another stays (R133). -/
theorem memByte_writeBeat_row (s : State) (r : Region) (b : Blk) (cell : Fin 8) (row : BitVec 10) (data : Beat) (strb : BitVec 64)
    (hw : canWrite s = true) {i : Nat} (hi : i < 64) : memByte (writeBeat s r b cell row data strb) (rowAddr r b cell row + i) =
      if strb.getLsbD i then data.extractLsb' (8 * i) 8 else memByte s (rowAddr r b cell row + i) := by
  simpa [hi] using memByte_writeBeat s r b cell row data strb hw (rowAddr r b cell row + i)

/-- The strobe mask holds every bit of an enabled byte. -/
theorem strbMask_byte (strb : BitVec 64) {i : Nat} (hi : i < 64) (on : strb.getLsbD i = true) :
    (strbMask strb).extractLsb' (8 * i) 8 = BitVec.allOnes 8 := by
  rw [strbMask, wordOf_byte _ i (by simpa using hi) (by omega)]
  simp [on]

section BitWrites

variable {s : State} (hw : canWrite s = true) (r : Region) (b : Blk) (q : PBeat) {i : Nat} (hi : i < 64)
include hw hi

theorem memByte_setBits : memByte (cellAccess s r b .setBits q).1 (rowAddr r b q.cell q.row + i) =
    if q.strb.getLsbD i then memByte s (rowAddr r b q.cell q.row + i) ||| q.data.extractLsb' (8 * i) 8
    else memByte s (rowAddr r b q.cell q.row + i) := by
  rw [cellAccess, memByte_writeBeat_row _ _ _ _ _ _ _ hw hi]
  split
  next on => rw [BitVec.extractLsb'_or, BitVec.extractLsb'_and, readBeat_byte _ _ _ _ _ i hi, strbMask_byte _ hi on, BitVec.and_allOnes]
  · rfl

theorem memByte_clrBits : memByte (cellAccess s r b .clrBits q).1 (rowAddr r b q.cell q.row + i) =
    if q.strb.getLsbD i then memByte s (rowAddr r b q.cell q.row + i) &&& ~~~q.data.extractLsb' (8 * i) 8
    else memByte s (rowAddr r b q.cell q.row + i) := by
  rw [cellAccess, memByte_writeBeat_row _ _ _ _ _ _ _ hw hi]
  split
  next on =>
    rw [BitVec.extractLsb'_and, byte_of_not _ i (by omega), BitVec.extractLsb'_and, readBeat_byte _ _ _ _ _ i hi, strbMask_byte _ hi on,
      BitVec.and_allOnes]
  · rfl

end BitWrites

/-- A beat's logical address depends on the low 27 bits of A alone (R114, R119). -/
theorem beatAddr_of_low {q q' : ReqF} (h : q.addr.extractLsb' 0 27 = q'.addr.extractLsb' 0 27) (i : Nat) : beatAddr q i = beatAddr q' i := by
  have low : q.addr.toNat % 2 ^ 27 = q'.addr.toNat % 2 ^ 27 := by
    simpa [BitVec.extractLsb'_toNat] using congrArg BitVec.toNat h
  rw [beatAddr, beatAddr, Nat.add_mod, low, ← Nat.add_mod]

theorem aliasOp_set {q : ReqF} (h : q.top = 1) : aliasOp q = .setBits := if_pos h

theorem aliasOp_clear {q : ReqF} (h : q.top = 2) : aliasOp q = .clrBits := by
  unfold ReqF.top at h
  simp [aliasOp, h]

theorem reqCellOp_write {e : EReq} (h : e.op = .write) : reqCellOp e = aliasOp e.q := by simp [reqCellOp, h]

theorem reqCellOp_read {e : EReq} (h : e.op = .read) : reqCellOp e = .read := by simp [reqCellOp, h]

/-- Settles O24: byte by byte at the cell, and what port and packet ask of the cell. -/
theorem bitSetAndBitClearAtTheCell : Obligations.BitSetAndBitClearAtTheCell := by
  unfold Obligations.BitSetAndBitClearAtTheCell
  refine ⟨fun s r b q hw => ⟨fun i hi => ⟨memByte_setBits hw r b q hi, memByte_clrBits hw r b q hi⟩, writeBeat_onlyRow s r b q.cell q.row _ _,
    writeBeat_onlyRow s r b q.cell q.row _ _⟩, fun e he => ?_, fun e he => reqCellOp_read he, fun p hp => if_pos hp,
    fun q q' i h => beatAddr_of_low h i⟩
  rw [reqCellOp_write he]
  exact ⟨aliasOp_set, aliasOp_clear⟩

/-! ## Atomics: the beat (R120, R121, R239) -/

/-- A list of n parts of w entries each has w * n entries. -/
theorem flatMap_length {w n : Nat} {f : Nat → List Byte} (hf : ∀ e, (f e).length = w) : ((List.range n).flatMap f).length = w * n := by
  simp [List.length_flatMap, hf, Nat.mul_comm]

/-- Part e of a list of parts of w entries each stands from entry w * e. -/
theorem flatMap_part {w n e : Nat} {f : Nat → List Byte} (hf : ∀ e, (f e).length = w) (he : e < n) :
    (((List.range n).flatMap f).drop (w * e)).take w = f e := by
  induction n with
  | zero => cases he
  | succ n ih =>
    have front := flatMap_length (n := n) hf
    rw [List.range_succ, List.flatMap_append, List.flatMap_singleton]
    rcases Nat.lt_succ_iff_lt_or_eq.mp he with lt | rfl
    · have room : w * e + w ≤ w * n := by rw [← Nat.mul_succ]; exact Nat.mul_le_mul_left w lt
      rw [List.drop_append_of_le_length (by omega), List.take_append_of_le_length (by rw [List.length_drop]; omega)]
      exact ih lt
    · rw [List.drop_left' front, List.take_of_length_le (hf e).le]

/-- Byte i of part e of such a list, in the word that the list makes. -/
theorem wordOf_flatMap_byte {w n e i : Nat} {f : Nat → List Byte} (hf : ∀ e, (f e).length = w) (hn : 8 * (w * n) ≤ 512) (he : e < n)
    (hi : i < w) : (wordOf 512 ((List.range n).flatMap f)).extractLsb' (8 * (w * e + i)) 8 = (f e)[i]'(by rw [hf]; exact hi) := by
  have room : w * e + w ≤ w * n := by rw [← Nat.mul_succ]; exact Nat.mul_le_mul_left w he
  have inside : w * e + i < ((List.range n).flatMap f).length := by rw [flatMap_length hf]; omega
  rw [wordOf_byte _ _ inside (by omega)]
  simp only [← flatMap_part hf he, List.getElem_take, List.getElem_drop]

section Elements

variable (a : AtomOp) (old data : Beat) (strb : BitVec 64)

/-- The bytes that an atomic which acts element by element leaves of element e. -/
def elemAfter (e : Nat) : List Byte :=
  if elemOn strb (atomWidth a) e then atomElem a (beatBytes old (atomWidth a * e) (atomWidth a)) (beatBytes data (atomWidth a * e) (atomWidth a))
  else beatBytes old (atomWidth a * e) (atomWidth a)

/-- The bytes that it returns for element e. -/
def elemBack (e : Nat) : List Byte :=
  if elemOn strb (atomWidth a) e then beatBytes old (atomWidth a * e) (atomWidth a) else List.replicate (atomWidth a) 0

variable {a}

theorem atomBeat_elements (hc : a ≠ .cas64) (ht : a ≠ .trace) (now : W32) (decay : Nat → BitVec 16) (off : BitVec 6) :
    atomBeat a now decay off old data strb = ((List.range (64 / atomWidth a)).flatMap (elemAfter a old data strb),
      wordOf 512 ((List.range (64 / atomWidth a)).flatMap (elemBack a old strb)), false) := by
  have parts : ∀ e, (if elemOn strb (atomWidth a) e then
        (atomElem a (beatBytes old (atomWidth a * e) (atomWidth a)) (beatBytes data (atomWidth a * e) (atomWidth a)),
          beatBytes old (atomWidth a * e) (atomWidth a))
      else (beatBytes old (atomWidth a * e) (atomWidth a), List.replicate (atomWidth a) 0)) =
        (elemAfter a old data strb e, elemBack a old strb e) := fun e => by
    unfold elemAfter elemBack
    split <;> rfl
  cases a with
  | cas64 => exact absurd rfl hc
  | trace => exact absurd rfl ht
  | addS8 | addI32 | addF32 | minI32 | maxI32 | swap64 => simp only [atomBeat, parts, List.flatMap_map]

theorem atomWidth_dvd (a : AtomOp) : atomWidth a * (64 / atomWidth a) = 64 := by cases a <;> rfl

theorem atomElem_length (a : AtomOp) {o d : List Byte} (ho : o.length = atomWidth a) (hd : d.length = atomWidth a) :
    (atomElem a o d).length = atomWidth a := by
  cases a with
  | addS8 | addI32 | addF32 => exact bytesOf_length _ _
  | minI32 | maxI32 =>
    rw [atomElem]
    split
    · exact hd
    · exact ho
  | swap64 => exact hd
  | cas64 | trace => exact ho

theorem elemAfter_length (e : Nat) : (elemAfter a old data strb e).length = atomWidth a := by
  unfold elemAfter
  split
  · exact atomElem_length a (beatBytes_length _ _ _) (beatBytes_length _ _ _)
  · exact beatBytes_length _ _ _

theorem elemBack_length (e : Nat) : (elemBack a old strb e).length = atomWidth a := by
  unfold elemBack
  split
  · exact beatBytes_length _ _ _
  · exact List.length_replicate

variable (hc : a ≠ .cas64) (ht : a ≠ .trace) (now : W32) (decay : Nat → BitVec 16) (off : BitVec 6) {e : Nat} (he : e < 64 / atomWidth a)
include hc ht he

/-- Element e of the new beat. -/
theorem atomBeat_element :
    ((atomBeat a now decay off old data strb).1.drop (atomWidth a * e)).take (atomWidth a) = elemAfter a old data strb e := by
  rw [atomBeat_elements old data strb hc ht]
  exact flatMap_part (elemAfter_length old data strb) he

/-- Byte i of element e of the answer. -/
theorem atomBeat_answer {i : Nat} (hi : i < atomWidth a) :
    (atomBeat a now decay off old data strb).2.1.extractLsb' (8 * (atomWidth a * e + i)) 8 =
      (elemBack a old strb e)[i]'(by rw [elemBack_length]; exact hi) := by
  rw [atomBeat_elements old data strb hc ht]
  exact wordOf_flatMap_byte (elemBack_length old strb) (by rw [atomWidth_dvd]) he hi

/-- An element that is not enabled whole stays, and the answer holds 0 for it (R120). -/
theorem atomBeat_off (h : elemOn strb (atomWidth a) e = false) :
    ((atomBeat a now decay off old data strb).1.drop (atomWidth a * e)).take (atomWidth a) = beatBytes old (atomWidth a * e) (atomWidth a) ∧
      ∀ i < atomWidth a, (atomBeat a now decay off old data strb).2.1.extractLsb' (8 * (atomWidth a * e + i)) 8 = 0 := by
  refine ⟨by rw [atomBeat_element old data strb hc ht now decay off he, elemAfter, h, if_neg Bool.false_ne_true], fun i hi => ?_⟩
  rw [atomBeat_answer old data strb hc ht now decay off he hi]
  simp [elemBack, h]

/-- An enabled element takes what the atomic makes of it, and the answer holds what it was (R120). -/
theorem atomBeat_on (h : elemOn strb (atomWidth a) e = true) :
    ((atomBeat a now decay off old data strb).1.drop (atomWidth a * e)).take (atomWidth a) =
        atomElem a (beatBytes old (atomWidth a * e) (atomWidth a)) (beatBytes data (atomWidth a * e) (atomWidth a)) ∧
      ∀ i < atomWidth a, (atomBeat a now decay off old data strb).2.1.extractLsb' (8 * (atomWidth a * e + i)) 8 =
        old.extractLsb' (8 * (atomWidth a * e + i)) 8 := by
  refine ⟨by rw [atomBeat_element old data strb hc ht now decay off he, elemAfter, if_pos h], fun i hi => ?_⟩
  rw [atomBeat_answer old data strb hc ht now decay off he hi]
  simp only [elemBack, h, if_true]
  exact beatBytes_getElem old _ _ i _

end Elements

/-! ## Atomics: one element (R120) -/

theorem sat_fst {lo hi : Int} (h : lo ≤ hi) (v : Int) : (sat lo hi v).1 = max lo (min hi v) := by
  unfold sat
  split
  · simp only; omega
  · split
    · simp only; omega
    · simp only; omega

theorem sat32_toInt (v : Int) : (sat32 v).1.toInt = max (-(2 ^ 31)) (min (2 ^ 31 - 1) v) := by
  have cut : (sat32 v).1 = BitVec.ofInt 32 (max (-(2 ^ 31)) (min (2 ^ 31 - 1) v)) := by
    rw [← sat_fst (by omega)]
    rfl
  rw [cut, BitVec.toInt_ofInt_eq_self (by omega) (by omega) (by omega)]

theorem bytesOf_one (v : BitVec 8) : bytesOf v 1 = [v] := by
  simp [bytesOf, BitVec.extractLsb'_eq_self]

theorem wordOf_beatByte (d : Beat) (i : Nat) : wordOf 8 (beatBytes d i 1) = d.extractLsb' (8 * i) 8 := by
  simp [wordOf, beatBytes]

theorem atomElem_addS8 (old data : Beat) (e : Nat) : atomElem .addS8 (beatBytes old e 1) (beatBytes data e 1) =
    [BitVec.ofInt 8 (max (-128) (min 127 ((old.extractLsb' (8 * e) 8).toInt + (data.extractLsb' (8 * e) 8).toInt)))] := by
  rw [atomElem, bytesOf_one, sat_fst (by omega), wordOf_beatByte, wordOf_beatByte]

theorem atomElem_addI32 (o d : List Byte) :
    (wordOf 32 (atomElem .addI32 o d)).toInt = max (-(2 ^ 31)) (min (2 ^ 31 - 1) ((wordOf 32 o).toInt + (wordOf 32 d).toInt)) := by
  rw [atomElem, wordOf_bytesOf (by rfl), sat32_toInt]

theorem atomElem_minI32 (o d : List Byte) : (wordOf 32 (atomElem .minI32 o d)).toInt = min (wordOf 32 o).toInt (wordOf 32 d).toInt := by
  rw [atomElem]
  split <;> omega

theorem atomElem_maxI32 (o d : List Byte) : (wordOf 32 (atomElem .maxI32 o d)).toInt = max (wordOf 32 o).toInt (wordOf 32 d).toInt := by
  rw [atomElem]
  split <;> omega

/-! ## Atomics at the cell (R412) -/

theorem readBytes_putRow {s : State} (hw : canWrite s = true) (r : Region) (b : Blk) (cell : Fin 8) (row : BitVec 10) {bs : List Byte}
    (hl : bs.length = 64) : readBytes (putRow s r b cell row bs) r b cell row = bs := by
  refine List.ext_getElem (by rw [readBytes_length, hl]) fun i hi hj => ?_
  rw [readBytes_getElem, putRow, if_pos hw, memByte, tget_tputs, dif_pos (by omega)]
  congr 1
  omega

theorem putRow_onlyRow (s : State) (r : Region) (b : Blk) (cell : Fin 8) (row : BitVec 10) {bs : List Byte} (hl : bs.length = 64) :
    onlyRow s (putRow s r b cell row bs) r b cell row := by
  unfold putRow
  split
  · exact ⟨fun a ha => by rw [memByte, tget_tputs, dif_neg (by omega)]; rfl, rfl, rfl, rfl⟩
  · exact ⟨fun _ _ => rfl, rfl, rfl, rfl⟩

/-- What an atomic makes of the beat that a cell holds. -/
def atomResult (s : State) (r : Region) (b : Blk) (a : AtomOp) (q : PBeat) : List Byte × Beat × Bool :=
  atomBeat a (rg s r).ev.epoch (factorOf s r) q.off (readBeat s r b q.cell q.row) q.data q.strb

section Cell

variable (s : State) (r : Region) (b : Blk) (q : PBeat) (a : AtomOp)

/-- Of the stores, the always-on logic and the queue, an atomic changes its row alone. -/
theorem cellAccess_atom_store : store (cellAccess s r b (.atom a) q).1 = store (putRow s r b q.cell q.row (atomResult s r b a q).1) := by
  unfold cellAccess atomResult
  dsimp only
  split <;> rfl

theorem cellAccess_atom_mem : (cellAccess s r b (.atom a) q).1.mem = (putRow s r b q.cell q.row (atomResult s r b a q).1).mem :=
  congrArg Prod.fst (cellAccess_atom_store s r b q a)

theorem cellAccess_atom_answer : (cellAccess s r b (.atom a) q).2 = ⟨okay, (atomResult s r b a q).2.1⟩ := rfl

/-- An atomic makes a beat of a beat. -/
theorem atomBeat_length (now : W32) (decay : Nat → BitVec 16) (off : BitVec 6) (old data : Beat) (strb : BitVec 64) :
    (atomBeat a now decay off old data strb).1.length = 64 := by
  by_cases hc : a = .cas64
  · subst hc
    simp only [atomBeat, List.length_append, beatBytes_length, bytesOf_length]
    omega
  by_cases ht : a = .trace
  · subst ht
    simp only [atomBeat, List.flatMap_map]
    refine flatMap_length (w := 8) (n := 8) fun e => ?_
    split <;> exact bytesOf_length _ _
  · rw [atomBeat_elements old data strb hc ht]
    exact (flatMap_length (elemAfter_length old data strb)).trans (atomWidth_dvd a)

theorem cellAccess_atom_onlyRow : onlyRow s (cellAccess s r b (.atom a) q).1 r b q.cell q.row := by
  obtain ⟨hm, hb, ha, hp⟩ := kept_of_store (cellAccess_atom_store s r b q a)
  obtain ⟨outside, basin, aon, pending⟩ := putRow_onlyRow s r b q.cell q.row (atomBeat_length a (rg s r).ev.epoch (factorOf s r) q.off
    (readBeat s r b q.cell q.row) q.data q.strb)
  refine ⟨fun x hx => ?_, hb.trans basin, ha.trans aon, hp.trans pending⟩
  rw [memByte, hm]
  exact outside x hx

theorem readBytes_atom (hw : canWrite s = true) :
    readBytes (cellAccess s r b (.atom a) q).1 r b q.cell q.row = (atomResult s r b a q).1 := by
  rw [readBytes, cellAccess_atom_mem]
  exact readBytes_putRow hw r b q.cell q.row (atomBeat_length a _ _ _ _ _ _)

end Cell

/-- Settles O26: the element's bytes before and after, one lemma for each atomic; then its row alone at the cell. -/
theorem elementAtomicsAtTheCell : Obligations.ElementAtomicsAtTheCell := by
  unfold Obligations.ElementAtomicsAtTheCell
  refine ⟨fun now decay off old data strb a e hc ht he => ⟨atomBeat_off old data strb hc ht now decay off he, fun on => ?_⟩,
    fun s r b q a => ⟨cellAccess_atom_onlyRow s r b q a, readBytes_atom s r b q a⟩⟩
  obtain ⟨becomes, answers⟩ := atomBeat_on old data strb hc ht now decay off he on
  refine ⟨answers, ?_, ?_, ?_, ?_, ?_, ?_⟩
  · rintro rfl
    rw [← atomElem_addS8]
    simpa [atomWidth] using becomes
  · rintro rfl
    exact (congrArg (fun l => (wordOf 32 l).toInt) becomes).trans (atomElem_addI32 _ _)
  · rintro rfl
    exact (congrArg (fun l => (wordOf 32 l).toInt) becomes).trans (atomElem_minI32 _ _)
  · rintro rfl
    exact (congrArg (fun l => (wordOf 32 l).toInt) becomes).trans (atomElem_maxI32 _ _)
  · rintro rfl
    exact becomes
  · rintro rfl
    exact becomes

/-! ## Compare and swap (R121) -/

/-- A 64-bit word of a cell's beat is the word of its stored bytes. -/
theorem readBeat_word (s : State) (r : Region) (b : Blk) (cell : Fin 8) (row : BitVec 10) {e : Nat} (he : e < 8) :
    (readBeat s r b cell row).extractLsb' (64 * e) 64 = wordOf 64 (tgets 0 s.mem (rowAddr r b cell row + 8 * e) 8) := by
  refine eq_of_bytes (n := 8) rfl fun i hi => ?_
  have stored := readBeat_byte s r b cell row (8 * e + i) (by omega)
  rw [byte_of_extract _ _ _ _ (by omega), wordOf_byte _ i (by rw [tgets_length]; exact hi) (by omega), tgets_getElem, ← memByte, Nat.add_assoc,
    ← stored]
  congr 1
  omega

/-- Entries i .. i+n-1 of a run read from a store are a run of their own. -/
theorem tgets_part {d : Byte} {t : Table Byte} {k i n m : Nat} (h : i + n ≤ m) :
    ((tgets d t k m).drop i).take n = tgets d t (k + i) n := by
  refine List.ext_getElem (by simp only [List.length_take, List.length_drop, tgets_length]; omega) fun j hj hj' => ?_
  rw [List.getElem_take, List.getElem_drop, tgets_getElem, tgets_getElem, Nat.add_assoc]

/-- The beat that a compare and swap leaves, with word e its new word. -/
def swapBeat (old : Beat) (e : Nat) (new : W64) : List Byte :=
  beatBytes old 0 (8 * e) ++ bytesOf new 8 ++ beatBytes old (8 * e + 8) (56 - 8 * e)

theorem swapBeat_word (old : Beat) (e : Nat) (new : W64) : ((swapBeat old e new).drop (8 * e)).take 8 = bytesOf new 8 := by
  rw [swapBeat, List.append_assoc, List.drop_left' (beatBytes_length _ _ _), List.take_left' (bytesOf_length _ _)]

/-- Every byte outside word e stays. -/
theorem swapBeat_other (old : Beat) {e i : Nat} (new : W64) (hi : i < (swapBeat old e new).length) (out : i < 8 * e ∨ 8 * e + 8 ≤ i) :
    (swapBeat old e new)[i] = old.extractLsb' (8 * i) 8 := by
  have front : (beatBytes old 0 (8 * e) ++ bytesOf new 8).length = 8 * e + 8 := by
    rw [List.length_append, beatBytes_length, bytesOf_length]
  simp only [swapBeat]
  rcases out with low | high
  · rw [List.getElem_append_left (by omega), List.getElem_append_left (by rw [beatBytes_length]; exact low), beatBytes_getElem, Nat.zero_add]
  · rw [List.getElem_append_right (by omega), beatBytes_getElem, front, Nat.add_sub_cancel' high]

/-- The answer of a compare and swap (R121): the old word, and above it whether the swap was made. -/
def swapAnswer (o : W64) (hit : Bool) : Beat := o.setWidth 512 ||| ((b1 hit).setWidth 512 <<< 64)

theorem swapAnswer_word (o : W64) (hit : Bool) : (swapAnswer o hit).extractLsb' 0 64 = o := by
  ext k hk
  have within : k < 512 := by omega
  simp [swapAnswer, hk, within]

theorem swapAnswer_flag (o : W64) (hit : Bool) : (swapAnswer o hit).getLsbD 64 = hit := by
  cases hit <;> simp [swapAnswer, b1]

theorem swapAnswer_above (o : W64) (hit : Bool) : swapAnswer o hit >>> 65 = 0 := by
  ext k hk
  have above : o.getLsbD (65 + k) = false := BitVec.getLsbD_of_ge _ _ (by omega)
  have flag : (b1 hit).getLsbD (65 + k - 64) = false := BitVec.getLsbD_of_ge _ _ (by omega)
  simp [swapAnswer, above, flag]

section Swap

variable (s : State) (r : Region) (b : Blk) (q : PBeat)

/-- The first byte of the word that a compare and swap acts on. -/
def casWord : Nat := rowAddr r b q.cell q.row + 8 * (q.off.toNat / 8)

/-- The word as stored. -/
def casOld : W64 := wordOf 64 (tgets 0 s.mem (casWord r b q) 8)

/-- The word that it leaves. -/
def casNew : W64 := if casOld s r b q = q.data.extractLsb' 0 64 then q.data.extractLsb' 64 64 else casOld s r b q

/-- A beat has eight words. -/
theorem casIndex_lt : q.off.toNat / 8 < 8 := by omega

theorem atomResult_cas : atomResult s r b .cas64 q = (swapBeat (readBeat s r b q.cell q.row) (q.off.toNat / 8) (casNew s r b q),
    swapAnswer (casOld s r b q) (decide (casOld s r b q = q.data.extractLsb' 0 64)), false) := by
  simp only [atomResult, atomBeat, readBeat_word s r b q.cell q.row (casIndex_lt q), beq_eq_decide, decide_eq_true_eq]
  rfl

variable (hw : canWrite s = true)
include hw

theorem readBytes_cas : readBytes (cellAccess s r b (.atom .cas64) q).1 r b q.cell q.row =
    swapBeat (readBeat s r b q.cell q.row) (q.off.toNat / 8) (casNew s r b q) := by
  rw [readBytes_atom s r b q .cas64 hw, atomResult_cas]

theorem cas_word : wordOf 64 (tgets 0 (cellAccess s r b (.atom .cas64) q).1.mem (casWord r b q) 8) = casNew s r b q := by
  have index := casIndex_lt q
  rw [casWord, ← tgets_part (m := 64) (by omega), ← readBytes, readBytes_cas s r b q hw, swapBeat_word, wordOf_bytesOf (by rfl)]

theorem cas_other {a : Nat} (ha : a < casWord r b q ∨ casWord r b q + 8 ≤ a) :
    memByte (cellAccess s r b (.atom .cas64) q).1 a = memByte s a := by
  by_cases inRow : rowAddr r b q.cell q.row ≤ a ∧ a < rowAddr r b q.cell q.row + 64
  · obtain ⟨i, rfl⟩ := Nat.exists_eq_add_of_le inRow.1
    have hi : i < 64 := by omega
    rw [← readBytes_getElem _ r b q.cell q.row i (by rw [readBytes_length]; exact hi)]
    simp only [readBytes_cas s r b q hw]
    rw [swapBeat_other _ _ _ (by rw [casWord] at ha; omega), readBeat_byte s r b q.cell q.row i hi]
  · exact (cellAccess_atom_onlyRow s r b q .cas64).1 a (by omega)

end Swap

/-- Settles O25: the word, the rest of the data space, and the answer. -/
theorem compareAndSwapAtTheCell : Obligations.CompareAndSwapAtTheCell := by
  unfold Obligations.CompareAndSwapAtTheCell
  intro s r b q hw
  obtain ⟨-, basin, -⟩ := cellAccess_atom_onlyRow s r b q .cas64
  have answer : (cellAccess s r b (.atom .cas64) q).2.data =
      swapAnswer (casOld s r b q) (decide (casOld s r b q = q.data.extractLsb' 0 64)) := by
    rw [cellAccess_atom_answer, atomResult_cas]
  refine ⟨cas_word s r b q hw, fun a ha => cas_other s r b q hw ha, basin, ?_, ?_, ?_, fun _ => rfl⟩
  · exact answer ▸ swapAnswer_word _ _
  · exact answer ▸ swapAnswer_flag _ _
  · exact answer ▸ swapAnswer_above _ _

end Sys2Proof.Machine
end

section
/-! PROOF. Write data beats, atomics that join, and a gather's timeout (R108 to R112, R120 to R124, R130, R132, R294, R451). -/

namespace Sys2Proof.Machine

/-! ## The arms of the engine ports -/

theorem exec_atomAddS8 (p q w s) : exec (.atomAddS8 p q w) s = execAtomAddS8 p q w s := rfl
theorem exec_writeDataBeat (p w s) : exec (.writeDataBeat p w) s = execWriteDataBeat p w s := rfl
theorem exec_gatherTimeout (r g s) : exec (.gatherTimeout r g) s = execGatherTimeout r g s := rfl

/-! ## The end of a gather's wait (R124) -/

/-- Settles O20: the command is skipped, or starts the gather that it finds. -/
theorem gatherTimeoutStartsTheRead : Obligations.GatherTimeoutStartsTheRead := by
  unfold Obligations.GatherTimeoutStartsTheRead
  intro s r g hc
  simp only [exec_gatherTimeout]
  refine ⟨fun hf => by simp [execGatherTimeout, hf, skip], fun hf => ⟨fun hn => by simp [execGatherTimeout, hn, skip], fun x hx => ?_⟩⟩
  simp only [execGatherTimeout, hc, hf, hx, Bool.not_true, Bool.or_self, Bool.false_eq_true, if_false, finish_eq_after, startGather,
    launchGather]
  exact ⟨fun hw => by rw [if_pos hw], fun hw => by rw [if_neg (Bool.eq_false_iff.mp hw)]⟩

/-! ## Atomics join (R112, R294) -/

/-- An operand beat that enables every byte and carries wd_last. -/
def wholeBeat : WBeat := ⟨0, BitVec.allOnes 64, true⟩

/-- Refutes O17: an atomic that transfers is counted in the issue counts of its port before it takes them (R294), so the count that
the request carries is 1 where the statement has the port's count before the command, 0. -/
theorem not_atomicOrSignalJoinsWithItsBeat : ¬ Obligations.AtomicOrSignalJoinsWithItsBeat := by
  unfold Obligations.AtomicOrSignalJoinsWithItsBeat
  intro h
  have ready : engineReady inService 0 = true := by decide +kernel
  have idle : needsData (ep inService 0) = none := by decide +kernel
  obtain ⟨-, passes⟩ := h inService 0 oneBeat wholeBeat ready (.atomAddS8 0 oneBeat wholeBeat, .atom .addS8)
    (List.mem_append_left _ List.mem_cons_self)
  obtain ⟨t, ht, -, -, -, -, -, e, joins, -, -, -, -, -, -, -, -, -, stamped, -⟩ := (passes idle).1 rfl
  rw [exec_atomAddS8, execAtomAddS8, presentReq, if_pos ready, finish_eq_after, Host.Outcome.next.injEq] at ht
  rw [← ht, ep_after] at joins
  have counted : (ep (takeReq inService 0 (.atom .addS8) oneBeat (some wholeBeat)) 0).reqs.map (·.stampAll) = [1] := by decide +kernel
  have before : (ep inService 0).reqs = [] ∧ vget (ep inService 0).ret.issue 2 = 0 := by decide +kernel
  rw [joins, before.1, List.nil_append, List.map_singleton, List.singleton_inj, stamped, before.2] at counted
  exact absurd counted (by decide)

/-! ## What an answer leaves of the requests: their numbers, and which broke R111 -/

/-- The requests outstanding at a port by number, with whether they broke R111. -/
def brokeMarks (s : State) (p : EPort) : List (Nat × Bool) := (ep s p).reqs.map (fun e => (e.seq, e.broke))

section Marks

variable (s : State) (p : EPort)

theorem brokeMarks_modEp (q : EPort) {f : PortSt → PortSt} (hf : ∀ x, (f x).reqs = x.reqs) : brokeMarks (modEp s q f) p = brokeMarks s p := by
  rw [brokeMarks, ep_modEp]
  split
  · rw [hf]; rfl
  · rfl

theorem brokeMarks_modReq (q : EPort) (n : Nat) {f : EReq → EReq} (hf : ∀ e, (f e).seq = e.seq ∧ (f e).broke = e.broke) :
    brokeMarks (modReq s q n f) p = brokeMarks s p := by
  unfold brokeMarks modReq
  rw [ep_modEp]
  split
  · rw [List.map_map]
    refine List.map_congr_left fun e _ => ?_
    rw [Function.comp_apply]
    split
    · rw [(hf e).1, (hf e).2]
    · rfl
  · rfl

theorem brokeMarks_retireWrite (q : EPort) (n : Nat) : brokeMarks (retireWrite s q n) p = brokeMarks s p := by
  have counted : brokeMarks (modEp s q (fun x => { x with ret := retireOne x.ret n })) p = brokeMarks s p := brokeMarks_modEp s p q fun _ => rfl
  unfold retireWrite
  dsimp only
  refine ite_keeps (g := fun u => brokeMarks u p) ?_ (ite_keeps (g := fun u => brokeMarks u p) counted
    (ite_keeps (g := fun u => brokeMarks u p) counted counted))
  exact (brokeMarks_modEp _ p q (by intro; rfl)).trans counted

theorem brokeMarks_closeReq (q : EPort) (e : EReq) : brokeMarks (closeReq s q e) p = brokeMarks s p := by
  have closed : brokeMarks (modReq s q e.seq (fun x => { x with stage := .answered })) p = brokeMarks s p :=
    brokeMarks_modReq s p q _ fun _ => ⟨rfl, rfl⟩
  exact ite_keeps (g := fun u => brokeMarks u p) ((brokeMarks_retireWrite _ p q _).trans closed) closed

theorem brokeMarks_tagRequest (q : EPort) (e : EReq) (ended : Bool) : brokeMarks (tagRequest s q e ended) p = brokeMarks s p := by
  unfold tagRequest putTag
  dsimp only
  split_ifs <;> rfl

theorem brokeMarks_tagError (q : EPort) (n : Nat) (code : BitVec 3) : brokeMarks (tagError s q n code) p = brokeMarks s p := by
  unfold tagError
  split
  · rfl
  · refine ite_keeps (g := fun u => brokeMarks u p) rfl ?_
    exact (brokeMarks_modReq _ p q n (by intro; exact ⟨rfl, rfl⟩)).trans (brokeMarks_tagRequest s p q _ _)

theorem brokeMarks_answerAll (q : EPort) (n : Nat) (code : BitVec 3) : brokeMarks (answerAll s q n code) p = brokeMarks s p := by
  unfold answerAll
  split
  · rfl
  next e _ =>
    have unheld : brokeMarks (unhold s q e) p = brokeMarks s p := ite_keeps (g := fun u => brokeMarks u p) rfl rfl
    refine ite_keeps (g := fun u => brokeMarks u p) rfl ?_
    rw [brokeMarks_closeReq, brokeMarks_tagError]
    exact (brokeMarks_modReq _ p q n (by intro; exact ⟨rfl, rfl⟩)).trans unheld

theorem brokeMarks_frozenAll (q : EPort) (n : Nat) : brokeMarks (frozenAll s q n) p = brokeMarks s p :=
  (brokeMarks_modReq _ p q n (by intro; exact ⟨rfl, rfl⟩)).trans (brokeMarks_answerAll s p q n frozenC)

/-- A request marked so stands broken. -/
theorem exists_broke {n : Nat} (h : (n, true) ∈ brokeMarks s p) : ∃ y ∈ (ep s p).reqs, y.seq = n ∧ y.broke = true := by
  obtain ⟨y, hy, he⟩ := List.mem_map.mp h
  obtain ⟨hn, hb⟩ := Prod.mk.inj he
  exact ⟨y, hy, hn, hb⟩

/-- Marking a request that is outstanding breaks it. -/
theorem mem_brokeMarks_modReq {e : EReq} (h : e ∈ (ep s p).reqs) :
    (e.seq, true) ∈ brokeMarks (modReq s p e.seq (fun x => { x with broke := true })) p := by
  simp only [brokeMarks, modReq, ep_modEp_same, List.map_map]
  exact List.mem_map.mpr ⟨e, h, by simp⟩

end Marks

/-! ## A beat of the write data channel (R111, R451) -/

theorem raise_ports (s : State) (h : Half) (rec : W64) : (raise s h rec).ports = s.ports := by
  unfold raise recordFault assertFreeze
  dsimp only
  split_ifs <;> rfl

theorem frozenAll_answerKeeps (s : State) (p : EPort) (n : Nat) : answerKeeps (frozenAll s p n) = answerKeeps s :=
  (modReq_answerKeeps _ p n _).trans (answerAll_answerKeeps s p n frozenC)

theorem answerKeeps_flt {s t : State} (h : answerKeeps t = answerKeeps s) : t.flt = s.flt := congrArg (fun k => k.2.2.1) h

/-- A protocol fault is recorded with freeze at once in the West half, and over the raise wires in the East half (R111, R451, R453). -/
theorem engineProtocol_records (s : State) (p : EPort) (id : BitVec 6) :
    (portHalf p = 0 → (engineProtocol s p id).frz.asserted = true ∧ (engineProtocol s p id).flt.firstValid = true) ∧
      (portHalf p = 1 → (engineProtocol s p id).frz.east = s.frz.east ++ [faultRec 0x18 2 1 p.val 0 (id.setWidth 32)]) := by
  refine ⟨fun h => ⟨(raise_recorded s _ _).1 h, ?_⟩, fun h => by rw [engineProtocol, h]; rfl⟩
  rw [engineProtocol, h, raise, if_pos rfl]
  refine (congrArg Faults.firstValid (recordFault_keeps s _).1).trans ?_
  cases hv : s.flt.firstValid <;> simp [logFault, hv]

section Beat

variable {s : State} {p : EPort} {e : EReq} {last : Bool} {n : Nat}

theorem checkBeat_right (hb : e.broke = false) (hl : last = decide (n = wdBeats e.op e.q)) : checkBeat s p e last n = s := by
  simp [checkBeat, hb, hl]

/-- The request broken at a wd_last that disagrees. -/
def broken (s : State) (p : EPort) (e : EReq) : State := modReq (engineProtocol s p e.q.id) p e.seq (fun x => { x with broke := true })

theorem checkBeat_wrong (hb : e.broke = false) (hl : last ≠ decide (n = wdBeats e.op e.q)) :
    checkBeat s p e last n = if n = wdBeats e.op e.q then frozenAll (broken s p e) p e.seq else broken s p e := by
  simp [checkBeat, broken, hb, hl]

theorem checkBeat_broke (hb : e.broke = true) : checkBeat s p e last n = if n = wdBeats e.op e.q then frozenAll s p e.seq else s := by
  simp [checkBeat, hb]

/-- What the check of a beat records: nothing where it passes, or where the request is broken already, and else the protocol fault. -/
theorem checkBeat_answerKeeps : answerKeeps (checkBeat s p e last n) = answerKeeps s ∨
    answerKeeps (checkBeat s p e last n) = answerKeeps (engineProtocol s p e.q.id) := by
  have frozen : ∀ u, answerKeeps (if n = wdBeats e.op e.q then frozenAll u p e.seq else u) = answerKeeps u := fun u =>
    ite_keeps (frozenAll_answerKeeps u p e.seq) rfl
  cases hb : e.broke with
  | true => exact .inl (checkBeat_broke hb ▸ frozen s)
  | false =>
    by_cases hl : last = decide (n = wdBeats e.op e.q)
    · exact .inl (checkBeat_right hb hl ▸ rfl)
    · exact .inr (checkBeat_wrong hb hl ▸ (frozen _).trans (modReq_answerKeeps _ p e.seq _))

theorem checkBeat_regions : (checkBeat s p e last n).regions = s.regions :=
  checkBeat_answerKeeps.elim answerKeeps_regions fun h => (answerKeeps_regions h).trans (raise_regions s _ _)

/-- A beat whose wd_last disagrees raises the fault and breaks the request. -/
theorem checkBeat_breaks (he : e.seq ∈ seqs s p) (hb : e.broke = false) (hl : last ≠ decide (n = wdBeats e.op e.q)) :
    (portHalf p = 0 → (checkBeat s p e last n).frz.asserted = true ∧ (checkBeat s p e last n).flt.firstValid = true) ∧
      (portHalf p = 1 → (checkBeat s p e last n).frz.east = s.frz.east ++ [faultRec 0x18 2 1 p.val 0 (e.q.id.setWidth 32)]) ∧
      ∃ y ∈ (ep (checkBeat s p e last n) p).reqs, y.seq = e.seq ∧ y.broke = true := by
  have raised : answerKeeps (checkBeat s p e last n) = answerKeeps (engineProtocol s p e.q.id) := by
    rw [checkBeat_wrong hb hl]
    exact (ite_keeps (frozenAll_answerKeeps _ p e.seq) rfl).trans (modReq_answerKeeps _ p e.seq _)
  have marks : brokeMarks (checkBeat s p e last n) p = brokeMarks (broken s p e) p := by
    rw [checkBeat_wrong hb hl]
    exact ite_keeps (g := fun u => brokeMarks u p) (brokeMarks_frozenAll _ p p e.seq) rfl
  have outstanding : (engineProtocol s p e.q.id).ports = s.ports := raise_ports s _ _
  obtain ⟨y, hy, hseq⟩ := List.mem_map.mp he
  have marked := mem_brokeMarks_modReq (engineProtocol s p e.q.id) p (e := y) (by rw [ep, outstanding]; exact hy)
  rw [answerKeeps_frz raised, answerKeeps_flt raised]
  refine ⟨(engineProtocol_records s p e.q.id).1, (engineProtocol_records s p e.q.id).2, exists_broke _ p ?_⟩
  rw [marks, broken, ← hseq]
  exact marked

/-- The request has taken the beat, which is still to be checked. -/
def gotBeat (s : State) (p : EPort) (e : EReq) (w : WBeat) : State := modReq s p e.seq (fun x => { x with got := x.got ++ [w], carry := [] })

theorem takeBeat_eq (s : State) (p : EPort) (e : EReq) (w : WBeat) :
    takeBeat s p e w = checkBeat (gotBeat s p e w) p e w.last (e.got.length + 1) := rfl

end Beat

/-- No piece of a request that broke R111 is forwarded. -/
theorem forwardReq_broke {s : State} {p : EPort} {n : Nat} {e : EReq} (h : findReq s p n = some e) (hb : e.broke = true) : forwardReq s p n = s := by
  simp [forwardReq, h, hb]

/-- Settles O18: the request that takes the beat, and the three outcomes of the check. -/
theorem writeDataBeatGoesToTheOldestNeed : Obligations.WriteDataBeatGoesToTheOldestNeed := by
  unfold Obligations.WriteDataBeatGoesToTheOldestNeed
  intro s p w hc
  refine ⟨fun hn => by simp [exec_writeDataBeat, execWriteDataBeat, hn, skip], fun e he => ?_, fun n e => forwardReq_broke⟩
  have outstanding : e.seq ∈ seqs (gotBeat s p e w) p := by
    rw [gotBeat, seqs_modReq s p p e.seq _ (by intro; rfl)]
    exact List.mem_map_of_mem (List.mem_of_find?_eq_some he)
  refine ⟨by simp [exec_writeDataBeat, execWriteDataBeat, hc, he, finish_eq_after], kept_of_store (takeBeat_store s p e w), checkBeat_regions,
    checkBeat_right, checkBeat_breaks outstanding, fun hb => ?_⟩
  have kept : answerKeeps (takeBeat s p e w) = answerKeeps s := by
    rw [takeBeat_eq, checkBeat_broke hb]
    exact (ite_keeps (frozenAll_answerKeeps _ p e.seq) rfl).trans (modReq_answerKeeps s p e.seq _)
  exact ⟨answerKeeps_frz kept, answerKeeps_flt kept⟩

end Sys2Proof.Machine
end

section
/-! PROOF. The Sluice test of the head request (R110, R111, R349 to R355, R359). -/

namespace Sys2Proof.Machine

theorem exec_sluiceRelease (p urg s) : exec (.sluiceRelease p urg) s = execSluiceRelease p urg s := rfl

/-! ## The Sluice's registers on a request's way to its region -/

@[simp] theorem countM_slu (s : State) (e a n : Nat) : (countM s e a n).slu = s.slu := by
  unfold countM wrapFlag
  dsimp only
  split <;> rfl

@[simp] theorem sendPkt_slu (s : State) (h : Half) (p : Packet) : (sendPkt s h p).slu = s.slu := rfl

theorem modReq_slu (s : State) (p : EPort) (n : Nat) (f : EReq → EReq) : (modReq s p n f).slu = s.slu := rfl

theorem grantWake_slu {s t : State} {r : Region} {at_ : Nat} (h : grantWake s r at_ = some t) : t.slu = s.slu := by
  unfold grantWake at h
  dsimp only at h
  split at h
  · split at h
    · cases h; rfl
    · cases h
  · cases h

theorem grantBetween_slu {s t : State} {r : Region} (h : grantBetween s r = some t) : t.slu = s.slu := by
  unfold grantBetween at h
  dsimp only at h
  split at h
  · cases h
  next u granted =>
    split at h
    · rw [← Option.some.inj h, countM_slu]
      exact (modStager_slu _ _ _).trans (grantWake_slu granted)
    · cases h

theorem wakeReq_slu (s : State) (r : Region) : (wakeReq s r).slu = s.slu := by
  have waits : (if (rg s r).power.downWait then modPw s r (fun p => { p with downWait := false, ticks := 0 }) else s).slu = s.slu :=
    ite_keeps (g := State.slu) rfl rfl
  unfold wakeReq
  dsimp only
  refine Eq.trans ?_ waits
  refine ite_keeps (g := State.slu) rfl (ite_keeps (g := State.slu) rfl (ite_keeps (g := State.slu) ?_ rfl))
  split
  next granted => exact (grantBetween_slu granted).trans (modPw_slu _ _ _)
  · rfl

theorem enterRegion_slu (s : State) (via : Fin 5) (src : HSrc) (pc : Piece) : (enterRegion s via src pc).slu = s.slu := wakeReq_slu _ _

theorem routePiece_slu (s : State) (pc : Piece) (addr : BitVec 29) : (routePiece s pc addr).slu = s.slu :=
  ite_keeps (g := State.slu) (enterRegion_slu s _ _ pc) rfl

/-- The pieces of these runs leave their unit. -/
theorem routeRuns_slu (src : BSrc) (op : CellOp) (hp : Bool) (runs : List (List NBeat)) (s : State) :
    (runs.foldl (fun s run => match runPiece src op hp run with | some (pc, a) => routePiece s pc a | none => s) s).slu = s.slu := by
  refine foldl_keeps State.slu _ runs s fun u run => ?_
  split
  · exact routePiece_slu u _ _
  · rfl

theorem routeBeats_slu (s : State) (src : BSrc) (op : CellOp) (hp : Bool) (bs : List NBeat) : (routeBeats s src op hp bs).slu = s.slu :=
  routeRuns_slu src op hp (cutRuns bs) s

theorem forwardReq_slu (s : State) (p : EPort) (n : Nat) : (forwardReq s p n).slu = s.slu := by
  unfold forwardReq
  split
  · rfl
  · exact ite_keeps (g := State.slu) (routeRuns_slu _ _ _ _ s) rfl

theorem launchGather_slu (s : State) (r : Region) (g : Gather) : (launchGather s r g).slu = s.slu :=
  ite_keeps (g := State.slu) rfl ((routeBeats_slu _ _ _ _ _).trans (foldl_keeps State.slu _ _ s fun _ _ => rfl))

theorem pumpReq_slu (s : State) (p : EPort) (n : Nat) : (pumpReq s p n).slu = s.slu := by
  unfold pumpReq
  split
  · rfl
  · refine ite_keeps (g := State.slu) rfl ?_
    split
    · split
      · exact ite_keeps (g := State.slu) (launchGather_slu s _ _) rfl
      · rfl
    · exact forwardReq_slu s p n

/-- The released requests of a port go on past the Sluice. -/
theorem pumpPort_slu (s : State) (p : EPort) : (pumpPort s p).slu = s.slu := foldl_keeps State.slu _ _ s fun u e => pumpReq_slu u p e.seq

theorem startGather_slu (s : State) (r : Region) (g : Gather) : (startGather s r g).slu = s.slu := launchGather_slu _ r g

theorem joinGather_slu (s : State) (p : EPort) (e : EReq) : (joinGather s p e).slu = s.slu := by
  unfold joinGather
  dsimp only
  split
  · exact ite_keeps (g := State.slu) rfl (ite_keeps (g := State.slu) (startGather_slu _ _ _) rfl)
  · exact ite_keeps (g := State.slu) (startGather_slu _ _ _) rfl

theorem sendSignal_slu (s : State) (p : EPort) (e : EReq) : (sendSignal s p e).slu = s.slu := ite_keeps (g := State.slu) rfl rfl

/-- A released request leaves the Sluice's registers. -/
theorem launch_slu (s : State) (p : EPort) (e : EReq) : (launch s p e).slu = s.slu :=
  ite_keeps (g := State.slu) (sendSignal_slu s p e) (ite_keeps (g := State.slu) (joinGather_slu s p e) rfl)

/-! ## Released against a credit, or held (R351, R359) -/

theorem countRelease_credit (s : State) (p : EPort) (c : Fin 8) (n : Nat) : (countRelease s p c n).slu.credit = s.slu.credit := by
  simp [countRelease]

/-- A release that the budget limits takes the charge from the credit (R351). -/
theorem releaseHead_credit (s : State) (p : EPort) (e : EReq) (c : Fin 8) (n : Nat) :
    vget (releaseHead s p e c n true).slu.credit (sluIdx p c) = vget s.slu.credit (sluIdx p c) - n := by
  unfold releaseHead
  dsimp only
  rw [launch_slu, modReq_slu, if_pos rfl]
  split
  · rw [countM_slu, vget_vset_same]
  · rw [vget_vset_same]

theorem countHeld_credit (s : State) (p : EPort) (c : Fin 8) : (countHeld s p c).slu.credit = s.slu.credit := by
  simp [countHeld]

theorem bit32_mask32 (p : Fin 32) : bit32 (mask32 p) p = true := by
  revert p; decide

/-- The port is marked as held (R359). -/
theorem countHeld_holds (s : State) (p : EPort) (c : Fin 8) : bit32 (countHeld s p c).slu.heldNow p = true := by
  have marked := bit32_mask32 p
  unfold bit32 at marked
  simp [countHeld, bit32, marked]

/-! ## The test (R351, R355) -/

section Test

variable {s : State} {p : EPort} {e : EReq} {urg : BitVec 2}

/-- The class of a request at its port (R346). -/
def classAt (s : State) (p : EPort) (e : EReq) : Fin 8 := classOf (vget s.slu.eff (portHalf p)) (e.q.addr.toNat % 2 ^ 27)

/-- The budget that limits the request (R77). -/
def budgetAt (s : State) (p : EPort) (e : EReq) : BitVec 16 := vget (vget s.slu.eff (portHalf p)).budget (sluIdx p (classAt s p e))

/-- The credit that is left for it (R349). -/
def creditAt (s : State) (p : EPort) (e : EReq) : Int := vget s.slu.credit (sluIdx p (classAt s p e))

/-- The head is answered FROZEN whatever it asks. -/
def shutAt (s : State) (p : EPort) (e : EReq) : Bool := closed s (portHalf p) || e.broke

/-- The head is answered DECODE. -/
def badAt (s : State) (p : EPort) (e : EReq) : Bool := requestBad e.op e.q e.got.head? || multicastBad s p e.q

theorem sluiceTest_shut (h : shutAt s p e = true) : sluiceTest s p e urg = rejectHead s p e frozenC := if_pos h

theorem sluiceTest_bad (h : shutAt s p e = false) (hb : badAt s p e = true) : sluiceTest s p e urg = rejectHead s p e decodeC :=
  (if_neg (Bool.eq_false_iff.mp h)).trans (if_pos hb)

variable (h : shutAt s p e = false) (hb : badAt s p e = false)
include h hb

/-- A request that may be performed is tested against its budget. -/
theorem sluiceTest_good : sluiceTest s p e urg =
    if chargeOf e.op e.q = 0 then releaseHead s p e (classAt s p e) 0 false
    else if budgetAt s p e = 0 then rejectHead s p e barredC
    else if budgetAt s p e = 0xFFFF then releaseHead s p e (classAt s p e) (chargeOf e.op e.q) false
    else if -(urgExtra (vget s.slu.eff (portHalf p)) urg : Int) < creditAt s p e then
      releaseHead s p e (classAt s p e) (chargeOf e.op e.q) true
    else countHeld s p (classAt s p e) :=
  (if_neg (Bool.eq_false_iff.mp h)).trans (if_neg (Bool.eq_false_iff.mp hb))

theorem sluiceTest_free (hn : chargeOf e.op e.q = 0) : sluiceTest s p e urg = releaseHead s p e (classAt s p e) 0 false := by
  rw [sluiceTest_good h hb, if_pos hn]

variable (hn : 0 < chargeOf e.op e.q)
include hn

theorem sluiceTest_barred (hz : budgetAt s p e = 0) : sluiceTest s p e urg = rejectHead s p e barredC := by
  rw [sluiceTest_good h hb, if_neg hn.ne', if_pos hz]

theorem sluiceTest_unlimited (hu : budgetAt s p e = 0xFFFF) :
    sluiceTest s p e urg = releaseHead s p e (classAt s p e) (chargeOf e.op e.q) false := by
  rw [sluiceTest_good h hb, if_neg hn.ne', if_neg (by rw [hu]; decide), if_pos hu]

/-- A budget that keeps a credit decides by the credit (R349, R351). -/
theorem sluiceTest_credit (hk : hasCredit (budgetAt s p e) = true) : sluiceTest s p e urg =
    if -(urgExtra (vget s.slu.eff (portHalf p)) urg : Int) < creditAt s p e then
      releaseHead s p e (classAt s p e) (chargeOf e.op e.q) true
    else countHeld s p (classAt s p e) := by
  simp only [hasCredit, Bool.and_eq_true, bne_iff_ne] at hk
  obtain ⟨some, limited⟩ := hk
  rw [sluiceTest_good h hb, if_neg hn.ne', if_neg some, if_neg limited]

end Test

/-! ## The command -/

section Command

variable {s : State} {p : EPort} (hc : clocked s (portHalf p) = true) (urg : BitVec 2)
include hc

theorem sluiceRelease_none (h : sluiceHead (ep s p) = none) : execSluiceRelease p urg s = .next (after (pumpPort s p)) := by
  simp [execSluiceRelease, hc, h, finish_eq_after]

variable {e : EReq} (h : sluiceHead (ep s p) = some e)
include h

theorem sluiceRelease_waits (hw : awaitsBeat e = true) : execSluiceRelease p urg s = .next (after (pumpPort s p)) := by
  simp [execSluiceRelease, hc, h, hw, finish_eq_after]

theorem sluiceRelease_tests (hw : awaitsBeat e = false) {t : State} (ht : sluiceTest s p e urg = t) :
    execSluiceRelease p urg s = .next (after (pumpPort t p)) := by
  simp [execSluiceRelease, hc, h, hw, ht, finish_eq_after]

end Command

/-- A head released against its credit pays its charge, and no byte is written. -/
theorem released_pays (s : State) (p : EPort) (e : EReq) (c : Fin 8) (n : Nat) :
    let u := after (pumpPort (releaseHead s p e c n true) p)
    vget u.slu.credit (sluIdx p c) = vget s.slu.credit (sluIdx p c) - n ∧ u.mem = s.mem ∧ u.basin = s.basin := by
  obtain ⟨hm, hb, -⟩ := kept_after ((pumpPort_store (releaseHead s p e c n true) p).trans (releaseHead_store s p e c n true))
  refine ⟨?_, hm, hb⟩
  rw [after, settle_slu, step1_slu, pumpPort_slu, releaseHead_credit]

/-- A held head stays with its credit, and its port is marked. -/
theorem held_waits (s : State) (p : EPort) (c : Fin 8) :
    let u := after (pumpPort (countHeld s p c) p)
    kept s u ∧ u.slu.credit = s.slu.credit ∧ bit32 u.slu.heldNow p = true := by
  refine ⟨kept_after ((pumpPort_store _ p).trans (countHeld_store s p c)), ?_, ?_⟩
  · rw [after, settle_slu, step1_slu, pumpPort_slu, countHeld_credit]
  · rw [after, settle_slu, step1_slu, pumpPort_slu, countHeld_holds]

/-- Settles O21: each outcome of the test, then what a release pays and a hold keeps. -/
theorem sluiceTestsItsHead : Obligations.SluiceTestsItsHead := by
  unfold Obligations.SluiceTestsItsHead
  simp only [exec_sluiceRelease]
  intro s p urg hc
  refine ⟨sluiceRelease_none hc urg, fun e h => ⟨sluiceRelease_waits hc urg h, fun hw => ?_⟩⟩
  have tests := @sluiceRelease_tests s p hc urg e h hw
  refine ⟨fun shut => tests (sluiceTest_shut shut), fun up bad => tests (sluiceTest_bad up bad), fun up good => ?_⟩
  refine ⟨fun free => tests (sluiceTest_free up good free), fun pays none => tests (sluiceTest_barred up good pays none),
    fun pays all => tests (sluiceTest_unlimited up good pays all), fun pays some => ⟨fun enough => ?_, fun short => ?_⟩⟩
  · have released := (sluiceTest_credit up good pays some).trans (if_pos enough)
    exact ⟨_, tests released, released_pays s p e _ _⟩
  · have held := (sluiceTest_credit up good pays some).trans (if_neg (Int.not_lt.mpr short))
    obtain ⟨stands, credit, marked⟩ := held_waits s p (classAt s p e)
    exact ⟨_, tests held, stands, rfl, credit, marked⟩

end Sys2Proof.Machine
end

section
/-! PROOF. One cycle of a block in which a held grant issues its head beat (R118, R138 to R144, R451, R452). -/

namespace Sys2Proof.Machine

theorem exec_blockGrant (r b m chk s) : exec (.blockGrant r b m chk) s = execBlockGrant r b m chk s := rfl

/-! ## What the counts of a cycle leave -/

/-- Outside region r, t is s; the region is that of s but for the starvation counters of its sources and its blocks, and of these b is
that of s but for the priorities and the starvation counters of its requesters and the mark of an issued row-event. -/
structure SameStop (r : Region) (b : Blk) (s t : State) : Prop where
  rest : t = { s with regions := t.regions }
  others : ∀ q, q ≠ r → rg t q = rg s q
  region : ∃ n bs, rg t r = { rg s r with arb := { (rg s r).arb with starve := n }, blocks := bs }
  block : ∃ p n i, blk t r b = { blk s r b with prio := p, starve := n, evIssued := i }

namespace SameStop

variable {r : Region} {b : Blk} {s t u : State}

theorem refl (s : State) : SameStop r b s s := ⟨rfl, fun _ _ => rfl, ⟨(rg s r).arb.starve, (rg s r).blocks, rfl⟩,
  ⟨(blk s r b).prio, (blk s r b).starve, (blk s r b).evIssued, rfl⟩⟩

theorem trans (h : SameStop r b s t) (g : SameStop r b t u) : SameStop r b s u := by
  obtain ⟨_, _, hr⟩ := h.region
  obtain ⟨n, bs, gr⟩ := g.region
  obtain ⟨_, _, _, hb⟩ := h.block
  obtain ⟨p, m, i, gb⟩ := g.block
  refine ⟨?_, fun q hq => (g.others q hq).trans (h.others q hq), ⟨n, bs, by rw [gr, hr]⟩, ⟨p, m, i, by rw [gb, hb]⟩⟩
  rw [g.rest, h.rest]

/-- The priorities and the counters of the block's requesters change. -/
theorem modBlk {f : Block → Block} (hf : ∀ x, ∃ p n i, f x = { x with prio := p, starve := n, evIssued := i }) :
    SameStop r b s (modBlk s r b f) := by
  obtain ⟨p, n, i, hb⟩ := hf (blk s r b)
  refine ⟨rfl, fun q hq => ?_, ⟨(rg s r).arb.starve, vmod (rg s r).blocks b f, by rw [Machine.modBlk, rg_modRg_same]⟩, ⟨p, n, i, ?_⟩⟩
  · rw [Machine.modBlk, rg_modRg, if_neg hq.symm]
  · rw [← hb, blk, Machine.modBlk, rg_modRg_same, vget_vmod_same]
    rfl

/-- The starvation counters of the region's sources change. -/
theorem modStarve (n : RegionSt → Vector Nat 6) : SameStop r b s (modRg s r (fun g => { g with arb := { g.arb with starve := n g } })) := by
  refine ⟨rfl, fun q hq => by rw [rg_modRg, if_neg hq.symm], ⟨n (rg s r), (rg s r).blocks, by rw [rg_modRg_same]⟩, ?_⟩
  refine ⟨(blk s r b).prio, (blk s r b).starve, (blk s r b).evIssued, ?_⟩
  rw [blk, rg_modRg_same]
  rfl

theorem starveSources (turn : Option (Fin 6)) : SameStop r b s (starveSources s r b turn) := by
  unfold Machine.starveSources
  dsimp only
  split
  · exact refl s
  · exact modStarve _

theorem starveBlock (served : Option Requester) : SameStop r b s (starveBlock s r b served) := by
  unfold Machine.starveBlock
  dsimp only
  split
  · exact refl s
  · exact modBlk fun x => ⟨x.prio, _, x.evIssued, rfl⟩

theorem age (k : Requester) (fresh : Bool) : SameStop r b s (age s r b k fresh) := modBlk fun x => ⟨_, x.starve, x.evIssued, rfl⟩

theorem evIssued (i : Bool) : SameStop r b s (Machine.modBlk s r b (fun x => { x with evIssued := i })) :=
  modBlk fun x => ⟨x.prio, x.starve, i, rfl⟩

/-! ### What the arbiter, the crossbar and the cell see of the state -/

variable (h : SameStop r b s t)
include h

theorem frz : t.frz = s.frz := by rw [h.rest]
theorem ports : t.ports = s.ports := by rw [h.rest]
theorem map : t.map = s.map := by rw [h.rest]
theorem pln : t.pln = s.pln := by rw [h.rest]
theorem store : store t = store s := by rw [h.rest]; rfl

theorem frozen (x : Half) : frozen t x = frozen s x := by rw [Machine.frozen, h.frz]; rfl

theorem findReq (p : EPort) (n : Nat) : findReq t p n = findReq s p n := by rw [Machine.findReq, ep, h.ports]; rfl

theorem findGather (q : Region) (inst : Nat) : findGather t q inst = findGather s q inst := by
  unfold Machine.findGather
  by_cases hq : q = r
  · obtain ⟨_, _, hr⟩ := h.region
    rw [hq, hr]
  · rw [h.others q hq]

theorem isBegun (src : BSrc) : isBegun t src = isBegun s src := by
  cases src with
  | engine p n => rw [Machine.isBegun, h.findReq]; rfl
  | mcast q inst => simp only [Machine.isBegun, h.findGather, h.findReq]
  | rill | lodge | dump => rfl

theorem srcMoves (src : BSrc) : srcMoves t r src = srcMoves s r src := by rw [Machine.srcMoves, h.frozen, h.isBegun]; rfl

theorem stopQ (k : Requester) : stopQ (blk t r b) k = stopQ (blk s r b) k := by
  obtain ⟨_, _, _, hb⟩ := h.block
  rw [hb]
  cases k <;> rfl

theorem fenced : fenced t r b = fenced s r b := by
  obtain ⟨_, _, hr⟩ := h.region
  rw [Machine.fenced, hr]
  rfl

theorem headBeat (k : Requester) : headBeat t r b k = headBeat s r b k := by simp only [Machine.headBeat, h.stopQ, h.srcMoves]

theorem pieceBlocks (q : BReq) : pieceBlocks t r b q = pieceBlocks s r b q := by
  obtain ⟨_, _, hr⟩ := h.region
  simp only [Machine.pieceBlocks, h.srcMoves, hr]
  rfl

theorem earlierBlocks (q : BReq) : earlierBlocks t r b q = earlierBlocks s r b q := by
  obtain ⟨_, _, hr⟩ := h.region
  obtain ⟨_, _, _, hb⟩ := h.block
  simp only [Machine.earlierBlocks, h.srcMoves, hr, hb]
  rfl

theorem headReady (k : Requester) : headReady t r b k = headReady s r b k := by
  simp only [Machine.headReady, beatWaits, h.headBeat, h.pieceBlocks, h.earlierBlocks]

theorem asks (k : Requester) : asks t r b k = asks s r b k := by
  obtain ⟨_, _, _, hb⟩ := h.block
  cases k with
  | event => simp only [Machine.asks, h.frozen, hb]
  | atomics | fills | xbar => exact h.headReady _

theorem slipMasks (q : BReq) : slipMasks t r b q = slipMasks s r b q := by
  obtain ⟨_, _, hr⟩ := h.region
  obtain ⟨_, _, _, hb⟩ := h.block
  simp only [Machine.slipMasks, h.srcMoves, h.earlierBlocks, hr, hb]
  rfl

theorem maskedBeat (q : BReq) : maskedBeat t r b q = maskedBeat s r b q := by
  obtain ⟨_, _, hr⟩ := h.region
  obtain ⟨_, _, _, hb⟩ := h.block
  simp only [Machine.maskedBeat, h.slipMasks, hr, hb]
  rfl

theorem maskedReq (k : Requester) : maskedReq t r b k = maskedReq s r b k := by simp only [Machine.maskedReq, h.headBeat, h.maskedBeat]

theorem grantOver (k : Requester) (used : Nat) : grantOver t r b k used = grantOver s r b k used := by
  obtain ⟨_, _, hr⟩ := h.region
  simp only [Machine.grantOver, h.asks, h.headBeat, hr]
  rfl

theorem grant : (blk t r b).grant = (blk s r b).grant := by
  obtain ⟨_, _, _, hb⟩ := h.block
  rw [hb]

theorem meets (q : BReq) (m : Meet) : meets (blk t r b) q m = meets (blk s r b) q m := by
  obtain ⟨_, _, _, hb⟩ := h.block
  rw [hb]
  cases m <;> rfl

theorem stalls (q : BReq) (m : Meet) : stalls (blk t r b) q m = stalls (blk s r b) q m := by rw [Machine.stalls, h.meets]; rfl

theorem busyBeat (q : BReq) (m : Meet) : busyBeat (blk t r b) q m = busyBeat (blk s r b) q m := by rw [Machine.busyBeat, h.meets]; rfl

/-! ### The beat that the crossbar delivers (R149) -/

theorem presented (via : Fin 5) : presented t r b via = presented s r b via := by
  obtain ⟨_, _, hr⟩ := h.region
  simp only [Machine.presented, h.srcMoves, hr]

theorem candSched (c : XCand) : candSched t r b c = candSched s r b c := by
  obtain ⟨_, _, hr⟩ := h.region
  simp only [Machine.candSched, isScheduled, ownsSlot, hr]

theorem candFits (c : XCand) : candFits t r b c = candFits s r b c := by
  obtain ⟨_, _, hr⟩ := h.region
  simp only [Machine.candFits, deliveryHeld, h.candSched, h.fenced, h.frozen, h.stopQ, h.srcMoves, hr]

theorem candFirst (c : XCand) : candFirst t r c = candFirst s r c := by
  obtain ⟨_, _, hr⟩ := h.region
  simp only [Machine.candFirst, candHp, h.map, hr]

theorem candOf (k : Fin 6) : candOf t r b k = candOf s r b k := by
  have fits : Machine.candFits t r b = Machine.candFits s r b := funext h.candFits
  simp only [Machine.candOf, h.presented, fits]

theorem groupFits (n : Nat) : groupFits t r b n = groupFits s r b n := by
  obtain ⟨_, _, _, hb⟩ := h.block
  simp only [Machine.groupFits, h.fenced, hb]

theorem entryPresents : entryPresents t r b = entryPresents s r b := by
  obtain ⟨_, _, hr⟩ := h.region
  simp only [Machine.entryPresents, h.groupFits, h.frozen, hr]

theorem xbarPick : xbarPick t r b = xbarPick s r b := by
  obtain ⟨_, _, _, hb⟩ := h.block
  have sched : Machine.candSched t r b = Machine.candSched s r b := funext h.candSched
  have first : Machine.candFirst t r = Machine.candFirst s r := funext h.candFirst
  have cands : Machine.candOf t r b = Machine.candOf s r b := funext h.candOf
  simp only [Machine.xbarPick, xbarTurn, cands, sched, first, h.entryPresents, hb]

end SameStop

/-! ## A cycle that holds its grant (R141, R143) -/

theorem halfCycle_idle {s : State} {r : Region} (h : hTurn s r = none) : halfCycle s r = s := by simp [halfCycle, h]

theorem deliver_none {s : State} {r : Region} {b : Blk} (h : xbarPick s r b = none) : deliver s r b = s := by simp [deliver, h]

theorem grantCycle_held {s : State} {r : Region} {b : Blk} {k : Requester} {used : Nat} (h : (blk s r b).grant = some (k, used))
    (ho : grantOver s r b k used = false) : grantCycle s r b = (age s r b k false, some (k, used)) := by simp [grantCycle, h, ho]

/-- The state in a cycle without a delivery when the grant is looked at: the sources are counted. -/
def grantState (s : State) (r : Region) (b : Blk) : State :=
  modBlk (starveSources s r b (xbarTurn s r b)) r b (fun x => { x with evIssued := false })

/-- The state in which a held grant issues: its other requesters have aged, and the block's are counted. -/
def issueState (s : State) (r : Region) (b : Blk) (k : Requester) (m : Meet) : State :=
  starveBlock (age (grantState s r b) r b k false) r b (servedNow (age (grantState s r b) r b k false) r b k m)

theorem grantState_same (s : State) (r : Region) (b : Blk) : SameStop r b s (grantState s r b) :=
  .trans (.starveSources _) (.evIssued false)

theorem issueState_same (s : State) (r : Region) (b : Blk) (k : Requester) (m : Meet) : SameStop r b s (issueState s r b k m) :=
  (grantState_same s r b).trans (.trans (.age k false) (.starveBlock _))

/-- In a cycle without a delivery a held grant issues. -/
theorem blockCycle_held {s : State} {r : Region} {b : Blk} {k : Requester} {used : Nat} (hh : hTurn s r = none) (hx : xbarPick s r b = none)
    (hg : (blk s r b).grant = some (k, used)) (ho : grantOver s r b k used = false) (m : Meet) (chk : BeatChk) :
    blockCycle s r b m chk = issueHead (issueState s r b k m) r b k used m chk := by
  have same := grantState_same s r b
  have silent : xbarPick (starveSources s r b (xbarTurn s r b)) r b = none := (SameStop.starveSources _).xbarPick.trans hx
  unfold blockCycle
  dsimp only
  rw [halfCycle_idle hh, deliver_none silent, ← grantState, grantCycle_held (same.grant.trans hg) ((same.grantOver k used).trans ho)]
  rfl

/-! ## The beat issued (R138, R139, R142) -/

/-- A beat performed at the stop leaves its queue, and its answer goes back. -/
def issuedBeat (s : State) (r : Region) (b : Blk) (k : Requester) (used : Nat) (q : BReq) (x : BeatRes) : State :=
  let u := modBlk s r b (fun z => modQ { z with grant := some (k, used + 1) } k (List.erase · q))
  let u := if k = .atomics then age u r b k false else u
  beatDone (markStage (markBegun u q.src) q.src 4) r q.uid q.i true x

section Issue

variable {s : State} {r : Region} {b : Blk} {k : Requester} {q : BReq} (hq : headBeat s r b k = some q) (hm : maskedReq s r b k = false)
include hq hm

theorem issueHead_stalls {m : Meet} (hs : stalls (blk s r b) q m = true) (used : Nat) (chk : BeatChk) :
    issueHead s r b k used m chk = markBegun (stallBeat s r b q) q.src := by simp [issueHead, hq, hm, hs]

theorem issueHead_issues {m : Meet} (hs : stalls (blk s r b) q m = false) (used : Nat) (chk : BeatChk) :
    issueHead s r b k used m chk = issuedBeat (portB s r b q m chk).1 r b k used q (portB s r b q m chk).2 := by
  simp [issueHead, issuedBeat, hq, hm, hs]

end Issue

section Leaves

variable (s : State) (r : Region) (b : Blk)

theorem issuedBeat_store (k : Requester) (used : Nat) (q : BReq) (x : BeatRes) : store (issuedBeat s r b k used q x) = store s := by
  unfold issuedBeat
  dsimp only
  rw [beatDone_store, markStage_store, markBegun_store]
  exact ite_keeps (g := store) (age_store _ _ _ _ _) rfl

theorem markBegun_frz (src : BSrc) : (markBegun s src).frz = s.frz := by
  unfold markBegun
  split
  · rfl
  · split
    · exact foldl_keeps State.frz _ _ s fun _ _ => rfl
    · rfl
  all_goals rfl

theorem markStage_frz (src : BSrc) (k : Nat) : (markStage s src k).frz = s.frz := by
  unfold markStage
  split
  · rfl
  · split
    · exact foldl_keeps State.frz _ _ s fun _ _ => rfl
    · rfl
  all_goals rfl

theorem markBegun_regions (src : BSrc) : (markBegun s src).regions = s.regions := by
  unfold markBegun
  split
  · rfl
  · split
    · exact foldl_keeps State.regions _ _ s fun _ _ => rfl
    · rfl
  all_goals rfl

theorem wrapFlag_regions (w : Bool) : (wrapFlag s w).regions = s.regions := ite_keeps (g := State.regions) rfl rfl

theorem countBs_frz (sels : List (BitVec 16)) (n : Nat) : (countBs s r b sels n).frz = s.frz := by
  unfold countBs wrapFlag
  dsimp only
  exact ite_keeps (g := State.frz) (ite_keeps (g := State.frz) rfl rfl) rfl

theorem setRes_frz (p : EPort) (n first : Nat) (rs : List BeatRes) : (setRes s p n first rs).frz = s.frz := by
  unfold setRes
  split
  · rfl
  · refine ite_keeps (g := State.frz) rfl (ite_keeps (g := State.frz) ?_ rfl)
    exact (answerKeeps_frz (closeReq_answerKeeps _ p _)).trans (answerKeeps_frz (modReq_answerKeeps s p n _))

/-- The answers of a piece do not touch freeze. -/
theorem pieceBack_frz (src : BSrc) (op : CellOp) (first : Nat) (rs : List BeatRes) : (pieceBack s src op first rs).frz = s.frz := by
  cases src with
  | engine p n => exact setRes_frz s p n first rs
  | mcast q inst =>
    unfold pieceBack
    dsimp only
    split
    · rfl
    · exact foldl_keeps State.frz _ _ s fun u m => ite_keeps (g := State.frz) (setRes_frz u m.1 m.2 first rs) rfl
  | rill k uid =>
    unfold pieceBack
    dsimp only
    split
    · rfl
    · exact ite_keeps (g := State.frz) rfl rfl
  | lodge n uid => exact ite_keeps (g := State.frz) rfl rfl
  | dump => exact ite_keeps (g := State.frz) rfl rfl

theorem beatDone_frz (uid i : Nat) (performed : Bool) (x : BeatRes) : (beatDone s r uid i performed x).frz = s.frz := by
  unfold beatDone
  dsimp only
  split
  · rfl
  · exact ite_keeps (g := State.frz) (ite_keeps (g := State.frz) (pieceBack_frz _ _ _ _ _) rfl) rfl

theorem issuedBeat_frz (k : Requester) (used : Nat) (q : BReq) (x : BeatRes) : (issuedBeat s r b k used q x).frz = s.frz := by
  unfold issuedBeat
  dsimp only
  rw [beatDone_frz, markStage_frz, markBegun_frz]
  exact ite_keeps (g := State.frz) rfl rfl

/-- Counting changes the counters alone in a block. -/
theorem blk_countBs (sels : List (BitVec 16)) (n : Nat) : ∃ c, blk (countBs s r b sels n) r b = { blk s r b with counters := c } := by
  unfold countBs
  split
  · refine ⟨(cntAll (blk s r b).counters sels n).1, ?_⟩
    dsimp only
    rw [blk, rg, wrapFlag_regions, ← rg, rg_modRg_same, vget_vmod_same]
    rfl
  · exact ⟨(blk s r b).counters, rfl⟩

theorem blk_modBlk_same (f : Block → Block) : blk (modBlk s r b f) r b = f (blk s r b) := by
  rw [blk, modBlk, rg_modRg_same, vget_vmod_same]
  rfl

/-- A stalled beat stays in its queue, and its cell is marked (R138). -/
theorem stallBeat_block (q : BReq) (k : Requester) : stopQ (blk (stallBeat s r b q) r b) k = stopQ (blk s r b) k ∧
    (blk (stallBeat s r b q) r b).stalled = some q.beat.cell := by
  obtain ⟨c, hc⟩ := blk_countBs (modBlk s r b (fun x => { x with stalled := some q.beat.cell })) r b
    [selOf 0x0D 0, selOf 0x0D (8 + q.beat.cell.val)] 1
  rw [blk_modBlk_same] at hc
  rw [stallBeat, countPB, hc]
  exact ⟨by cases k <;> rfl, rfl⟩

end Leaves

/-! ## The beat at the cell (R118, R138, R452) -/

/-- What an access at a cell of region r reads of the state. -/
def cellSees (r : Region) (s : State) : Table Byte × Aon × Loader × REvents × PlanTabs :=
  (s.mem, s.aon, s.pln, (rg s r).ev, (rg s r).plan)

section CellSees

variable {s t : State} {r : Region} {b : Blk}

theorem cellSees_modBlk (s : State) (r : Region) (b : Blk) (f : Block → Block) : cellSees r (modBlk s r b f) = cellSees r s := by
  simp only [cellSees, modBlk, rg_modRg_same]
  rfl

theorem cellSees_countBs (s : State) (r : Region) (b : Blk) (sels : List (BitVec 16)) (n : Nat) :
    cellSees r (countBs s r b sels n) = cellSees r s := by
  have flag : ∀ u w, cellSees r (wrapFlag u w) = cellSees r u := fun u w => ite_keeps (g := cellSees r) rfl rfl
  refine ite_keeps (g := cellSees r) ((flag _ _).trans ?_) rfl
  simp only [cellSees, rg_modRg_same]
  rfl

theorem cellSees_atPortB (s : State) (r : Region) (b : Blk) (q : BReq) (m : Meet) : cellSees r (atPortB s r b q m) = cellSees r s := by
  have unstalled := cellSees_modBlk s r b (fun z => { z with stalled := if z.stalled = some q.beat.cell then none else z.stalled })
  exact ite_keeps ((cellSees_countBs _ r b _ _).trans unstalled) unstalled

theorem SameStop.cellSees (h : SameStop r b s t) : cellSees r t = cellSees r s := by
  obtain ⟨_, _, hr⟩ := h.region
  obtain ⟨mem, -, aon, -⟩ := kept_of_store h.store
  simp only [Machine.cellSees, hr, mem, aon, h.pln]

/-- What a cell makes of the data space depends on what it reads alone. -/
theorem cellAccess_mem_congr (h : cellSees r t = cellSees r s) (op : CellOp) (q : PBeat) :
    (cellAccess t r b op q).1.mem = (cellAccess s r b op q).1.mem := by
  simp only [cellSees, Prod.mk.injEq] at h
  obtain ⟨mem, aon, pln, ev, plan⟩ := h
  have row : readBeat t r b q.cell q.row = readBeat s r b q.cell q.row := by rw [readBeat, readBytes, mem]; rfl
  have wrote : ∀ d e, (writeBeat t r b q.cell q.row d e).mem = (writeBeat s r b q.cell q.row d e).mem := fun d e => by
    rw [writeBeat, writeBeat, canWrite, canWrite, readBytes, readBytes, mem, aon]
    split
    · rfl
    · exact mem
  cases op with
  | read => exact mem
  | write => exact wrote _ _
  | setBits | clrBits => simp only [cellAccess, row, wrote]
  | atom a =>
    have factors : factorOf t r = factorOf s r := by
      funext i
      rw [factorOf, planned, pln, plan]
      rfl
    rw [cellAccess_atom_mem, cellAccess_atom_mem, atomResult, atomResult, ev, factors, row, putRow, putRow, canWrite, canWrite, aon, mem]
    split
    · rfl
    · exact mem

end CellSees

section PortB

variable (s : State) (r : Region) (b : Blk) (q : BReq) (m : Meet)

theorem atPortB_store : store (atPortB s r b q m) = store s := by
  unfold atPortB
  dsimp only
  exact ite_keeps (g := store) (countB_store _ _ _ _ _ _) rfl

variable {q m}

/-- A read that meets a lane write is answered BUSY, without effect. -/
theorem portB_busy (h : busyBeat (blk s r b) q m = true) : store (portB s r b q m .good).1 = store s := by
  unfold portB
  dsimp only
  rw [← atPortB]
  simp only [beatFault, h, if_true, countPB_store, countB_store]
  exact atPortB_store s r b q m

/-- A beat that passes its check and meets no lane write is performed. -/
theorem portB_performs (h : busyBeat (blk s r b) q m = false) :
    (portB s r b q m .good).1.mem = (cellAccess (atPortB s r b q m) r b q.op q.beat).1.mem := by
  have counted : ∀ u c e, (countPB u r b c e).mem = u.mem := fun u c e => congrArg Prod.fst (countPB_store u r b c e)
  unfold portB
  dsimp only
  rw [← atPortB]
  simp only [beatFault, h, Bool.false_eq_true, if_false, counted]
  exact ite_keeps (g := State.mem) rfl (counted _ _ _)

/-- A beat that fails its array parity is a fault of its block, and nothing else (R452). -/
theorem portB_parity (h : q.op ≠ .write) : ∃ rec, (portB s r b q m .arrayParity).1 =
    countPB (raise (atPortB s r b q m) (halfOf r) rec) r b q.beat.cell 0x0C := by
  unfold portB
  dsimp only
  rw [← atPortB]
  simp only [beatFault, if_neg h]
  exact ⟨_, rfl⟩

end PortB

/-! ## The command -/

theorem blockGrant_parity {s : State} {r : Region} (hp : pathOpen s r = true) (b : Blk) (m : Meet) (out : BitVec 6) :
    execBlockGrant r b m (.xbarParity out) s = .next (after (regionFault s r 0x0A (out.setWidth 32))) := by
  simp [execBlockGrant, hp, finish_eq_after]

theorem blockGrant_cycle {s : State} {r : Region} (hp : pathOpen s r = true) (b : Blk) (m : Meet) {chk : BeatChk}
    (hc : ∀ out, chk ≠ .xbarParity out) : execBlockGrant r b m chk s = .next (after (blockCycle s r b m chk)) := by
  cases chk with
  | xbarParity out => exact absurd rfl (hc out)
  | good | arrayParity | factorParity => simp [execBlockGrant, hp, finish_eq_after]

section Held

variable {s : State} {r : Region} {b : Blk} {k : Requester} {used : Nat} {q : BReq} {m : Meet}

variable {u : State} (same : SameStop r b s u) (hq : headBeat s r b k = some q) (hm : maskedReq s r b k = false)
include same hq hm

/-- The head beat issues in a state that differs from s by the counts of a cycle alone. -/
theorem head_issues (hs : stalls (blk s r b) q m = false) (chk : BeatChk) :
    issueHead u r b k used m chk = issuedBeat (portB u r b q m chk).1 r b k used q (portB u r b q m chk).2 :=
  issueHead_issues ((same.headBeat k).trans hq) ((same.maskedReq k).trans hm) ((same.stalls q m).trans hs) used chk

/-- The head beat performed. -/
theorem issued_performs (hs : stalls (blk s r b) q m = false) (hb : busyBeat (blk s r b) q m = false) :
    let t := after (issueHead u r b k used m .good)
    t.mem = (cellAccess s r b q.op q.beat).1.mem ∧ t.basin = s.basin := by
  obtain ⟨-, basin, -, -⟩ := kept_of_store same.store
  obtain ⟨issuedMem, issuedBasin, -, -⟩ := kept_of_store (issuedBeat_store (portB u r b q m .good).1 r b k used q (portB u r b q m .good).2)
  have ported : (portB u r b q m .good).1.basin = u.basin := congrArg Prod.fst (portB_slotKeeps r u b q m .good)
  have sees : cellSees r (atPortB u r b q m) = cellSees r s := (cellSees_atPortB u r b q m).trans same.cellSees
  rw [head_issues same hq hm hs]
  refine ⟨?_, ?_⟩
  · rw [after_mem, issuedMem, portB_performs u r b ((same.busyBeat q m).trans hb), cellAccess_mem_congr sees]
  · rw [after_basin, issuedBasin, ported, basin]

/-- The head beat stalled. -/
theorem issued_stalls (hs : stalls (blk s r b) q m = true) (chk : BeatChk) :
    let t := after (issueHead u r b k used m chk)
    kept s t ∧ stopQ (blk t r b) k = stopQ (blk s r b) k ∧ (blk t r b).stalled = some q.beat.cell := by
  obtain ⟨stays, marked⟩ := stallBeat_block u r b q k
  have stop : blk (after (markBegun (stallBeat u r b q) q.src)) r b = blk (stallBeat u r b q) r b := by
    rw [blk, rg_after, rg, markBegun_regions]
    rfl
  rw [issueHead_stalls ((same.headBeat k).trans hq) ((same.maskedReq k).trans hm) ((same.stalls q m).trans hs)]
  refine ⟨kept_after ((markBegun_store _ _).trans ((stallBeat_store _ _ _ _).trans same.store)), ?_, ?_⟩
  · rw [stop, stays, same.stopQ]
  · rw [stop, marked]

/-- The head beat answered BUSY. -/
theorem issued_busy (hb : busyBeat (blk s r b) q m = true) : kept s (after (issueHead u r b k used m .good)) := by
  have reads : stalls (blk s r b) q m = false := by
    unfold busyBeat at hb
    unfold stalls
    simp only [Bool.and_eq_true] at hb
    rw [hb.1.2]
    exact Bool.and_false _
  rw [head_issues same hq hm reads]
  exact kept_after ((issuedBeat_store _ _ _ _ _ _ _).trans ((portB_busy u r b ((same.busyBeat q m).trans hb)).trans same.store))

/-- The head beat failed by its array parity. -/
theorem issued_parity (hs : stalls (blk s r b) q m = false) (hw : q.op ≠ .write) :
    let t := after (issueHead u r b k used m .arrayParity)
    kept s t ∧ (halfOf r = 0 → t.frz.asserted = true) := by
  obtain ⟨rec, fault⟩ := portB_parity u r b (m := m) hw
  rw [head_issues same hq hm hs, fault]
  refine ⟨kept_after ?_, fun west => ?_⟩
  · rw [issuedBeat_store, countPB_store, raise_store, atPortB_store, same.store]
  · rw [after_frz, issuedBeat_frz, countPB, countBs_frz]
    exact (raise_recorded _ _ _).1 west

end Held

/-- Settles O29: the state in which the held grant issues, then the four ends of its head beat. -/
theorem heldGrantIssuesTheHeadBeat : Obligations.HeldGrantIssuesTheHeadBeat := by
  unfold Obligations.HeldGrantIssuesTheHeadBeat
  simp only [exec_blockGrant]
  intro s r b k used q m out hp
  refine ⟨blockGrant_parity hp b m out, fun hh hx hg hq hm ho => ?_⟩
  have same := issueState_same s r b k m
  have issues : ∀ chk, (∀ x, chk ≠ .xbarParity x) →
      execBlockGrant r b m chk s = .next (after (issueHead (issueState s r b k m) r b k used m chk)) := fun chk hc => by
    rw [blockGrant_cycle hp b m hc, blockCycle_held hh hx hg ho]
  have good := issues .good (fun _ => nofun)
  have failing := issues .arrayParity (fun _ => nofun)
  exact ⟨fun hs hb => ⟨_, good, issued_performs same hq hm hs hb⟩, fun hs => ⟨_, good, issued_stalls same hq hm hs .good⟩,
    fun hb => ⟨_, good, issued_busy same hq hm hb⟩, fun hs hw => ⟨_, failing, issued_parity same hq hm hs hw⟩⟩

end Sys2Proof.Machine
end

section
/-! PROOF. The grant decision of a block's arbiter (R141, R144). -/

namespace Sys2Proof.Machine

/-- Requester k goes before requester j: its priority is higher, or the same and it comes no later in the tie order (R141). -/
def goesBefore (x : Block) (k j : Requester) : Prop :=
  (vget x.prio (reqNo j)).val < (vget x.prio (reqNo k)).val ∨
    ((vget x.prio (reqNo j)).val = (vget x.prio (reqNo k)).val ∧ (reqNo k).val ≤ (reqNo j).val)

/-- The list stands in the tie order. -/
def inTieOrder (l : List Requester) : Prop := l.Pairwise (fun k j => (reqNo k).val ≤ (reqNo j).val)

theorem mem_requesters (k : Requester) : k ∈ requesters := by cases k <;> decide

theorem requesters_inTieOrder : inTieOrder requesters := by unfold inTieOrder; decide

theorem bestReq_eq_none {x : Block} {l : List Requester} (h : bestReq x l = none) : l = [] := by
  cases l with
  | nil => rfl
  | cons k ks =>
    unfold bestReq at h
    split at h
    · cases h
    · split at h <;> cases h

/-- Of a list in the tie order, bestReq chooses a member that goes before every other. -/
theorem bestReq_goesBefore {x : Block} {l : List Requester} (hl : inTieOrder l) {k : Requester} (h : bestReq x l = some k) :
    k ∈ l ∧ ∀ j ∈ l, goesBefore x k j := by
  unfold goesBefore
  induction l generalizing k with
  | nil => cases h
  | cons a as ih =>
    obtain ⟨first, ordered⟩ := List.pairwise_cons.mp hl
    unfold bestReq at h
    split at h
    next empty =>
      cases h
      rw [bestReq_eq_none empty]
      simp
    next c chosen =>
      obtain ⟨hc, before⟩ := ih ordered chosen
      have after_a := first c hc
      split at h
      next lower =>
        cases h
        exact ⟨List.mem_cons_of_mem a hc, List.forall_mem_cons.mpr ⟨.inl lower, before⟩⟩
      next =>
        cases h
        refine ⟨List.mem_cons_self, List.forall_mem_cons.mpr ⟨.inr ⟨rfl, le_rfl⟩, fun j hj => ?_⟩⟩
        have := before j hj
        have := first j hj
        omega

/-- The requesters that a decision chooses from: those that ask unmasked (R141, R146). -/
def candidates (s : State) (r : Region) (b : Blk) : List Requester := requesters.filter (fun k => asks s r b k && !maskedReq s r b k)

section Decision

variable {s : State} {r : Region} {b : Blk}

theorem mem_candidates {k : Requester} : k ∈ candidates s r b ↔ asks s r b k = true ∧ maskedReq s r b k = false := by
  simp [candidates, mem_requesters]

theorem candidates_inTieOrder : inTieOrder (candidates s r b) := requesters_inTieOrder.filter _

theorem decideGrant_frozen (h : bit32 (rg s r).arb.freeze b = true) : decideGrant s r b = none := if_pos h

theorem decideGrant_unfrozen (h : ¬bit32 (rg s r).arb.freeze b = true) : decideGrant s r b = bestReq (blk s r b) (candidates s r b) :=
  if_neg h

theorem decideGrant_some {k : Requester} (h : decideGrant s r b = some k) :
    k ∈ candidates s r b ∧ ∀ j ∈ candidates s r b, goesBefore (blk s r b) k j := by
  by_cases hf : bit32 (rg s r).arb.freeze b = true
  · rw [decideGrant_frozen hf] at h
    cases h
  · rw [decideGrant_unfrozen hf] at h
    exact bestReq_goesBefore candidates_inTieOrder h

theorem decideGrant_none (h : decideGrant s r b = none) : bit32 (rg s r).arb.freeze b = true ∨ candidates s r b = [] :=
  or_iff_not_imp_left.mpr fun hf => bestReq_eq_none ((decideGrant_unfrozen hf).symm.trans h)

end Decision

/-- Settles O30: the arbiter chooses the best of the requesters that ask unmasked, unless its freeze bit holds the block. -/
theorem arbiterGrantsTheHighestPriority : Obligations.ArbiterGrantsTheHighestPriority := by
  unfold Obligations.ArbiterGrantsTheHighestPriority
  refine fun s r b => ⟨fun k h => ?_, decideGrant_frozen, fun h => (decideGrant_none h).imp_right fun none j asking => ?_⟩
  · obtain ⟨chosen, before⟩ := decideGrant_some h
    obtain ⟨asking, unmasked⟩ := mem_candidates.mp chosen
    exact ⟨asking, unmasked, fun j hj free => before j (mem_candidates.mpr ⟨hj, free⟩)⟩
  · by_contra free
    have mem : j ∈ candidates s r b := mem_candidates.mpr ⟨asking, by simpa using free⟩
    rw [none] at mem
    cases mem

end Sys2Proof.Machine
end

section
/-! PROOF. Slipped beats, quota windows and starvation flags (R138, R147, R150, R151, R154, R159, R160). -/

namespace Sys2Proof.Machine

theorem exec_slotSlipIssue (r b m chk s) : exec (.slotSlipIssue r b m chk) s = execSlotSlipIssue r b m chk s := rfl
theorem exec_quotaWindowEnd (r s) : exec (.quotaWindowEnd r) s = execQuotaWindowEnd r s := rfl
theorem exec_starvationLimit (r src s) : exec (.starvationLimit r src) s = execStarvationLimit r src s := rfl

/-! ## A scheduled beat issued (R138, R147) -/

/-- A slipped beat that may be issued now: nothing holds it, and no other piece or port has its cell (R147). -/
def slipFree (s : State) (r : Region) (b : Blk) (q : BReq) : Bool :=
  q.slipped && schedFree s r b q && cellFree s r b q && !otherOwns (rg s r) b q

/-- The state in which a scheduled beat goes to its cell: a slipped one is counted (R147). -/
def slipCounted (s : State) (r : Region) (b : Blk) (q : BReq) : State := if q.slipped then countB s r b 0x12 0 1 else s

section Issue

variable (s : State) (r : Region) (b : Blk) (q : BReq) (m : Meet)

theorem slipCounted_cellSees : cellSees r (slipCounted s r b q) = cellSees r s := ite_keeps (cellSees_countBs s r b _ _) rfl

/-- Port A meets a beat as before the slip was counted. -/
theorem slipCounted_busyBeat : busyBeat (blk (slipCounted s r b q) r b) q m = busyBeat (blk s r b) q m := by
  unfold slipCounted
  split
  · obtain ⟨c, hc⟩ := blk_countBs s r b [selOf 0x12 0] 1
    rw [countB, hc]
    cases m <;> rfl
  · rfl

variable {s r b q m}

theorem issueSched_stalls (h : stalls (blk s r b) q m = true) (chk : BeatChk) :
    issueSched s r b q m chk = markBegun (slip (stallBeat s r b q) r b q) q.src := if_pos h

/-- A stalled beat slips, and nothing is stored. -/
theorem issueSched_stalled_kept (h : stalls (blk s r b) q m = true) (chk : BeatChk) : kept s (issueSched s r b q m chk) := by
  rw [issueSched_stalls h]
  exact kept_of_store ((markBegun_store _ _).trans ((slip_store _ _ _ _).trans (stallBeat_store _ _ _ _)))

/-- A beat that is not stalled leaves the stores as port B does. -/
theorem issueSched_store (h : stalls (blk s r b) q m = false) (chk : BeatChk) :
    store (issueSched s r b q m chk) = store (portB (slipCounted s r b q) r b q m chk).1 := by
  unfold issueSched
  rw [if_neg (by simp [h]), ← slipCounted]
  dsimp only
  rw [beatDone_store, markStage_store, markBegun_store, modBlk_store]

/-- A beat that is neither stalled nor answered BUSY is performed at its cell. -/
theorem issueSched_performs (hs : stalls (blk s r b) q m = false) (hb : busyBeat (blk s r b) q m = false) :
    (issueSched s r b q m .good).mem = (cellAccess s r b q.op q.beat).1.mem := by
  have ported : (issueSched s r b q m .good).mem = (portB (slipCounted s r b q) r b q m .good).1.mem := by
    obtain ⟨mem, -⟩ := kept_of_store (issueSched_store hs .good)
    exact mem
  rw [ported, portB_performs _ r b ((slipCounted_busyBeat s r b q m).trans hb)]
  exact cellAccess_mem_congr ((cellSees_atPortB _ r b q m).trans (slipCounted_cellSees s r b q)) q.op q.beat

/-! ## SLOT_SLIP_ISSUE (R147) -/

variable (hp : pathOpen s r = true)
include hp

theorem slotSlipIssue_none (h : (blk s r b).sched.find? (slipFree s r b) = none) (m : Meet) (chk : BeatChk) :
    execSlotSlipIssue r b m chk s = .next s := by
  unfold slipFree at h
  simp only [execSlotSlipIssue, hp, h, Bool.not_true, Bool.false_eq_true, if_false, skip]

theorem slotSlipIssue_issues (h : (blk s r b).sched.find? (slipFree s r b) = some q) {chk : BeatChk} (hc : ∀ out, chk ≠ .xbarParity out) :
    execSlotSlipIssue r b m chk s = .next (after (issueSched s r b q m chk)) := by
  unfold slipFree at h
  cases chk with
  | xbarParity out => exact absurd rfl (hc out)
  | good | arrayParity | factorParity =>
    simp only [execSlotSlipIssue, hp, h, Bool.not_true, Bool.false_eq_true, if_false, finish_eq_after]

end Issue

/-! ## The starvation flags (R151, R159, R160) -/

theorem starveSource_port (a : Arb) (i : Fin 4) : (starveSource a ⟨i.val, by omega⟩).starvePort.getLsbD i.val = true ∧
    vget (starveSource a ⟨i.val, by omega⟩).starve (fin 6 i.val) = 0 := by
  have same : (⟨i.val, by omega⟩ : Fin 6) = fin 6 i.val := Fin.ext (Nat.mod_eq_of_lt (by omega)).symm
  have bit : (BitVec.ofNat 4 (2 ^ i.val)).getLsbD i.val = true := by revert i; decide
  refine ⟨?_, ?_⟩
  · simp only [starveSource, i.isLt, if_true, BitVec.getLsbD_or, bit, Bool.or_true]
  · simp [starveSource, same]

theorem starveSource_halfLink (a : Arb) : (starveSource a 4).starveHalf = true ∧ vget (starveSource a 4).starve 4 = 0 := by
  simp [starveSource]

theorem starveSource_eventEntry (a : Arb) : (starveSource a 5).starveEntry = true ∧ vget (starveSource a 5).starve 5 = 0 := by
  simp [starveSource]

theorem starveRequesters_block (g : RegionSt) (b : Blk) : bit32 (starveRequesters g b).arb.starveBlk b = true ∧
    ∀ k : Fin 4, starveLimit g ≤ vget (vget g.blocks b).starve k → vget (vget (starveRequesters g b).blocks b).starve k = 0 := by
  have bit : bit32 (mask32 b) b = true := by revert b; decide
  refine ⟨?_, fun k hk => ?_⟩
  · simp only [bit32] at bit ⊢
    simp [starveRequesters, bit]
  · simp [starveRequesters, hk]

/-- Region g once the counter that src names has been found at its limit. -/
def starvedBy (src : StarveSrc) (g : RegionSt) : RegionSt :=
  match src with
  | .port i => { g with arb := starveSource g.arb ⟨i.val, by omega⟩ }
  | .halfLink => { g with arb := starveSource g.arb 4 }
  | .eventEntry => { g with arb := starveSource g.arb 5 }
  | .block b => starveRequesters g b

section Clocked

variable {s : State} {r : Region} (hc : clocked s (halfOf r) = true) (hr : inRun s r = true)
include hc hr

theorem quotaWindowEnd_restarts : execQuotaWindowEnd r s =
    .next (after (modRg s r (fun g => { g with arb := { g.arb with quotaUsed := Vector.replicate 32 0, eff := g.arb.regs } }))) := by
  simp [execQuotaWindowEnd, hc, hr, finish_eq_after]

omit hc hr in
theorem starvationLimit_waits {src : StarveSrc} (h : (rg s r).arb.eff.mode = false ∨ atLimit (rg s r) src = false) :
    execStarvationLimit r src s = .next s := by
  rcases h with h | h <;> simp [execStarvationLimit, h, skip]

theorem starvationLimit_flags {src : StarveSrc} (hm : (rg s r).arb.eff.mode = true) (hl : atLimit (rg s r) src = true) :
    execStarvationLimit r src s = .next (after (modRg s r (starvedBy src))) := by
  unfold execStarvationLimit
  rw [if_neg (by simp [hc, hr, hm, hl])]
  cases src <;> rfl

/-- The flag of the requester that src names is set, and its counter starts again. -/
theorem starvationLimit_restarts {src : StarveSrc} (hm : (rg s r).arb.eff.mode = true) (hl : atLimit (rg s r) src = true) (b : Blk) :
    ∃ t, execStarvationLimit r src s = .next t ∧ kept s t ∧
      (∀ i : Fin 4, src = .port i → (rg t r).arb.starvePort.getLsbD i.val = true ∧ vget (rg t r).arb.starve (fin 6 i.val) = 0) ∧
      (src = .halfLink → (rg t r).arb.starveHalf = true ∧ vget (rg t r).arb.starve 4 = 0) ∧
      (src = .eventEntry → (rg t r).arb.starveEntry = true ∧ vget (rg t r).arb.starve 5 = 0) ∧
      (src = .block b → bit32 (rg t r).arb.starveBlk b = true ∧
        ∀ k : Fin 4, starveLimit (rg s r) ≤ vget (blk s r b).starve k → vget (blk t r b).starve k = 0) := by
  refine ⟨_, starvationLimit_flags hc hr hm hl, kept_after (modRg_store _ _ _), ?_⟩
  simp only [blk, rg_after, rg_modRg_same]
  refine ⟨?_, ?_, ?_, ?_⟩
  · rintro i rfl
    exact starveSource_port _ i
  · rintro rfl
    exact starveSource_halfLink _
  · rintro rfl
    exact starveSource_eventEntry _
  · rintro rfl
    exact starveRequesters_block _ b

end Clocked

/-- Settles O32: the exits of SLOT_SLIP_ISSUE, then QUOTA_WINDOW_END and STARVATION_LIMIT. -/
theorem slipsQuotasAndStarvation : Obligations.SlipsQuotasAndStarvation := by
  unfold Obligations.SlipsQuotasAndStarvation
  simp only [exec_slotSlipIssue, exec_quotaWindowEnd, exec_starvationLimit]
  refine fun s r b => ⟨fun hp => ⟨fun m chk none => slotSlipIssue_none hp none m chk, fun q m chk found hc => ?_⟩, fun hc hr =>
    ⟨quotaWindowEnd_restarts hc hr, fun src h => starvationLimit_waits h, fun src hm hl => starvationLimit_restarts hc hr hm hl b⟩⟩
  refine ⟨slotSlipIssue_issues hp found hc, fun stalled => issueSched_stalled_kept stalled chk, fun hs hb good => ?_⟩
  rw [good]
  exact issueSched_performs hs hb

end Sys2Proof.Machine
end

section
/-! PROOF. Copies of events at the region entry, their expansion, and the ways into the event queues (R149, R166 to R168, R173 to R175,
R178, R188, R190, R451, R463). -/

namespace Sys2Proof.Machine

theorem exec_entryHold (port r v s) : exec (.entryHold port r v) s = execEntryHold port r v s := rfl
theorem exec_copyAtEntry (r s) : exec (.copyAtEntry r) s = execCopyAtEntry r s := rfl
theorem exec_expandCopy (r chk s) : exec (.expandCopy r chk) s = execExpandCopy r chk s := rfl
theorem exec_groupToQueue (r s) : exec (.groupToQueue r) s = execGroupToQueue r s := rfl
theorem exec_ringRowsToQueue (r b s) : exec (.ringRowsToQueue r b) s = execRingRowsToQueue r b s := rfl

/-- A write of RG_EV_CTRL is a wake request and takes effect at once (R44, R188, R401). -/
theorem entryHold_writes {s : State} {port : RegPort} (hp : portReady s port = true) (r : Region) (v : Bool) :
    execEntryHold port r v s = .next (after (ack (modEv (wakeReq s r) r (fun e => { e with hold := v })) port)) := by
  simp only [execEntryHold, writeReg, hp, Bool.not_true, Bool.false_eq_true, if_false, finish_eq_after]

/-! ## The region entry (R166, R167) -/

/-- Tags change no region. -/
theorem settleTag_regions (s : State) (r : Region) (tag : Option Nat) : (settleTag s r tag).regions = s.regions := by
  unfold settleTag
  split
  · rfl
  · split
    · rfl
    · split
      · rfl
      · exact ite_keeps (g := State.regions) rfl rfl

theorem countR_ev (s : State) (r q : Region) (e a n : Nat) : (rg (countR s r e a n) q).ev = (rg s q).ev := by
  have counted : ∀ v, (rg (modRg s r (fun g => { g with counters := v })) q).ev = (rg s q).ev := fun v => by
    rw [rg_modRg]
    split <;> rfl
  refine ite_keeps (g := fun u => (rg u q).ev) ?_ rfl
  dsimp only
  rw [rg, wrapFlag_regions]
  exact counted _

/-- The oldest copy on its way discarded, which leaves the copies cs, and counted by RG_EV_COUNT i (R190). -/
def dropCopy (s : State) (r : Region) (cs : List Copy) (i : Fin 5) : State := evCount (modEv s r (fun x => { x with arriving := cs })) r i 1

theorem dropCopy_ev (s : State) (r : Region) (cs : List Copy) (i : Fin 5) : (rg (dropCopy s r cs i) r).ev.entry = (rg s r).ev.entry ∧
    (rg (dropCopy s r cs i) r).ev.arriving = cs ∧ vget (rg (dropCopy s r cs i) r).ev.counts i = vget (rg s r).ev.counts i + 1 := by
  simp [dropCopy, evCount, countR_ev, modEv]

theorem copy_dropped (s : State) (r : Region) (cs : List Copy) (i : Fin 5) (tag : Option Nat) :
    let t := after (settleTag (dropCopy s r cs i) r tag)
    kept s t ∧ (rg t r).ev.entry = (rg s r).ev.entry ∧ (rg t r).ev.arriving = cs ∧
      vget (rg t r).ev.counts i = vget (rg s r).ev.counts i + 1 := by
  have same : rg (after (settleTag (dropCopy s r cs i) r tag)) r = rg (dropCopy s r cs i) r := by
    rw [rg_after, rg, settleTag_regions]
    rfl
  dsimp only
  rw [same]
  exact ⟨kept_after ((settleTag_store _ _ _).trans (evCount_store _ _ _ _)), dropCopy_ev s r cs i⟩

/-- The oldest copy on its way taken into the entry. -/
def copyTaken (s : State) (r : Region) (c : Copy) (cs : List Copy) : State :=
  evCount (modEv (markTag (modEv s r (fun x => { x with arriving := cs })) c.tag 1) r (fun x => { x with entry := x.entry ++ [c] })) r 0 1

section Entry

variable {s : State} {r : Region} {c : Copy} {cs : List Copy} (hc : clocked s (halfOf r) = true) (ha : (rg s r).ev.arriving = c :: cs)
include hc ha

theorem copyAtEntry_eq : execCopyAtEntry r s =
    if inRun s r then .next (after (wakeReq (copyTaken s r c cs) r))
    else if loadingR s r then .next (after (copyTaken s r c cs))
    else if planned s r = false then .next (after (settleTag (dropCopy s r cs 1) r c.tag))
    else if evNoWake c.ev then .next (after (settleTag (dropCopy s r cs 2) r c.tag))
    else .next (after (wakeReq (copyTaken s r c cs) r)) := by
  have run : inRun (modEv s r (fun x => { x with arriving := cs })) r = inRun s r := by simp [inRun, modEv]
  have load : loadingR (modEv s r (fun x => { x with arriving := cs })) r = loadingR s r := rfl
  have plan : planned (modEv s r (fun x => { x with arriving := cs })) r = planned s r := rfl
  unfold execCopyAtEntry
  rw [if_neg (by simp [hc])]
  simp only [ha, run, load, plan, finish_eq_after, Bool.not_eq_true', copyTaken, dropCopy]

theorem copyAtEntry_running (h : inRun s r = true) : execCopyAtEntry r s = .next (after (wakeReq (copyTaken s r c cs) r)) := by
  rw [copyAtEntry_eq hc ha, if_pos h]

theorem copyAtEntry_loading (hr : inRun s r = false) (hl : loadingR s r = true) :
    execCopyAtEntry r s = .next (after (copyTaken s r c cs)) := by
  simp only [copyAtEntry_eq hc ha, hr, hl, Bool.false_eq_true, if_false, if_true]

section Resting

variable (h : (inRun s r || loadingR s r) = false)
include h

/-- Without a Plan the copy is discarded as NOEXPAND (R166). -/
theorem copyAtEntry_noPlan (hp : planned s r = false) : execCopyAtEntry r s = .next (after (settleTag (dropCopy s r cs 1) r c.tag)) := by
  obtain ⟨hr, hl⟩ := Bool.or_eq_false_iff.mp h
  simp only [copyAtEntry_eq hc ha, hr, hl, hp, Bool.false_eq_true, if_false, if_true]

/-- With the NOWAKE bit it is discarded as such (R166). -/
theorem copyAtEntry_noWake (hp : planned s r = true) (hw : evNoWake c.ev = true) :
    execCopyAtEntry r s = .next (after (settleTag (dropCopy s r cs 2) r c.tag)) := by
  obtain ⟨hr, hl⟩ := Bool.or_eq_false_iff.mp h
  simp only [copyAtEntry_eq hc ha, hr, hl, hp, hw, Bool.false_eq_true, Bool.true_eq_false, if_false, if_true]

theorem copyAtEntry_wakes (hp : planned s r = true) (hw : evNoWake c.ev = false) :
    execCopyAtEntry r s = .next (after (wakeReq (copyTaken s r c cs) r)) := by
  obtain ⟨hr, hl⟩ := Bool.or_eq_false_iff.mp h
  simp only [copyAtEntry_eq hc ha, hr, hl, hp, hw, Bool.false_eq_true, Bool.true_eq_false, if_false]

end Resting

end Entry

/-! ## Expansion (R172, R173) -/

theorem expandCopy_held {s : State} {r : Region} (h : entryHeld s r = true) (chk : ExpandChk) : execExpandCopy r chk s = .next s := by
  simp [execExpandCopy, h, skip]

section Expand

variable {s : State} {r : Region} {c : Copy} {cs : List Copy} (hc : clocked s (halfOf r) = true) (hh : entryHeld s r = false)
  (hg : (rg s r).ev.groups = []) (he : (rg s r).ev.entry = c :: cs)
include hc hh hg he

/-- A copy that no index entry is for is discarded as NOEXPAND (R173). -/
theorem expandCopy_unindexed (h : indexOf s r c = none) (chk : ExpandChk) : execExpandCopy r chk s = .next (after (settleTag
    (evCount (modEv (markTag s c.tag 2) r (fun x => { x with entry := cs })) r 1 1) r c.tag)) := by
  unfold execExpandCopy
  rw [if_neg (by simp [hc, hh, hg])]
  simp only [he, h, finish_eq_after]

variable {i : Nat} (hi : indexOf s r c = some i)
include hi

/-- The oldest copy leaves the entry and is expanded as far as its words pass their checks (R172, R173, R451). -/
theorem expandCopy_indexed : let s1 := modEv (markTag s c.tag 2) r (fun x => { x with entry := cs })
    let ix := tget 0 (rg s r).plan.index i
    execExpandCopy r .good s = .next (after (settleTag (expandRun s1 r c (indexFirst ix) (indexCount ix)) r c.tag)) ∧
    execExpandCopy r .index s = .next (after (settleTag (regionFault s1 r 8 ((1 : W32) <<< 31 ||| BitVec.ofNat 32 i)) r c.tag)) ∧
    (∀ j, j < indexCount ix → execExpandCopy r (.entry j) s = .next (after (settleTag
      (regionFault (expandRun s1 r c (indexFirst ix) j) r 8 (BitVec.ofNat 32 ((indexFirst ix + j) % 131072))) r c.tag))) := by
  unfold execExpandCopy
  rw [if_neg (by simp [hc, hh, hg]), if_neg (by simp [hc, hh, hg])]
  simp only [he, hi, finish_eq_after]
  refine ⟨trivial, trivial, fun j hj => ?_⟩
  rw [if_neg (by simp [hc, hh, hg]), if_pos hj]

end Expand

/-! ## The event entry's turn at the crossbar (R149, R174) -/

/-- The event entry is one of the six sources in turn. -/
theorem rrOrder_entry (last : Fin 6) : (rrOrder last).find? (· == 5) = some 5 := by revert last; decide

section Turn

variable {s : State} {r : Region} {b : Blk}

/-- The event entry is no source of beats. -/
theorem candOf_entry (s : State) (r : Region) (b : Blk) : candOf s r b 5 = none := dif_neg (by decide)

/-- It is the event entry's turn only where it presents a group for the block. -/
theorem entryPresents_of_turn (h : xbarTurn s r b = some 5) : entryPresents s r b = true := by
  unfold xbarTurn at h
  dsimp only at h
  split at h
  next k found =>
    rw [Option.some.inj h] at found
    simpa [candOf_entry] using List.find?_some found
  · split at h
    next k found =>
      rw [Option.some.inj h] at found
      simpa [candOf_entry] using List.find?_some found
    · simpa [candOf_entry] using List.find?_some h

/-- Where no source has a beat for the block, a group that the entry presents has the turn. -/
theorem turn_of_entryPresents (h : entryPresents s r b = true) (hn : ∀ k, candOf s r b k = none) : xbarTurn s r b = some 5 := by
  have noBeat : (rrOrder (blk s r b).rrLast).find? (fun _ => false) = none := List.find?_eq_none.mpr fun _ _ => Bool.false_ne_true
  unfold xbarTurn
  simp only [hn, h, Option.any_none, noBeat, Option.isSome_none, Bool.false_or, Bool.and_true]
  exact rrOrder_entry _

end Turn

/-! ## Groups and released rows (R174, R175, R178, R463) -/

section Queue

variable {s : State} {r : Region} (hc : clocked s (halfOf r) = true) (hr : inRun s r = true) (hf : frozen s (halfOf r) = false)
include hc hr hf

section Groups

variable {g : Group} {gs : List Group} (hg : (rg s r).ev.groups = g :: gs)
include hg

omit hc hr in
/-- The entry presents its oldest group where that finds its places. -/
theorem entryPresents_iff : entryPresents s r g.block = groupFits s r g.block g.rows.length := by
  simp [entryPresents, hg, hf]

theorem groupToQueue_waits (h : xbarTurn s r g.block ≠ some 5) : execGroupToQueue r s = .next s := by
  simp [execGroupToQueue, hc, hr, hf, hg, h, skip]

theorem groupToQueue_turn (h : xbarTurn s r g.block = some 5) : execGroupToQueue r s =
    let s1 := entryServed (modEv s r (fun x => { x with groups := gs })) r g.block
    if fenced s r g.block then .next (after (settleTag (evCount s1 r 3 g.rows.length) r ((g.rows.head?).bind (·.tag))))
    else .next (after (modBlk (markRows s1 g.rows) r g.block (fun b => { b with evq := b.evq ++ g.rows }))) := by
  simp [execGroupToQueue, hc, hr, hf, hg, h, finish_eq_after]

omit hc hr in
/-- A group that has its turn at a block that is not fenced finds places for all its rows, and no released row waits (R174, R178). -/
theorem group_has_room (h : xbarTurn s r g.block = some 5) (hb : fenced s r g.block = false) :
    (blk s r g.block).released = [] ∧ (blk s r g.block).evq.length + g.rows.length ≤ 256 := by
  have fits := (entryPresents_iff hf hg).symm.trans (entryPresents_of_turn h)
  simpa [groupFits, hb] using fits

end Groups

theorem ringRowsToQueue_moves {b : Blk} (hw : (blk s r b).released ≠ []) (hl : (blk s r b).evq.length < 256) : execRingRowsToQueue r b s =
    .next (after (modBlk (markRows s ((blk s r b).released.take (256 - (blk s r b).evq.length))) r b releaseRows)) := by
  simp [execRingRowsToQueue, hc, hr, hf, hw, hl, finish_eq_after]

end Queue

/-- Settles O34: the five commands in the order of the statement, one lemma for each exit. -/
theorem copiesExpandIntoTheQueues : Obligations.CopiesExpandIntoTheQueues := by
  unfold Obligations.CopiesExpandIntoTheQueues
  simp only [exec_entryHold, exec_copyAtEntry, exec_expandCopy, exec_groupToQueue, exec_ringRowsToQueue]
  refine fun s r => ⟨fun port v hp => entryHold_writes hp r v, fun hc => ⟨fun c cs ha => ?_, fun c cs hh hg he => ?_,
    fun hh => expandCopy_held hh, fun hr hf => ⟨fun g gs hg => ?_, fun b hw hl => ringRowsToQueue_moves hc hr hf hw hl⟩⟩⟩
  · refine ⟨copyAtEntry_running hc ha, copyAtEntry_loading hc ha, fun rests => ⟨fun hp => ?_, fun hp hw => ?_, copyAtEntry_wakes hc ha rests⟩⟩
    · exact ⟨_, copyAtEntry_noPlan hc ha rests hp, copy_dropped s r cs 1 c.tag⟩
    · exact ⟨_, copyAtEntry_noWake hc ha rests hp hw, copy_dropped s r cs 2 c.tag⟩
  · exact ⟨expandCopy_unindexed hc hh hg he, fun i hi => expandCopy_indexed hc hh hg he hi⟩
  · refine ⟨fun fits none => turn_of_entryPresents ((entryPresents_iff hf hg).trans fits) none, groupToQueue_waits hc hr hf hg,
      fun turn hb => ⟨?_, group_has_room hf hg turn hb⟩, fun turn hb => ?_⟩
    · rw [groupToQueue_turn hc hr hf hg turn, hb]
      rfl
    · rw [groupToQueue_turn hc hr hf hg turn, hb]
      rfl

end Sys2Proof.Machine
end

section
/-! PROOF. A row-event issued: it retires, is replayed, or stops its block (R141, R191, R199, R201, R204 to R206, R208, R406, R451, R452). -/

namespace Sys2Proof.Machine

theorem exec_rowEventIssue (r b chk s) : exec (.rowEventIssue r b chk) s = execRowEventIssue r b chk s := rfl

/-! ## What a row-event may change -/

/-- What the claims about a row-event read of the state: the stores, freeze and the faults, the replays of its region, and the event queue
of its block with its stop. -/
structure RowView where
  mem : Table Byte
  basin : Table Byte
  aon : Aon
  pending : List Instr
  frz : Freeze
  flt : Faults
  replayed : Bool
  replays : W32
  evq : List RowEv
  halted : Bool

/-- What they read of block b of region r. -/
def rowView (r : Region) (b : Blk) (s : State) : RowView :=
  { mem := s.mem, basin := s.basin, aon := s.aon, pending := s.pending, frz := s.frz, flt := s.flt,
    replayed := (rg s r).lanes.replayed, replays := (rg s r).lanes.replays, evq := (blk s r b).evq, halted := (blk s r b).halted }

section View

variable (r : Region) (b : Blk) (s : State)

theorem rowView_after : rowView r b (after s) = rowView r b s := by
  simp only [rowView, blk, rg_after, after_mem, after_basin, after_aon, after_pending, after_frz, after_flt]

theorem rowView_addAct (cost : Nat) : rowView r b (addAct s r cost) = rowView r b s := rfl

theorem rowView_markTag (tag : Option Nat) (k : Nat) : rowView r b (markTag s tag k) = rowView r b s := by cases tag <;> rfl

theorem rowView_putTag (e : BitVec 128) : rowView r b (putTag s e) = rowView r b s := ite_keeps rfl rfl

theorem rowView_settleTag (tag : Option Nat) : rowView r b (settleTag s r tag) = rowView r b s := by
  unfold settleTag
  split
  · rfl
  · split
    · rfl
    · split
      · rfl
      · exact rowView_putTag r b _ _

/-- An update of the region that leaves its blocks changes at most the replays. -/
theorem rowView_modRg {f : RegionSt → RegionSt} (hb : (f (rg s r)).blocks = (rg s r).blocks) : rowView r b (modRg s r f) =
    { rowView r b s with replayed := (f (rg s r)).lanes.replayed, replays := (f (rg s r)).lanes.replays } := by
  simp only [rowView, blk, rg_modRg_same, hb]
  rfl

theorem rowView_modBlk (f : Block → Block) : rowView r b (modBlk s r b f) =
    { rowView r b s with evq := (f (blk s r b)).evq, halted := (f (blk s r b)).halted } := by
  have lanes : (rg (modBlk s r b f) r).lanes = (rg s r).lanes := by rw [modBlk, rg_modRg_same]
  simp only [rowView, blk_modBlk_same, lanes]
  rfl

theorem rowView_countBs (sels : List (BitVec 16)) (n : Nat) : rowView r b (countBs s r b sels n) = rowView r b s := by
  have flag : ∀ u w, rowView r b (wrapFlag u w) = rowView r b u := fun u w => ite_keeps rfl rfl
  refine ite_keeps ((flag _ _).trans ?_) rfl
  simp only [rowView, blk, rg_modRg_same, vget_vmod_same]
  rfl

theorem rowView_countB (e a n : Nat) : rowView r b (countB s r b e a n) = rowView r b s := rowView_countBs r b s _ n

theorem rowView_basinPut (j : Nat) (bs : List Byte) : rowView r b (basinPut s r b j bs) =
    { rowView r b s with basin := (basinPut s r b j bs).basin } := by
  unfold basinPut
  split <;> rfl

/-- The sticky flags of the lanes say nothing of a replay. -/
theorem rowView_laneFlags (f : AccFlags) : rowView r b (laneFlags s r b f) = rowView r b s := by
  have counted : ∀ (c : Bool) u e, rowView r b (if c then countB u r b e 0 1 else u) = rowView r b u := fun c u e =>
    ite_keeps (rowView_countB r b u e 0 1) rfl
  unfold laneFlags
  dsimp only
  rw [counted, counted, counted]
  exact rowView_modRg r b s rfl

theorem rowView_raise (h : Half) (rec : W64) : rowView r b (raise s h rec) =
    { rowView r b s with frz := (raise s h rec).frz, flt := (raise s h rec).flt } := by
  obtain ⟨mem, basin, aon, pending⟩ := kept_of_store (raise_store s h rec)
  simp only [rowView, blk, rg, raise_regions, mem, basin, aon, pending]

/-! ## The ends of a row-event (R204 to R206, R452) -/

theorem rowView_popRow : rowView r b (popRow s r b) = { rowView r b s with evq := (rowView r b s).evq.drop 1 } := rowView_modBlk r b s _

theorem rowView_retireRow (x : RowEv) : rowView r b (retireRow s r b x) =
    { rowView r b s with basin := (basinPut s r b (1024 * firstSeg x) (rowResult s r b x).1).basin, evq := (rowView r b s).evq.drop 1 } := by
  unfold retireRow
  dsimp only
  rw [rowView_settleTag, rowView_markTag, rowView_countB, rowView_popRow, rowView_laneFlags, rowView_basinPut]

theorem rowView_replayRow {x : RowEv} {xs : List RowEv} (hq : (blk s r b).evq = x :: xs) : rowView r b (replayRow s r b) =
    { rowView r b s with evq := { x with tried := true } :: xs, replayed := true, replays := (rowView r b s).replays + 1 } := by
  have marked : rowView r b (modBlk s r b (fun z => { z with evq := match z.evq with | y :: ys => { y with tried := true } :: ys | [] => [] })) =
      { rowView r b s with evq := { x with tried := true } :: xs } := by
    rw [rowView_modBlk]
    simp only [hq]
    rfl
  unfold replayRow
  dsimp only
  rw [rowView_countB]
  exact (rowView_modRg r b _ rfl).trans (congrArg (fun v : RowView => { v with replayed := true, replays := v.replays + 1 }) marked)

theorem rowView_haltBlock : rowView r b (haltBlock s r b) = { rowView r b s with halted := true } := rowView_modBlk r b s _

/-- A fault of the block stops it: beyond that, only freeze and the fault registers change (R452). -/
theorem rowView_stopped (code level cell : Nat) (d : W32) : ∃ z f, rowView r b (haltBlock (blockFault s r b code level cell d) r b) =
    { rowView r b s with frz := z, flt := f, halted := true } ∧ (halfOf r = 0 → z.asserted = true) := by
  unfold blockFault
  generalize faultRec code level (halfOf r).val (32 * r.val + b.val) cell d = rec
  refine ⟨(raise s (halfOf r) rec).frz, (raise s (halfOf r) rec).flt, ?_, (raise_recorded s (halfOf r) rec).1⟩
  rw [rowView_haltBlock, rowView_raise]

end View

/-! ## The command (R141, R406) -/

/-- The state in which a row-event is checked: its activity is added, it has used a cycle of the grant, and it is counted (R141, R406). -/
def rowIssued (s : State) (r : Region) (b : Blk) (used : Nat) (x : RowEv) : State :=
  let u := modBlk (addAct s r Config.rowAmp.val) r b (fun y => { y with grant := some (.event, used + 1), evIssued := true })
  markTag (countB u r b (if x.tried then 0x09 else 0x08) 0 1) x.tag 4

theorem rowView_rowIssued (s : State) (r : Region) (b : Blk) (used : Nat) (x : RowEv) :
    rowView r b (rowIssued s r b used x) = rowView r b s := by
  unfold rowIssued
  dsimp only
  rw [rowView_markTag, rowView_countB, rowView_modBlk]
  rfl

/-- With no event grant, no row-event, a stopped block or under freeze nothing is issued. -/
theorem rowEventIssue_skips {s : State} {r : Region} {b : Blk} (h : frozen s (halfOf r) = true ∨ (blk s r b).halted = true ∨
    (blk s r b).evq = [] ∨ ∀ n, (blk s r b).grant ≠ some (.event, n)) (chk : RowChk) : execRowEventIssue r b chk s = .next s := by
  unfold execRowEventIssue
  dsimp only
  split
  · rfl
  next open_ =>
    split
    next n x xs hg hq =>
      rcases h with h | h | h | h
      · simp [h] at open_
      · simp [h] at open_
      · simp [h] at hq
      · exact absurd hg (h n)
    · rfl

section Issue

variable {s : State} {r : Region} {b : Blk} {x : RowEv} {xs : List RowEv} {used : Nat} (hp : pathOpen s r = true)
  (hf : frozen s (halfOf r) = false) (hh : (blk s r b).halted = false) (hg : (blk s r b).grant = some (.event, used))
  (hu : used < burstOf (rg s r) .event) (hi : (blk s r b).evIssued = false) (hq : (blk s r b).evq = x :: xs)
include hp hf hh hg hu hi hq

theorem rowEventIssue_limited (ha : mayAct s r Config.rowAmp.val = false) (chk : RowChk) :
    execRowEventIssue r b chk s = .next (after (limitAct s r)) := by
  simp [execRowEventIssue, hp, hf, hh, hg, hi, hq, Nat.not_le.mpr hu, governed, ha, finish_eq_after]

theorem rowEventIssue_checks (ha : mayAct s r Config.rowAmp.val = true) (chk : RowChk) :
    execRowEventIssue r b chk s = .next (after (rowChecked (rowIssued s r b used x) r b x chk)) := by
  simp [execRowEventIssue, hp, hf, hh, hg, hi, hq, Nat.not_le.mpr hu, governed, ha, rowIssued, finish_eq_after]

end Issue

/-! ## What a check makes of a row-event, seen from the state before it -/

/-- The accumulators of a row-event depend on the two stores alone. -/
theorem rowResult_congr {s u : State} (hm : u.mem = s.mem) (hb : u.basin = s.basin) (r : Region) (b : Blk) (x : RowEv) :
    rowResult u r b x = rowResult s r b x := by
  simp only [rowResult, rowBytes, readBytes, rowAccs, basinGet, hm, hb]

/-- What the check of a row-event stops its block for: a residue that fails again, or a row or a basin word of it that fails its parity. -/
def stopsBlock (x : RowEv) (c : RowChk) : Prop :=
  (c = .residue ∧ x.tried = true) ∨ (∃ cell, c = .arrayParity cell) ∨ (∃ d, c = .basinParity d ∧ wordInRow x d = true)

theorem rowChecked_stops {x : RowEv} {c : RowChk} (h : stopsBlock x c) (u : State) (r : Region) (b : Blk) :
    ∃ code level cell d, rowChecked u r b x c = haltBlock (blockFault u r b code level cell d) r b := by
  rcases h with ⟨rfl, again⟩ | ⟨cell, rfl⟩ | ⟨d, rfl, inRow⟩
  · exact ⟨_, _, _, _, if_pos again⟩
  · exact ⟨_, _, _, _, rfl⟩
  · exact ⟨_, _, _, _, if_pos inRow⟩

theorem basinPut_basin (s : State) (r : Region) (b : Blk) (j : Nat) (bs : List Byte) :
    (basinPut s r b j bs).basin = if canWrite s then tputs 0 s.basin (basinAddr r b + j) bs else s.basin := by
  unfold basinPut
  split <;> rfl

section Checked

variable {s u : State} {r : Region} {b : Blk} {x : RowEv} {xs : List RowEv} (same : rowView r b u = rowView r b s)
  (hq : (blk s r b).evq = x :: xs)
include same hq

/-- With a good check only the basin segments of the row-event change, and it leaves its queue (R199, R204). -/
theorem checked_good : let t := after (rowChecked u r b x .good)
    t.mem = s.mem ∧ t.aon = s.aon ∧ (blk t r b).evq = xs ∧
      (canWrite s = true → t.basin = tputs 0 s.basin (basinAddr r b + 1024 * firstSeg x) (rowResult s r b x).1) ∧
      (canWrite s = false → t.basin = s.basin) ∧ t.frz = s.frz ∧ t.flt = s.flt := by
  have basin_s : u.basin = s.basin := congrArg RowView.basin same
  have writes_s : canWrite u = canWrite s := congrArg (fun v : RowView => !v.aon.rail) same
  have seen := (rowView_after r b (rowChecked u r b x .good)).trans (rowView_retireRow r b u x)
  rw [basinPut_basin, writes_s, basin_s, rowResult_congr (congrArg RowView.mem same) basin_s, same] at seen
  have basin := congrArg RowView.basin seen
  have popped := congrArg (List.drop 1) hq
  exact ⟨congrArg RowView.mem seen, congrArg RowView.aon seen, (congrArg RowView.evq seen).trans popped,
    fun hw => basin.trans (if_pos hw), fun hw => basin.trans (if_neg (by simp [hw])), congrArg RowView.frz seen, congrArg RowView.flt seen⟩

/-- A first residue failure keeps the row-event at its place, marked for its replay, and is counted (R205). -/
theorem checked_replayed (hx : x.tried = false) : let t := after (rowChecked u r b x .residue)
    kept s t ∧ (blk t r b).evq = { x with tried := true } :: xs ∧ t.frz = s.frz ∧ (rg t r).lanes.replayed = true ∧
      (rg t r).lanes.replays = (rg s r).lanes.replays + 1 := by
  have replayed : rowChecked u r b x .residue = replayRow u r b := if_neg (by simp [hx])
  have seen := (rowView_after r b (replayRow u r b)).trans (rowView_replayRow r b u ((congrArg RowView.evq same).trans hq))
  rw [same] at seen
  dsimp only
  rw [replayed]
  exact ⟨⟨congrArg RowView.mem seen, congrArg RowView.basin seen, congrArg RowView.aon seen, congrArg RowView.pending seen⟩,
    congrArg RowView.evq seen, congrArg RowView.frz seen, congrArg RowView.replayed seen, congrArg RowView.replays seen⟩

/-- A check that stops the block leaves the row-event in its queue, and every byte (R206, R208, R452). -/
theorem checked_stopped {c : RowChk} (hc : stopsBlock x c) : let t := after (rowChecked u r b x c)
    kept s t ∧ (blk t r b).evq = x :: xs ∧ (blk t r b).halted = true ∧ (halfOf r = 0 → t.frz.asserted = true) := by
  obtain ⟨code, level, cell, d, stopped⟩ := rowChecked_stops hc u r b
  obtain ⟨z, f, changed, west⟩ := rowView_stopped r b u code level cell d
  have seen := (rowView_after r b (rowChecked u r b x c)).trans ((congrArg (rowView r b) stopped).trans changed)
  rw [same] at seen
  have freeze : (after (rowChecked u r b x c)).frz = z := congrArg RowView.frz seen
  exact ⟨⟨congrArg RowView.mem seen, congrArg RowView.basin seen, congrArg RowView.aon seen, congrArg RowView.pending seen⟩,
    (congrArg RowView.evq seen).trans hq, congrArg RowView.halted seen, fun hr => by rw [freeze]; exact west hr⟩

end Checked

/-- Settles O42: the states in which nothing is issued, the governor's allowance, and what each check makes of the row-event. -/
theorem rowEventAccumulatesIntoItsSegments : Obligations.RowEventAccumulatesIntoItsSegments := by
  unfold Obligations.RowEventAccumulatesIntoItsSegments
  simp only [exec_rowEventIssue]
  refine fun s r b x xs used => ⟨rowEventIssue_skips, fun hp hf hh hg hu hi hq => ⟨rowEventIssue_limited hp hf hh hg hu hi hq, fun ha => ?_⟩⟩
  have checks := rowEventIssue_checks hp hf hh hg hu hi hq ha
  have same := rowView_rowIssued s r b used x
  exact ⟨⟨_, checks .good, checked_good same hq⟩, fun hx => ⟨_, checks .residue, checked_replayed same hq hx⟩,
    fun c hc => ⟨_, checks c, checked_stopped same hq hc⟩⟩

end Sys2Proof.Machine
end

section
/-! PROOF. The policy timeouts (R179, R399, R400). -/

namespace Sys2Proof.Machine

theorem exec_idleTimeout (r s) : exec (.idleTimeout r) s = execIdleTimeout r s := rfl
theorem exec_retainTimeout (r s) : exec (.retainTimeout r) s = execRetainTimeout r s := rfl
theorem exec_offTimeout (r s) : exec (.offTimeout r) s = execOffTimeout r s := rfl

/-- A command that its row's conditions guard asks where they all hold, and otherwise changes nothing (log entry 1). -/
theorem asks_iff {c p : Prop} [Decidable c] [Decidable p] (h : ¬ c ↔ p) (s : State) (r : Region) :
    (if c then skip s else finish (askDown s r)) = if p then .next (after (askDown s r)) else .next s := by
  by_cases hp : p
  · rw [if_pos hp, if_neg (h.mpr hp), finish_eq_after]
  · rw [if_neg hp, if_pos (not_not.mp (mt h.mp hp)), skip]

/-- Off is the deepest of the power states. -/
theorem deepest_off_iff (d : BitVec 2) : 3 ≤ d.toNat ↔ d = 3 := by revert d; decide

/-- Settles O11: each timeout's guard is the negation of its row's conditions. -/
theorem policyTimeoutAsksForOneDownwardStep : Obligations.PolicyTimeoutAsksForOneDownwardStep := by
  unfold Obligations.PolicyTimeoutAsksForOneDownwardStep
  simp only [exec_idleTimeout, exec_retainTimeout, exec_offTimeout]
  refine fun s r => ⟨asks_iff ?_ s r, asks_iff ?_ s r, asks_iff ?_ s r⟩
  · simp [and_assoc, and_left_comm]
  · simp [and_assoc, Nat.succ_le_iff]
  · simp [deepest_off_iff, and_assoc]

end Sys2Proof.Machine
end

section
/-! PROOF. A step close drains, sweeps and advances the epoch (R176, R178, R187, R218, R219, R221, R222, R389, R452). -/

namespace Sys2Proof.Machine

theorem exec_stepEntryComplete (r s) : exec (.stepEntryComplete r) s = execStepEntryComplete r s := rfl
theorem exec_stepDrained (r bad s) : exec (.stepDrained r bad) s = execStepDrained r s bad := rfl
theorem exec_stepSweepsDone (r s) : exec (.stepSweepsDone r) s = execStepSweepsDone r s := rfl

/-! ## The place of the close in progress (R176) -/

section Place

variable {s t : State} {r : Region} {c : Close} {k : CloseStep}

theorem closeAt_congr (h : (rg t r).ev.closes = (rg s r).ev.closes) : closeAt t r k = closeAt s r k := by
  unfold closeAt
  rw [h]

/-- The close in progress is the oldest one of its region. -/
theorem closes_of_closeAt (h : closeAt s r k = some c) : ∃ cs, (rg s r).ev.closes = c :: cs := by
  unfold closeAt at h
  split at h
  next d cs hc =>
    split at h
    · exact ⟨cs, hc.trans (congrArg (· :: cs) (Option.some.inj h))⟩
    · exact nomatch h
  · exact nomatch h

theorem closeAt_moveClose (h : closeAt s r k = some c) (k' : CloseStep) : closeAt (moveClose s r k') r k' = some { c with at_ := k' } := by
  obtain ⟨cs, hc⟩ := closes_of_closeAt h
  simp [closeAt, moveClose, modEv, hc]

end Place

/-! ## STEP_ENTRY_COMPLETE (R176, R389) -/

section Entry

variable {s : State} {r : Region} {c : Close} (ho : stepOpen s r = true) (ha : closeAt s r .entry = some c)
include ho ha

/-- The other half's STEP has come, and no copy from before the boundary is on its way to the entry. -/
theorem stepEntryComplete_eq : execStepEntryComplete r s =
    if (rg s r).ev.stepsSeen.contains c.uid = true ∧ (rg s r).ev.arriving = [] ∧ preNear s r c.uid = false
    then .next (after (moveClose s r .drain)) else .next s := by
  unfold execStepEntryComplete
  rw [if_neg (by simp [ho])]
  simp only [ha, finish_eq_after, skip, Bool.and_eq_true, List.isEmpty_iff, Bool.not_eq_true', and_assoc]

theorem stepEntryComplete_moves (hs : (rg s r).ev.stepsSeen.contains c.uid = true) (hw : (rg s r).ev.arriving = [])
    (hn : preNear s r c.uid = false) : execStepEntryComplete r s = .next (after (moveClose s r .drain)) :=
  (stepEntryComplete_eq ho ha).trans (if_pos ⟨hs, hw, hn⟩)

theorem stepEntryComplete_waits (h : (rg s r).ev.stepsSeen.contains c.uid = false ∨ (rg s r).ev.arriving ≠ [] ∨ preNear s r c.uid = true) :
    execStepEntryComplete r s = .next s := by
  refine (stepEntryComplete_eq ho ha).trans (if_neg ?_)
  rintro ⟨hs, hw, hn⟩
  rcases h with h | h | h
  · exact Bool.false_ne_true (h.symm.trans hs)
  · exact h hw
  · exact Bool.false_ne_true (hn.symm.trans h)

end Entry

/-! ## STEP_DRAINED (R218, R219, R222, R452) -/

section Sweeps

variable (s : State) (r : Region) (b : Blk)

theorem planned_modRg (q : Region) (f : RegionSt → RegionSt) : planned (modRg s r f) q = planned s q := rfl

/-- Which blocks read instruction 0 depends on the region's Plan, its model and its fences (R218, R222). -/
theorem readsFirst_modRg {f : RegionSt → RegionSt} (hp : (f (rg s r)).plan = (rg s r).plan) (hm : (f (rg s r)).model = (rg s r).model)
    (hf : (f (rg s r)).fence = (rg s r).fence) : readsFirst (modRg s r f) r b = readsFirst s r b := by
  simp only [readsFirst, fenced, planned_modRg, rg_modRg_same, hp, hm, hf]

/-- The place of a close says nothing of the sweeps to come. -/
theorem sweepFor_moveClose (k : CloseStep) : sweepFor (moveClose s r k) r b = sweepFor s r b := by
  have region : rg (moveClose s r k) r = _ := rg_modRg_same s r _
  unfold sweepFor fenced
  rw [region]
  rfl

/-- Step 4 as it begins, before a block's instruction 0 fails its parity. -/
def sweepsBegun (s : State) (r : Region) : State := startSweeps (moveClose s r .sweep) r

theorem sweepsBegun_store : store (sweepsBegun s r) = store s := (startSweeps_store _ r).trans (moveClose_store s r .sweep)

theorem sweepsBegun_frz : (sweepsBegun s r).frz = s.frz := rfl

theorem sweepsBegun_sweep : (blk (sweepsBegun s r) r b).sweep = (sweepFor s r b).1 := by
  rw [← sweepFor_moveClose s r b .sweep]
  simp [blk, sweepsBegun, startSweeps]

theorem sweepsBegun_closes : (rg (sweepsBegun s r) r).ev.closes = (rg (moveClose s r .sweep) r).ev.closes := by
  simp [sweepsBegun, startSweeps]

/-- The start of the sweeps does not change which blocks read instruction 0. -/
theorem sweepsBegun_readsFirst : readsFirst (sweepsBegun s r) r b = readsFirst s r b :=
  (readsFirst_modRg _ r b rfl rfl rfl).trans (readsFirst_modRg s r b rfl rfl rfl)

/-- A block whose instruction 0 fails its parity where it reads it is a fault; it stops and runs no sweep (R222, R452). -/
theorem firstFault_reads {s : State} {r : Region} {b : Blk} (h : readsFirst s r b = true) : ∃ rec, firstFault s r (some b) =
    modBlk (raise s (halfOf r) rec) r b (fun x => { x with halted := true, sweep := none }) :=
  ⟨_, if_pos h⟩

end Sweeps

section Drained

variable {s : State} {r : Region} {c : Close} (ho : stepOpen s r = true) (ha : closeAt s r .drain = some c)
include ho ha

theorem stepDrained_eq (bad : Option Blk) : execStepDrained r s bad =
    if queuesEmpty (rg s r) then .next (after (firstFault (sweepsBegun s r) r bad)) else .next s := by
  unfold execStepDrained
  rw [if_neg (by simp [ho])]
  simp only [ha, finish_eq_after, skip, sweepsBegun]

theorem stepDrained_waits (he : queuesEmpty (rg s r) = false) (bad : Option Blk) : execStepDrained r s bad = .next s := by
  rw [stepDrained_eq ho ha, he]
  rfl

variable (he : queuesEmpty (rg s r) = true)
include he

/-- Every block that has a sweep to run starts it (R218, R219). -/
theorem stepDrained_sweeps : ∃ t, execStepDrained r s none = .next t ∧ kept s t ∧
    closeAt t r .sweep = some { c with at_ := .sweep } ∧ ∀ b, (blk t r b).sweep = (sweepFor s r b).1 := by
  refine ⟨after (sweepsBegun s r), (stepDrained_eq ho ha none).trans (if_pos he), kept_after (sweepsBegun_store s r), ?_, fun b => ?_⟩
  · refine (closeAt_congr ?_).trans (closeAt_moveClose ha .sweep)
    rw [rg_after, sweepsBegun_closes]
  · rw [blk, rg_after]
    exact sweepsBegun_sweep s r b

theorem stepDrained_faults {b : Blk} (hb : readsFirst s r b = true) : ∃ t, execStepDrained r s (some b) = .next t ∧ kept s t ∧
    (blk t r b).sweep = none ∧ (blk t r b).halted = true ∧ (halfOf r = 0 → t.frz.asserted = true) ∧
    (halfOf r = 1 → t.frz.east.length = s.frz.east.length + 1) := by
  obtain ⟨rec, fault⟩ := firstFault_reads ((sweepsBegun_readsFirst s r b).trans hb)
  obtain ⟨west, east⟩ := raise_recorded (sweepsBegun s r) (halfOf r) rec
  have stopped := blk_modBlk_same (raise (sweepsBegun s r) (halfOf r) rec) r b (fun x => { x with halted := true, sweep := none })
  refine ⟨_, (stepDrained_eq ho ha (some b)).trans (if_pos he), kept_after ((firstFault_store _ _ _).trans (sweepsBegun_store s r)), ?_⟩
  rw [fault, after_frz, blk, rg_after, ← blk, stopped]
  exact ⟨rfl, rfl, west, fun h => (east h).trans (by rw [sweepsBegun_frz])⟩

end Drained

/-! ## STEP_SWEEPS_DONE (R176, R178, R187, R221) -/

section Done

variable {s : State} {r : Region} {c : Close} (ho : stepOpen s r = true) (ha : closeAt s r .sweep = some c)
include ho ha

theorem stepSweepsDone_waits (h : sweeping (rg s r) = true) : execStepSweepsDone r s = .next s := by
  simp [execStepSweepsDone, ho, ha, h, skip]

theorem stepSweepsDone_advances (h : sweeping (rg s r) = false) : execStepSweepsDone r s =
    .next (afterSync (retryRegion (countR (reportSweep (advanceEpoch (sweepLength s r) r c) r c) r 0x2F 0 1) r)) := by
  simp [execStepSweepsDone, ho, ha, h, finishSync_eq_afterSync]

end Done

section Epoch

variable (s : State) (r : Region) (c : Close)

theorem markRows_regions (rows : List RowEv) : (markRows s rows).regions = s.regions :=
  foldl_keeps State.regions _ rows s fun _ x => by cases x.tag <;> rfl

theorem sweepLength_aon : (sweepLength s r).aon = s.aon := ite_keeps (g := State.aon) rfl rfl

theorem sweepLength_ev : (rg (sweepLength s r) r).ev = (rg s r).ev := by
  unfold sweepLength
  split <;> simp

theorem sweepLength_blocks : (rg (sweepLength s r) r).blocks = (rg s r).blocks := by
  unfold sweepLength
  split <;> simp

/-- A block as the epoch advances to one with this bin: its sweep ends, and the bin's rows join its released rows, of which as many
enter its event queue as it has places for (R178). -/
def epochBlock (bin : Fin 16) (x : Block) : Block :=
  releaseRows { x with sweep := none, released := x.released ++ vget x.ring bin, ring := vset x.ring bin [] }

theorem advanceEpoch_block (b : Blk) :
    vget (rg (advanceEpoch s r c) r).blocks b = epochBlock (fin 16 ((rg s r).ev.epoch + 1).toNat) (blk s r b) := by
  simp [advanceEpoch, rg, blk, markRows_regions, epochBlock]

theorem advanceEpoch_ev : (rg (advanceEpoch s r c) r).ev =
    { (rg s r).ev with
      epoch := (rg s r).ev.epoch + 1, epochWrap := (rg s r).ev.epochWrap || (rg s r).ev.epoch + 1 == 0, stepTime := s.aon.sundial,
      closes := (rg s r).ev.closes.drop 1, stepsSeen := (rg s r).ev.stepsSeen.filter (· != c.uid) } := by
  simp [advanceEpoch, rg, markRows_regions]

theorem epochBlock_ring_other {bin k : Fin 16} (h : k ≠ bin) (x : Block) : vget (epochBlock bin x).ring k = vget x.ring k :=
  vget_vset_other _ _ h.symm

theorem epochBlock_ring_same (bin : Fin 16) (x : Block) : vget (epochBlock bin x).ring bin = [] := vget_vset_same _ _ _

end Epoch

/-- Settles O35: the exits of the three commands in the order of the statement, then the region as its epoch advances. -/
theorem stepCloseAdvancesTheEpoch : Obligations.StepCloseAdvancesTheEpoch := by
  unfold Obligations.StepCloseAdvancesTheEpoch
  simp only [exec_stepEntryComplete, exec_stepDrained, exec_stepSweepsDone]
  refine fun s r c ho => ⟨fun ha => ⟨stepEntryComplete_moves ho ha, stepEntryComplete_waits ho ha⟩,
    fun ha => ⟨stepDrained_sweeps ho ha, fun he _ => stepDrained_faults ho ha he, stepDrained_waits ho ha⟩,
    stepSweepsDone_waits ho, fun ha hn => ⟨stepSweepsDone_advances ho ha hn, ?_⟩⟩
  simp only [advanceEpoch_ev, advanceEpoch_block, sweepLength_ev, sweepLength_aon, blk, sweepLength_blocks]
  refine ⟨trivial, trivial, trivial, fun wraps => ?_, fun b => ?_⟩
  · rw [wraps]
    exact Bool.or_true _
  · exact ⟨rfl, rfl, epochBlock_ring_same _ _, fun k hk => epochBlock_ring_other hk _, rfl⟩

end Sys2Proof.Machine
end

section
/-! PROOF. The sweep's loads and stores of state rows and basin accumulators (R193, R199, R225, R227, R230, R232, R412). -/

namespace Sys2Proof.Machine

theorem exec_lds (r b chk s) : exec (.lds r b chk) s = execLds r b chk s := rfl
theorem exec_sts (r b chk s) : exec (.sts r b chk) s = execSts r b chk s := rfl
theorem exec_ldb (r b chk s) : exec (.ldb r b chk) s = execLdb r b chk s := rfl
theorem exec_stb (r b chk s) : exec (.stb r b chk) s = execStb r b chk s := rfl

/-! ## Runs of bytes -/

/-- A run inside a run. -/
theorem drop_take_part {α : Type} (l : List α) {a i n m : Nat} (h : i + n ≤ m) :
    (((l.drop a).take m).drop i).take n = (l.drop (a + i)).take n := by
  rw [List.drop_take, List.take_take, List.drop_drop, Nat.min_eq_left (by omega)]

/-- A list cut into n parts of w entries. -/
theorem flatMap_parts {α : Type} (l : List α) (w n : Nat) :
    (List.range n).flatMap (fun c => (l.drop (w * c)).take w) = l.take (w * n) := by
  induction n with
  | zero => simp
  | succ n ih => rw [List.range_succ, List.flatMap_append, List.flatMap_singleton, ih, Nat.mul_succ, List.take_add]

/-- A run read inside a run that was put. -/
theorem tgets_tputs (t : Table Byte) (a : Nat) (bs : List Byte) {i n : Nat} (h : i + n ≤ bs.length) :
    tgets 0 (tputs 0 t a bs) (a + i) n = (bs.drop i).take n := by
  refine List.ext_getElem (by simp only [List.length_take, List.length_drop, tgets_length]; omega) fun j hj _ => ?_
  rw [tgets_length] at hj
  rw [tgets_getElem, tget_tputs, dif_pos (by omega), List.getElem_take, List.getElem_drop]
  congr 1
  omega

/-! ## State rows in the data space (R193, R225) -/

section Rows

variable (s : State) (r : Region) (b : Blk) (row : BitVec 10)

theorem rowBytes_eq : rowBytes s r b row = (List.range 8).flatMap (fun c => readBytes s r b (fin 8 c) row) := rfl

/-- In the bytes of a row, the state word of lane k is the one at its address. -/
theorem rowBytes_lane {k e n : Nat} (hk : k < 64) (he : e + n ≤ 8) :
    ((rowBytes s r b row).drop (8 * k + e)).take n = tgets 0 s.mem (stateAddr r b row k + e) n := by
  have place : 8 * k + e = 64 * (k / 8) + (8 * (k % 8) + e) := by omega
  rw [place, ← drop_take_part (m := 64) _ (by omega), rowBytes_eq, flatMap_part (fun c => readBytes_length s r b (fin 8 c) row) (by omega),
    readBytes, tgets_part (by omega), stateAddr, Nat.add_assoc]

theorem rowAddr_apart {c d : Fin 8} (h : c ≠ d) :
    rowAddr r b c row + 64 ≤ rowAddr r b d row ∨ rowAddr r b d row + 64 ≤ rowAddr r b c row := by
  have := Fin.val_ne_of_ne h
  have := row.isLt
  unfold rowAddr
  omega

theorem canWrite_putRow (c : Fin 8) (bs : List Byte) : canWrite (putRow s r b c row bs) = canWrite s := ite_keeps rfl rfl

theorem readBytes_putRow_other {c d : Fin 8} (h : c ≠ d) {bs : List Byte} (hl : bs.length = 64) :
    readBytes (putRow s r b d row bs) r b c row = readBytes s r b c row := by
  have apart := rowAddr_apart r b row h
  refine List.ext_getElem (by rw [readBytes_length, readBytes_length]) fun i hi hj => ?_
  rw [readBytes_getElem, readBytes_getElem]
  rw [readBytes_length] at hi
  exact (putRow_onlyRow s r b d row hl).1 _ (by omega)

variable {s}

/-- Beats put into cells of one row: a cell among them takes its beat, and another keeps its own. -/
theorem readBytes_foldl_putRow (hw : canWrite s = true) {f : Fin 8 → List Byte} (hf : ∀ c, (f c).length = 64) (c : Fin 8) (l : List (Fin 8)) :
    readBytes (l.foldl (fun s d => putRow s r b d row (f d)) s) r b c row = if c ∈ l then f c else readBytes s r b c row := by
  induction l generalizing s with
  | nil => rfl
  | cons d l ih =>
    rw [List.foldl_cons, ih ((canWrite_putRow s r b row d _).trans hw)]
    by_cases hd : c = d
    · subst hd
      simp [readBytes_putRow hw r b c row (hf c)]
    · simp [hd, readBytes_putRow_other s r b row hd (hf d)]

variable {bs : List Byte} (hl : bs.length = 512)
include hl

theorem beat_length (c : Fin 8) : ((bs.drop (64 * c.val)).take 64).length = 64 := by
  rw [List.length_take, List.length_drop]
  omega

/-- The row holds the bytes put into it. -/
theorem rowBytes_putRows (hw : canWrite s = true) : rowBytes (putRows s r b row bs) r b row = bs := by
  have beats : ∀ c, readBytes (putRows s r b row bs) r b c row = (bs.drop (64 * c.val)).take 64 := fun c => by
    exact (readBytes_foldl_putRow r b row hw (beat_length hl) c (idx 8)).trans (if_pos (List.mem_finRange c))
  calc rowBytes (putRows s r b row bs) r b row
      = (idx 8).flatMap (fun c => (bs.drop (64 * c.val)).take 64) := by simp only [rowBytes, beats]
    _ = (List.range 8).flatMap (fun c => (bs.drop (64 * c)).take 64) := rfl
    _ = bs := by rw [flatMap_parts, List.take_of_length_le hl.le]

/-- No byte outside the row changes. -/
theorem memByte_putRows {a : Nat} (ha : ∀ c : Fin 8, a < rowAddr r b c row ∨ rowAddr r b c row + 64 ≤ a) :
    memByte (putRows s r b row bs) a = memByte s a :=
  foldl_keeps (memByte · a) _ _ s fun u c => (putRow_onlyRow u r b c row (beat_length hl c)).1 a (ha c)

end Rows

/-- The state row that STS writes: lane k's word is its pair. -/
theorem stateBytes_lane (w : Sweep) (ra : Nat) {k : Nat} (hk : k < 64) :
    ((stateBytes w ra).drop (8 * k)).take 8 = bytesOf (laneReg w k ra) 4 ++ bytesOf (laneReg w k (ra + 1)) 4 :=
  flatMap_part (fun _ => by rw [List.length_append, bytesOf_length, bytesOf_length]) hk

theorem stateBytes_length (w : Sweep) (ra : Nat) : (stateBytes w ra).length = 512 :=
  flatMap_length (w := 8) (n := 64) fun _ => by rw [List.length_append, bytesOf_length, bytesOf_length]

theorem stateBytes_low (w : Sweep) (ra : Nat) {k : Nat} (hk : k < 64) :
    wordOf 32 (((stateBytes w ra).drop (8 * k)).take 4) = laneReg w k ra := by
  have inside := drop_take_part (stateBytes w ra) (a := 8 * k) (i := 0) (n := 4) (m := 8) (by omega)
  rw [stateBytes_lane w ra hk, List.drop_zero, List.take_left' (bytesOf_length _ _)] at inside
  rw [← Nat.add_zero (8 * k), ← inside, wordOf_bytesOf (by rfl)]

theorem stateBytes_high (w : Sweep) (ra : Nat) {k : Nat} (hk : k < 64) :
    wordOf 32 (((stateBytes w ra).drop (8 * k + 4)).take 4) = laneReg w k (ra + 1) := by
  have inside := drop_take_part (stateBytes w ra) (a := 8 * k) (i := 4) (n := 4) (m := 8) (by omega)
  rw [stateBytes_lane w ra hk, List.drop_left' (bytesOf_length _ _), List.take_of_length_le (bytesOf_length _ _).le] at inside
  rw [← inside, wordOf_bytesOf (by rfl)]

/-! ## Accumulators in the basin (R199, R225, R232) -/

theorem stbValue_length (f : Nat) (scale : Int) (v : W32) : (stbValue f scale v).1.length = fmtWidth f := by
  unfold stbValue fmtWidth
  by_cases h0 : f = 0
  · simp [h0, bytesOf_length]
  by_cases h1 : f = 1
  · simp [h1, bytesOf_length]
  · simp only [h0, h1, if_false]
    split <;> exact bytesOf_length _ _

/-- In the bytes of a group's accumulators, the one of lane k is the one at its address. -/
theorem basinGet_lane (s : State) (r : Region) (b : Blk) (j n : Nat) {k : Nat} (hk : k < 64) :
    ((basinGet s r b j (64 * n)).drop (n * k)).take n = basinGet s r b (j + n * k) n := by
  have room : n * k + n ≤ 64 * n := by rw [← Nat.mul_succ, Nat.mul_comm 64]; exact Nat.mul_le_mul_left n hk
  rw [basinGet, tgets_part room, basinGet, Nat.add_assoc]

/-- Accumulators put into a basin: each lane's is the one put. -/
theorem basinGet_basinPut_lane {s : State} (hw : canWrite s = true) (r : Region) (b : Blk) (j : Nat) {n k : Nat} {f : Nat → List Byte}
    (hf : ∀ k, (f k).length = n) (hk : k < 64) :
    basinGet (basinPut s r b j ((List.range 64).flatMap f)) r b (j + n * k) n = f k := by
  have room : n * k + n ≤ ((List.range 64).flatMap f).length := by
    rw [flatMap_length hf, ← Nat.mul_succ]; exact Nat.mul_le_mul_left n hk
  rw [basinGet, basinPut_basin, if_pos hw, ← Nat.add_assoc, tgets_tputs _ _ _ room, flatMap_part hf hk]

/-- No byte outside the bytes put changes. -/
theorem basinPut_outside (s : State) (r : Region) (b : Blk) (j : Nat) (bs : List Byte) {a : Nat}
    (ha : a < basinAddr r b + j ∨ basinAddr r b + j + bs.length ≤ a) : tget 0 (basinPut s r b j bs).basin a = tget 0 s.basin a := by
  rw [basinPut_basin]
  split
  · rw [tget_tputs, dif_neg (by omega)]
  · rfl

theorem basinZero_basin {s : State} (hw : canWrite s = true) (r : Region) (b : Blk) (j n a : Nat) : tget 0 (basinZero s r b j n).basin a =
    if basinAddr r b + j ≤ a ∧ a < basinAddr r b + j + n then 0 else tget 0 s.basin a := by
  rw [basinZero, if_pos hw, tget_tclear]

/-! ## The sweep after an instruction (R223) -/

/-- What the claims about an instruction of the sweep of block b read of the state. -/
def sweepSees (r : Region) (b : Blk) (s : State) : RowView × Option Sweep := (rowView r b s, (blk s r b).sweep)

section Sees

variable (r : Region) (b : Blk) (s : State)

theorem sweepSees_after : sweepSees r b (after s) = sweepSees r b s := by
  simp only [sweepSees, rowView_after, blk, rg_after]

theorem sweepSees_countB (e a n : Nat) : sweepSees r b (countB s r b e a n) = sweepSees r b s := by
  obtain ⟨c, hc⟩ := blk_countBs s r b [selOf e a] n
  rw [sweepSees, rowView_countB, countB, hc, sweepSees]

theorem sweepSees_arithSat (f : Bool) : sweepSees r b (arithSat s r f) = sweepSees r b s := by
  have block : blk (arithSat s r f) r b = blk s r b := by simp only [blk, arithSat, rg_modRg_same]
  rw [sweepSees, block, arithSat, rowView_modRg r b s rfl]
  rfl

theorem sweepSees_putSweep (v : Sweep) : sweepSees r b (putSweep s r b v) = (rowView r b s, (blk s r b).sweep.map fun _ => nextInstr v) := by
  rw [sweepSees, putSweep, modSweep, rowView_modBlk, blk_modBlk_same]
  rfl

end Sees

/-- u is s but for the bytes of the two stores. -/
def storedOnly (s u : State) : Prop := ∃ mem basin, u = { s with mem := mem, basin := basin }

theorem storedOnly_refl (s : State) : storedOnly s s := ⟨_, _, rfl⟩

theorem putRows_storedOnly (s : State) (r : Region) (b : Blk) (row : BitVec 10) (bs : List Byte) : storedOnly s (putRows s r b row bs) := by
  have stands := foldl_keeps (fun u : State => { u with mem := s.mem }) (fun u c => putRow u r b c row ((bs.drop (64 * c.val)).take 64))
    (idx 8) s fun u c => by unfold putRow; split <;> rfl
  exact ⟨_, _, congrArg (fun u : State => { u with mem := (putRows s r b row bs).mem }) stands⟩

theorem putRows_basin (s : State) (r : Region) (b : Blk) (row : BitVec 10) (bs : List Byte) : (putRows s r b row bs).basin = s.basin :=
  foldl_keeps State.basin _ _ s fun _ _ => ite_keeps (g := State.basin) rfl rfl

theorem basinPut_storedOnly (s : State) (r : Region) (b : Blk) (j : Nat) (bs : List Byte) :
    storedOnly s (basinPut s r b j bs) ∧ (basinPut s r b j bs).mem = s.mem := by
  unfold basinPut
  split <;> exact ⟨⟨_, _, rfl⟩, rfl⟩

theorem basinZero_storedOnly (s : State) (r : Region) (b : Blk) (j n : Nat) :
    storedOnly s (basinZero s r b j n) ∧ (basinZero s r b j n).mem = s.mem := by
  unfold basinZero
  split <;> exact ⟨⟨_, _, rfl⟩, rfl⟩

/-- v is sweep w but for its registers and the rows that it holds. -/
def sameGroup (w v : Sweep) : Prop := ∃ regs rows, v = { w with regs := regs, rows := rows }

theorem sameGroup_refl (w : Sweep) : sameGroup w w := ⟨_, _, rfl⟩

theorem sameGroup_withRows {w v : Sweep} (h : sameGroup w v) (rows : List (BitVec 10)) : sameGroup w { v with rows := rows } := by
  obtain ⟨regs, old, rfl⟩ := h
  exact ⟨regs, rows, rfl⟩

theorem sameGroup_setLane {w v : Sweep} (h : sameGroup w v) (j : Nat) (f : Nat → W32) : sameGroup w (setLane v j f) := by
  obtain ⟨regs, rows, rfl⟩ := h
  exact ⟨_, rows, rfl⟩

theorem atInstr_sweep {s : State} {r : Region} {b : Blk} {w : Sweep} {i : Nat} {x : W32} (h : atInstr s r b = some (w, i, x)) :
    (blk s r b).sweep = some w := by
  unfold atInstr at h
  split at h
  · cases h
  · split at h
    · cases h
    next w' hw =>
      split at h
      · cases h
      · rw [hw]
        cases h
        rfl

/-- The instruction that the group has reached is performed when its checks hold (R223). -/
theorem instrRow_good {s : State} {r : Region} {b : Blk} {w : Sweep} {i : Nat} {x : W32} {op : SweepOp} (at_ : atInstr s r b = some (w, i, x))
    (hop : sweepOp i x = op) (f : Sweep → W32 → State) : instrRow s r b op .good f = .next (after (f w x)) := by
  simp [instrRow, at_, hop, chkFault, finish_eq_after]

theorem rowHeld_of_sweep {z : Block} {w : Sweep} (h : z.sweep = some w) (row : BitVec 10) : rowHeld z row = w.rows.contains row := by
  simp [rowHeld, h]

/-- An instruction whose effect stored bytes, giving u, and put sweep v: the bytes are those of u, and the sweep goes on as v. -/
theorem sweptTo_of_sees {s u t : State} {r : Region} {b : Blk} {w v : Sweep} {regs : Nat → Nat → W32} (hw : (blk s r b).sweep = some w)
    (seen : sweepSees r b t = sweepSees r b (putSweep u r b v)) (stored : storedOnly s u) (same : sameGroup w v)
    (hregs : ∀ k < 64, ∀ j < 8, laneReg v k j = regs k j) :
    t.mem = u.mem ∧ t.basin = u.basin ∧ sweptTo s t r b w regs (laneFlag w) ∧ ∀ row, rowHeld (blk t r b) row = v.rows.contains row := by
  obtain ⟨mem, basin, rfl⟩ := stored
  obtain ⟨file, rows, rfl⟩ := same
  have put : (blk { s with mem := mem, basin := basin } r b).sweep = some w := hw
  rw [sweepSees_putSweep, put] at seen
  have view := congrArg Prod.fst seen
  have sweep := congrArg Prod.snd seen
  exact ⟨congrArg RowView.mem view, congrArg RowView.basin view,
    ⟨congrArg RowView.flt view, congrArg RowView.frz view, congrArg RowView.aon view, congrArg RowView.pending view, _, sweep,
      rfl, rfl, rfl, rfl, rfl, rfl, hregs, fun _ _ => rfl⟩,
    fun row => rowHeld_of_sweep (w := nextInstr { w with regs := file, rows := rows }) sweep row⟩

theorem laneReg_setLane (w : Sweep) (j : Nat) (f : Nat → W32) {k q : Nat} (hk : k < 64) (hq : q < 8) :
    laneReg (setLane w j f) k q = if q = j then f k else laneReg w k q := by
  have reg : (fin 512 (8 * k + q)).val = 8 * k + q := Nat.mod_eq_of_lt (by omega)
  simp only [laneReg, setLane, vget_vmap, reg]
  rw [show (8 * k + q) % 8 = q by omega, show (8 * k + q) / 8 = k by omega]

theorem laneReg_withRows (w : Sweep) (rows : List (BitVec 10)) (k j : Nat) : laneReg { w with rows := rows } k j = laneReg w k j := rfl

/-! ## The four instructions (R230) -/

/-- A sweep whose registers rd and rd + 1 take, in every lane, the two halves of the lane's word of a state row. -/
def loadPair (w : Sweep) (rd : Nat) (bs : List Byte) : Sweep :=
  setLane (setLane w rd (fun k => wordOf 32 ((bs.drop (8 * k)).take 4))) (rd + 1) (fun k => wordOf 32 ((bs.drop (8 * k + 4)).take 4))

/-- The sweep after LDS, but for its place: the RD pair loaded, and the row held. -/
def ldsSweep (s : State) (r : Region) (b : Blk) (w : Sweep) (x : W32) : Sweep :=
  { loadPair w (pairLo (sweepRd x)) (rowBytes s r b (stateRow w x)) with
    rows := if w.rows.contains (stateRow w x) then w.rows else stateRow w x :: w.rows }

/-- Register q of lane k after LDS. -/
def ldsReg (s : State) (r : Region) (b : Blk) (w : Sweep) (x : W32) (k q : Nat) : W32 :=
  if q = sweepRd x / 2 * 2 then wordOf 32 (tgets 0 s.mem (stateAddr r b (stateRow w x) k) 4)
  else if q = sweepRd x / 2 * 2 + 1 then wordOf 32 (tgets 0 s.mem (stateAddr r b (stateRow w x) k + 4) 4) else laneReg w k q

/-- The sweep after STS, but for its place: the row no longer held. -/
def stsSweep (w : Sweep) (x : W32) : Sweep := { w with rows := w.rows.filter (· != stateRow w x) }

/-- What LDB makes of lane k's part of the bytes that it reads, and whether it saturated. -/
def ldbLane (s : State) (r : Region) (b : Blk) (w : Sweep) (x : W32) (k : Nat) : W32 × Bool :=
  let n := fmtWidth (sweepFmt x)
  ldbValue (sweepFmt x) (sweepFscale x) (((basinGet s r b (basinAt w x) (64 * n)).drop (n * k)).take n)

/-- What LDB makes of lane k's accumulator, by its format (R232). -/
def ldbWord (s : State) (r : Region) (b : Blk) (w : Sweep) (x : W32) (k : Nat) : W32 :=
  if sweepFmt x = 0 then wordOf 32 (basinGet s r b (basinAt w x + 4 * k) 4)
  else if sweepFmt x = 1 then (wordOf 16 (basinGet s r b (basinAt w x + 2 * k) 2)).signExtend 32
  else (ldbValue 2 (sweepFscale x) (basinGet s r b (basinAt w x + 4 * k) 4)).1

/-- The state after the clearing of LDB. -/
def ldbCleared (s : State) (r : Region) (b : Blk) (w : Sweep) (x : W32) : State :=
  if (sweepX x).getLsbD 9 then basinZero s r b (basinAt w x) (64 * fmtWidth (sweepFmt x)) else s

/-- The state after the store of STB. -/
def stbStored (s : State) (r : Region) (b : Blk) (w : Sweep) (x : W32) : State :=
  basinPut s r b (basinAt w x) ((List.range 64).flatMap fun k => (stbValue (sweepFmt x) (sweepFscale x) (laneReg w k (sweepRa x))).1)

section Instructions

variable {s : State} {r : Region} {b : Blk} {w : Sweep} {i : Nat} {x : W32} (at_ : atInstr s r b = some (w, i, x))

section Runs

include at_

theorem lds_runs (hop : sweepOp i x = .lds) : ∃ t, execLds r b .good s = .next t ∧
    sweepSees r b t = sweepSees r b (putSweep s r b (ldsSweep s r b w x)) := by
  refine ⟨_, instrRow_good at_ hop _, ?_⟩
  rw [sweepSees_after, sweepSees_countB, sweepSees_countB]
  rfl

theorem sts_runs (hop : sweepOp i x = .sts) : ∃ t, execSts r b .good s = .next t ∧
    sweepSees r b t = sweepSees r b (putSweep (putRows s r b (stateRow w x) (stateBytes w (pairLo (sweepRa x)))) r b (stsSweep w x)) := by
  refine ⟨_, instrRow_good at_ hop _, ?_⟩
  rw [sweepSees_after, sweepSees_countB, sweepSees_countB]
  rfl

theorem ldb_runs (hop : sweepOp i x = .ldb) : ∃ t, execLdb r b .good s = .next t ∧
    sweepSees r b t = sweepSees r b (putSweep (ldbCleared s r b w x) r b (setLane w (sweepRd x) fun k => (ldbLane s r b w x k).1)) := by
  refine ⟨_, instrRow_good at_ hop _, ?_⟩
  rw [sweepSees_after, sweepSees_arithSat, sweepSees_countB]
  rfl

theorem stb_runs (hop : sweepOp i x = .stb) : ∃ t, execStb r b .good s = .next t ∧
    sweepSees r b t = sweepSees r b (putSweep (stbStored s r b w x) r b w) := by
  refine ⟨_, instrRow_good at_ hop _, ?_⟩
  rw [sweepSees_after, sweepSees_arithSat, sweepSees_countB]
  rfl

end Runs

/-! ## What they load -/

/-- LDS: the pair of each lane is the word at its address. -/
theorem laneReg_ldsSweep {k q : Nat} (hk : k < 64) (hq : q < 8) : laneReg (ldsSweep s r b w x) k q = ldsReg s r b w x k q := by
  have low := rowBytes_lane s r b (stateRow w x) (e := 0) (n := 4) hk (by omega)
  have high := rowBytes_lane s r b (stateRow w x) (e := 4) (n := 4) hk (by omega)
  rw [Nat.add_zero, Nat.add_zero] at low
  rw [ldsSweep, laneReg_withRows, loadPair, laneReg_setLane _ _ _ hk hq, laneReg_setLane _ _ _ hk hq, high, low, ldsReg, pairLo]
  by_cases first : q = sweepRd x / 2 * 2
  · rw [if_pos first, if_pos first, if_neg (by omega)]
  · rw [if_neg first, if_neg first]

theorem ldsSweep_sameGroup : sameGroup w (ldsSweep s r b w x) :=
  sameGroup_withRows (sameGroup_setLane (sameGroup_setLane (sameGroup_refl w) _ _) _ _) _

theorem rows_ldsSweep : (ldsSweep s r b w x).rows.contains (stateRow w x) = true := by
  simp only [ldsSweep]
  split
  next held => exact held
  · simp

theorem rows_stsSweep : (stsSweep w x).rows.contains (stateRow w x) = false := by simp [stsSweep]

/-- The opcode LDB has FMT 0, 1 or 2 (R230). -/
theorem sweepFmt_of_ldb (hop : sweepOp i x = .ldb) : sweepFmt x ≠ 3 := by
  intro h
  simp only [sweepOp, h, if_true] at hop
  repeat' split at hop
  all_goals cases hop

theorem sweepFmt_lt : sweepFmt x < 4 := (x.extractLsb' 7 2).isLt

theorem ldbLane_value (hop : sweepOp i x = .ldb) {k : Nat} (hk : k < 64) : (ldbLane s r b w x k).1 = ldbWord s r b w x k := by
  have valid := sweepFmt_of_ldb hop
  have bits := sweepFmt_lt (x := x)
  rw [ldbLane, basinGet_lane s r b _ _ hk, ldbWord]
  obtain fmt | fmt | fmt : sweepFmt x = 0 ∨ sweepFmt x = 1 ∨ sweepFmt x = 2 := by omega
  all_goals rw [fmt]; rfl

/-- LDB: RD of each lane takes its accumulator. -/
theorem laneReg_ldb (hop : sweepOp i x = .ldb) {k q : Nat} (hk : k < 64) (hq : q < 8) :
    laneReg (setLane w (sweepRd x) fun k => (ldbLane s r b w x k).1) k q = if q = sweepRd x then ldbWord s r b w x k else laneReg w k q := by
  rw [laneReg_setLane _ _ _ hk hq, ldbLane_value hop hk]

end Instructions

/-! ## What they store (R412) -/

section Stores

variable {s : State} (hw : canWrite s = true) (r : Region) (b : Blk) (w : Sweep) (x : W32)
include hw

/-- STS: each lane's word of the row is its pair. -/
theorem putRows_lane {k : Nat} (hk : k < 64) (row : BitVec 10) (ra : Nat) : let t := putRows s r b row (stateBytes w ra)
    wordOf 32 (tgets 0 t.mem (stateAddr r b row k) 4) = laneReg w k ra ∧
      wordOf 32 (tgets 0 t.mem (stateAddr r b row k + 4) 4) = laneReg w k (ra + 1) := by
  have written := rowBytes_putRows r b row (stateBytes_length w ra) hw
  have low := rowBytes_lane (putRows s r b row (stateBytes w ra)) r b row (e := 0) (n := 4) hk (by omega)
  have high := rowBytes_lane (putRows s r b row (stateBytes w ra)) r b row (e := 4) (n := 4) hk (by omega)
  rw [written, Nat.add_zero, Nat.add_zero] at low
  rw [written] at high
  dsimp only
  rw [← low, ← high]
  exact ⟨stateBytes_low w ra hk, stateBytes_high w ra hk⟩

/-- STB: the accumulator of each lane is what STB makes of RA (R232). -/
theorem stbStored_lane {k : Nat} (hk : k < 64) :
    basinGet (stbStored s r b w x) r b (basinAt w x + fmtWidth (sweepFmt x) * k) (fmtWidth (sweepFmt x)) =
      (stbValue (sweepFmt x) (sweepFscale x) (laneReg w k (sweepRa x))).1 :=
  basinGet_basinPut_lane hw r b (basinAt w x) (fun k => stbValue_length (sweepFmt x) (sweepFscale x) (laneReg w k (sweepRa x))) hk

end Stores

/-- STB changes no byte outside the accumulators. -/
theorem stbStored_outside (s : State) (r : Region) (b : Blk) (w : Sweep) (x : W32) {a : Nat}
    (ha : a < basinAddr r b + basinAt w x ∨ basinAddr r b + basinAt w x + 64 * fmtWidth (sweepFmt x) ≤ a) :
    tget 0 (stbStored s r b w x).basin a = tget 0 s.basin a := by
  refine basinPut_outside s r b _ _ ?_
  rwa [flatMap_length fun k => stbValue_length (sweepFmt x) (sweepFscale x) (laneReg w k (sweepRa x)), Nat.mul_comm]

theorem stbStored_storedOnly (s : State) (r : Region) (b : Blk) (w : Sweep) (x : W32) :
    storedOnly s (stbStored s r b w x) ∧ (stbStored s r b w x).mem = s.mem := basinPut_storedOnly s r b _ _

theorem ldbCleared_storedOnly (s : State) (r : Region) (b : Blk) (w : Sweep) (x : W32) :
    storedOnly s (ldbCleared s r b w x) ∧ (ldbCleared s r b w x).mem = s.mem := by
  unfold ldbCleared
  split
  · exact basinZero_storedOnly s r b _ _
  · exact ⟨⟨_, _, rfl⟩, rfl⟩

theorem ldbCleared_off {x : W32} (h : (sweepX x).getLsbD 9 = false) (s : State) (r : Region) (b : Blk) (w : Sweep) :
    ldbCleared s r b w x = s := by
  rw [ldbCleared, h]
  rfl

/-- CLR zeroes exactly the accumulators of the group (R225). -/
theorem ldbCleared_on {s : State} {x : W32} (hw : canWrite s = true) (h : (sweepX x).getLsbD 9 = true) (r : Region) (b : Blk) (w : Sweep)
    (a : Nat) :
    tget 0 (ldbCleared s r b w x).basin a = if basinAddr r b + basinAt w x ≤ a ∧ a < basinAddr r b + basinAt w x + 64 * fmtWidth (sweepFmt x)
      then 0 else tget 0 s.basin a := by
  rw [ldbCleared, if_pos h, basinZero_basin hw]

/-- Settles O41: for each instruction, what its sweep holds after it, and what it leaves in the two stores. -/
theorem sweepLoadsAndStores : Obligations.SweepLoadsAndStores := by
  unfold Obligations.SweepLoadsAndStores
  intro s r b w i x at_
  have hw := atInstr_sweep at_
  simp only [exec_lds, exec_sts, exec_ldb, exec_stb]
  refine ⟨fun hop => ?lds, fun hop => ?sts, fun hop => ?ldb, fun hop => ?stb⟩
  case lds =>
    obtain ⟨t, runs, seen⟩ := lds_runs at_ hop
    obtain ⟨mem, basin, swept, held⟩ := sweptTo_of_sees hw seen (storedOnly_refl s) ldsSweep_sameGroup fun _ hk _ hq => laneReg_ldsSweep hk hq
    have ⟨_, _, aon, pending, _⟩ := swept
    exact ⟨t, runs, ⟨mem, basin, aon, pending⟩, swept, (held _).trans rows_ldsSweep⟩
  case sts =>
    obtain ⟨t, runs, seen⟩ := sts_runs at_ hop
    obtain ⟨mem, basin, swept, held⟩ := sweptTo_of_sees hw seen (putRows_storedOnly _ _ _ _ _)
      (sameGroup_withRows (sameGroup_refl w) _) fun _ _ _ _ => rfl
    refine ⟨t, runs, basin.trans (putRows_basin _ _ _ _ _), swept, (held _).trans rows_stsSweep, fun hc k hk => ?_,
      fun a ha => ?_⟩
    · rw [mem]
      exact putRows_lane hc r b w hk _ _
    · rw [memByte, mem]
      exact memByte_putRows r b _ (stateBytes_length w _) ha
  case ldb =>
    obtain ⟨t, runs, seen⟩ := ldb_runs at_ hop
    obtain ⟨stored, memStands⟩ := ldbCleared_storedOnly s r b w x
    obtain ⟨mem, basin, swept, -⟩ := sweptTo_of_sees hw seen stored (sameGroup_setLane (sameGroup_refl w) _ _)
      fun _ hk _ hq => laneReg_ldb hop hk hq
    refine ⟨t, runs, mem.trans memStands, swept, fun off => by rw [basin, ldbCleared_off off],
      fun on hc => ⟨fun q lo hi => ?_, fun a ha => ?_⟩⟩
    · rw [basinByte, basin, ldbCleared_on hc on, if_pos (by omega)]
    · rw [basin, ldbCleared_on hc on, if_neg (by omega)]
  case stb =>
    obtain ⟨t, runs, seen⟩ := stb_runs at_ hop
    obtain ⟨stored, memStands⟩ := stbStored_storedOnly s r b w x
    obtain ⟨mem, basin, swept, -⟩ := sweptTo_of_sees hw seen stored (sameGroup_refl w) fun _ _ _ _ => rfl
    refine ⟨t, runs, mem.trans memStands, swept, fun hc k hk => ?_, fun a ha => ?_⟩
    · rw [basinGet, basin]
      exact stbStored_lane hc r b w x hk
    · rw [basin]
      exact stbStored_outside s r b w x ha

end Sys2Proof.Machine
end

section
/-! PROOF. Exact values saturated to 32 bits, and the trace elements of ATOM_TRACE (R230, R231, R237, R239, R240, R84). -/

namespace Sys2Proof.Machine

/-! ## Saturation (R230, R231) -/

/-- An exact value saturated to signed 32 bits, and whether it saturated. -/
def exact32 (e : Int) : W32 × Bool := (clamp32 e, decide ((clamp32 e).toInt ≠ e))

theorem clamp32_toInt (e : Int) : (clamp32 e).toInt = max (-(2 ^ 31)) (min (2 ^ 31 - 1) e) :=
  BitVec.toInt_ofInt_eq_self (by omega) (by omega) (by omega)

/-- A value saturates exactly where saturation changes it. -/
theorem sat_snd (lo hi v : Int) : (sat lo hi v).2 = decide ((sat lo hi v).1 ≠ v) := by
  unfold sat
  split
  · exact (decide_eq_true (by dsimp only; omega)).symm
  · split
    · exact (decide_eq_true (by dsimp only; omega)).symm
    · exact (decide_eq_false (not_not_intro rfl)).symm

theorem sat32_eq_exact32 (e : Int) : sat32 e = exact32 e :=
  calc sat32 e = (BitVec.ofInt 32 (sat (-(2 ^ 31)) (2 ^ 31 - 1) e).1, (sat (-(2 ^ 31)) (2 ^ 31 - 1) e).2) := rfl
    _ = exact32 e := by rw [sat_snd, sat_fst (by omega), exact32, clamp32_toInt, clamp32]

/-- A value that fits is written as it is, and does not saturate. -/
theorem exact32_of_fits {e : Int} (lo : -(2 ^ 31) ≤ e) (hi : e < 2 ^ 31) : exact32 e = (BitVec.ofInt 32 e, false) := by
  have stays : max (-(2 ^ 31)) (min (2 ^ 31 - 1) e) = e := by omega
  rw [exact32, clamp32_toInt, clamp32, stays]
  exact Prod.ext rfl (decide_eq_false (not_not_intro rfl))

theorem fits_toInt (v : W32) : -(2 ^ 31) ≤ v.toInt ∧ v.toInt < 2 ^ 31 := ⟨BitVec.le_toInt v, BitVec.toInt_lt⟩

theorem exact32_toInt (v : W32) : exact32 v.toInt = (v, false) := by
  obtain ⟨lo, hi⟩ := fits_toInt v
  rw [exact32_of_fits lo hi, BitVec.ofInt_toInt]

/-- R237: the decayed VALUE is the product rounded to nearest, ties towards plus infinity, and saturated. -/
theorem decayValue_eq (v : W32) (f : BitVec 16) : decayValue v f = exact32 ((v.toInt * (f.toNat : Int) + 2 ^ 14) / 2 ^ 15) :=
  sat32_eq_exact32 _

/-! ## Trace words (R236, R239) -/

/-- A trace word: VALUE in bits 31:0 and STAMP in bits 63:32. -/
theorem traceWord_fields (value stamp : W32) :
    (field 0 value ||| field 32 stamp).extractLsb' 0 32 = value ∧ (field 0 value ||| field 32 stamp).extractLsb' 32 32 = stamp := by
  unfold field
  constructor
  · ext k hk
    simp [hk]
    omega
  · ext k hk
    have inside : 32 + k < 64 := by omega
    simp [hk, inside]

section Element

variable (now : W32) (decay : Nat → BitVec 16) {old opd : W64}

/-- With SET 1 the element is DELTA, stamped now. -/
theorem traceElem_set (h : opd.getLsbD 35 = true) :
    (traceElem now decay old opd).1 = field 0 (opd.setWidth 32 : W32) ||| field 32 now := by
  rw [traceElem, if_pos h]

/-- With SET 0 it is the decayed VALUE with DELTA added, stamped now. -/
theorem traceElem_add (h : opd.getLsbD 35 = false) : (traceElem now decay old opd).1 =
    field 0 (clamp32 ((clamp32 (((old.setWidth 32).toInt *
      ((decay (256 * (opd.extractLsb' 32 3).toNat + decayIndex now (old.extractLsb' 32 32))).toNat : Int) + 2 ^ 14) / 2 ^ 15)).toInt +
        (opd.setWidth 32).toInt)) ||| field 32 now := by
  simp only [traceElem, h, decayValue_eq, sat32_eq_exact32, exact32]
  rfl

theorem traceElem_stamp : (traceElem now decay old opd).1.extractLsb' 32 32 = now := by
  cases h : opd.getLsbD 35 with
  | true => rw [traceElem_set now decay h, (traceWord_fields _ _).2]
  | false => rw [traceElem_add now decay h, (traceWord_fields _ _).2]

end Element

/-- Settles O27: the two values of SET, the factors of a region with no Plan, and the atomic at the cell. -/
theorem traceElementDecaysAndAdds : Obligations.TraceElementDecaysAndAdds := by
  unfold Obligations.TraceElementDecaysAndAdds
  refine ⟨fun now decay old opd => ⟨traceElem_stamp now decay, fun on => ?set, fun off => ?add⟩, fun s r i unplanned => ?_,
    fun s r b q hw => readBytes_atom s r b q .trace hw⟩
  case set => rw [traceElem_set now decay on, (traceWord_fields _ _).1, BitVec.setWidth_eq_extractLsb' (by omega)]
  case add =>
    rw [traceElem_add now decay off, (traceWord_fields _ _).1, clamp32_toInt, clamp32_toInt, BitVec.setWidth_eq_extractLsb' (by omega),
      BitVec.setWidth_eq_extractLsb' (by omega)]
    rfl
  · rw [factorOf, unplanned, if_neg Bool.false_ne_true]

end Sys2Proof.Machine
end

section
/-! PROOF. The arithmetic instructions of the sweep and TRC (R223, R229 to R231, R237, R238). -/

namespace Sys2Proof.Machine

theorem exec_ldi (r b chk s) : exec (.ldi r b chk) s = execLdi r b chk s := rfl
theorem exec_sweepAdd (r b chk s) : exec (.sweepAdd r b chk) s = execSweepAdd r b chk s := rfl
theorem exec_sweepSub (r b chk s) : exec (.sweepSub r b chk) s = execSweepSub r b chk s := rfl
theorem exec_addc (r b chk s) : exec (.addc r b chk) s = execAddc r b chk s := rfl
theorem exec_mulc (r b chk s) : exec (.mulc r b chk) s = execMulc r b chk s := rfl
theorem exec_shri (r b chk s) : exec (.shri r b chk) s = execShri r b chk s := rfl
theorem exec_max (r b chk s) : exec (.max r b chk) s = execMax r b chk s := rfl
theorem exec_min (r b chk s) : exec (.min r b chk) s = execMin r b chk s := rfl
theorem exec_sel (r b chk s) : exec (.sel r b chk) s = execSel r b chk s := rfl
theorem exec_rst (r b chk s) : exec (.rst r b chk) s = execRst r b chk s := rfl
theorem exec_trc (r b chk s) : exec (.trc r b chk) s = execTrc r b chk s := rfl

/-! ## What a sweep sees of other updates -/

/-- An update of the region that leaves its blocks and lanes. -/
theorem sweepSees_modRg (r : Region) (b : Blk) (s : State) {f : RegionSt → RegionSt} (hb : (f (rg s r)).blocks = (rg s r).blocks)
    (hl : (f (rg s r)).lanes = (rg s r).lanes) : sweepSees r b (modRg s r f) = sweepSees r b s := by
  have block : blk (modRg s r f) r b = blk s r b := by simp only [blk, rg_modRg_same, hb]
  rw [sweepSees, block, rowView_modRg r b s hb, hl]
  rfl

/-- Storing a sweep changes the region's blocks alone. -/
theorem sweepRegs_putSweep (s : State) (r : Region) (b : Blk) (v : Sweep) : (rg (putSweep s r b v) r).sweep = (rg s r).sweep := by
  rw [putSweep, modSweep, modBlk, rg_modRg_same]

/-- An instruction that writes registers alone keeps both stores, and its sweep goes on with those registers. -/
theorem keptSweptTo_of_sees {s t : State} {r : Region} {b : Blk} {w v : Sweep} {regs : Nat → Nat → W32} (hw : (blk s r b).sweep = some w)
    (seen : sweepSees r b t = sweepSees r b (putSweep s r b v)) (same : sameGroup w v)
    (hregs : ∀ k < 64, ∀ j < 8, laneReg v k j = regs k j) : kept s t ∧ sweptTo s t r b w regs (laneFlag w) := by
  obtain ⟨mem, basin, swept, -⟩ := sweptTo_of_sees hw seen (storedOnly_refl s) same hregs
  have ⟨_, _, aon, pending, _⟩ := swept
  exact ⟨⟨mem, basin, aon, pending⟩, swept⟩

/-! ## Arithmetic (R230, R231) -/

section Arithmetic

variable {s : State} {r : Region} {b : Blk} {w : Sweep} {i : Nat} {x : W32} (at_ : atInstr s r b = some (w, i, x))
include at_

/-- An instruction whose every lane gives its exact value, saturated, has written RD. -/
theorem aluRow_done {op : SweepOp} (hop : sweepOp i x = op) {f : Block → Sweep → W32 → Nat → W32 × Bool} {e : Nat → Int}
    (lane : ∀ k, f (blk s r b) w x k = exact32 (e k)) : ∃ t, aluRow r b op .good s f = .next t ∧ aluDone s t r b w x e := by
  refine ⟨_, instrRow_good at_ hop _, ?_⟩
  simp only [lane]
  have seen := (sweepSees_after r b _).trans (sweepSees_arithSat r b (putSweep s r b (setLane w (sweepRd x) fun k => (exact32 (e k)).1))
    (anyLane fun k => (exact32 (e k)).2))
  obtain ⟨keeps, swept⟩ := keptSweptTo_of_sees (atInstr_sweep at_) seen (sameGroup_setLane (sameGroup_refl w) _ _)
    fun _ hk _ hq => laneReg_setLane w _ _ hk hq
  refine ⟨keeps, swept, ?_⟩
  rw [rg_after, arithSat, rg_modRg_same, sweepRegs_putSweep]
  rfl

end Arithmetic

theorem raInt_fits (w : Sweep) (x : W32) (k : Nat) : -(2 ^ 31) ≤ raInt w x k ∧ raInt w x k < 2 ^ 31 := fits_toInt _

theorem rbInt_fits (w : Sweep) (x : W32) (k : Nat) : -(2 ^ 31) ≤ rbInt w x k ∧ rbInt w x k < 2 ^ 31 := fits_toInt _

/-- A right shift rounded to nearest stays within 32 bits. -/
theorem rndShift_fits {v : Int} (lo : -(2 ^ 31) ≤ v) (hi : v < 2 ^ 31) (n : Nat) : -(2 ^ 31) ≤ rndShift v n ∧ rndShift v n < 2 ^ 31 := by
  unfold rndShift
  split
  · exact ⟨lo, hi⟩
  next shifted =>
    obtain ⟨m, rfl⟩ := Nat.exists_eq_succ_of_ne_zero shifted
    have pos : (0 : Int) < 2 ^ m := by positivity
    have double : (2 : Int) ^ (m + 1) = 2 * 2 ^ m := by rw [Int.pow_succ, Int.mul_comm]
    rw [Nat.succ_eq_add_one, Nat.add_sub_cancel, double]
    constructor
    · exact (Int.le_ediv_iff_mul_le (by omega)).mpr (by nlinarith)
    · exact (Int.ediv_lt_iff_lt_mul (by omega)).mpr (by nlinarith)

/-- Settles O38: each instruction's lane is its exact value, saturated. -/
theorem sweepArithmeticWritesRd : Obligations.SweepArithmeticWritesRd := by
  unfold Obligations.SweepArithmeticWritesRd
  intro s r b w i x at_
  simp only [exec_ldi, exec_sweepAdd, exec_sweepSub, exec_addc, exec_mulc, exec_shri, exec_max, exec_min, exec_sel, exec_rst]
  refine ⟨fun hop => aluRow_done at_ hop fun k => ?ldi, fun hop => aluRow_done at_ hop fun k => sat32_eq_exact32 _,
    fun hop => aluRow_done at_ hop fun k => sat32_eq_exact32 _, fun hop => aluRow_done at_ hop fun k => sat32_eq_exact32 _,
    fun hop => aluRow_done at_ hop fun k => sat32_eq_exact32 _, fun hop => aluRow_done at_ hop fun k => ?shri,
    fun hop => aluRow_done at_ hop fun k => ?max, fun hop => aluRow_done at_ hop fun k => ?min,
    fun hop => aluRow_done at_ hop fun k => ?sel, fun hop => aluRow_done at_ hop fun k => ?rst⟩
  case ldi => rw [← BitVec.toInt_signExtend_of_le (w := 16) (v := 32) (by omega), exact32_toInt]
  case shri =>
    obtain ⟨lo, hi⟩ := raInt_fits w x k
    obtain ⟨lo, hi⟩ := rndShift_fits lo hi ((sweepX x).extractLsb' 0 5).toNat
    exact (exact32_of_fits lo hi).symm
  case max =>
    have ⟨loA, hiA⟩ := raInt_fits w x k
    have ⟨loB, hiB⟩ := rbInt_fits w x k
    exact (exact32_of_fits (by omega) (by omega)).symm
  case min =>
    have ⟨loA, hiA⟩ := raInt_fits w x k
    have ⟨loB, hiB⟩ := rbInt_fits w x k
    exact (exact32_of_fits (by omega) (by omega)).symm
  case sel => rw [← apply_ite BitVec.toInt, exact32_toInt]
  case rst => rw [← apply_ite BitVec.toInt, exact32_toInt]

/-! ## TRC (R237, R238) -/

section Trace

variable (s : State) (r : Region) (w : Sweep) (x : W32)

/-- The decayed VALUE of lane k. -/
def trcDecayed (k : Nat) : W32 :=
  clamp32 (((laneReg w k (pairLo (sweepRd x))).toInt * ((factorOf s r (factorAt w x k)).toNat : Int) + 2 ^ 14) / 2 ^ 15)

/-- The VALUE that MODE makes of it. -/
def trcNew (k : Nat) : W32 :=
  if (sweepX x).extractLsb' 3 2 = 0 ∨ ((sweepX x).extractLsb' 3 2 = 1 ∧ laneFlag w k = true) then
    clamp32 ((trcDecayed s r w x k).toInt + (laneReg w k (sweepRa x)).toInt)
  else trcDecayed s r w x k

theorem trcValue_fst (k : Nat) : (trcValue s r w x k).1 = trcNew s r w x k := by
  have zero : ((sweepX x).extractLsb' 3 2).toNat = 0 ↔ (sweepX x).extractLsb' 3 2 = 0 := BitVec.toNat_inj (y := 0)
  have one : ((sweepX x).extractLsb' 3 2).toNat = 1 ↔ (sweepX x).extractLsb' 3 2 = 1 := BitVec.toNat_inj (y := 1)
  simp only [trcValue, trcNew, decayValue_eq, sat32_eq_exact32, Bool.or_eq_true, Bool.and_eq_true, decide_eq_true_eq, beq_iff_eq, zero, one]
  split <;> rfl

/-- The sweep after TRC, but for its place: VALUE in RD, and STAMP in RD + 1. -/
def trcSweep : Sweep :=
  setLane (setLane w (pairLo (sweepRd x)) fun k => (trcValue s r w x k).1) (pairLo (sweepRd x) + 1) fun _ => w.epoch

theorem laneReg_trcSweep {k j : Nat} (hk : k < 64) (hj : j < 8) : laneReg (trcSweep s r w x) k j =
    if j = pairLo (sweepRd x) + 1 then w.epoch else if j = pairLo (sweepRd x) then trcNew s r w x k else laneReg w k j := by
  rw [trcSweep, laneReg_setLane _ _ _ hk hj, laneReg_setLane _ _ _ hk hj, trcValue_fst]

theorem trcSweep_sameGroup : sameGroup w (trcSweep s r w x) := sameGroup_setLane (sameGroup_setLane (sameGroup_refl w) _ _) _ _

end Trace

/-- Settles O39: TRC stores the sweep with its new trace pair, and beyond that sets a sticky flag at most. -/
theorem trcUpdatesTheTracePair : Obligations.TrcUpdatesTheTracePair := by
  unfold Obligations.TrcUpdatesTheTracePair
  intro s r b w i x at_ hop
  have seen := fun f hb hl => (sweepSees_after r b _).trans (sweepSees_modRg r b (putSweep s r b (trcSweep s r w x)) (f := f) hb hl)
  exact ⟨_, (exec_trc r b .good s).trans (instrRow_good at_ hop _), keptSweptTo_of_sees (atInstr_sweep at_) (seen _ rfl rfl)
    (trcSweep_sameGroup s r w x) fun _ hk _ hj => laneReg_trcSweep s r w x hk hj⟩

end Sys2Proof.Machine
end

section
/-! PROOF. Groups, flags, emission and failed checks of a sweep (R220, R222, R223, R226, R230, R233 to R235, R406, R452). -/

namespace Sys2Proof.Machine

theorem exec_range (r b chk s) : exec (.range r b chk) s = execRange r b chk s := rfl
theorem exec_sweepGroupStart (r b chk s) : exec (.sweepGroupStart r b chk) s = execSweepGroupStart r b chk s := rfl
theorem exec_endProg (r b chk s) : exec (.endProg r b chk) s = execEndProg r b chk s := rfl
theorem exec_invalidInstruction (r b chk s) : exec (.invalidInstruction r b chk) s = execInvalidInstruction r b chk s := rfl
theorem exec_cmp (r b chk s) : exec (.cmp r b chk) s = execCmp r b chk s := rfl
theorem exec_emit (r b chk s) : exec (.emit r b chk) s = execEmit r b chk s := rfl

/-! ## The sweep of a block after an update -/

section Updates

variable (s : State) (r : Region) (b : Blk)

theorem sweep_modSweep (f : Sweep → Sweep) : (blk (modSweep s r b f) r b).sweep = (blk s r b).sweep.map f := by
  rw [modSweep, blk_modBlk_same]

theorem blk_countB (e a n : Nat) : ∃ c, blk (countB s r b e a n) r b = { blk s r b with counters := c } := blk_countBs s r b _ n

theorem blk_after : blk (after s) r b = blk s r b := by rw [blk, rg_after, blk]

/-- Counting leaves the sweep registers of the region. -/
theorem sweepRegs_countB (e a n : Nat) : (rg (countB s r b e a n) r).sweep = (rg s r).sweep := by
  unfold countB countBs
  split
  · dsimp only
    rw [rg, wrapFlag_regions, ← rg, rg_modRg_same]
  · rfl

/-- An update of the region that leaves its blocks. -/
theorem blk_modRg {f : RegionSt → RegionSt} (hb : (f (rg s r)).blocks = (rg s r).blocks) : blk (modRg s r f) r b = blk s r b := by
  rw [blk, rg_modRg_same, hb, blk]

end Updates

/-! ## Groups (R223, R226, R406) -/

/-- The state after the start of a group, but for the counters: its activity is added, and it stands at instruction 1. -/
def groupStarted (s : State) (r : Region) (b : Blk) : State :=
  modSweep (addAct s r Config.groupAmp.val) r b fun w => { w with pc := some 1, regs := Vector.replicate 512 0, flags := 0 }

/-- The governor's count of activity is no part of a block. -/
theorem sweep_groupStarted (s : State) (r : Region) (b : Blk) : (blk (groupStarted s r b) r b).sweep =
    (blk s r b).sweep.map fun w => { w with pc := some 1, regs := Vector.replicate 512 0, flags := 0 } :=
  sweep_modSweep (addAct s r Config.groupAmp.val) r b _

section Groups

variable {s : State} {r : Region} {b : Blk} {w : Sweep} (open_ : sweepOpen s r b = true) (hw : (blk s r b).sweep = some w)
  (going : w.ended = false)
include open_ hw going

theorem range_good (hg : w.gcount = 0) : execRange r b .good s = .next (after (modSweep s r b (fun w =>
    { w with gcount := (sweepX (storeWord (blk s r b) w.prog 0)).toNat % 128 + 1 }))) := by
  simp [execRange, hw, open_, going, hg, finish_eq_after]

theorem range_bad (hg : w.gcount = 0) : execRange r b .instr s = .next (after (storeFault s r b 0 (32 * w.prog.val))) := by
  simp [execRange, hw, open_, going, hg, finish_eq_after]

variable (hg : 0 < w.gcount) (hp : w.pc = none)
include hg hp

theorem groupStart_bad : execSweepGroupStart r b .instr s = .next (after (storeFault s r b 0 (32 * w.prog.val))) := by
  simp [execSweepGroupStart, hw, open_, going, hg.ne', hp, finish_eq_after]

/-- Beyond the governor's allowance the group is held back. -/
theorem groupStart_limited (limited : mayAct s r Config.groupAmp.val = false) :
    execSweepGroupStart r b .good s = .next (after (limitAct s r)) := by
  simp [execSweepGroupStart, hw, open_, going, hg.ne', hp, governed, limited, finish_eq_after]

/-- Within it the group starts at instruction 1, with its registers and flags 0. -/
theorem groupStart_starts (allowed : mayAct s r Config.groupAmp.val = true) : ∃ t, execSweepGroupStart r b .good s = .next t ∧ kept s t ∧
    (blk t r b).sweep = some { w with pc := some 1, regs := Vector.replicate 512 0, flags := 0 } := by
  have runs : execSweepGroupStart r b .good s = .next (after (countB (groupStarted s r b) r b 0x28 0 1)) := by
    simp [execSweepGroupStart, hw, open_, going, hg.ne', hp, governed, allowed, finish_eq_after, groupStarted]
  have stored : store (countB (groupStarted s r b) r b 0x28 0 1) = store s := by
    rw [countB_store, groupStarted, modSweep_store, addAct_store]
  refine ⟨_, runs, kept_after stored, ?_⟩
  obtain ⟨c, counted⟩ := blk_countB (groupStarted s r b) r b 0x28 0 1
  rw [blk_after, counted]
  exact (sweep_groupStarted s r b).trans (congrArg (Option.map _) hw)

end Groups

/-! ## CMP (R230) -/

/-- A word built bit by bit holds bit k exactly where k is among the bits set. -/
theorem getLsbD_foldl_bits (f : Nat → Bool) (n : Nat) {k : Nat} (hk : k < 64) :
    ((List.range n).foldl (fun (m : BitVec 64) j => if f j then m ||| BitVec.ofNat 64 (2 ^ j) else m) 0).getLsbD k = (decide (k < n) && f k) := by
  induction n with
  | zero => simp
  | succ n ih =>
    have bit : (BitVec.ofNat 64 (2 ^ n)).getLsbD k = decide (n = k) := by
      rw [BitVec.getLsbD_ofNat, Nat.testBit_two_pow, decide_eq_true hk, Bool.true_and]
    have step : ∀ m : BitVec 64, (if f n then m ||| BitVec.ofNat 64 (2 ^ n) else m).getLsbD k = (m.getLsbD k || (f n && decide (n = k))) :=
      fun m => by cases f n with
        | true => rw [if_pos rfl, BitVec.getLsbD_or, bit, Bool.true_and]
        | false => rw [if_neg Bool.false_ne_true, Bool.false_and, Bool.or_false]
    rw [List.range_succ, List.foldl_append, List.foldl_cons, List.foldl_nil, step, ih]
    by_cases same : n = k
    · subst same
      simp
    · have lt : k < n + 1 ↔ k < n := by omega
      simp [same, lt]

theorem laneFlag_setFlags (w : Sweep) (f : Nat → Bool) {k : Nat} (hk : k < 64) : laneFlag (setFlags w f) k = f k := by
  rw [laneFlag, setFlags, getLsbD_foldl_bits f 64 hk, decide_eq_true hk, Bool.true_and]

/-- CMP replaces the flags alone. -/
theorem sweptTo_setFlags {s : State} {r : Region} {b : Blk} {w : Sweep} (hw : (blk s r b).sweep = some w) (f : Nat → Bool) :
    kept s (after (putSweep s r b (setFlags w f))) ∧ sweptTo s (after (putSweep s r b (setFlags w f))) r b w (laneReg w) f := by
  have seen := (sweepSees_after r b _).trans (sweepSees_putSweep r b s (setFlags w f))
  rw [hw] at seen
  exact ⟨kept_after (putSweep_store _ _ _ _), after_flt _, after_frz _, after_aon _, after_pending _, _, congrArg Prod.snd seen,
    rfl, rfl, rfl, rfl, rfl, rfl, fun _ _ _ _ => rfl, fun _ hk => laneFlag_setFlags w f hk⟩

/-! ## The instructions that the group reaches -/

section Instructions

variable {s : State} {r : Region} {b : Blk} {w : Sweep} {i : Nat} {x : W32} (at_ : atInstr s r b = some (w, i, x))
include at_

/-- An invalid instruction ends the program and sets BAD_INSTR (R233). -/
theorem invalidInstruction_ends (hop : sweepOp i x = .invalid) : ∃ t, execInvalidInstruction r b .good s = .next t ∧ kept s t ∧
    (rg t r).sweep.badInstr = true ∧ (blk t r b).sweep = some (endGroup w) := by
  refine ⟨_, instrRow_good at_ hop _, kept_after ((modRg_store _ _ _).trans (modSweep_store _ _ _ _)), ?_, ?_⟩
  · rw [rg_after, rg_modRg_same]
  · rw [blk_after, blk_modRg _ _ _ rfl, sweep_modSweep, atInstr_sweep at_]
    rfl

/-- A check that fails has its fault in place of the instruction's effect (R222, R452). -/
theorem instrRow_fault {op : SweepOp} (hop : sweepOp i x = op) {chk : SweepChk} {u : State} (fault : chkFault s r b w i op x chk = some u)
    (f : Sweep → W32 → State) : instrRow s r b op chk f = .next (after u) := by
  simp [instrRow, at_, hop, fault, finish_eq_after]

end Instructions

/-- The commands of a sweep's instructions, with the opcode of each. -/
def checkedRows (r : Region) (b : Blk) (chk : SweepChk) : List (Instr × SweepOp) :=
  [(.endProg r b chk, .endProg), (.invalidInstruction r b chk, .invalid), (.lds r b chk, .lds), (.sts r b chk, .sts), (.ldb r b chk, .ldb),
    (.stb r b chk, .stb), (.ldi r b chk, .ldi), (.sweepAdd r b chk, .add), (.sweepSub r b chk, .sub), (.addc r b chk, .addc),
    (.mulc r b chk, .mulc), (.shri r b chk, .shri), (.max r b chk, .max), (.min r b chk, .min), (.cmp r b chk, .cmp), (.sel r b chk, .sel),
    (.rst r b chk, .rst), (.emit r b chk, .emit), (.trc r b chk, .trc)]

/-- Each of them runs as the instruction of its opcode. -/
theorem exec_checkedRows (s : State) (r : Region) (b : Blk) (chk : SweepChk) :
    ∀ c ∈ checkedRows r b chk, ∃ f, exec c.1 s = instrRow s r b c.2 chk f := by
  unfold checkedRows
  simp only [List.forall_mem_cons, List.not_mem_nil, false_implies, implies_true, and_true]
  and_intros <;> exact ⟨_, rfl⟩

/-! ## EMIT (R76, R234, R235) -/

/-- The state after an EMIT that is counted as suppressed, but for the counters. -/
def emitSuppressed (s : State) (r : Region) (b : Blk) (w : Sweep) (n : Nat) : State :=
  modRg (putSweep s r b w) r fun g =>
    { g with sweep := { g.sweep with suppressed := g.sweep.suppressed + BitVec.ofNat 32 n,
                                     suppressedWrap := g.sweep.suppressedWrap || decide (2 ^ 32 ≤ g.sweep.suppressed.toNat + n) } }

/-- The state after an EMIT whose events have entered the emit buffer, but for the counters. -/
def emitAppended (s : State) (r : Region) (b : Blk) (w : Sweep) (es : List W64) : State :=
  modRg (modBlk (putSweep s r b w) r b fun y => { y with emits := y.emits ++ es }) r fun g =>
    { g with sweep := { g.sweep with emitted := g.sweep.emitted + BitVec.ofNat 32 es.length,
                                     emittedWrap := g.sweep.emittedWrap || decide (2 ^ 32 ≤ g.sweep.emitted.toNat + es.length) } }

/-- Egress of block b of region r is enabled (R76). -/
def egressOn (s : State) (r : Region) (b : Blk) : Bool := (vget s.map.egress (fin 256 (32 * r.val + b.val))).getLsbD 7

/-- The state after an EMIT of these events. -/
def afterEmit (s : State) (r : Region) (b : Blk) (w : Sweep) (es : List W64) : State :=
  if !egressOn s r b then countB (emitSuppressed s r b w es.length) r b 0x2E 0 es.length
  else if 64 < (blk s r b).emits.length + es.length then modRg s r fun g => { g with sweep := { g.sweep with emitStall := true } }
  else countB (emitAppended s r b w es) r b 0x2D 0 es.length

section EmitUpdates

variable (s : State) (r : Region) (b : Blk) (w : Sweep) (es : List W64)

theorem emitSuppressed_store (n : Nat) : store (emitSuppressed s r b w n) = store s := (modRg_store _ _ _).trans (putSweep_store _ _ _ _)

theorem emits_emitSuppressed (n : Nat) : (blk (emitSuppressed s r b w n) r b).emits = (blk s r b).emits := by
  rw [emitSuppressed, blk_modRg _ _ _ rfl, putSweep, modSweep, blk_modBlk_same]

theorem suppressed_emitSuppressed (n : Nat) :
    (rg (emitSuppressed s r b w n) r).sweep.suppressed = (rg s r).sweep.suppressed + BitVec.ofNat 32 n := by
  rw [emitSuppressed, rg_modRg_same, sweepRegs_putSweep]

theorem emits_emitAppended : (blk (emitAppended s r b w es) r b).emits = (blk s r b).emits ++ es := by
  rw [emitAppended, blk_modRg _ _ _ rfl, blk_modBlk_same, putSweep, modSweep, blk_modBlk_same]

theorem emitted_emitAppended :
    (rg (emitAppended s r b w es) r).sweep.emitted = (rg s r).sweep.emitted + BitVec.ofNat 32 es.length := by
  rw [emitAppended, rg_modRg_same, modBlk, rg_modRg_same, sweepRegs_putSweep]

theorem sweepSees_emitAppended : sweepSees r b (emitAppended s r b w es) = sweepSees r b (putSweep s r b w) := by
  rw [emitAppended, sweepSees_modRg _ _ _ rfl rfl, sweepSees, rowView_modBlk, blk_modBlk_same]
  rfl

end EmitUpdates

section Emit

variable {s : State} {r : Region} {b : Blk} {w : Sweep} {i : Nat} {x : W32} (at_ : atInstr s r b = some (w, i, x))
  (hop : sweepOp i x = .emit)
include at_ hop

theorem emit_runs : execEmit r b .good s = .next (after (afterEmit s r b w (emitWords (blk s r b) w x))) := instrRow_good at_ hop _

/-- Where egress is disabled the events are counted as suppressed. -/
theorem emit_off (off : egressOn s r b = false) : ∃ t, execEmit r b .good s = .next t ∧ kept s t ∧ (blk t r b).emits = (blk s r b).emits ∧
    (rg t r).sweep.suppressed = (rg s r).sweep.suppressed + BitVec.ofNat 32 (emitWords (blk s r b) w x).length := by
  refine ⟨_, emit_runs at_ hop, ?_⟩
  rw [afterEmit, off, Bool.not_false, if_pos rfl]
  generalize (emitWords (blk s r b) w x).length = n
  refine ⟨kept_after ((countB_store _ _ _ _ _ _).trans (emitSuppressed_store s r b w _)), ?_, ?_⟩
  · obtain ⟨c, counted⟩ := blk_countB (emitSuppressed s r b w n) r b 0x2E 0 n
    rw [blk_after, counted]
    exact emits_emitSuppressed s r b w _
  · rw [rg_after, sweepRegs_countB, suppressed_emitSuppressed]

/-- Where the emit buffer has not room for all of them the instruction waits. -/
theorem emit_full (on : egressOn s r b = true) (full : 64 < (blk s r b).emits.length + (emitWords (blk s r b) w x).length) :
    execEmit r b .good s = .next (after (modRg s r fun g => { g with sweep := { g.sweep with emitStall := true } })) := by
  rw [emit_runs at_ hop, afterEmit, on, Bool.not_true, if_neg Bool.false_ne_true, if_pos full]

/-- Where it has, they enter the buffer. -/
theorem emit_fits (on : egressOn s r b = true) (room : (blk s r b).emits.length + (emitWords (blk s r b) w x).length ≤ 64) :
    ∃ t, execEmit r b .good s = .next t ∧ kept s t ∧ (blk t r b).emits = (blk s r b).emits ++ emitWords (blk s r b) w x ∧
      (rg t r).sweep.emitted = (rg s r).sweep.emitted + BitVec.ofNat 32 (emitWords (blk s r b) w x).length ∧
      sweptTo s t r b w (laneReg w) (laneFlag w) := by
  refine ⟨_, emit_runs at_ hop, ?_⟩
  rw [afterEmit, on, Bool.not_true, if_neg Bool.false_ne_true, if_neg (Nat.not_lt.mpr room)]
  generalize emitWords (blk s r b) w x = es
  have seen := (sweepSees_after r b _).trans ((sweepSees_countB r b (emitAppended s r b w es) 0x2D 0 es.length).trans
    (sweepSees_emitAppended s r b w es))
  obtain ⟨keeps, swept⟩ := keptSweptTo_of_sees (atInstr_sweep at_) seen (sameGroup_refl w) fun _ _ _ _ => rfl
  refine ⟨keeps, ?_, ?_, swept⟩
  · obtain ⟨c, counted⟩ := blk_countB (emitAppended s r b w es) r b 0x2D 0 es.length
    rw [blk_after, counted]
    exact emits_emitAppended s r b w es
  · rw [rg_after, sweepRegs_countB, emitted_emitAppended]

end Emit

/-! ## Faults of the sweep store (R222, R452) -/

theorem chkFault_instr (s : State) (r : Region) (b : Blk) (w : Sweep) {i : Nat} (hi : i < 32) (op : SweepOp) (x : W32) :
    chkFault s r b w i op x .instr = some (storeFault s r b 0 (32 * w.prog.val + i)) := if_pos hi

theorem storeFault_halts (s : State) (r : Region) (b : Blk) (sp : BitVec 2) (n : Nat) :
    (blk (storeFault s r b sp n) r b).halted = true ∧ kept s (storeFault s r b sp n) := by
  refine ⟨?_, kept_of_store (storeFault_store s r b sp n)⟩
  rw [storeFault, haltBlock, blk_modBlk_same]

/-- Settles O40: the groups of a sweep, then each instruction that the group reaches, then the checks. -/
theorem sweepControlAndEmission : Obligations.SweepControlAndEmission := by
  unfold Obligations.SweepControlAndEmission
  simp only [exec_range, exec_sweepGroupStart, exec_endProg, exec_invalidInstruction, exec_cmp, exec_emit]
  refine fun s r b w => ⟨fun open_ hw going => ⟨range_good open_ hw going, groupStart_limited open_ hw going, groupStart_bad open_ hw going,
    groupStart_starts open_ hw going, range_bad open_ hw going⟩, fun i x at_ => ⟨fun hop => instrRow_good at_ hop _,
    invalidInstruction_ends at_, fun hop => ?cmp, fun hop => ⟨emit_fits at_ hop, emit_full at_ hop, emit_off at_ hop⟩,
    fun chk u c hc hop fault => ?check, fun hi op => chkFault_instr s r b w hi op x⟩, storeFault_halts s r b⟩
  case cmp => exact ⟨_, instrRow_good at_ hop _, sweptTo_setFlags (atInstr_sweep at_) _⟩
  case check =>
    obtain ⟨f, runs⟩ := exec_checkedRows s r b chk c hc
    exact runs.trans (instrRow_fault at_ hop fault f)

end Sys2Proof.Machine
end

section
/-! PROOF. What an operation word does to the semaphores, the pairs and the barriers (R287, R289, R290, R291, R302, R303, R306). -/

namespace Sys2Proof.Machine

/-! ## What leaves the Bandstand, or its counts, as they are -/

@[simp] theorem countM_bst (s : State) (e a n : Nat) : (countM s e a n).bst = s.bst := by
  unfold countM wrapFlag; dsimp only; split <;> rfl

theorem wakeReq_bst (s : State) (r : Region) : (wakeReq s r).bst = s.bst :=
  wakeReq_keeps State.bst (fun _ _ _ => rfl) (fun _ _ _ => rfl) countM_bst s r

theorem flushStep_bst (s : State) (h : Half) : (flushStep s h).bst = s.bst := by
  unfold flushStep
  split
  · exact ite_keeps (g := State.bst) rfl rfl
  · rfl

theorem flushSteps_bst (s : State) (h : Half) : (flushSteps s h).bst = s.bst := by
  unfold flushSteps
  generalize (vget s.fb.steps h).length = n
  induction n generalizing s with
  | zero => rfl
  | succ n ih => exact (ih (flushStep s h)).trans (flushStep_bst s h)

/-- The closes of a release start at the regions (R304). -/
theorem startCloses_bst (s : State) (h : Half) (m : Byte) (b : Fin 64) (uid : Nat) : (startCloses s h m b uid).bst = s.bst :=
  (flushSteps_bst _ h).trans (foldl_keeps State.bst _ _ s fun _ r => ite_keeps (wakeReq_bst _ r) rfl)

theorem tellPair_bst (s : State) (n : Byte) (posted : Option Bool) : (tellPair s n posted).bst = s.bst :=
  ite_keeps (g := State.bst) rfl rfl

/-- The semaphores, the pairs and the barriers. -/
def bstCounts (s : State) : Table (BitVec 31) × Table W64 × Vector Barrier 64 := (s.bst.sem, s.bst.pairs, s.bst.bars)

/-- The semaphores and the pairs. -/
def bstValues (s : State) : Table (BitVec 31) × Table W64 := (s.bst.sem, s.bst.pairs)

theorem values_of_counts {s t : State} (h : bstCounts t = bstCounts s) : bstValues t = bstValues s := congrArg (fun c => (c.1, c.2.1)) h

theorem bars_of_counts {s t : State} (h : bstCounts t = bstCounts s) : t.bst.bars = s.bst.bars := congrArg (fun c => c.2.2) h

theorem bar_of_counts {s t : State} (h : bstCounts t = bstCounts s) (b : Fin 64) : bar t b = bar s b := by
  rw [bar, bar, bars_of_counts h]

theorem semVal_of_values {s t : State} (h : bstValues t = bstValues s) (n : BitVec 12) : semVal t n = semVal s n :=
  congrArg (fun v : Table (BitVec 31) × Table W64 => tget 0 v.1 n.toNat) h

theorem pairVal_of_values {s t : State} (h : bstValues t = bstValues s) (n : Byte) : pairVal t n = pairVal s n :=
  congrArg (fun v : Table (BitVec 31) × Table W64 => tget 0 v.2 n.toNat) h

theorem counts_of_bst {s t : State} (h : t.bst = s.bst) : bstCounts t = bstCounts s := by rw [bstCounts, h]; rfl

theorem queueMsg_counts (s : State) (w : Watch) (m : W64) : bstCounts (queueMsg s w m) = bstCounts s := ite_keeps rfl rfl

theorem meetWatch_counts (s : State) (w : Watch) : bstCounts (meetWatch s w) = bstCounts s := by
  unfold meetWatch
  split
  · exact (counts_of_bst (answerSignal_bst (dropWatch s w.w) _ _ _)).trans rfl
  · exact queueMsg_counts s w _
  · exact (counts_of_bst (tellRill_bst (dropWatch s w.w) _)).trans rfl

/-- The delivery of met watches changes no count (R291). -/
theorem testWatches_counts (s : State) (kinds : List (BitVec 3)) (target : BitVec 12) :
    bstCounts (testWatches s kinds target) = bstCounts s :=
  ite_keeps rfl (foldl_keeps bstCounts _ _ s fun u w => ite_keeps (meetWatch_counts u w) rfl)

/-! ## Refusal (R290) -/

theorem refuseOp_counts (s : State) (op : BitVec 4) : bstCounts (refuseOp s op) = bstCounts s :=
  ite_keeps ((counts_of_bst (countM_bst _ _ _ _)).trans rfl) rfl

theorem refuseOp_errCount (s : State) (op : BitVec 4) : (refuseOp s op).bst.errCount = s.bst.errCount + 1 := by
  unfold refuseOp
  dsimp only
  split
  · rw [countM_bst]; rfl
  · rfl

/-! ## Semaphores and pairs (R289, R291) -/

theorem semVal_putSem (s : State) (n m : BitVec 12) (v : BitVec 31) : semVal (putSem s n v) m = if m = n then v else semVal s m := by
  rw [putSem, semVal_of_values (values_of_counts (testWatches_counts _ _ _))]
  simp only [semVal, setSem, tget_tset, BitVec.toNat_inj]

theorem pairVal_putSem (s : State) (n : BitVec 12) (v : BitVec 31) (m : Byte) : pairVal (putSem s n v) m = pairVal s m :=
  pairVal_of_values (values_of_counts (testWatches_counts (setSem s n v) [0] n)) m

theorem pairVal_setPair (s : State) (n m : Byte) (w : W64) (posted : Option Bool) :
    pairVal (setPair s n w posted) m = if m = n then w else pairVal s m := by
  simp only [pairVal, setPair_pairs, tget_tset, BitVec.toNat_inj]

theorem semVal_setPair (s : State) (n : Byte) (w : W64) (posted : Option Bool) (m : BitVec 12) :
    semVal (setPair s n w posted) m = semVal s m := by
  have told := fun t => values_of_counts (counts_of_bst (tellPair_bst t n posted))
  rw [setPair, semVal_of_values (told _), semVal_of_values (values_of_counts (testWatches_counts _ _ _))]
  rfl

@[simp] theorem pairP_mkPair (p c : W32) : pairP (mkPair p c) = p := BitVec.extractLsb'_append_eq_right

@[simp] theorem pairC_mkPair (p c : W32) : pairC (mkPair p c) = c := BitVec.extractLsb'_append_eq_left

theorem getLsbD_31 (x : W32) : x.getLsbD 31 = decide (2 ^ 31 ≤ x.toNat) :=
  (BitVec.msb_eq_getLsbD_last x).symm.trans (BitVec.msb_eq_decide x)

/-- A pair word with k added to P, or to C (R289). -/
def addedPair (w : W64) (producer : Bool) (k : W32) : W64 :=
  if producer then mkPair (pairP w + k) (pairC w) else mkPair (pairP w) (pairC w + k)

theorem pairD_addedPair (w : W64) (producer : Bool) (k : W32) :
    pairD (addedPair w producer k) = if producer then pairD w + k else pairD w - k := by
  cases producer
  · simp only [addedPair, pairD, pairP_mkPair, pairC_mkPair, Bool.false_eq_true, if_false]; bv_omega
  · simp only [addedPair, pairD, pairP_mkPair, pairC_mkPair, if_true]; bv_omega

/-- An addition to P or C is taken while D stays within 0 to 2^31 - 1 (R289). -/
theorem pairAdd_within {s : State} {n : Byte} {producer : Bool} {k : W32}
    (h : (pairD (addedPair (pairVal s n) producer k)).toNat < 2 ^ 31) (posted : Option Bool) :
    pairAdd s n producer k posted = some (setPair s n (addedPair (pairVal s n) producer k) posted) :=
  if_neg (c := (pairD (addedPair (pairVal s n) producer k)).getLsbD 31 = true) (by rw [getLsbD_31]; simpa using h)

theorem pairAdd_beyond {s : State} {n : Byte} {producer : Bool} {k : W32}
    (h : ¬ (pairD (addedPair (pairVal s n) producer k)).toNat < 2 ^ 31) (posted : Option Bool) :
    pairAdd s n producer k posted = none :=
  if_pos (c := (pairD (addedPair (pairVal s n) producer k)).getLsbD 31 = true) (by rw [getLsbD_31]; simpa using h)

theorem setPair_of_pairAdd {s t : State} {n : Byte} {producer : Bool} {k : W32} {posted : Option Bool}
    (h : pairAdd s n producer k posted = some t) : ∃ p, t = setPair s n p posted := by
  unfold pairAdd at h
  extract_lets w w' at h
  split at h
  · cases h
  · exact ⟨w', (Option.some.inj h).symm⟩

/-! ## Barriers (R302, R303, R309) -/

/-- A release advances the generation of its barrier (R303), and no semaphore and no pair changes. -/
theorem releaseBar_advances (s : State) (b : Fin 64) :
    bstValues (releaseBar s b) = bstValues s ∧ (bar (releaseBar s b) b).gen = (bar s b).gen + 1 := by
  unfold releaseBar
  extract_lets x s1 s2 uid bst marked closing s3
  have tested : bstCounts s2 = bstCounts s1 := testWatches_counts s1 [3] (BitVec.ofNat 12 b.val)
  have released : bstValues s2 = bstValues s ∧ (bar s2 b).gen = (bar s b).gen + 1 :=
    ⟨(values_of_counts tested).trans rfl, by rw [bar_of_counts tested, bar_modBar_same]⟩
  have marking : bstValues marked = bstValues s2 ∧ (bar marked b).gen = (bar s2 b).gen := ⟨rfl, by rw [bar_modBar_same]; rfl⟩
  have closed : bstValues s3 = bstValues s ∧ (bar s3 b).gen = (bar s b).gen + 1 := by
    unfold s3
    split
    · exact released
    · have started : bstCounts closing = bstCounts marked := counts_of_bst (startCloses_bst marked 0 x.step b uid)
      exact ⟨(values_of_counts started).trans (marking.1.trans released.1),
        (congrArg Barrier.gen (bar_of_counts started b)).trans (marking.2.trans released.2)⟩
  split
  · exact closed
  · exact closed

theorem macroDone_leaves (s : State) (b : Fin 64) :
    bstValues (macroDone s b) = bstValues s ∧ (bar (macroDone s b) b).gen = (bar s b).gen := by
  unfold macroDone
  dsimp only
  split_ifs
  · exact ⟨rfl, rfl⟩
  · exact ⟨rfl, by rw [bar_modBar_same]⟩
  · exact ⟨rfl, by rw [bar_modBar_same]; rfl⟩
  · exact ⟨rfl, rfl⟩

theorem releaseChip_advances (s : State) (b : Fin 64) :
    bstValues (releaseChip s b) = bstValues s ∧ (bar (releaseChip s b) b).gen = (bar s b).gen + 1 := by
  obtain ⟨values1, gen1⟩ := releaseBar_advances s b
  obtain ⟨values2, gen2⟩ := macroDone_leaves (releaseBar s b) b
  exact ⟨values2.trans values1, gen2.trans gen1⟩

/-- A look at the tree of a barrier changes no semaphore and no pair. -/
theorem lookBar_values (s : State) (b : Fin 64) : bstValues (lookBar s b) = bstValues s := by
  have chip : ∀ u, bstValues (lookChip u b) = bstValues u := fun u => ite_keeps (releaseChip_advances u b).1 rfl
  exact ite_keeps rfl (ite_keeps (ite_keeps (releaseBar_advances s b).1 rfl) ((chip _).trans (macroDone_leaves s b).1))

/-- A barrier of this chip alone releases when its tree is complete (R303). -/
theorem lookBar_alone {s : State} {b : Fin 64} (ha : (bar s b).armed = true) (hc : (bar s b).chip = false) :
    lookBar s b = if nodeM (bar s b) then releaseBar s b else s := by simp [lookBar, ha, hc]

theorem armed_of_arriveErr {x : Barrier} {arr : Arrival} (h : arriveErr x arr = false) : x.armed = true := by
  cases arr <;> exact (Bool.not_eq_false' _).mp (Bool.or_eq_false_iff.mp h).1

theorem countArr_frame (x : Barrier) (arr : Arrival) :
    (countArr x arr).armed = x.armed ∧ (countArr x arr).chip = x.chip ∧ (countArr x arr).gen = x.gen := by
  cases arr with
  | engine p => exact ⟨rfl, rfl, rfl⟩
  | rill k => unfold countArr; dsimp only; split <;> exact ⟨rfl, rfl, rfl⟩
  | ctrl => exact ⟨rfl, rfl, rfl⟩

/-- An arrival at a barrier of this chip alone is counted, and releases it when the tree is complete (R302, R303). -/
theorem lookBar_arrives {s : State} {b : Fin 64} {arr : Arrival} (ha : (bar s b).armed = true) (hc : (bar s b).chip = false) :
    let t := lookBar (modBar s b (fun x => countArr x arr)) b
    if nodeM (countArr (bar s b) arr) = true then (bar t b).gen = (bar s b).gen + 1 else bar t b = countArr (bar s b) arr := by
  obtain ⟨armed, chip, gen⟩ := countArr_frame (bar s b) arr
  have counted : bar (modBar s b (fun x => countArr x arr)) b = countArr (bar s b) arr := bar_modBar_same s b _
  intro t
  have look : t = if nodeM (countArr (bar s b) arr) then releaseBar (modBar s b (fun x => countArr x arr)) b
      else modBar s b (fun x => countArr x arr) := by
    rw [← counted]; exact lookBar_alone (by rw [counted, armed, ha]) (by rw [counted, chip, hc])
  split
  next complete => rw [look, if_pos complete, (releaseBar_advances _ b).2, counted, gen]
  next incomplete => rw [look, if_neg incomplete, counted]

/-! ## Waits (R298) -/

theorem regWatch_values {s t : State} {o : WOwner} {kind : BitVec 3} {target : BitVec 12} {n : W32} {sync : Bool}
    (h : regWatch s o kind target n sync = some t) : bstValues t = bstValues s := by
  unfold regWatch at h
  split at h
  · cases h
  · cases h; rfl

theorem waitOp_met {s : State} {kind : BitVec 3} {target : BitVec 12} {n : W32} (hm : watchMet s kind target n = true) (o : Option WOwner) :
    waitOp s o kind target n = (s, .ok) := by simp [waitOp, hm]

theorem waitOp_free {s : State} {kind : BitVec 3} {target : BitVec 12} {n : W32} {i : BitVec 10}
    (hm : watchMet s kind target n = false) (hi : freeWatch s.bst = some i) (own : WOwner) :
    (waitOp s (some own) kind target n).2 = .waits ∧
      ∃ y ∈ (waitOp s (some own) kind target n).1.bst.watches, y.w = i ∧ y.owner = own ∧ y.n = n := by
  simp only [waitOp, hm, regWatch_of_free hi, Bool.false_eq_true, if_false, true_and]
  exact ⟨⟨i, own, kind, target, n, 0, s.bst.wtmo, none, false⟩, by simp [addWatch], rfl, rfl, rfl⟩

theorem waitOp_full {s : State} {kind : BitVec 3} {target : BitVec 12} {n : W32} (hm : watchMet s kind target n = false)
    (hn : freeWatch s.bst = none) (own : WOwner) :
    (waitOp s (some own) kind target n).2 = .full ∧ (waitOp s (some own) kind target n).1.bst.watchFull = true := by
  simp [waitOp, hm, regWatch_of_full hn]

/-- A wait leaves the counts and is not refused as an error (R298). -/
theorem waitOp_values (s : State) (o : Option WOwner) (kind : BitVec 3) (target : BitVec 12) (n : W32) :
    bstValues (waitOp s o kind target n).1 = bstValues s ∧ (waitOp s o kind target n).2 ≠ .refused := by
  unfold waitOp
  split
  · exact ⟨rfl, nofun⟩
  · split
    · exact ⟨rfl, nofun⟩
    · split
      next t reg => exact ⟨regWatch_values reg, nofun⟩
      · exact ⟨rfl, nofun⟩

/-! ## An operation word -/

/-- The four ends of an operation word: a refusal, a new VALUE of its semaphore, new counters of its pair, or neither (R289, R290). -/
inductive BstEnd (s : State) (n : BitVec 12) (w : W64) : State × BstRes → Prop where
  | refused : BstEnd s n w (refuseOp s (bstOp w), .refused)
  | sem (v : BitVec 31) : BstEnd s n w (putSem s n v, .ok)
  | pair (p : W64) : BstEnd s n w (setPair s (bstPb w) p none, .ok)
  | other (t : State) (r : BstRes) (same : bstValues t = bstValues s) (notRefused : r ≠ .refused) : BstEnd s n w (t, r)

section Ends

variable {s : State} {n : BitVec 12} {w : W64}

theorem bstEnd_waitOp (o : Option WOwner) (kind : BitVec 3) (target : BitVec 12) (k : W32) : BstEnd s n w (waitOp s o kind target k) := by
  obtain ⟨same, notRefused⟩ := waitOp_values s o kind target k
  exact .other _ _ same notRefused

theorem bstPerform_end (arr : Arrival) (o : Option WOwner) : BstEnd s n w (bstPerform s arr o n w) := by
  have arrived : ∀ b, bstValues (lookBar (modBar s b (fun x => countArr x arr)) b) = bstValues s := fun b => lookBar_values _ b
  unfold bstPerform
  extract_lets op v pb b t bad g s'
  split
  · exact .refused
  -- The cases in the order of OP: ADD and SUB, SET, PADD and CADD, ARRIVE, SYNC, then the operations that only wait.
  split
  case h_1 | h_2 =>
    split
    · exact .refused
    · exact .sem _
  case h_4 => exact .sem _
  case h_5 | h_6 =>
    split
    next t added => obtain ⟨p, rfl⟩ := setPair_of_pairAdd added; exact .pair p
    · exact .refused
  case h_9 =>
    split
    · exact .refused
    · exact .other _ _ (arrived b) nofun
  case h_10 =>
    split
    · exact .refused
    split
    · exact .other _ _ (arrived b) nofun
    split
    · exact .refused
    split
    next s'' reg => exact .other _ _ ((regWatch_values reg).trans (arrived b)) nofun
    · exact .other _ _ rfl nofun
  all_goals exact bstEnd_waitOp o _ _ v

theorem BstEnd.semVal_other {out : State × BstRes} (h : BstEnd s n w out) {m : BitVec 12} (hm : m ≠ n) : semVal out.1 m = semVal s m := by
  cases h with
  | refused => exact semVal_of_values (values_of_counts (refuseOp_counts s _)) m
  | sem v => rw [semVal_putSem, if_neg hm]
  | pair p => exact semVal_setPair s _ p none m
  | other t r same => exact semVal_of_values same m

theorem BstEnd.pairVal_other {out : State × BstRes} (h : BstEnd s n w out) {m : Byte} (hm : m ≠ bstPb w) :
    pairVal out.1 m = pairVal s m := by
  cases h with
  | refused => exact pairVal_of_values (values_of_counts (refuseOp_counts s _)) m
  | sem v => exact pairVal_putSem s n v m
  | pair p => rw [pairVal_setPair, if_neg hm]
  | other t r same => exact pairVal_of_values same m

theorem BstEnd.state_of_refused {out : State × BstRes} (h : BstEnd s n w out) (hr : out.2 = .refused) :
    out.1 = refuseOp s (bstOp w) := by
  cases h with
  | refused => rfl
  | sem v => cases hr
  | pair p => cases hr
  | other t r same notRefused => exact absurd hr notRefused

end Ends

/-! ## The operations one by one (R289) -/

section Operations

variable {s : State} {arr : Arrival} {o : Option WOwner} {n : BitVec 12} {w : W64}

theorem bstPerform_malformed (h : bstWordOk w = false ∨ 12 ≤ (bstOp w).toNat) :
    bstPerform s arr o n w = (refuseOp s (bstOp w), .refused) := by
  have bad : bstWordOk w = false := by
    rcases h with h | h
    · exact h
    · simp [bstWordOk, Nat.not_lt.mpr h]
  simp [bstPerform, bad]

/-- N of a semaphore operation is at most 2^31 - 1 (R287). -/
theorem bstN_lt (hok : bstWordOk w = true) (hop : (bstOp w).toNat < 4) : (bstN w).toNat < 2 ^ 31 := by
  simp only [bstWordOk, hop, if_true, Bool.and_eq_true, getLsbD_31] at hok
  obtain ⟨-, small, -⟩ := hok
  simpa using small

variable (hok : bstWordOk w = true)
include hok

theorem bstPerform_add (hop : bstOp w = 0) :
    if (semVal s n).toNat + (bstN w).toNat < 2 ^ 31 then (bstPerform s arr o n w).2 = .ok ∧
      (semVal (bstPerform s arr o n w).1 n).toNat = (semVal s n).toNat + (bstN w).toNat
    else (bstPerform s arr o n w).2 = .refused := by
  have eq : bstPerform s arr o n w = if 2 ^ 31 ≤ (semVal s n).toNat + (bstN w).toNat then (refuseOp s (bstOp w), .refused)
      else (putSem s n (semVal s n + (bstN w).setWidth 31), .ok) := by simp [bstPerform, hok, hop]
  have small := bstN_lt hok (by rw [hop]; decide)
  split
  next fits =>
    rw [eq, if_neg (by omega), semVal_putSem, if_pos rfl, BitVec.toNat_add, BitVec.toNat_setWidth]
    exact ⟨rfl, by omega⟩
  next beyond => rw [eq, if_pos (by omega)]

theorem bstPerform_sub (hop : bstOp w = 1) :
    if (bstN w).toNat ≤ (semVal s n).toNat then (bstPerform s arr o n w).2 = .ok ∧
      (semVal (bstPerform s arr o n w).1 n).toNat = (semVal s n).toNat - (bstN w).toNat
    else (bstPerform s arr o n w).2 = .refused := by
  have eq : bstPerform s arr o n w = if (semVal s n).toNat < (bstN w).toNat then (refuseOp s (bstOp w), .refused)
      else (putSem s n (semVal s n - (bstN w).setWidth 31), .ok) := by simp [bstPerform, hok, hop]
  have small := bstN_lt hok (by rw [hop]; decide)
  split
  next fits =>
    rw [eq, if_neg (by omega), semVal_putSem, if_pos rfl]
    exact ⟨rfl, by bv_omega⟩
  next under => rw [eq, if_pos (by omega)]

theorem bstPerform_set (hop : bstOp w = 3) :
    (bstPerform s arr o n w).2 = .ok ∧ (semVal (bstPerform s arr o n w).1 n).toNat = (bstN w).toNat := by
  have eq : bstPerform s arr o n w = (putSem s n ((bstN w).setWidth 31), .ok) := by simp [bstPerform, hok, hop]
  have small := bstN_lt hok (by rw [hop]; decide)
  rw [eq, semVal_putSem, if_pos rfl, BitVec.toNat_setWidth]
  exact ⟨rfl, Nat.mod_eq_of_lt small⟩

/-- PADD and CADD give their pair new counters, and are refused where D would leave 0 to 2^31 - 1 (R289). -/
theorem bstPerform_pairOp {producer : Bool} (hop : bstOp w = if producer then 4 else 5) :
    bstPerform s arr o n w =
      if (pairD (addedPair (pairVal s (bstPb w)) producer (bstN w))).toNat < 2 ^ 31 then
        (setPair s (bstPb w) (addedPair (pairVal s (bstPb w)) producer (bstN w)) none, .ok)
      else (refuseOp s (bstOp w), .refused) := by
  cases producer
  all_goals
    simp only [if_true, Bool.false_eq_true, if_false] at hop
    split
    next within => simp [bstPerform, hok, hop, pairAdd_within within]
    next beyond => simp [bstPerform, hok, hop, pairAdd_beyond beyond]

theorem bstPerform_padd (hop : bstOp w = 4) :
    if (pairD (pairVal s (bstPb w)) + bstN w).toNat < 2 ^ 31 then (bstPerform s arr o n w).2 = .ok ∧
      pairP (pairVal (bstPerform s arr o n w).1 (bstPb w)) = pairP (pairVal s (bstPb w)) + bstN w ∧
      pairC (pairVal (bstPerform s arr o n w).1 (bstPb w)) = pairC (pairVal s (bstPb w))
    else (bstPerform s arr o n w).2 = .refused := by
  have ends := bstPerform_pairOp (s := s) (arr := arr) (o := o) (n := n) hok (producer := true) hop
  rw [pairD_addedPair, if_pos rfl] at ends
  split
  next fits =>
    rw [ends, if_pos fits, pairVal_setPair, if_pos rfl]
    simp [addedPair]
  next beyond => rw [ends, if_neg beyond]

theorem bstPerform_cadd (hop : bstOp w = 5) :
    if (pairD (pairVal s (bstPb w)) - bstN w).toNat < 2 ^ 31 then (bstPerform s arr o n w).2 = .ok ∧
      pairC (pairVal (bstPerform s arr o n w).1 (bstPb w)) = pairC (pairVal s (bstPb w)) + bstN w ∧
      pairP (pairVal (bstPerform s arr o n w).1 (bstPb w)) = pairP (pairVal s (bstPb w))
    else (bstPerform s arr o n w).2 = .refused := by
  have ends := bstPerform_pairOp (s := s) (arr := arr) (o := o) (n := n) hok (producer := false) hop
  rw [pairD_addedPair, if_neg Bool.false_ne_true] at ends
  split
  next fits =>
    rw [ends, if_pos fits, pairVal_setPair, if_pos rfl]
    simp [addedPair]
  next under => rw [ends, if_neg under]

/-- The operations that wait for a condition only, with the kind and the target of their watch (R289, R296). -/
theorem bstPerform_wait {c : BitVec 4 × BitVec 3 × BitVec 12} (hop : bstOp w = c.1)
    (hc : c ∈ [((2 : BitVec 4), (0 : BitVec 3), n), (6, 1, (bstPb w).setWidth 12), (7, 2, (bstPb w).setWidth 12),
      (10, 3, (bstPb w).setWidth 12), (11, 4, (bstPb w).setWidth 12)]) :
    bstPerform s arr o n w = waitOp s o c.2.1 c.2.2 (bstN w) := by
  simp only [List.mem_cons, List.not_mem_nil, or_false] at hc
  rcases hc with rfl | rfl | rfl | rfl | rfl <;> simp [bstPerform, hok, hop]

theorem bstPerform_arrivalError (hop : bstOp w = 8 ∨ bstOp w = 9) (he : arriveErr (bar s (fin 64 (bstPb w).toNat)) arr = true) :
    (bstPerform s arr o n w).2 = .refused := by
  rcases hop with hop | hop <;> simp [bstPerform, hok, hop, he]

theorem bstPerform_arrive (hop : bstOp w = 8) (he : arriveErr (bar s (fin 64 (bstPb w).toNat)) arr = false) :
    bstPerform s arr o n w =
      (lookBar (modBar s (fin 64 (bstPb w).toNat) (fun x => countArr x arr)) (fin 64 (bstPb w).toNat), .ok) := by
  simp [bstPerform, hok, hop, he]

end Operations

/-! ## The statement -/

/-- Settles O46: the four ends of an operation word say what it leaves, and one lemma for each operation says what it does. -/
theorem bandstandOperations : Obligations.BandstandOperations := by
  unfold Obligations.BandstandOperations
  intro s arr o n w out v pb x
  have ends : BstEnd s n w out := bstPerform_end arr o
  refine ⟨fun m hm => ends.semVal_other hm, fun m hm => ends.pairVal_other hm, fun hr => ?refused,
    fun bad => congrArg Prod.snd (bstPerform_malformed bad), fun hok => ⟨bstPerform_add hok, bstPerform_sub hok, bstPerform_set hok,
      bstPerform_padd hok, bstPerform_cadd hok, fun c hc hop => ?wait, bstPerform_arrivalError hok, fun hop he => ?arrive⟩⟩
  case refused =>
    have state := ends.state_of_refused hr
    have same := refuseOp_counts s (bstOp w)
    rw [state]
    exact ⟨rfl, semVal_of_values (values_of_counts same) n, pairVal_of_values (values_of_counts same) pb, refuseOp_errCount s _,
      bars_of_counts same⟩
  case wait =>
    have eq : out = waitOp s o c.2.1 c.2.2 v := bstPerform_wait hok hop hc
    rw [eq]
    refine ⟨fun hm => waitOp_met hm o, fun hm own ho => ?_⟩
    subst ho
    exact ⟨fun i hi => waitOp_free hm hi own, fun hn => waitOp_full hm hn own⟩
  case arrive =>
    have eq : out = (lookBar (modBar s (fin 64 pb.toNat) (fun x => countArr x arr)) (fin 64 pb.toNat), .ok) :=
      bstPerform_arrive hok hop he
    rw [eq]
    exact ⟨rfl, fun hc => lookBar_arrives (armed_of_arriveErr he) hc⟩

end Sys2Proof.Machine
end

section
/-! PROOF. Sync messages between chips (R303, R307, R308, R309, R310). -/

namespace Sys2Proof.Machine

/-! ## The arms of the sync port -/

theorem exec_syncMessageSend (s) : exec .syncMessageSend s = execSyncMessageSend s := rfl
theorem exec_syncArriveReceived (w s) : exec (.syncArriveReceived w) s = execSyncArriveReceived w s := rfl
theorem exec_syncReleaseReceived (w s) : exec (.syncReleaseReceived w) s = execSyncReleaseReceived w s := rfl

/-! ## Messages that leave (R307, R308, R310) -/

theorem syncMessageSend_skips {s : State} (h : s.bst.role = 0 ∨ frozen s 0 = true) : execSyncMessageSend s = .next s := by
  rcases h with single | reached <;> simp [execSyncMessageSend, skip, *]

/-- The oldest message transfers; the place it leaves may end the hold of received messages (log entry 54). -/
theorem syncMessageSend_transfers {s : State} {m : W64} {ms : List W64} (hl : live s = true) (hf : frozen s 0 = false)
    (hr : s.bst.role ≠ 0) (hq : s.bst.txq = m :: ms) :
    execSyncMessageSend s = .next (afterSync (drainSync 16 (syncSend { s with bst := { s.bst with txq := ms } } []))) := by
  have linked : (s.bst.role == 0) = false := beq_eq_false_iff_ne.mpr hr
  simp only [execSyncMessageSend, hl, hf, linked, hq, finishSync_eq_afterSync, Bool.not_true, Bool.or_self, Bool.false_eq_true, if_false]

/-- The transmit queue holds 16 messages, and the rest waits for a place (R308, log entry 54). -/
theorem syncSend_queues (s : State) (ms : List W64) :
    (syncSend { s with bst := { s.bst with txq := ms } } []).bst.txq = (ms ++ s.bst.txWait).take 16 ∧
      (syncSend { s with bst := { s.bst with txq := ms } } []).bst.txWait = (ms ++ s.bst.txWait).drop 16 := by simp [syncSend]

/-! ## Messages that arrive (R308, R310) -/

theorem drainSync_waits {s : State} (h : s.bst.txWait ≠ []) (n : Nat) : drainSync n s = s := by
  cases n with
  | zero => rfl
  | succ n =>
    unfold drainSync
    split
    next none_ _ => exact absurd none_ h
    · rfl

theorem drainSync_takes {s : State} {w : W64} {ws : List W64} (ht : s.bst.txWait = []) (hr : s.bst.rxq = w :: ws) (n : Nat) :
    drainSync (n + 1) s = drainSync n (takeSync { s with bst := { s.bst with rxq := ws } } w) := by
  simp [drainSync, ht, hr]

section Receive

variable {s : State} {w : W64}

theorem receiveSync_full (h : 16 ≤ s.bst.rxq.length) : receiveSync s w = .next s := by simp [receiveSync, h, skip]

variable (hl : live s = true) (hroom : s.bst.rxq.length < 16)
include hl hroom

theorem receiveSync_discards (hf : frozen s 0 = true) : receiveSync s w = .next (after s) := by
  simp [receiveSync, hl, hroom, hf, finish_eq_after]

theorem receiveSync_drains (hf : frozen s 0 = false) :
    receiveSync s w = .next (afterSync (drainSync 16 { s with bst := { s.bst with rxq := s.bst.rxq ++ [w] } })) := by
  simp [receiveSync, hl, hroom, hf, finishSync_eq_afterSync]

theorem receiveSync_queues (hf : frozen s 0 = false) (ht : s.bst.txWait ≠ []) :
    receiveSync s w = .next (afterSync { s with bst := { s.bst with rxq := s.bst.rxq ++ [w] } }) := by
  rw [receiveSync_drains hl hroom hf, drainSync_waits]
  exact ht

end Receive

/-- A message that finds no other is taken from the queue at once. -/
theorem receiveSync_takes {s : State} {w : W64} (hl : live s = true) (hr : s.bst.rxq = []) (hf : frozen s 0 = false)
    (ht : s.bst.txWait = []) : receiveSync s w = .next (afterSync (drainSync 15 (takeSync s w))) := by
  have emptied : ({ s with bst := { s.bst with rxq := [] } } : State) = s := by rw [← hr]
  have taken : drainSync 16 { s with bst := { s.bst with rxq := [w] } } = drainSync 15 (takeSync s w) :=
    (drainSync_takes (s := { s with bst := { s.bst with rxq := [w] } }) ht rfl 15).trans
      (congrArg (fun t => drainSync 15 (takeSync t w)) emptied)
  rw [receiveSync_drains hl (by rw [hr]; decide) hf, hr, List.nil_append]
  exact congrArg (fun t => Host.Outcome.next (afterSync t)) taken

/-- Both rows of the sync port receive their message alike (R309). -/
theorem exec_received {s : State} {w : W64} {o : Host.Outcome State Fault Refusal} (h : receiveSync s w = o) :
    (w.extractLsb' 0 4 ≠ 2 → exec (.syncArriveReceived w) s = o) ∧ (w.extractLsb' 0 4 = 2 → exec (.syncReleaseReceived w) s = o) :=
  ⟨fun other => (if_neg other).trans h, fun release => (if_neg (not_not.mpr release)).trans h⟩

/-! ## Messages that are taken (R303, R307, R309) -/

/-- The barrier that a sync message names (R308). -/
def syncBar (w : W64) : Fin 64 := fin 64 (w.extractLsb' 24 6).toNat

/-- The chip that sent a sync message (R308). -/
def syncSrc (w : W64) : BitVec 6 := w.extractLsb' 8 6

/-- A manager counts the message as an arrival of its chip, the first in this generation (R309). -/
def countsArrive (s : State) (w : W64) : Prop :=
  s.bst.role = 1 ∧ w.extractLsb' 0 4 = 1 ∧ syncOk s w = true ∧ syncSrc w ∉ (bar s (syncBar w)).chips

/-- A worker releases its barrier on the message (R309). -/
def obeysRelease (s : State) (w : W64) : Prop := s.bst.role = 2 ∧ w.extractLsb' 0 4 = 2 ∧ syncOk s w = true

/-- The barrier with the sender of the message among the chips counted. -/
def chipCounted (s : State) (w : W64) : State := modBar s (syncBar w) (fun x => { x with chips := syncSrc w :: x.chips })

section Take

variable {s : State} {w : W64}

theorem takeSync_eq [Decidable (countsArrive s w)] [Decidable (obeysRelease s w)] : takeSync s w =
    if countsArrive s w then lookChip (chipCounted s w) (syncBar w)
    else if obeysRelease s w then releaseChip s (syncBar w) else syncError s := by
  unfold takeSync
  extract_lets b src
  refine ite_congr (propext ?_) (fun _ => rfl) fun _ => ite_congr (propext ?_) (fun _ => rfl) fun _ => rfl
  · simp [countsArrive, and_assoc, b, src, syncBar, syncSrc]
  · simp [obeysRelease, and_assoc]

theorem takeSync_discards (ha : ¬ countsArrive s w) (hr : ¬ obeysRelease s w) : takeSync s w = syncError s := by
  classical rw [takeSync_eq, if_neg ha, if_neg hr]

theorem takeSync_counts (ha : countsArrive s w) : takeSync s w = lookChip (chipCounted s w) (syncBar w) := by
  classical rw [takeSync_eq, if_pos ha]

theorem takeSync_releases (hr : obeysRelease s w) : takeSync s w = releaseChip s (syncBar w) := by
  have worker : ¬ countsArrive s w := fun ha => absurd (ha.1.symm.trans hr.1) (by decide)
  classical rw [takeSync_eq, if_neg worker, if_pos hr]

theorem chipCount_chipCounted : chipCount (bar (chipCounted s w) (syncBar w)) = chipCount (bar s (syncBar w)) + 1 := by
  simp only [chipCounted, bar_modBar_same, chipCount, List.length_cons]; omega

/-- The chip node of a manager waits for more arrivals. -/
theorem lookChip_waits {b : Fin 64} (hc : chipCount (bar s b) < s.bst.chips.toNat) : lookChip s b = s := by
  have few : decide (s.bst.chips.toNat ≤ chipCount (bar s b)) = false := decide_eq_false (Nat.not_le.mpr hc)
  simp only [lookChip, few, Bool.and_false, Bool.false_eq_true, if_false]

theorem lookChip_releases {b : Fin 64} (hm : s.bst.role = 1) (hc : s.bst.chips.toNat ≤ chipCount (bar s b)) :
    lookChip s b = releaseChip s b := by simp [lookChip, hm, hc]

theorem takeSync_arrivesEarly (ha : countsArrive s w) (hc : chipCount (bar s (syncBar w)) + 1 < s.bst.chips.toNat) :
    takeSync s w = chipCounted s w :=
  (takeSync_counts ha).trans (lookChip_waits (by rw [chipCount_chipCounted]; exact hc))

theorem takeSync_arrivesLast (ha : countsArrive s w) (hc : s.bst.chips.toNat ≤ chipCount (bar s (syncBar w)) + 1) :
    (bar (takeSync s w) (syncBar w)).gen = (bar s (syncBar w)).gen + 1 := by
  have last := lookChip_releases (s := chipCounted s w) ha.1 (by rw [chipCount_chipCounted]; exact hc)
  rw [takeSync_counts ha, last, (releaseChip_advances _ _).2, chipCounted, bar_modBar_same]

end Take

end Sys2Proof.Machine
end

section
/-! PROOF. The mailboxes (R327 to R345), and the statement about sync messages and mailboxes. -/

namespace Sys2Proof.Machine

/-! ## The arms of the Lodge -/

theorem exec_depositAnnounce (n s) : exec (.depositAnnounce n) s = execDepositAnnounce n s := rfl
theorem exec_mailboxSend (port n d s) : exec (.mailboxSend port n d) s = execMailboxSend port n d s := rfl
theorem exec_mailboxTake (port n s) : exec (.mailboxTake port n) s = execMailboxTake port n s := rfl
theorem exec_mailboxConfigWrite (port n d s) : exec (.mailboxConfigWrite port n d) s = execMailboxConfigWrite port n d s := rfl

/-! ## What a port's holding register leaves of the Lodge (R46) -/

@[simp] theorem wideWrite_lod (s : State) (p : RegPort) (d : W64) : (wideWrite s p d).lod = s.lod := by
  unfold wideWrite; split <;> simp

@[simp] theorem wideWrite_frz (s : State) (p : RegPort) (d : W64) : (wideWrite s p d).frz = s.frz := by
  unfold wideWrite; split <;> simp

@[simp] theorem wideRead_lod (s : State) (p : RegPort) : (wideRead s p).lod = s.lod := by unfold wideRead; split <;> simp

@[simp] theorem wideRead_frz (s : State) (p : RegPort) : (wideRead s p).frz = s.frz := by unfold wideRead; split <;> simp

@[simp] theorem box_wideWrite (s : State) (p : RegPort) (d : W64) (n : Fin 64) : box (wideWrite s p d) n = box s n := by simp [box]

@[simp] theorem box_wideRead (s : State) (p : RegPort) (n : Fin 64) : box (wideRead s p) n = box s n := by simp [box]

@[simp] theorem boxD_wideWrite (s : State) (p : RegPort) (d : W64) (x : Mailbox) : boxD (wideWrite s p d) x = boxD s x := by
  simp [boxD, pairVal]

theorem sendOpen_wideWrite (s : State) (p port : RegPort) (d : W64) (n : Fin 64) :
    sendOpen (wideWrite s p d) port n = sendOpen s port n := by simp [sendOpen, closed]

theorem boxFull_wideWrite (s : State) (p : RegPort) (d : W64) (x : Mailbox) : boxFull (wideWrite s p d) x = boxFull s x := by
  simp [boxFull]

theorem cfgOpen_wideWrite (s : State) (p : RegPort) (d : W64) (x : Mailbox) : cfgOpen (wideWrite s p d) x = cfgOpen s x := by
  simp [cfgOpen]

theorem takeOpen_wideRead (s : State) (p port : RegPort) (n : Fin 64) : takeOpen (wideRead s p) port n = takeOpen s port n := by
  simp [takeOpen, closed, frozen]

@[simp] theorem rport_after (s : State) (p : RegPort) : rport (after s) p = rport s p := by cases p <;> simp [rport, after]

theorem box_modBox_other (s : State) {n m : Fin 64} (f : Mailbox → Mailbox) (h : m ≠ n) : box (modBox s n f) m = box s m := by
  simp [box, vget_vmod_other _ _ (Ne.symm h)]

/-! ## Wakes and deposits on their way leave the Lodge and the Gatehouse -/

/-- The Lodge and the Gatehouse. -/
def lodgeAndGatehouse (s : State) : Lodge × Gatehouse := (s.lod, s.gh)

theorem countM_lodgeAndGatehouse (s : State) (e a n : Nat) : lodgeAndGatehouse (countM s e a n) = lodgeAndGatehouse s := by
  unfold lodgeAndGatehouse countM wrapFlag; dsimp only; split <;> rfl

theorem wakeReq_lodgeAndGatehouse (s : State) (r : Region) : lodgeAndGatehouse (wakeReq s r) = lodgeAndGatehouse s :=
  wakeReq_keeps lodgeAndGatehouse (fun _ _ _ => rfl) (fun _ _ _ => rfl) countM_lodgeAndGatehouse s r

theorem wakeAll_lodgeAndGatehouse (s : State) (m : Byte) : lodgeAndGatehouse (wakeAll s m) = lodgeAndGatehouse s :=
  foldl_keeps lodgeAndGatehouse _ _ s fun u r => ite_keeps rfl (ite_keeps (wakeReq_lodgeAndGatehouse u r) rfl)

theorem routePiece_lodgeAndGatehouse (s : State) (pc : Piece) (a : BitVec 29) :
    lodgeAndGatehouse (routePiece s pc a) = lodgeAndGatehouse s :=
  ite_keeps ((wakeReq_lodgeAndGatehouse _ pc.region).trans rfl) rfl

theorem routeOne_lodgeAndGatehouse (s : State) (src : BSrc) (a : Nat) (data : Beat) (strb : BitVec 64) :
    lodgeAndGatehouse (routeOne s src a data strb) = lodgeAndGatehouse s :=
  foldl_keeps lodgeAndGatehouse _ _ s fun u run => by
    split
    · exact routePiece_lodgeAndGatehouse u _ _
    · rfl

theorem lod_of_lodgeAndGatehouse {s t : State} (h : lodgeAndGatehouse t = lodgeAndGatehouse s) : t.lod = s.lod := congrArg Prod.fst h

theorem gh_of_lodgeAndGatehouse {s t : State} (h : lodgeAndGatehouse t = lodgeAndGatehouse s) : t.gh = s.gh := congrArg Prod.snd h

/-! ## The three answers of a send (R330, R333, R334) -/

theorem sendBox_full {s : State} {n : Fin 64} (h : boxFull s (box s n) = true) (word : W64) (x : Sender) :
    sendBox s n word x = (rejectSend s, .rejected) := by simp [sendBox, h]

/-- A word mailbox holds the word, and the Gatehouse is interrupted where it receives (R327, R333). -/
def holdWord (s : State) (n : Fin 64) (word : W64) (fromGh : Bool) : State :=
  let t := modBox s n (fun y => { y with word := some (word, fromGh) })
  if (box s n).recv = 1 then { t with gh := { t.gh with extIrq := true } } else t

theorem holdWord_boxes (s : State) (n : Fin 64) (word : W64) (fromGh : Bool) :
    (holdWord s n word fromGh).lod.boxes = vmod s.lod.boxes n (fun y => { y with word := some (word, fromGh) }) := by
  unfold holdWord; dsimp only; split <;> rfl

theorem holdWord_irq {s : State} {n : Fin 64} (h : (box s n).recv = 1) (word : W64) (fromGh : Bool) :
    (holdWord s n word fromGh).gh.extIrq = true := by simp [holdWord, h]

theorem sendBox_word {s : State} {n : Fin 64} (hw : (box s n).word = none) (hr : (box s n).recv ≠ 2) (word : W64) (x : Sender) :
    sendBox s n word x = (wakeAll (holdWord s n word (x == .port .gh)) (box s n).wake, .ok) := by
  have empty : boxFull s (box s n) = false := by rw [boxFull, if_neg hr, hw]; rfl
  simp only [sendBox, empty, hr, Bool.false_eq_true, if_false, holdWord]

/-- A deposit joins those in flight (R334). -/
theorem sendBox_deposit {s : State} {n : Fin 64} (hf : boxFull s (box s n) = false) (hr : (box s n).recv = 2) (word : W64) (x : Sender) :
    ∃ t, sendBox s n word x = (t, .waits) ∧ t.lod.boxes =
      vmod s.lod.boxes n (fun y => { y with deps := y.deps ++ [⟨s.lod.nextUid, x, false⟩], suspended := false }) := by
  refine ⟨_, by simp only [sendBox, hf, hr, Bool.false_eq_true, if_false, if_true]; rfl, ?_⟩
  rw [lod_of_lodgeAndGatehouse (wakeAll_lodgeAndGatehouse _ _), lod_of_lodgeAndGatehouse (routeOne_lodgeAndGatehouse _ _ _ _ _)]
  rfl

section Ports

variable {s : State} {port : RegPort} {n : Fin 64} {d : W64} (hp : portReady s port = true)
include hp

/-! ## MAILBOX_SEND (R330, R338, R340) -/

theorem mailboxSend_refused (ho : sendOpen s port n = false) :
    execMailboxSend port n d s = .next (after (busErr (wideWrite s port d) port)) := by
  simp [execMailboxSend, hp, sendOpen_wideWrite, ho, finish_eq_after]

section Sendable

variable (ho : sendOpen s port n = true)
include ho

theorem mailboxSend_full (hf : boxFull s (box s n) = true) :
    ∃ t, execMailboxSend port n d s = .next t ∧ kept s t ∧ t.lod.boxes = s.lod.boxes ∧ t.lod.rejects = s.lod.rejects + 1 ∧
      t.lod.rejected = true := by
  have sent : sendBox (wideWrite s port d) n d (.port port) = (rejectSend (wideWrite s port d), .rejected) :=
    sendBox_full (by rw [boxFull_wideWrite, box_wideWrite, hf]) d _
  have lodge : (after (busErr (rejectSend (wideWrite s port d)) port)).lod = (rejectSend (wideWrite s port d)).lod := by simp [busErr]
  refine ⟨_, by simp [execMailboxSend, hp, sendOpen_wideWrite, ho, sent]; rfl, kept_after ?_, ?_⟩
  · rw [busErr_store, rejectSend_store, wideWrite_store]
  · rw [lodge]; simp [rejectSend]

theorem mailboxSend_word (hw : (box s n).word = none) (hr : (box s n).recv ≠ 2) :
    ∃ t, execMailboxSend port n d s = .next t ∧ kept s t ∧ (box t n).word = some (d, port == .gh) ∧
      ((box s n).recv = 1 → t.gh.extIrq = true) ∧ ∀ m, m ≠ n → box t m = box s m := by
  let held := holdWord (wideWrite s port d) n d (Sender.port port == .port .gh)
  have sent : sendBox (wideWrite s port d) n d (.port port) = (wakeAll held (box s n).wake, .ok) := by
    rw [← box_wideWrite s port d n] at hw hr ⊢; exact sendBox_word hw hr d _
  have stored : store (wakeAll held (box s n).wake) = store s := by
    have sending := sendBox_store (wideWrite s port d) n d (.port port)
    rw [sent, wideWrite_store] at sending
    exact sending
  have boxes : (wakeAll held (box s n).wake).lod.boxes =
      vmod s.lod.boxes n (fun y => { y with word := some (d, Sender.port port == .port .gh) }) := by
    rw [lod_of_lodgeAndGatehouse (wakeAll_lodgeAndGatehouse _ _), holdWord_boxes, wideWrite_lod]
  refine ⟨after (ack (wakeAll held (box s n).wake) port),
    by simp [execMailboxSend, hp, sendOpen_wideWrite, ho, sent, finish_eq_after], kept_after ((ack_store _ port).trans stored), ?_,
    fun h => ?_, fun m hm => ?_⟩
  · rw [box_after, box_ack, box, boxes, vget_vmod_same]
    cases port <;> rfl
  · rw [after_gh, ack_gh, gh_of_lodgeAndGatehouse (wakeAll_lodgeAndGatehouse _ _)]
    exact holdWord_irq (by rw [box_wideWrite, h]) d _
  · rw [box_after, box_ack, box, boxes, vget_vmod_other _ _ (Ne.symm hm), ← box]

theorem mailboxSend_deposit (hf : boxFull s (box s n) = false) (hr : (box s n).recv = 2) :
    ∃ t, execMailboxSend port n d s = .next t ∧ kept s t ∧ (rport t port).held = some .deposit ∧
      (box t n).deps.length = (box s n).deps.length + 1 := by
  obtain ⟨u, sent, boxes⟩ := sendBox_deposit (s := wideWrite s port d) (n := n) (by rw [boxFull_wideWrite, box_wideWrite, hf])
    (by rw [box_wideWrite, hr]) d (.port port)
  have stored : store u = store s := by
    have sending := sendBox_store (wideWrite s port d) n d (.port port)
    rw [sent, wideWrite_store] at sending
    exact sending
  refine ⟨after (holdAcc u port .deposit), by simp [execMailboxSend, hp, sendOpen_wideWrite, ho, sent, finish_eq_after],
    kept_after ((holdAcc_store u port _).trans stored), ?_, ?_⟩
  · rw [rport_after, holdAcc, rport_modRport_same]
  · have lodge : (holdAcc u port .deposit).lod = u.lod := by simp [holdAcc]
    rw [box_after, box, lodge, boxes, vget_vmod_same, wideWrite_lod, ← box]
    simp

end Sendable

/-! ## MAILBOX_TAKE (R332, R338, R341) -/

theorem mailboxTake_refused (ho : takeOpen s port n = false) :
    execMailboxTake port n s = .next (after (busErr (wideRead s port) port)) := by
  simp [execMailboxTake, hp, takeOpen_wideRead, ho, finish_eq_after]

theorem mailboxTake_word {c : W64} {g : Bool} (ho : takeOpen s port n = true) (hr : (box s n).recv ≠ 2)
    (hw : (box s n).word = some (c, g)) : execMailboxTake port n s =
      .next (after (reply (modBox (wideRead s port) n (fun x => { x with word := none })) port c)) := by
  have word : (box s n).recv.toNat ≠ 2 := fun e => hr (BitVec.eq_of_toNat_eq e)
  simp [execMailboxTake, hp, takeOpen_wideRead, ho, hw, finish_eq_after]

theorem mailboxTake_nothing (ho : takeOpen s port n = true) (hn : (box s n).recv = 2 ∨ (box s n).word = none) :
    execMailboxTake port n s = .next (after (reply (wideRead s port) port 0)) := by
  simp only [execMailboxTake, hp, takeOpen_wideRead, ho, box_wideRead, finish_eq_after, Bool.not_true, Bool.false_eq_true, if_false]
  split
  · rfl
  next c g hw deposit =>
    rcases hn with hr | hn
    · exact absurd (congrArg BitVec.toNat hr) deposit
    · rw [hw] at hn; cases hn
  · rfl

/-! ## MAILBOX_CONFIG_WRITE (R327, R328, R345) -/

theorem mailboxConfigWrite_refused (hc : cfgOpen s (box s n) = false) :
    execMailboxConfigWrite port n d s = .next (after (busErr (wideWrite s port d) port)) := by
  simp [execMailboxConfigWrite, hp, cfgOpen_wideWrite, hc, finish_eq_after]

theorem mailboxConfigWrite_takes (hc : cfgOpen s (box s n) = true) :
    ∃ t, execMailboxConfigWrite port n d s = .next t ∧ kept s t ∧
      (box t n).wake = d.extractLsb' 8 8 ∧ (box t n).pair = d.extractLsb' 16 8 ∧ (box t n).ring = d.extractLsb' 24 8 ∧
      (box t n).depAddr = d.extractLsb' 32 21 ∧ (box t n).recv = recvAfter n (box s n).recv (d.extractLsb' 0 2) ∧
      (n.val < 2 → (box t n).recv = (box s n).recv) ∧ ∀ m, m ≠ n → box t m = box s m := by
  refine ⟨_, by simp only [execMailboxConfigWrite, hp, cfgOpen_wideWrite, box_wideWrite, hc, finish_eq_after, Bool.not_true,
    Bool.false_eq_true, if_false]; rfl, kept_after ?_, ?_⟩
  · rw [ack_store, modBox_store, wideWrite_store]
  · simp only [box_after, box_ack, box_modBox_same, box_wideWrite, true_and]
    refine ⟨fun fixed => by simp [recvAfter, fixed], fun m hm => ?_⟩
    rw [box_modBox_other _ _ hm, box_wideWrite]

end Ports

/-! ## DEPOSIT_ANNOUNCE (R330, R334, R335) -/

section Announce

variable {s : State} {n : Fin 64} {x : Deposit} {xs : List Deposit} (hl : live s = true) (hf : frozen s 0 = false)
  (hd : (box s n).deps = x :: xs)
include hl hf hd

theorem depositAnnounce_waits (hx : x.landed = false) : execDepositAnnounce n s = .next s := by
  simp [execDepositAnnounce, hl, hf, hd, hx, skip]

theorem depositAnnounce_counts {s2 : State} (hx : x.landed = true)
    (added : pairAdd (modBox s n (fun y => { y with deps := xs })) (box s n).pair true 1 none = some s2) :
    execDepositAnnounce n s = .next (afterSync (answerSender (countM s2 0x60 4 1) x.sender true)) := by
  simp only [execDepositAnnounce, hl, hf, hd, hx, added, finishSync_eq_afterSync, Bool.not_true, Bool.or_self, Bool.false_eq_true, if_false]

theorem depositAnnounce_rejects (hx : x.landed = true)
    (refused : pairAdd (modBox s n (fun y => { y with deps := xs })) (box s n).pair true 1 none = none) :
    execDepositAnnounce n s = .next (afterSync (answerSender (rejectSend (modBox (refuseOp (modBox s n (fun y => { y with deps := xs })) 4) n
      (fun y => { y with suspended := true }))) x.sender false)) := by
  simp only [execDepositAnnounce, hl, hf, hd, hx, refused, finishSync_eq_afterSync, Bool.not_true, Bool.or_self, Bool.false_eq_true,
    if_false]

end Announce

/-! ## The statement -/

/-- Settles O49: one lemma for each way a message or a mailbox command can end. -/
theorem syncMessagesAndMailboxes : Obligations.SyncMessagesAndMailboxes := by
  unfold Obligations.SyncMessagesAndMailboxes
  intro s port n d w
  refine ⟨fun hl => ⟨syncMessageSend_skips, fun m ms hf hr hq => ⟨syncMessageSend_transfers hl hf hr hq, syncSend_queues s ms⟩, ?receive,
    ?take, fun x xs hf hd => ⟨depositAnnounce_waits hl hf hd, fun s2 => depositAnnounce_counts hl hf hd, depositAnnounce_rejects hl hf hd⟩⟩,
    fun hp => ⟨mailboxSend_refused hp, mailboxSend_full hp, mailboxSend_word hp, mailboxSend_deposit hp, mailboxTake_refused hp,
      fun c g => mailboxTake_word hp, mailboxTake_nothing hp, mailboxConfigWrite_refused hp, mailboxConfigWrite_takes hp⟩⟩
  case receive =>
    exact ⟨fun full => exec_received (receiveSync_full full), fun room hf => exec_received (receiveSync_discards hl room hf),
      fun room hf ht => exec_received (receiveSync_queues hl room hf ht), fun hr hf ht => exec_received (receiveSync_takes hl hr hf ht)⟩
  case take =>
    exact ⟨fun ha hr => ⟨takeSync_discards ha hr, rfl, rfl, rfl⟩, takeSync_arrivesEarly, takeSync_arrivesLast,
      fun hr => by rw [takeSync_releases hr]; exact (releaseChip_advances s _).2⟩

end Sys2Proof.Machine
end

section
/-! PROOF. The requests of mailbox 0 (R337, R431, R436 to R438, R467), and the statement about how they are served and answered. -/

namespace Sys2Proof.Machine

/-! ## The arms of the Gatehouse's requests -/

theorem exec_measure (s) : exec .measure s = execMeasure s := rfl
theorem exec_signedMeasure (p s) : exec (.signedMeasure p) s = execSignedMeasure p s := rfl
theorem exec_gatehouseReply (s) : exec .gatehouseReply s = execGatehouseReply s := rfl

/-! ## Which request is taken (R337, R424) -/

theorem ghRequest_asleep {s : State} (ha : s.gh.asleep = true) (codes : Byte → Bool) : ghRequest s codes = none := by
  simp [ghRequest, ha]

section Skips

variable {s : State}

theorem measure_skips (h : ghRequest s (· == 1) = none) : execMeasure s = .next s := by rw [execMeasure, h]; rfl

theorem bootStatus_skips (h : ghRequest s (· == 2) = none) : execBootStatus s = .next s := by rw [execBootStatus, h]; rfl

theorem fuseReread_skips (h : ghRequest s (· == 3) = none) : execFuseReread s = .next s := by rw [execFuseReread, h]; rfl

theorem signedMeasure_skips (h : ghRequest s (· == 4) = none) (present : Bool) : execSignedMeasure present s = .next s := by
  rw [execSignedMeasure, h]; rfl

theorem unknownRequest_skips (h : ghRequest s (fun c => c == 0 || decide (5 ≤ c.toNat)) = none) : execUnknownRequest s = .next s := by
  rw [execUnknownRequest, h]; rfl

theorem gatehouseReply_asleep (ha : s.gh.asleep = true) : execGatehouseReply s = .next s := by simp [execGatehouseReply, ha, skip]

/-- Asleep, the Gatehouse takes no request and sends no reply (R424). -/
theorem asleep_skips (ha : s.gh.asleep = true) (present : Bool) :
    ∀ c ∈ [Instr.measure, .bootStatus, .fuseReread, .signedMeasure present, .unknownRequest, .gatehouseReply], exec c s = .next s := by
  have untaken := ghRequest_asleep ha
  simp only [List.forall_mem_cons]
  exact ⟨measure_skips (untaken _), bootStatus_skips (untaken _), fuseReread_skips (untaken _), signedMeasure_skips (untaken _) present,
    unknownRequest_skips (untaken _), gatehouseReply_asleep ha, List.forall_mem_nil _⟩

end Skips

/-! ## What a measurement request leaves (R436, R437) -/

/-- The mailbox is empty, the report stands in its registers without a signature, and the request goes on as q. -/
def Reported (s t : State) (nonce : W32) (q : GhReq) : Prop :=
  kept s t ∧ t.gh.req = some q ∧ (box t 0).word = none ∧ t.meas.sigLen = 0 ∧ t.meas.slots = s.meas.slots ∧
    t.meas.report = fileOf 0 (words64 (words32 108 (reportBytes s nonce)))

theorem box_takeRequest (s : State) (q : GhReq) : (box (takeRequest s q) 0).word = none := by
  have taken : box (takeRequest s q) 0 = box (modBox s 0 (fun x => { x with word := none })) 0 := rfl
  rw [taken, box_modBox_same]

/-- How a request with its report goes on: a reply, or the wait for a signature over SHA-384 of the report (R437). -/
def afterReport (s : State) (w : W64) (sign present : Bool) : GhReq :=
  if !sign then .reply w 0 s.aon.bootCount
  else if present then .signing w (sha384 (reportBytes s (w.extractLsb' 32 32))) 0
  else .reply w 3 s.aon.bootCount

theorem takeReport_req (s : State) (w : W64) (sign present : Bool) :
    (takeReport s w sign present).gh.req = some (afterReport s w sign present) := rfl

theorem takeReport_meas (s : State) (w : W64) (sign present : Bool) : (takeReport s w sign present).meas =
    { s.meas with report := fileOf 0 (words64 (words32 108 (reportBytes s (w.extractLsb' 32 32)))), sigLen := 0 } := rfl

theorem takeReport_lod (s : State) (w : W64) (sign present : Bool) : (takeReport s w sign present).lod = s.lod := by
  unfold takeReport snapshot; rfl

theorem reportBytes_takeRequest (s : State) (q : GhReq) (nonce : W32) : reportBytes (takeRequest s q) nonce = reportBytes s nonce := rfl

theorem afterReport_takeRequest (s : State) (q : GhReq) (w : W64) (sign present : Bool) :
    afterReport (takeRequest s q) w sign present = afterReport s w sign present := by
  rw [afterReport, reportBytes_takeRequest]; rfl

theorem measureRequest_waits {s : State} (hq : s.meas.queue ≠ []) (w : W64) (sign present : Bool) :
    measureRequest s w sign present = takeRequest s (.measure w sign present) :=
  if_neg fun empty => hq (List.isEmpty_iff.mp empty)

theorem measureRequest_reports {s : State} (hq : s.meas.queue = []) (w : W64) (sign present : Bool) :
    measureRequest s w sign present = takeReport (takeRequest s (.measure w sign present)) w sign present :=
  if_pos (List.isEmpty_iff.mpr hq)

theorem measureRequest_reported {s : State} (hq : s.meas.queue = []) (w : W64) (sign present : Bool) :
    Reported s (after (measureRequest s w sign present)) (w.extractLsb' 32 32) (afterReport s w sign present) := by
  refine ⟨kept_after (measureRequest_store _ _ _ _), ?_⟩
  rw [measureRequest_reports hq, after_gh, after_meas, box_after, box, takeReport_req, takeReport_meas, takeReport_lod, ← box,
    afterReport_takeRequest, reportBytes_takeRequest]
  exact ⟨rfl, box_takeRequest s _, rfl, rfl, rfl⟩

/-- The Gatehouse has taken the request and reads the fuses once more (R467). -/
def rereading (s : State) (w : W64) : State :=
  { takeRequest s (.fuses w) with fuse := { s.fuse with words := [], req := some 0, ticks := 0, reread := true } }

/-! ## Each request by its CODE (R337) -/

section Request

variable {s : State} {w : W64} {g : Bool} (hl : live s = true) (hr : s.gh.req = none) (ha : s.gh.asleep = false)
  (hb : (box s 0).word = some (w, g))
include hl hr ha hb

theorem ghRequest_eq (codes : Byte → Bool) : ghRequest s codes = if codes (w.extractLsb' 0 8) then some w else none := by
  simp [ghRequest, hl, hr, ha, hb]

theorem bootStatus_replies (hc : w.extractLsb' 0 8 = 2) :
    execBootStatus s = .next (after (takeRequest s (.reply w 0 (bootStat s)))) := by
  simp [execBootStatus, ghRequest_eq hl hr ha hb, hc, finish_eq_after]

theorem measure_takes (hc : w.extractLsb' 0 8 = 1) : execMeasure s = .next (after (measureRequest s w false false)) := by
  simp [execMeasure, ghRequest_eq hl hr ha hb, hc, finish_eq_after]

theorem signedMeasure_takes (hc : w.extractLsb' 0 8 = 4) (present : Bool) : execSignedMeasure present s =
    .next (after (measureRequest s w true (present && s.gh.stage == .running))) := by
  simp [execSignedMeasure, ghRequest_eq hl hr ha hb, hc, finish_eq_after]

theorem fuseReread_refused (hc : w.extractLsb' 0 8 = 3) (hf : s.frz.asserted = false) :
    execFuseReread s = .next (after (takeRequest s (.reply w 2 0))) := by
  simp [execFuseReread, ghRequest_eq hl hr ha hb, hc, hf, finish_eq_after]

theorem fuseReread_waits (hc : w.extractLsb' 0 8 = 3) (hf : s.frz.asserted = true)
    (hs : s.fuse.req ≠ none ∨ s.gh.stage = .reset ∨ s.gh.stage = .fuses) : execFuseReread s = .next s := by
  have busy : (s.fuse.req.isSome || s.gh.stage == .reset || s.gh.stage == .fuses) = true := by
    simpa [Option.isSome_iff_ne_none, or_assoc] using hs
  simp [execFuseReread, ghRequest_eq hl hr ha hb, hc, hf, busy, skip]

theorem fuseReread_starts (hc : w.extractLsb' 0 8 = 3) (hf : s.frz.asserted = true) (hn : s.fuse.req = none)
    (hs : s.gh.stage ≠ .reset) (hu : s.gh.stage ≠ .fuses) :
    ∃ t, execFuseReread s = .next t ∧ kept s t ∧ t.gh.req = some (.fuses w) ∧ t.fuse.reread = true ∧ t.fuse.req = some 0 ∧
      t.fuse.words = [] ∧ (box t 0).word = none := by
  have starts : execFuseReread s = .next (after (rereading s w)) := by
    simp [execFuseReread, ghRequest_eq hl hr ha hb, hc, hf, hn, hs, hu, finish_eq_after]; rfl
  refine ⟨_, starts, kept_after (takeRequest_store s (.fuses w)), ?_⟩
  simp only [after_gh, after_fuse, box_after]
  exact ⟨rfl, rfl, rfl, rfl, box_takeRequest s (.fuses w)⟩

theorem unknownRequest_replies (hc : w.extractLsb' 0 8 = 0 ∨ 5 ≤ (w.extractLsb' 0 8).toNat) :
    execUnknownRequest s = .next (after (takeRequest s (.reply w 1 0))) := by
  have unknown : (w.extractLsb' 0 8 == 0 || decide (5 ≤ (w.extractLsb' 0 8).toNat)) = true := by simpa using hc
  simp only [execUnknownRequest, ghRequest_eq hl hr ha hb, unknown, if_true, finish_eq_after]

/-! ## A command leaves a request of another CODE -/

theorem ghRequest_other {codes : Byte → Bool} (hc : codes (w.extractLsb' 0 8) = false) : ghRequest s codes = none := by
  rw [ghRequest_eq hl hr ha hb, hc]; rfl

theorem unknownRequest_known (h1 : 1 ≤ (w.extractLsb' 0 8).toNat) (h4 : (w.extractLsb' 0 8).toNat ≤ 4) :
    execUnknownRequest s = .next s := by
  have nonzero : w.extractLsb' 0 8 ≠ 0 := fun zero => absurd h1 (by rw [zero]; decide)
  refine unknownRequest_skips (ghRequest_other hl hr ha hb ?_)
  rw [beq_false_of_ne nonzero, decide_eq_false (by omega)]
  rfl

end Request

/-! ## GATEHOUSE_REPLY (R337, R338) -/

theorem word_of_room {s : State} {x : Mailbox} (hf : boxFull s x = false) (hr : x.recv ≠ 2) : x.word = none := by
  rw [boxFull, if_neg hr] at hf
  simpa using hf

theorem holdWord_req (s : State) (n : Fin 64) (word : W64) (fromGh : Bool) : (holdWord s n word fromGh).gh.req = s.gh.req := by
  unfold holdWord; dsimp only; split <;> rfl

/-- No request is in service. -/
def served (s : State) : State := { s with gh := { s.gh with req := none } }

section Reply

variable {s : State} {w : W64} {st : Byte} {res : W32} (hl : live s = true) (ha : s.gh.asleep = false)
  (hr : s.gh.req = some (.reply w st res))
include hl ha hr

theorem gatehouseReply_waits (hw : boxFull s (box s (replyBox s w)) = true ∨ (closed s 0 = true ∧ 32 ≤ (replyBox s w).val)) :
    execGatehouseReply s = .next s := by
  have waits : (boxFull s (box s (replyBox s w)) || (closed s 0 && decide (32 ≤ (replyBox s w).val))) = true := by simpa using hw
  simp [execGatehouseReply, hl, ha, hr, waits, skip]

variable (hf : boxFull s (box s (replyBox s w)) = false) (hc : closed s 0 = false ∨ (replyBox s w).val < 32)
include hf hc

theorem gatehouseReply_sends : execGatehouseReply s = .next (after (sendBox (served s) (replyBox s w) (replyWord w st res)
    (if (box s (replyBox s w)).recv = 2 then .gatehouse else .port .gh)).1) := by
  have room : (boxFull s (box s (replyBox s w)) || (closed s 0 && decide (32 ≤ (replyBox s w).val))) = false := by
    rcases hc with intake | west
    · simp [hf, intake]
    · simp [hf, Nat.not_le.mpr west]
  have awake : (!live s || s.gh.asleep) = false := by simp [hl, ha]
  simp only [execGatehouseReply, awake, hr, room, finish_eq_after, Bool.false_eq_true, if_false]
  split
  · rw [if_pos ‹_›]; rfl
  · rw [if_neg ‹_›]; rfl

theorem gatehouseReply_word (hd : (box s (replyBox s w)).recv ≠ 2) : ∃ t, execGatehouseReply s = .next t ∧ kept s t ∧
    t.gh.req = none ∧ (box t (replyBox s w)).word = some (replyWord w st res, true) := by
  have sends := gatehouseReply_sends hl ha hr hf hc
  rw [if_neg hd] at sends
  have sent := sendBox_word (s := served s) (word_of_room hf hd) hd (replyWord w st res) (.port .gh)
  refine ⟨_, sends, kept_after (sendBox_store (served s) _ _ _), ?_⟩
  rw [sent, after_gh, gh_of_lodgeAndGatehouse (wakeAll_lodgeAndGatehouse _ _), holdWord_req]
  refine ⟨rfl, ?_⟩
  rw [box_after, box, lod_of_lodgeAndGatehouse (wakeAll_lodgeAndGatehouse _ _), holdWord_boxes, vget_vmod_same]
  rfl

end Reply

/-! ## The signature's registers (R437, R438, R450) -/

/-- Register i holds words 2 i and 2 i + 1. -/
theorem words64_getD (l : List W32) (i : Nat) (h : 2 * i + 1 < l.length) :
    (words64 l).getD i 0 = l.getD (2 * i + 1) 0 ++ l.getD (2 * i) 0 := by
  induction l using words64.induct generalizing i with
  | case1 a b t ih =>
    cases i with
    | zero => rfl
    | succ i =>
      have rest := ih i (by simp only [List.length_cons] at h; omega)
      simpa [words64, Nat.mul_succ] using rest
  | case2 l short =>
    match l, short with
    | [], _ => simp at h
    | [_], _ => simp at h
    | a :: b :: t, short => exact absurd rfl (short a b t)

/-- The signature registers that a response of these words leaves. -/
def signature (sig : Vector W64 16) (ws : List W32) : Vector W64 16 :=
  vmap (fun i d => if 2 * i.val < ws.length then (if 2 * i.val + 1 < ws.length then (words64 (ws ++ [0])).getD i.val 0
    else d.extractLsb' 32 32 ++ wd ws (2 * i.val)) else d) sig

theorem signature_word (sig : Vector W64 16) {ws : List W32} (hn : ws.length ≤ 32) {j : Nat} (hj : j < ws.length) :
    (vget (signature sig ws) (fin 16 (j / 2))).extractLsb' (32 * (j % 2)) 32 = ws.getD j 0 := by
  have place : (fin 16 (j / 2)).val = j / 2 := Nat.mod_eq_of_lt (by omega)
  have first : 2 * (j / 2) < ws.length := by omega
  simp only [signature, vget_vmap, place, if_pos first]
  have inside : ∀ k, k < ws.length → (ws ++ [0]).getD k 0 = ws.getD k 0 := fun k hk => List.getD_append _ _ _ _ hk
  rcases Nat.mod_two_eq_zero_or_one j with even | odd
  · have double : 2 * (j / 2) = j := by omega
    rw [even, double]
    split
    next second =>
      rw [words64_getD _ _ (by simp; omega), double]
      exact BitVec.extractLsb'_append_eq_right.trans (inside j hj)
    · exact BitVec.extractLsb'_append_eq_right
  · have double : 2 * (j / 2) + 1 = j := by omega
    rw [odd, double, if_pos hj, words64_getD _ _ (by simp; omega), double]
    exact BitVec.extractLsb'_append_eq_left.trans (inside j hj)

/-! ## SIGNING_RESPONSE and SIGNING_TIMEOUT (R437) -/

section Signing

variable {s : State} {w : W64} {dg : BitVec 384} {k : Nat} {ws : List W32} {err : Bool} (hl : live s = true)
  (hr : s.gh.req = some (.signing w dg k))

theorem signingResponse_nothing (hw : ws = []) : execSigningResponse ws err s = .next s := by simp [execSigningResponse, hw, skip]

include hl hr

theorem signingResponse_fails (hw : ws ≠ []) (he : err = true ∨ 32 < ws.length) : execSigningResponse ws err s = .next (after
    { s with gh := { s.gh with req := some (.reply w 2 s.aon.bootCount), extIrq := true } }) := by
  simp [execSigningResponse, hl, hr, hw, he, finish_eq_after]

theorem signingResponse_signs (hw : ws ≠ []) (he : err = false) (hn : ws.length ≤ 32) : execSigningResponse ws err s = .next (after
    { s with meas := { s.meas with sig := signature s.meas.sig ws, sigLen := BitVec.ofNat 8 (4 * ws.length) },
             gh := { s.gh with req := some (.reply w 0 s.aon.bootCount), extIrq := true } }) := by
  simp [execSigningResponse, hl, hr, hw, he, Nat.not_lt.mpr hn, finish_eq_after, signature]

theorem signingResponse_fills (hw : ws ≠ []) (he : err = false) (hn : ws.length ≤ 32) :
    ∃ t, execSigningResponse ws err s = .next t ∧ kept s t ∧ t.gh.req = some (.reply w 0 s.aon.bootCount) ∧ t.gh.extIrq = true ∧
      t.meas.sigLen.toNat = 4 * ws.length ∧
      ∀ j, j < ws.length → (vget t.meas.sig (fin 16 (j / 2))).extractLsb' (32 * (j % 2)) 32 = ws.getD j 0 := by
  refine ⟨_, signingResponse_signs hl hr hw he hn, kept_after rfl, ?_⟩
  simp only [after_gh, after_meas, BitVec.toNat_ofNat, true_and]
  exact ⟨Nat.mod_eq_of_lt (by omega), fun j hj => signature_word s.meas.sig hn hj⟩

theorem signingTimeout_early (hk : k < 100000) : execSigningTimeout s = .next s := by
  simp [execSigningTimeout, hl, hr, hk, skip]

theorem signingTimeout_due (hk : 100000 ≤ k) : execSigningTimeout s = .next (after
    { s with gh := { s.gh with req := some (.reply w 3 s.aon.bootCount) } }) := by
  simp [execSigningTimeout, hl, hr, Nat.not_lt.mpr hk, finish_eq_after]

end Signing

/-! ## MEASURE_EXTEND (R24, R433, R449) -/

section Extend

variable {s : State} {port : RegPort} {slot : Fin 8} (hp : portReady s port = true)
include hp

theorem measureExtend_refused (hr : isMgmt port = false ∨ slot.val < 4) :
    execMeasureExtend port slot s = .next (after (busErr s port)) := by
  have refused : (!isMgmt port || decide (slot.val < 4)) = true := by simpa using hr
  simp only [execMeasureExtend, hp, refused, finish_eq_after, Bool.not_true, Bool.false_eq_true, if_false, if_true]

theorem measureExtend_queues (hm : isMgmt port = true) (hs : 4 ≤ slot.val) : execMeasureExtend port slot s = .next (after (ack
    { s with meas := { s.meas with queue :=
      s.meas.queue ++ [⟨slot, wordOf 384 (s.meas.extData.toList.flatMap (fun x => bytesOf x 8))⟩] } } port)) := by
  simp [execMeasureExtend, hp, hm, Nat.not_lt.mpr hs, finish_eq_after]

end Extend

/-! ## The statement -/

/-- Settles O51: one lemma for each request, for each answer to it, and for an extend by software. -/
theorem gatehouseServesRequests : Obligations.GatehouseServesRequests := by
  unfold Obligations.GatehouseServesRequests
  intro s w g present err port slot ws
  refine ⟨fun hl hr ha hb => ?request, fun ha => asleep_skips ha present, fun st res hl ha hr => ?reply,
    fun dg k hl hr => ⟨signingResponse_nothing, signingResponse_fails hl hr, signingResponse_fills hl hr, signingTimeout_early hl hr,
      signingTimeout_due hl hr⟩, fun hp => ⟨measureExtend_refused hp, measureExtend_queues hp⟩⟩
  case request =>
    have other : ∀ {codes : Byte → Bool}, codes (w.extractLsb' 0 8) = false → ghRequest s codes = none := ghRequest_other hl hr ha hb
    refine ⟨bootStatus_replies hl hr ha hb, fun hc hq => ⟨_, measure_takes hl hr ha hb hc, measureRequest_reported hq w false false⟩,
      fun hc hq => ?_, fun hc hq => ⟨_, signedMeasure_takes hl hr ha hb hc present, measureRequest_reported hq w true _⟩,
      fun hc hq => ?_, fuseReread_refused hl hr ha hb, fuseReread_starts hl hr ha hb, fuseReread_waits hl hr ha hb,
      unknownRequest_replies hl hr ha hb, fun hc => measure_skips (other (beq_false_of_ne hc)),
      fun hc => bootStatus_skips (other (beq_false_of_ne hc)), fun hc => fuseReread_skips (other (beq_false_of_ne hc)),
      fun hc => signedMeasure_skips (other (beq_false_of_ne hc)) present, unknownRequest_known hl hr ha hb⟩
    · rw [exec_measure, measure_takes hl hr ha hb hc, measureRequest_waits hq]
    · rw [exec_signedMeasure, signedMeasure_takes hl hr ha hb hc, measureRequest_waits hq]
  case reply =>
    refine ⟨gatehouseReply_waits hl ha hr, fun hf hc => ⟨fun hd => ?_, gatehouseReply_word hl ha hr hf hc⟩⟩
    rw [exec_gatehouseReply, gatehouseReply_sends hl ha hr hf hc, if_pos hd]
    rfl

end Sys2Proof.Machine
end

section
/-! PROOF. The measurement slots and freeze: what the shared operations, the ports, the arbiters and the Bandstand leave of them
(R422, R424, R441, R461). A lemma of this file and the next says of one operation that it leaves both; the list that its proof names
are the operations it calls. -/

namespace Sys2Proof.Machine

/-- The measurement slots hold v, and freeze stands where fz says so. -/
def Stands (v : Vector (BitVec 384) 8) (fz : Prop) (s : State) : Prop := s.meas.slots = v ∧ (fz → s.frz.asserted = true)

variable {v : Vector (BitVec 384) 8} {fz : Prop} {s : State}

theorem Stands.of_eq (h : Stands v fz s) {t : State} (hm : t.meas = s.meas) (hz : t.frz = s.frz) : Stands v fz t := by
  rw [Stands, hm, hz]; exact h

theorem foldl_stands {α : Type} {f : State → α → State} (l : List α) (h : Stands v fz s) (hf : ∀ s a, Stands v fz s → Stands v fz (f s a)) :
    Stands v fz (l.foldl f s) := by
  induction l generalizing s with
  | nil => exact h
  | cons a l ih => exact ih (hf s a h)

/-! ### Machine/Ops -/

theorem modRg_stands (h : Stands v fz s) (r f) : Stands v fz (modRg s r f) := h

theorem modBlk_stands (h : Stands v fz s) (r b f) : Stands v fz (modBlk s r b f) := h

theorem modEp_stands (h : Stands v fz s) (p f) : Stands v fz (modEp s p f) := h

theorem modEv_stands (h : Stands v fz s) (r f) : Stands v fz (modEv s r f) := h

theorem modPw_stands (h : Stands v fz s) (r f) : Stands v fz (modPw s r f) := h

theorem modDir_stands (h : Stands v fz s) (d f) : Stands v fz (modDir s d f) := h

theorem modRp_stands (h : Stands v fz s) (k f) : Stands v fz (modRp s k f) := h

theorem modStream_stands (h : Stands v fz s) (ctx f) : Stands v fz (modStream s ctx f) := h

theorem modBar_stands (h : Stands v fz s) (b f) : Stands v fz (modBar s b f) := h

theorem modBox_stands (h : Stands v fz s) (n f) : Stands v fz (modBox s n f) := h

theorem step1_stands (h : Stands v fz s) : Stands v fz (step1 s) := h

theorem wrapFlag_stands (h : Stands v fz s) (w) : Stands v fz (wrapFlag s w) := by
  unfold wrapFlag; grind [Stands]

theorem countM_stands (h : Stands v fz s) (y a n) : Stands v fz (countM s y a n) := by
  unfold countM; grind [Stands, wrapFlag_stands]

theorem countMs_stands (h : Stands v fz s) (sels n) : Stands v fz (countMs s sels n) := by
  unfold countMs; grind [Stands, wrapFlag_stands]

theorem countR_stands (h : Stands v fz s) (r y a n) : Stands v fz (countR s r y a n) := by
  unfold countR; grind [modRg_stands, wrapFlag_stands]

theorem countBs_stands (h : Stands v fz s) (r b sels n) : Stands v fz (countBs s r b sels n) := by
  unfold countBs; grind [modRg_stands, wrapFlag_stands]

theorem countB_stands (h : Stands v fz s) (r b y a n) : Stands v fz (countB s r b y a n) := by
  unfold countB; grind [countBs_stands]

theorem assertFreeze_stands (h : Stands v fz s) (c) : Stands v fz (assertFreeze s c) := by
  unfold assertFreeze; grind [Stands]

theorem recordFault_stands (h : Stands v fz s) (rec) : Stands v fz (recordFault s rec) := by
  unfold recordFault; grind [Stands, assertFreeze_stands]

theorem raise_stands (h : Stands v fz s) (half rec) : Stands v fz (raise s half rec) := by
  unfold raise; grind [Stands, recordFault_stands]

theorem blockFault_stands (h : Stands v fz s) (r b code level cell detail) : Stands v fz (blockFault s r b code level cell detail) := by
  unfold blockFault; grind [raise_stands]

theorem regionFault_stands (h : Stands v fz s) (r code detail) : Stands v fz (regionFault s r code detail) := by
  unfold regionFault; grind [raise_stands]

theorem halfFault_stands (h : Stands v fz s) (half code unit detail) : Stands v fz (halfFault s half code unit detail) := by
  unfold halfFault; grind [raise_stands]

theorem wholeFault_stands (h : Stands v fz s) (code detail) : Stands v fz (wholeFault s code detail) := by
  unfold wholeFault; grind [recordFault_stands]

theorem writeBeat_stands (h : Stands v fz s) (r b cell row data strb) : Stands v fz (writeBeat s r b cell row data strb) := by
  unfold writeBeat; grind [Stands]

theorem basinPut_stands (h : Stands v fz s) (r b j bs) : Stands v fz (basinPut s r b j bs) := by
  unfold basinPut; grind [Stands]

theorem basinZero_stands (h : Stands v fz s) (r b j n) : Stands v fz (basinZero s r b j n) := by
  unfold basinZero; grind [Stands]

theorem basinZeroRegion_stands (h : Stands v fz s) (r) : Stands v fz (basinZeroRegion s r) := by
  unfold basinZeroRegion; grind [Stands]

theorem memZeroRegion_stands (h : Stands v fz s) (r) : Stands v fz (memZeroRegion s r) := by
  unfold memZeroRegion; grind [Stands]

theorem modRport_stands (h : Stands v fz s) (p f) : Stands v fz (modRport s p f) := by
  unfold modRport; grind [Stands]

theorem reply_stands (h : Stands v fz s) (p d) : Stands v fz (reply s p d) := by
  unfold reply; grind [modRport_stands]

theorem ack_stands (h : Stands v fz s) (p) : Stands v fz (ack s p) := by
  unfold ack; grind [reply_stands]

theorem busErr_stands (h : Stands v fz s) (p) : Stands v fz (busErr s p) := by
  unfold busErr; grind [modRport_stands]

theorem holdAcc_stands (h : Stands v fz s) (p a) : Stands v fz (holdAcc s p a) := by
  unfold holdAcc; grind [modRport_stands]

theorem wideWrite_stands (h : Stands v fz s) (p d) : Stands v fz (wideWrite s p d) := by
  unfold wideWrite; grind [modRport_stands]

theorem wideRead_stands (h : Stands v fz s) (p) : Stands v fz (wideRead s p) := by
  unfold wideRead; grind [modRport_stands]

/-! ### Machine/Seam -/

theorem sendLink_stands (h : Stands v fz s) (half g f) : Stands v fz (sendLink s half g f) := h

theorem sendPkt_stands (h : Stands v fz s) (half p) : Stands v fz (sendPkt s half p) := h

theorem sendCtl_stands (h : Stands v fz s) (half m) : Stands v fz (sendCtl s half m) := h

theorem rxPop_stands (h : Stands v fz s) (d p) : Stands v fz (rxPop s d p) := h

theorem recordSpare_stands (h : Stands v fz s) (d g i u) : Stands v fz (recordSpare s d g i u) := h

theorem fbFault_stands (h : Stands v fz s) (d code detail) : Stands v fz (fbFault s d code detail) := by
  unfold fbFault; grind [halfFault_stands]

theorem linkFault_stands (h : Stands v fz s) (d q g k) : Stands v fz (linkFault s d q g k) := by
  unfold linkFault; grind [fbFault_stands, modDir_stands]

theorem startReplay_stands (h : Stands v fz s) (d) : Stands v fz (startReplay s d) := by
  unfold startReplay; grind [countM_stands, linkFault_stands, modDir_stands]

theorem train_stands (h : Stands v fz s) (d) : Stands v fz (train s d) := h

/-! ### Machine/Tags -/

theorem candidate_stands (h : Stands v fz s) : Stands v fz (candidate s).1 := h

theorem putTag_stands (h : Stands v fz s) (y) : Stands v fz (putTag s y) := by
  unfold putTag; grind [Stands]

theorem markTag_stands (h : Stands v fz s) (tag k) : Stands v fz (markTag s tag k) := by
  unfold markTag; grind [Stands]

theorem markRows_stands (h : Stands v fz s) (rows) : Stands v fz (markRows s rows) := by
  unfold markRows; grind [foldl_stands, markTag_stands]

/-! ### Machine/Wake -/

theorem modStager_stands (h : Stands v fz s) (half f) : Stands v fz (modStager s half f) := h

theorem grantWake_stands (h : Stands v fz s) (r due) {t : State} (e : grantWake s r due = some t) : Stands v fz t := by
  unfold grantWake at e; grind [Stands, modPw_stands, modStager_stands]

theorem grantBetween_stands (h : Stands v fz s) (r) {t : State} (e : grantBetween s r = some t) : Stands v fz t := by
  unfold grantBetween at e; grind [Stands, countM_stands, grantWake_stands, modStager_stands]

theorem wakeReq_stands (h : Stands v fz s) (r) : Stands v fz (wakeReq s r) := by
  unfold wakeReq
  extract_lets p u u'
  have asked : Stands v fz u := by unfold u; split; exacts [modPw_stands h _ _, h]
  have pending : Stands v fz u' := modPw_stands asked _ _
  clear_value u u'
  split
  · exact modPw_stands asked _ _
  · split
    · exact asked
    · split
      · split; exacts [grantBetween_stands pending _ ‹_›, pending]
      · exact pending

theorem settle_stands (h : Stands v fz s) : Stands v fz (settle s) := by
  unfold settle; grind [Stands]

/-! ### Machine/Path -/

theorem modReq_stands (h : Stands v fz s) (p seq f) : Stands v fz (modReq s p seq f) := h

theorem issueWrite_stands (h : Stands v fz s) (p seq sc) : Stands v fz (issueWrite s p seq sc) := h

theorem retireWrite_stands (h : Stands v fz s) (p seq) : Stands v fz (retireWrite s p seq) := by
  unfold retireWrite; grind [modDir_stands, modEp_stands, sendPkt_stands]

theorem modTile_stands (h : Stands v fz s) (k uid f) : Stands v fz (modTile s k uid f) := h

theorem wakeAll_stands (h : Stands v fz s) (m) : Stands v fz (wakeAll s m) := by
  unfold wakeAll; grind [foldl_stands, sendCtl_stands, wakeReq_stands]

theorem enterRegion_stands (h : Stands v fz s) (via src pc) : Stands v fz (enterRegion s via src pc) := by
  unfold enterRegion; grind [modRg_stands, wakeReq_stands]

theorem routePiece_stands (h : Stands v fz s) (pc addr) : Stands v fz (routePiece s pc addr) := by
  unfold routePiece; grind [enterRegion_stands, sendPkt_stands]

theorem routeBeats_stands (h : Stands v fz s) (src op hp bs) : Stands v fz (routeBeats s src op hp bs) := by
  unfold routeBeats; grind [foldl_stands, routePiece_stands]

theorem routeOne_stands (h : Stands v fz s) (src a data strb) : Stands v fz (routeOne s src a data strb) := by
  unfold routeOne; grind [routeBeats_stands]

theorem forwardReq_stands (h : Stands v fz s) (p seq) : Stands v fz (forwardReq s p seq) := by
  unfold forwardReq; grind [foldl_stands, modReq_stands, routePiece_stands]

theorem launchGather_stands (h : Stands v fz s) (r g) : Stands v fz (launchGather s r g) := by
  unfold launchGather; grind [foldl_stands, modReq_stands, routeBeats_stands]

theorem pumpReq_stands (h : Stands v fz s) (p seq) : Stands v fz (pumpReq s p seq) := by
  unfold pumpReq; grind [forwardReq_stands, launchGather_stands]

theorem pumpPort_stands (h : Stands v fz s) (p) : Stands v fz (pumpPort s p) := by
  unfold pumpPort; grind [foldl_stands, pumpReq_stands]

theorem closeReq_stands (h : Stands v fz s) (p y) : Stands v fz (closeReq s p y) := by
  unfold closeReq; grind [modReq_stands, retireWrite_stands]

theorem setRes_stands (h : Stands v fz s) (p seq first rs) : Stands v fz (setRes s p seq first rs) := by
  unfold setRes; grind [closeReq_stands, modReq_stands]

theorem unhold_stands (h : Stands v fz s) (p y) : Stands v fz (unhold s p y) := by
  unfold unhold; grind [Stands]

theorem tagRequest_stands (h : Stands v fz s) (p y ended) : Stands v fz (tagRequest s p y ended) := by
  unfold tagRequest; grind [putTag_stands]

theorem tagError_stands (h : Stands v fz s) (p seq code) : Stands v fz (tagError s p seq code) := by
  unfold tagError; grind [modReq_stands, tagRequest_stands]

theorem answerAll_stands (h : Stands v fz s) (p seq code) : Stands v fz (answerAll s p seq code) := by
  unfold answerAll; grind [closeReq_stands, modReq_stands, tagError_stands, unhold_stands]

theorem answerSignal_stands (h : Stands v fz s) (p seq code) : Stands v fz (answerSignal s p seq code) := by
  unfold answerSignal; grind [answerAll_stands, sendPkt_stands]

theorem pieceBack_stands (h : Stands v fz s) (src op first rs) : Stands v fz (pieceBack s src op first rs) := by
  unfold pieceBack
  split
  · exact setRes_stands h _ _ _ _
  · split
    · exact h
    · exact foldl_stands _ h fun s m hs => by split; exacts [setRes_stands hs _ _ _ _, sendPkt_stands hs _ _]
  · split
    · exact h
    · dsimp only
      split <;> exact h
  · dsimp only
    split <;> exact h
  · dsimp only
    split <;> exact h

theorem pieceDone_stands (h : Stands v fz s) (r p) : Stands v fz (pieceDone s r p) := by
  unfold pieceDone; grind [modRg_stands, pieceBack_stands, sendPkt_stands]

theorem beatDone_stands (h : Stands v fz s) (r uid i performed x) : Stands v fz (beatDone s r uid i performed x) := by
  unfold beatDone; grind [modRg_stands, pieceDone_stands]

theorem putRow_stands (h : Stands v fz s) (r b cell row bs) : Stands v fz (putRow s r b cell row bs) := by
  unfold putRow; grind [Stands]

theorem cellAccess_stands (h : Stands v fz s) (r b op q) : Stands v fz (cellAccess s r b op q).1 := by
  unfold cellAccess; grind [modRg_stands, putRow_stands, writeBeat_stands]

theorem countPB_stands (h : Stands v fz s) (r b cell y) : Stands v fz (countPB s r b cell y) := by
  unfold countPB; grind [countBs_stands]

theorem stallBeat_stands (h : Stands v fz s) (r b q) : Stands v fz (stallBeat s r b q) := by
  unfold stallBeat; grind [countPB_stands, modBlk_stands]

theorem beatFault_stands (h : Stands v fz s) (r b q chk) {t : State} (e : beatFault s r b q chk = some t) : Stands v fz t := by
  unfold beatFault at e; grind [Stands, blockFault_stands]

theorem portB_stands (h : Stands v fz s) (r b q m chk) : Stands v fz (portB s r b q m chk).1 := by
  unfold portB
  extract_lets c x u u1
  have met : Stands v fz u1 := by
    unfold u1; split; exacts [countB_stands (modBlk_stands h _ _ _) _ _ _ _ _, modBlk_stands h _ _ _]
  clear_value u1
  have performed := cellAccess_stands met r b q.op q.beat
  grind [countPB_stands, countB_stands, beatFault_stands]

theorem markBegun_stands (h : Stands v fz s) (src) : Stands v fz (markBegun s src) := by
  unfold markBegun; grind [foldl_stands, modReq_stands]

theorem markStage_stands (h : Stands v fz s) (src k) : Stands v fz (markStage s src k) := by
  unfold markStage; grind [foldl_stands, modReq_stands]

theorem halfCycle_stands (h : Stands v fz s) (r) : Stands v fz (halfCycle s r) := by
  unfold halfCycle; grind [markStage_stands, modRg_stands]

theorem deliver_stands (h : Stands v fz s) (r b) : Stands v fz (deliver s r b) := by
  unfold deliver; grind [beatDone_stands, markStage_stands, modBlk_stands, modRg_stands]

theorem age_stands (h : Stands v fz s) (r b owner fresh) : Stands v fz (age s r b owner fresh) := h

theorem grantCycle_stands (h : Stands v fz s) (r b) : Stands v fz (grantCycle s r b).1 := by
  unfold grantCycle; grind [age_stands, countB_stands, modBlk_stands, modRg_stands]

theorem issueHead_stands (h : Stands v fz s) (r b k used m chk) : Stands v fz (issueHead s r b k used m chk) := by
  unfold issueHead; grind [age_stands, beatDone_stands, countB_stands, markBegun_stands, markStage_stands, modBlk_stands, portB_stands,
    stallBeat_stands]

theorem starveSources_stands (h : Stands v fz s) (r b turn) : Stands v fz (starveSources s r b turn) := by
  unfold starveSources; grind [modRg_stands]

theorem starveBlock_stands (h : Stands v fz s) (r b served) : Stands v fz (starveBlock s r b served) := by
  unfold starveBlock; grind [foldl_stands, modBlk_stands]

theorem blockCycle_stands (h : Stands v fz s) (r b m chk) : Stands v fz (blockCycle s r b m chk) := by
  have counted := starveSources_stands (halfCycle_stands h r) r b (xbarTurn (halfCycle s r) r b)
  have delivered := modBlk_stands (deliver_stands counted r b) r b (fun x => { x with evIssued := false })
  have granted := grantCycle_stands delivered r b
  unfold blockCycle
  grind [starveBlock_stands, issueHead_stands]

theorem packetPiece_stands (h : Stands v fz s) (p) : Stands v fz (packetPiece s p) := by
  unfold packetPiece; grind [enterRegion_stands]

theorem packetBack_stands (h : Stands v fz s) (p) : Stands v fz (packetBack s p) := by
  unfold packetBack; grind [pieceBack_stands]

/-! ### Machine/Arbiter -/

theorem slip_stands (h : Stands v fz s) (r b q) : Stands v fz (slip s r b q) := h

theorem issueSched_stands (h : Stands v fz s) (r b q m chk) : Stands v fz (issueSched s r b q m chk) := by
  unfold issueSched; grind [beatDone_stands, countB_stands, markBegun_stands, markStage_stands, modBlk_stands, portB_stands, slip_stands,
    stallBeat_stands]

theorem idleCells_stands (h : Stands v fz s) (r w) : Stands v fz (idleCells s r w) := by
  unfold idleCells; grind [foldl_stands, countPB_stands]

theorem serveSlot_stands (h : Stands v fz s) (r w m chk) : Stands v fz (serveSlot s r w m chk) := by
  unfold serveSlot; grind [idleCells_stands, issueSched_stands, slip_stands]

/-! ### Machine/Sync -/

theorem setSem_stands (h : Stands v fz s) (n u) : Stands v fz (setSem s n u) := h

theorem regWatch_stands (h : Stands v fz s) (o kind target n sync) {t : State} (e : regWatch s o kind target n sync = some t) : Stands v
  fz t := by
  unfold regWatch at e; grind [Stands]

theorem dropWatch_stands (h : Stands v fz s) (i) : Stands v fz (dropWatch s i) := h

theorem queueMsg_stands (h : Stands v fz s) (w m) : Stands v fz (queueMsg s w m) := by
  unfold queueMsg; grind [Stands, dropWatch_stands]

theorem drainPending_stands (h : Stands v fz s) : Stands v fz (drainPending s) := by
  unfold drainPending; grind [Stands, dropWatch_stands]

theorem tellRill_stands (h : Stands v fz s) (ctx) : Stands v fz (tellRill s ctx) := by
  unfold tellRill; grind [modStream_stands, sendCtl_stands]

theorem meetWatch_stands (h : Stands v fz s) (w) : Stands v fz (meetWatch s w) := by
  unfold meetWatch; grind [answerSignal_stands, dropWatch_stands, queueMsg_stands, tellRill_stands]

theorem testWatches_stands (h : Stands v fz s) (kinds target) : Stands v fz (testWatches s kinds target) := by
  unfold testWatches; grind [foldl_stands, meetWatch_stands]

theorem countErr_stands (h : Stands v fz s) : Stands v fz (countErr s) := h

theorem refuseOp_stands (h : Stands v fz s) (op) : Stands v fz (refuseOp s op) := by
  unfold refuseOp; grind [Stands, countErr_stands, countM_stands]

theorem flushStep_stands (h : Stands v fz s) (half) : Stands v fz (flushStep s half) := by
  unfold flushStep; grind [Stands, sendPkt_stands]

theorem flushSteps_stands (h : Stands v fz s) (x) : Stands v fz (flushSteps s x) := by
  unfold flushSteps
  induction (vget s.fb.steps x).length generalizing s with
  | zero => exact h
  | succ n ih => exact ih (flushStep_stands h x)

theorem startCloses_stands (h : Stands v fz s) (x m b uid) : Stands v fz (startCloses s x m b uid) := by
  have closed : Stands v fz ((idx 8).foldl (fun s r => if bit8 m r && halfOf r == x then
      wakeReq (modEv s r (fun e => { e with closes := e.closes ++ [⟨b, uid, .entry⟩] })) r else s) s) :=
    foldl_stands _ h fun s r hs => by split; exacts [wakeReq_stands (modEv_stands hs _ _) _, hs]
  exact flushSteps_stands (by exact closed) x

theorem syncSend_stands (h : Stands v fz s) (ws) : Stands v fz (syncSend s ws) := h

theorem releaseBar_stands (h : Stands v fz s) (b) : Stands v fz (releaseBar s b) := by
  unfold releaseBar
  extract_lets x u u1 uid bst u3 u4 u2
  have tested : Stands v fz u1 := testWatches_stands (modBar_stands h _ _) _ _
  have closed : Stands v fz u2 := by
    have booked : Stands v fz u3 := by simpa only [u3, Stands, modBar] using tested
    unfold u2
    clear_value u1 u3
    split; exacts [tested, sendCtl_stands (startCloses_stands booked _ _ _ _) _ _]
  clear_value u2
  split; exacts [syncSend_stands closed _, closed]

theorem macroDone_stands (h : Stands v fz s) (b) : Stands v fz (macroDone s b) := by
  unfold macroDone; grind [modBar_stands, syncSend_stands]

theorem releaseChip_stands (h : Stands v fz s) (b) : Stands v fz (releaseChip s b) := by
  unfold releaseChip; grind [macroDone_stands, releaseBar_stands]

theorem lookChip_stands (h : Stands v fz s) (b) : Stands v fz (lookChip s b) := by
  unfold lookChip; grind [releaseChip_stands]

theorem lookBar_stands (h : Stands v fz s) (b) : Stands v fz (lookBar s b) := by
  unfold lookBar; grind [lookChip_stands, macroDone_stands, releaseBar_stands]

theorem tellPair_stands (h : Stands v fz s) (n posted) : Stands v fz (tellPair s n posted) := by
  unfold tellPair; grind [sendCtl_stands]

theorem setPair_stands (h : Stands v fz s) (n w posted) : Stands v fz (setPair s n w posted) := by
  unfold setPair; grind [Stands, tellPair_stands, testWatches_stands]

theorem pairAdd_stands (h : Stands v fz s) (n producer k posted) {t : State} (e : pairAdd s n producer k posted = some t) : Stands v fz t
  := by
  unfold pairAdd at e; grind [setPair_stands]

theorem putSem_stands (h : Stands v fz s) (n u) : Stands v fz (putSem s n u) := by
  unfold putSem; grind [setSem_stands, testWatches_stands]

theorem waitOp_stands (h : Stands v fz s) (o kind target n) : Stands v fz (waitOp s o kind target n).1 := by
  unfold waitOp; grind [Stands, regWatch_stands]

theorem bstPerform_stands (h : Stands v fz s) (arr o n w) : Stands v fz (bstPerform s arr o n w).1 := by
  have arrived : ∀ b, Stands v fz (lookBar (modBar s b (fun x => countArr x arr)) b) := fun b => lookBar_stands (modBar_stands h _ _) _
  unfold bstPerform
  dsimp only
  split
  · exact refuseOp_stands h _
  · split <;> grind [Stands, pairAdd_stands, putSem_stands, refuseOp_stands, regWatch_stands, waitOp_stands]

theorem bstDo_stands (h : Stands v fz s) (arr o n w) : Stands v fz (bstDo s arr o n w).1 := by
  unfold bstDo; grind [bstPerform_stands, countM_stands]

theorem rillArrive_stands (h : Stands v fz s) (b k) : Stands v fz (rillArrive s b k) := by
  unfold rillArrive; grind [Stands, countErr_stands, lookBar_stands, modBar_stands]

theorem sweepReport_stands (h : Stands v fz s) (b uid r) : Stands v fz (sweepReport s b uid r) := by
  unfold sweepReport; grind [modBar_stands, testWatches_stands]

theorem pollStream_stands (h : Stands v fz s) (ctx) : Stands v fz (pollStream s ctx) := by
  unfold pollStream
  extract_lets x k ask bst
  have asked : ∀ met, Stands v fz (ask met s) := fun met => modStream_stands (modRp_stands h _ _) _ _
  clear_value ask bst
  split
  · exact h
  · split
    · exact h
    · split
      · exact h
      · grind [Stands, modStream_stands, sendCtl_stands, regWatch_stands]

theorem rillPoll_stands (h : Stands v fz s) : Stands v fz (rillPoll s) := by
  unfold rillPoll; grind [foldl_stands, pollStream_stands]

/-! ### Machine/Bells -/

theorem bellAct_stands (h : Stands v fz s) (ctx) : Stands v fz (bellAct s ctx) := by
  unfold bellAct; grind [modRp_stands, modStream_stands]

theorem ringStream_stands (h : Stands v fz s) (ctx) {t : State} (e : ringStream s ctx = some t) : Stands v fz t := by
  unfold ringStream at e; grind [bellAct_stands, sendCtl_stands]

theorem rejectSend_stands (h : Stands v fz s) : Stands v fz (rejectSend s) := h

theorem sendBox_stands (h : Stands v fz s) (n word from_) : Stands v fz (sendBox s n word from_).1 := by
  unfold sendBox
  dsimp only
  split
  · exact rejectSend_stands h
  · split
    · exact wakeAll_stands (routeOne_stands (by exact h) _ _ _ _) _
    · refine wakeAll_stands ?_ _
      split <;> exact h

theorem scopeCheck_stands (h : Stands v fz s) (p half) : Stands v fz (scopeCheck s p half) := by
  unfold scopeCheck; grind [Stands]

theorem freezeWatches_stands (h : Stands v fz s) : Stands v fz (freezeWatches s) := by
  unfold freezeWatches; grind [foldl_stands, answerSignal_stands, dropWatch_stands]

theorem signalEffect_stands (h : Stands v fz s) (p half) : Stands v fz (signalEffect s p half) := by
  unfold signalEffect; grind [answerSignal_stands, bstDo_stands, freezeWatches_stands, ringStream_stands, sendBox_stands]

theorem releaseSignal_stands (h : Stands v fz s) (p) : Stands v fz (releaseSignal s p) := by
  unfold releaseSignal; grind [modEp_stands, scopeCheck_stands, signalEffect_stands]

/-! ### Machine/Bandstand -/

theorem disarm_stands (h : Stands v fz s) (b) : Stands v fz (disarm s b) := by
  unfold disarm; grind [foldl_stands, answerSignal_stands, dropWatch_stands, modBar_stands]

theorem writeBar_stands (h : Stands v fz s) (b reg d) {t : State} (e : writeBar s b reg d = some t) : Stands v fz t := by
  unfold writeBar at e; grind [disarm_stands, lookBar_stands, modBar_stands]

theorem syncError_stands (h : Stands v fz s) : Stands v fz (syncError s) := h

theorem takeSync_stands (h : Stands v fz s) (w) : Stands v fz (takeSync s w) := by
  unfold takeSync; grind [lookChip_stands, modBar_stands, releaseChip_stands, syncError_stands]

theorem drainSync_stands (h : Stands v fz s) (n) : Stands v fz (drainSync n s) := by
  induction n generalizing s with
  | zero => exact h
  | succ n ih => unfold drainSync; split; exacts [ih (takeSync_stands (by exact h) _), h]

/-! ### Machine/Access -/

theorem waitWake_stands (h : Stands v fz s) (port r a) : Stands v fz (waitWake s port r a) := by
  unfold waitWake; grind [holdAcc_stands, wakeReq_stands]

theorem trWrite_stands (h : Stands v fz s) (port r d) : Stands v fz (trWrite s port r d) := by
  unfold trWrite; grind [ack_stands, busErr_stands, modEv_stands, modRg_stands, waitWake_stands, wakeReq_stands]

theorem trRead_stands (h : Stands v fz s) (port r bad) : Stands v fz (trRead s port r bad) := by
  unfold trRead; grind [busErr_stands, modEv_stands, regionFault_stands, reply_stands, waitWake_stands, wakeReq_stands]

theorem trDelay_stands (h : Stands v fz s) (port r d) : Stands v fz (trDelay s port r d) := by
  unfold trDelay; grind [ack_stands, busErr_stands, modEv_stands, modRg_stands, waitWake_stands, wakeReq_stands]

theorem basinClearSegs_stands (h : Stands v fz s) (r segs) : Stands v fz (basinClearSegs s r segs) := by
  unfold basinClearSegs; grind [foldl_stands, basinZero_stands]

theorem basinStep_stands (h : Stands v fz s) (r) : Stands v fz (basinStep s r) := h

theorem basinClr_stands (h : Stands v fz s) (port r d) : Stands v fz (basinClr s port r d) := by
  unfold basinClr; grind [ack_stands, basinClearSegs_stands, busErr_stands, holdAcc_stands, waitWake_stands, wakeReq_stands]

theorem basinClrRd_stands (h : Stands v fz s) (port r) : Stands v fz (basinClrRd s port r) := by
  unfold basinClrRd; grind [busErr_stands, holdAcc_stands, reply_stands, waitWake_stands, wakeReq_stands]

theorem basinWr_stands (h : Stands v fz s) (port r d) : Stands v fz (basinWr s port r d) := by
  unfold basinWr; grind [ack_stands, basinPut_stands, basinStep_stands, busErr_stands, holdAcc_stands, waitWake_stands, wakeReq_stands]

theorem basinRd_stands (h : Stands v fz s) (port r bad) : Stands v fz (basinRd s port r bad) := by
  unfold basinRd; grind [basinStep_stands, blockFault_stands, busErr_stands, holdAcc_stands, reply_stands, waitWake_stands, wakeReq_stands]

theorem sweepStep_stands (h : Stands v fz s) (r) : Stands v fz (sweepStep s r) := h

theorem sweepRdAcc_stands (h : Stands v fz s) (port r bad) : Stands v fz (sweepRdAcc s port r bad) := by
  unfold sweepRdAcc; grind [blockFault_stands, busErr_stands, reply_stands, sweepStep_stands, waitWake_stands, wakeReq_stands]

theorem retryAcc_stands (h : Stands v fz s) (r port) : Stands v fz (retryAcc s r port) := by
  unfold retryAcc; grind [basinClr_stands, basinClrRd_stands, basinRd_stands, basinWr_stands, sweepRdAcc_stands, trDelay_stands,
    trRead_stands, trWrite_stands]

theorem retryRegion_stands (h : Stands v fz s) (r) : Stands v fz (retryRegion s r) := by
  unfold retryRegion; grind [retryAcc_stands]

/-! ### Machine/Engine -/

theorem engineProtocol_stands (h : Stands v fz s) (p id) : Stands v fz (engineProtocol s p id) := by
  unfold engineProtocol; grind [raise_stands]

theorem frozenAll_stands (h : Stands v fz s) (p seq) : Stands v fz (frozenAll s p seq) := by
  unfold frozenAll; grind [answerAll_stands, modReq_stands]

theorem checkBeat_stands (h : Stands v fz s) (p y last n) : Stands v fz (checkBeat s p y last n) := by
  unfold checkBeat; grind [engineProtocol_stands, frozenAll_stands, modReq_stands]

theorem takeBeat_stands (h : Stands v fz s) (p y w) : Stands v fz (takeBeat s p y w) := by
  unfold takeBeat; grind [checkBeat_stands, modReq_stands]

theorem takeCarried_stands (h : Stands v fz s) (n p) : Stands v fz (takeCarried n s p) := by
  induction n generalizing s with
  | zero => exact h
  | succ n ih =>
    unfold takeCarried
    split
    · exact h
    · split; exacts [h, ih (takeBeat_stands h _ _ _)]

theorem passCarried_stands (h : Stands v fz s) (p) : Stands v fz (passCarried s p) := by
  unfold passCarried; grind [takeCarried_stands]

theorem takeReq_stands (h : Stands v fz s) (p op q w) : Stands v fz (takeReq s p op q w) := by
  unfold takeReq; grind [candidate_stands, checkBeat_stands, issueWrite_stands, modEp_stands]

theorem detachSlow_stands (h : Stands v fz s) (r g) : Stands v fz (detachSlow s r g) := by
  unfold detachSlow; grind [foldl_stands, modReq_stands, modRg_stands]

theorem closeGather_stands (h : Stands v fz s) (r inst) : Stands v fz (closeGather s r inst) := h

theorem startGather_stands (h : Stands v fz s) (r g) : Stands v fz (startGather s r g) := by
  unfold startGather; grind [launchGather_stands, modRg_stands]

theorem joinGather_stands (h : Stands v fz s) (p y) : Stands v fz (joinGather s p y) := by
  unfold joinGather; grind [modReq_stands, modRg_stands, startGather_stands]


end Sys2Proof.Machine
end

section
/-! PROOF. What the operations of the power states, the events, the Plan, the Gatehouse, Rill, the faults, the Footbridge and the lanes leave
of the measurement slots and of freeze (R422, R424, R441, R461). -/

namespace Sys2Proof.Machine

variable {v : Vector (BitVec 384) 8} {fz : Prop} {s : State}

/-! ### Machine/Governor -/

theorem modGov_stands (h : Stands v fz s) (half f) : Stands v fz (modGov s half f) := h

theorem addAct_stands (h : Stands v fz s) (r cost) : Stands v fz (addAct s r cost) := h

theorem limitAct_stands (h : Stands v fz s) (r) : Stands v fz (limitAct s r) := h

/-! ### Machine/Power -/

theorem askDown_stands (h : Stands v fz s) (r) : Stands v fz (askDown s r) := h

theorem turnStager_stands (h : Stands v fz s) (half) : Stands v fz (turnStager s half) := h

theorem grantFirsts_stands (h : Stands v fz s) (x l) : Stands v fz (grantFirsts s x l).1 := by
  induction l generalizing s with
  | nil => exact h
  | cons r l ih =>
    unfold grantFirsts
    split
    · exact h
    · split
      · exact h
      · split; exacts [ih (modStager_stands h _ _), h]

theorem bookRest_stands (h : Stands v fz s) (half f) : Stands v fz (bookRest s half f) := by
  unfold bookRest; grind [modPw_stands, modStager_stands]

theorem setReserve_stands (h : Stands v fz s) (half) : Stands v fz (setReserve s half) := h

theorem setAllowance_stands (h : Stands v fz s) (half) : Stands v fz (setAllowance s half) := h

theorem closeGathers_stands (h : Stands v fz s) (r) : Stands v fz (closeGathers s r) := by
  unfold closeGathers; grind [foldl_stands, startGather_stands]

theorem grantDown_stands (h : Stands v fz s) (r) : Stands v fz (grantDown s r) := by
  unfold grantDown; grind [closeGathers_stands, modPw_stands, modStager_stands]

theorem edgeHalf_stands (h : Stands v fz s) (half) : Stands v fz (edgeHalf s half) := by
  unfold edgeHalf; grind [Stands, foldl_stands, bookRest_stands, countM_stands, grantDown_stands, grantFirsts_stands, setAllowance_stands,
    setReserve_stands, turnStager_stands]

theorem tickPolicy_stands (h : Stands v fz s) (r) : Stands v fz (tickPolicy s r) := by
  unfold tickPolicy; grind [modPw_stands]

theorem tickCounts_stands (h : Stands v fz s) : Stands v fz (tickCounts s) := h

theorem clearRegion_stands (h : Stands v fz s) (r) : Stands v fz (clearRegion s r) := by
  unfold clearRegion; grind [basinZeroRegion_stands, memZeroRegion_stands, modRg_stands]

theorem enterOff_stands (h : Stands v fz s) (r) : Stands v fz (enterOff s r) := clearRegion_stands h r

theorem stepEffect_stands (h : Stands v fz s) (r b) : Stands v fz (stepEffect s r b) := by
  unfold stepEffect
  split
  · split; exacts [memZeroRegion_stands h r, clearRegion_stands h r]
  · exact basinZeroRegion_stands h r
  · exact modPw_stands h _ _
  · exact modPw_stands h _ _
  · exact enterOff_stands (modPw_stands h _ _) r
  all_goals exact h

theorem reachRun_stands (h : Stands v fz s) (r) : Stands v fz (reachRun s r) := by
  unfold reachRun
  extract_lets u pwr u1 u2 u3 rs
  have placed : Stands v fz u := modRg_stands h _ _
  clear_value u
  have woken : Stands v fz u1 := by simpa only [u1, Stands] using placed
  have counted : Stands v fz u2 := countMs_stands woken _ _
  have zeroed : Stands v fz u3 := basinZeroRegion_stands counted r
  clear_value u2 u3
  split; exacts [by simpa only [Stands] using zeroed, counted]

theorem endStep_stands (h : Stands v fz s) (r b rest) : Stands v fz (endStep s r b rest) := by
  unfold endStep; grind [modPw_stands, reachRun_stands, stepEffect_stands, wakeReq_stands]

theorem passSteps_stands (h : Stands v fz s) (n r) : Stands v fz (passSteps n s r) := by
  induction n generalizing s with
  | zero => exact h
  | succ n ih =>
    unfold passSteps
    split
    · exact h
    · split
      · split; exacts [ih (modPw_stands h _ _), h]
      · split; exacts [ih (retryRegion_stands (endStep_stands h _ _ _) _), h]

theorem writeWake_stands (h : Stands v fz s) (req hold) : Stands v fz (writeWake s req hold) := by
  unfold writeWake; grind [Stands, wakeAll_stands]

theorem applyPolicy_stands (h : Stands v fz s) (r) : Stands v fz (applyPolicy s r) := by
  unfold applyPolicy; grind [modPw_stands, wakeReq_stands]

/-! ### Machine/Events -/

theorem evCount_stands (h : Stands v fz s) (r i n) : Stands v fz (evCount s r i n) := by
  unfold evCount; grind [countR_stands, modEv_stands]

theorem settleTag_stands (h : Stands v fz s) (r tag) : Stands v fz (settleTag s r tag) := by
  unfold settleTag; grind [Stands, putTag_stands]

theorem noteBlock_stands (h : Stands v fz s) (tag b) : Stands v fz (noteBlock s tag b) := by
  unfold noteBlock; grind [Stands]

theorem expandWord_stands (h : Stands v fz s) (r c w) : Stands v fz (expandWord s r c w) := by
  unfold expandWord; grind [evCount_stands, modBlk_stands, modEv_stands, noteBlock_stands]

theorem expandRun_stands (h : Stands v fz s) (r c first k) : Stands v fz (expandRun s r c first k) := by
  unfold expandRun; grind [foldl_stands, expandWord_stands]

theorem entryServed_stands (h : Stands v fz s) (r b) : Stands v fz (entryServed s r b) := h

theorem moveClose_stands (h : Stands v fz s) (r k) : Stands v fz (moveClose s r k) := h

theorem firstFault_stands (h : Stands v fz s) (r bad) : Stands v fz (firstFault s r bad) := by
  unfold firstFault; grind [blockFault_stands, modBlk_stands]

theorem startSweeps_stands (h : Stands v fz s) (r) : Stands v fz (startSweeps s r) := h

theorem sweepLength_stands (h : Stands v fz s) (r) : Stands v fz (sweepLength s r) := by
  unfold sweepLength; grind [modRg_stands]

theorem advanceEpoch_stands (h : Stands v fz s) (r c) : Stands v fz (advanceEpoch s r c) := by
  unfold advanceEpoch; grind [markRows_stands, modRg_stands]

theorem reportSweep_stands (h : Stands v fz s) (r c) : Stands v fz (reportSweep s r c) := by
  unfold reportSweep; grind [sendCtl_stands, sweepReport_stands]

theorem toEgress_stands (h : Stands v fz s) (n w) : Stands v fz (toEgress s n w) := h

theorem emitServed_stands (h : Stands v fz s) (half n j) : Stands v fz (emitServed s half n j) := by
  unfold emitServed; grind [Stands, modDir_stands]

theorem selectModel_stands (h : Stands v fz s) (r k) : Stands v fz (selectModel s r k) := h

/-! ### Machine/Sluice -/

theorem sendSignal_stands (h : Stands v fz s) (p y) : Stands v fz (sendSignal s p y) := by
  unfold sendSignal; grind [modEp_stands, modReq_stands, sendPkt_stands]

theorem launch_stands (h : Stands v fz s) (p y) : Stands v fz (launch s p y) := by
  unfold launch; grind [joinGather_stands, modReq_stands, sendSignal_stands]

theorem countRelease_stands (h : Stands v fz s) (p c n) : Stands v fz (countRelease s p c n) := by
  unfold countRelease; grind [Stands, countM_stands]

theorem countHeld_stands (h : Stands v fz s) (p c) : Stands v fz (countHeld s p c) := by
  unfold countHeld; grind [Stands, countM_stands]

theorem releaseHead_stands (h : Stands v fz s) (p e c n budget) : Stands v fz (releaseHead s p e c n budget) := by
  unfold releaseHead
  extract_lets i cr src u u1 src1 u3 u2
  have freed : Stands v fz u := h.of_eq rfl rfl
  have released : Stands v fz u1 := by unfold u1; split; exacts [freed, countRelease_stands freed _ _ _]
  have paid : Stands v fz u2 := by
    have charged : Stands v fz u3 := released.of_eq rfl rfl
    unfold u2
    clear_value u1 u3
    split
    · split; exacts [countM_stands charged _ _ _, charged]
    · exact released
  exact launch_stands (modReq_stands paid _ _ _) _ _

theorem rejectHead_stands (h : Stands v fz s) (p y code) : Stands v fz (rejectHead s p y code) := by
  unfold rejectHead; grind [Stands, answerAll_stands]

theorem sluiceTest_stands (h : Stands v fz s) (p y urg) : Stands v fz (sluiceTest s p y urg) := by
  unfold sluiceTest; grind [countHeld_stands, rejectHead_stands, releaseHead_stands]

/-! ### Machine/Plan -/

theorem queueExtend_stands (h : Stands v fz s) (slot bs) : Stands v fz (queueExtend s slot bs) := h

theorem overRegions_stands (h : Stands v fz s) (m) {f : State → Region → State} (hf : ∀ s r, Stands v fz s → Stands v fz (f s r)) :
    Stands v fz (overRegions s m f) :=
  foldl_stands _ h fun s r hs => by split; exacts [hf s r hs, hs]

theorem defaultMacro_stands (h : Stands v fz s) : Stands v fz (defaultMacro s) := h

theorem startLoad_stands (h : Stands v fz s) (half) : Stands v fz (startLoad s half) := by
  unfold startLoad; grind [basinZeroRegion_stands, defaultMacro_stands, modRg_stands, overRegions_stands, wakeReq_stands]

theorem endLoad_stands (h : Stands v fz s) (st err sec) : Stands v fz (endLoad s st err sec) :=
  overRegions_stands h _ fun _ _ hs => modPw_stands hs _ _

theorem rejectLoad_stands (h : Stands v fz s) (err sec) : Stands v fz (rejectLoad s err sec) := by
  unfold rejectLoad; grind [Stands, endLoad_stands]

theorem finishLoad_stands (h : Stands v fz s) (half) : Stands v fz (finishLoad s half) := by
  unfold finishLoad; grind [Stands, endLoad_stands]

theorem applyMacro_stands (h : Stands v fz s) (ty p) : Stands v fz (applyMacro s ty p) := by
  unfold applyMacro; grind [Stands]

theorem applySection_stands (h : Stands v fz s) (x) : Stands v fz (applySection s x) := by
  unfold applySection; grind [applyMacro_stands, modRg_stands, overRegions_stands]

theorem measureTaken_stands (h : Stands v fz s) : Stands v fz (measureTaken s) := by
  unfold measureTaken
  split; exacts [h, by split; exacts [h, by split; exacts [h, h]]]

theorem plnWord_stands (h : Stands v fz s) (port w) : Stands v fz (plnWord s port w) := by
  unfold plnWord; grind [Stands, ack_stands, busErr_stands, holdAcc_stands, measureTaken_stands]

theorem retryPlnAt_stands (h : Stands v fz s) (port) : Stands v fz (retryPlnAt s port) := by
  unfold retryPlnAt; grind [plnWord_stands]

theorem retryPln_stands (h : Stands v fz s) : Stands v fz (retryPln s) := by
  unfold retryPln; grind [retryPlnAt_stands]

theorem beginLoad_stands (h : Stands v fz s) (source) : Stands v fz (beginLoad s source) := h

theorem dropFetch_stands (h : Stands v fz s) (kind) : Stands v fz (dropFetch s kind) := h

theorem measureCut_stands (h : Stands v fz s) : Stands v fz (measureCut s) := by
  unfold measureCut; grind [queueExtend_stands]

theorem abortLoad_stands (h : Stands v fz s) : Stands v fz (abortLoad s) := by
  unfold abortLoad; grind [dropFetch_stands, measureCut_stands, rejectLoad_stands, retryPln_stands]

theorem plnCtrl_stands (h : Stands v fz s) (port start abort source) : Stands v fz (plnCtrl s port start abort source) := by
  unfold plnCtrl; grind [Stands, abortLoad_stands, ack_stands, beginLoad_stands, busErr_stands]

theorem sectionDone_stands (h : Stands v fz s) (half n x) : Stands v fz (sectionDone s half n x) := by
  unfold sectionDone; grind [Stands, finishLoad_stands, measureTaken_stands, rejectLoad_stands]

theorem planFetched_stands (h : Stands v fz s) (d good) : Stands v fz (planFetched s d good) := by
  unfold planFetched; grind [Stands, measureCut_stands, measureTaken_stands, rejectLoad_stands]

/-! ### Machine/Gatehouse -/

theorem loseCell_stands (h : Stands v fz s) (r b c) : Stands v fz (loseCell s r b c) := h

theorem loseBlock_stands (h : Stands v fz s) (r b) : Stands v fz (loseBlock s r b) := by
  unfold loseBlock
  extract_lets u u' w
  have lost : Stands v fz u := foldl_stands _ h fun _ _ hs => loseCell_stands hs _ _ _
  clear_value u
  have emptied : ∀ m, Stands v fz { u with basin := m } := fun _ => lost.of_eq rfl rfl
  exact modBlk_stands (emptied _) _ _ _

theorem loseChanged_stands (h : Stands v fz s) (f) : Stands v fz (loseChanged s f) := by
  unfold loseChanged; grind [foldl_stands, loseBlock_stands, loseCell_stands]

theorem fuseDone_stands (h : Stands v fz s) : Stands v fz (fuseDone s) := by
  have lost : Stands v fz (loseChanged { s with fuse := applyImage s.fuse } s.fuse) := loseChanged_stands (by exact h) _
  unfold fuseDone
  dsimp only
  split
  · split; exacts [lost, lost]
  · exact h

theorem fwFail_stands (h : Stands v fz s) (y) : Stands v fz (fwFail s y) :=
  have queued : Stands v fz (if s.gh.fwEnded then s else queueExtend s 0 s.gh.fwGot) := by split; exacts [h, queueExtend_stands h _ _]
  dropFetch_stands queued .firmware

theorem fwTake_stands (h : Stands v fz s) (bs) : Stands v fz (fwTake s bs) := by
  unfold fwTake; grind [Stands, fwFail_stands]

theorem fwWord_stands (h : Stands v fz s) (port w) : Stands v fz (fwWord s port w) := by
  unfold fwWord; grind [ack_stands, busErr_stands, fwTake_stands, holdAcc_stands]

theorem retryFwAt_stands (h : Stands v fz s) (port) : Stands v fz (retryFwAt s port) := by
  unfold retryFwAt; grind [fwWord_stands]

theorem retryWords_stands (h : Stands v fz s) : Stands v fz (retryWords s) := by
  unfold retryWords; grind [retryFwAt_stands, retryPln_stands]

theorem ghCtrl_stands (h : Stands v fz s) (port start abort open_) : Stands v fz (ghCtrl s port start abort open_) := by
  unfold ghCtrl; grind [Stands, ack_stands, busErr_stands, fwFail_stands, retryWords_stands]

theorem ghFetched_stands (h : Stands v fz s) (kind d good) : Stands v fz (ghFetched s kind d good) := by
  unfold ghFetched; grind [fwFail_stands, fwTake_stands, planFetched_stands]

theorem accFaults_stands (h : Stands v fz s) (a) : Stands v fz (accFaults s a) := h

theorem coreRead_stands (h : Stands v fz s) (a) : Stands v fz (coreRead s a) := by
  unfold coreRead; grind [accFaults_stands, wholeFault_stands]

theorem coreWrite_stands (h : Stands v fz s) (a d) : Stands v fz (coreWrite s a d) := by
  unfold coreWrite; grind [Stands, accFaults_stands]

theorem coreRuns_stands (h : Stands v fz s) (l) : Stands v fz (coreRuns s l) := by
  unfold coreRuns; grind [foldl_stands, coreRead_stands, coreWrite_stands]

theorem snapshot_stands (h : Stands v fz s) (nonce) : Stands v fz (snapshot s nonce) := by
  unfold snapshot; grind [Stands]

theorem takeReport_stands (h : Stands v fz s) (w sign present) : Stands v fz (takeReport s w sign present) := by
  simpa [Stands, takeReport, snapshot] using h

theorem jumped_stands (h : Stands v fz s) : Stands v fz (jumped s) := h

theorem takeRequest_stands (h : Stands v fz s) (q) : Stands v fz (takeRequest s q) := h

theorem measureRequest_stands (h : Stands v fz s) (w sign present) : Stands v fz (measureRequest s w sign present) := by
  unfold measureRequest; grind [Stands, takeReport_stands, takeRequest_stands]

/-! ### Machine/Rill -/

theorem dropWicket_stands (h : Stands v fz s) (due) : Stands v fz (dropWicket s due) := by
  unfold dropWicket; grind [Stands]

theorem wicketWait_stands (h : Stands v fz s) (u) : Stands v fz (wicketWait s u) := h

theorem wicketTake_stands (h : Stands v fz s) (u w) : Stands v fz (wicketTake s u w) := h

theorem settleAbort_stands (h : Stands v fz s) (k ctx) : Stands v fz (settleAbort s k ctx) := by
  unfold settleAbort; grind [foldl_stands, dropWicket_stands, modRp_stands, modStream_stands]

theorem abortStream_stands (h : Stands v fz s) (ctx) : Stands v fz (abortStream s ctx) := by
  unfold abortStream; grind [foldl_stands, dropWatch_stands, modRp_stands, modStream_stands, settleAbort_stands]

theorem askAbort_stands (h : Stands v fz s) (ctx) : Stands v fz (askAbort s ctx) := by
  unfold askAbort; grind [abortStream_stands, sendCtl_stands]

theorem setSlot_stands (h : Stands v fz s) (n j w) : Stands v fz (setSlot s n j w) := h

theorem writeSlot_stands (h : Stands v fz s) (n j data m) {t : State} (e : writeSlot s n j data m = some t) : Stands v fz t := by
  have put := fun w => setSlot_stands h n j w
  unfold writeSlot at e
  extract_lets old put' u d u1 u2 at e
  have marked : Stands v fz u1 := by unfold u1; split; exacts [modStream_stands (put _) _ _, put _]
  have stopped : Stands v fz u2 := by unfold u2; split; exacts [askAbort_stands marked _, marked]
  clear_value u2
  split at e
  · exact Option.some.inj e ▸ put _
  · split at e
    · split at e
      · cases e
      · exact Option.some.inj e ▸ put _
    · split at e
      · exact ringStream_stands stopped _ e
      · exact Option.some.inj e ▸ stopped

theorem popAdmit_stands (h : Stands v fz s) (k) : Stands v fz (popAdmit s k) := h

theorem admitTile_stands (h : Stands v fz s) (k ctx slot w) : Stands v fz (admitTile s k ctx slot w) := by
  have added := modRp_stands (popAdmit_stands h k) k (fun p => { p with tiles := p.tiles ++ [newTile s ctx slot w] })
  cases w with
  | none => exact added
  | some x => exact wicketTake_stands (by exact added) (some k) x

theorem setBeat_stands (h : Stands v fz s) (k uid i b) : Stands v fz (setBeat s k uid i b) := h

theorem sendOut_stands (h : Stands v fz s) (k o d) : Stands v fz (sendOut s k o d) := h

theorem issueOut_stands (h : Stands v fz s) (k due i tag d alloc) : Stands v fz (issueOut s k due i tag d alloc) := by
  unfold issueOut; grind [countM_stands, sendOut_stands, setBeat_stands]

theorem issueBeat_stands (h : Stands v fz s) (k due i tag bad) : Stands v fz (issueBeat s k due i tag bad) := by
  unfold issueBeat; grind [countM_stands, issueOut_stands, modRp_stands, setBeat_stands]

theorem issueFetch_stands (h : Stands v fz s) (a kind w) : Stands v fz (issueFetch s a kind w) := by
  unfold issueFetch; grind [countM_stands, sendOut_stands, wicketTake_stands]

theorem fetchWait_stands (h : Stands v fz s) (k) : Stands v fz (fetchWait s k) := by
  unfold fetchWait; grind [wicketWait_stands]

theorem wicketWon_stands (h : Stands v fz s) (k won waits) : Stands v fz (wicketWon s k won waits) := h

theorem haltStream_stands (h : Stands v fz s) (ctx key a) : Stands v fz (haltStream s ctx key a) := by
  unfold haltStream
  extract_lets x earlier
  split
  · exact h
  · split; exacts [modStream_stands h _ _, h]

theorem placeBeats_stands (h : Stands v fz s) (k o b) : Stands v fz (placeBeats s k o b) := h

theorem settleAll_stands (h : Stands v fz s) (k) : Stands v fz (settleAll s k) := by
  unfold settleAll; grind [foldl_stands, settleAbort_stands]

theorem xlateBeats_stands (h : Stands v fz s) (k o) : Stands v fz (xlateBeats s k o) := by
  unfold xlateBeats; grind [foldl_stands, haltStream_stands, placeBeats_stands]

theorem rillError_stands (h : Stands v fz s) (k o) : Stands v fz (rillError s k o) := by
  unfold rillError; grind [halfFault_stands]

theorem dropOut_stands (h : Stands v fz s) (k o) : Stands v fz (dropOut s k o) := h

theorem mergedRead_stands (h : Stands v fz s) (k o data resp) : Stands v fz (mergedRead s k o data resp) := by
  unfold mergedRead; grind [placeBeats_stands, xlateBeats_stands]

theorem movePiece_stands (h : Stands v fz s) (k due op run) : Stands v fz (movePiece s k due op run) := by
  unfold movePiece; grind [modTile_stands, routePiece_stands]

theorem rillPair_stands (h : Stands v fz s) (n producer posted) : Stands v fz (rillPair s n producer posted) := by
  unfold rillPair; grind [countM_stands, pairAdd_stands, refuseOp_stands, tellPair_stands]

theorem pairTold_stands (h : Stands v fz s) (n u posted) : Stands v fz (pairTold s n u posted) := h

theorem postPair_stands (h : Stands v fz s) (k n producer) : Stands v fz (postPair s k n producer) := by
  unfold postPair; grind [Stands, rillPair_stands, sendCtl_stands]

theorem rillSem_stands (h : Stands v fz s) (n) : Stands v fz (rillSem s n) := by
  unfold rillSem; grind [countM_stands, putSem_stands, refuseOp_stands]

theorem postOr_stands (h : Stands v fz s) (k) {f : State → State} (hf : Stands v fz (f s)) (m) : Stands v fz (postOr s k f m) := by
  unfold postOr
  split; exacts [hf, sendCtl_stands h _ _]

theorem endStream_stands (h : Stands v fz s) (k ctx) : Stands v fz (endStream s k ctx) := by
  have ended : Stands v fz (modStream s ctx (fun x => { x with st := .done })) := modStream_stands h _ _
  unfold endStream
  grind [postOr_stands, rillSem_stands, rillArrive_stands]

theorem completeTile_stands (h : Stands v fz s) (k ctx due) : Stands v fz (completeTile s k ctx due) := by
  unfold completeTile; grind [Stands, dropWicket_stands, endStream_stands, modRp_stands, modStream_stands, postPair_stands]

theorem startInv_stands (h : Stands v fz s) (k) : Stands v fz (startInv s k) := h

theorem echInv_stands (h : Stands v fz s) (p0 p1) {t : State} (e : echInv s p0 p1 = some t) : Stands v fz t := by
  unfold echInv at e; grind [startInv_stands]

theorem setEcho_stands (h : Stands v fz s) (k en) : Stands v fz (setEcho s k en) := h

/-! ### Machine/Counters -/

theorem dumpBeat_stands (h : Stands v fz s) (d k data) : Stands v fz (dumpBeat s d k data) := by
  unfold dumpBeat; grind [routeOne_stands]

theorem takeSample_stands (h : Stands v fz s) : Stands v fz (takeSample s) := by
  unfold takeSample; grind [Stands, foldl_stands, dumpBeat_stands]

theorem dumpMove_stands (h : Stands v fz s) (d p n) : Stands v fz (dumpMove s d p n) := h

theorem writeTag_stands (h : Stands v fz s) (en kind k clear) : Stands v fz (writeTag s en kind k clear) := h

theorem modCnt_stands (h : Stands v fz s) (x f) : Stands v fz (modCnt s x f) := by
  unfold modCnt; grind [Stands, modBlk_stands, modRg_stands]

theorem wakeCnt_stands (h : Stands v fz s) (x) : Stands v fz (wakeCnt s x) := by
  cases x; exacts [h, wakeReq_stands h _, wakeReq_stands h _]

/-! ### Machine/Faults -/

theorem frozenHead_stands (h : Stands v fz s) (p seq) : Stands v fz (frozenHead s p seq) := by
  unfold frozenHead; grind [Stands, answerAll_stands]

theorem frozenHeads_stands (h : Stands v fz s) (ok) : Stands v fz (frozenHeads s ok) := by
  unfold frozenHeads; grind [foldl_stands, frozenHead_stands]

theorem freezeRequests_stands (h : Stands v fz s) : Stands v fz (freezeRequests s) := by
  unfold freezeRequests; grind [foldl_stands, frozenHead_stands]

theorem freezeHeld_stands (h : Stands v fz s) : Stands v fz (freezeHeld s) := by
  unfold freezeHeld; grind [foldl_stands, answerSignal_stands, modEp_stands]

theorem freezeDeposits_stands (h : Stands v fz s) : Stands v fz (freezeDeposits s) := by
  unfold freezeDeposits; grind [foldl_stands, answerSignal_stands, busErr_stands, modBox_stands]

theorem reachHalf_stands (h : Stands v fz s) (half) : Stands v fz (reachHalf s half) := by
  unfold reachHalf; grind [Stands, foldl_stands, freezeDeposits_stands, freezeHeld_stands, freezeRequests_stands, freezeWatches_stands,
    retryRegion_stands]

theorem restartGo_stands (h : Stands v fz s) (keep) : Stands v fz (restartGo s keep) := by
  unfold restartGo
  extract_lets u rs u1 flt pwr fb u2
  have cleared : Stands v fz u1 :=
    foldl_stands _ (freezeDeposits_stands h) fun _ _ hs => by split; exacts [basinZeroRegion_stands hs _, hs]
  clear_value u1
  have restarted : Stands v fz u2 := by simpa only [u2, Stands] using cleared
  clear_value u2
  exact foldl_stands _ (foldl_stands _ restarted fun _ _ hs => by split; exacts [train_stands hs _,
    hs]) fun _ _ hs => retryRegion_stands hs _

theorem fenceStop_stands (h : Stands v fz s) (r b) : Stands v fz (fenceStop s r b) := by
  unfold fenceStop; grind [foldl_stands, beatDone_stands, modBlk_stands]

theorem fenceRows_stands (h : Stands v fz s) (r b) : Stands v fz (fenceRows s r b) := by
  unfold fenceRows; grind [foldl_stands, evCount_stands, modBlk_stands, settleTag_stands]

theorem fenceBlock_stands (h : Stands v fz s) (r b) : Stands v fz (fenceBlock s r b) := by
  unfold fenceBlock; grind [fenceRows_stands, fenceStop_stands, modBlk_stands, modRg_stands]

theorem writeFence_stands (h : Stands v fz s) (r w) : Stands v fz (writeFence s r w) := by
  unfold writeFence; grind [foldl_stands, fenceBlock_stands, modRg_stands]

/-! ### Machine/Footbridge -/

theorem writeFbCtrl_stands (h : Stands v fz s) (d) : Stands v fz (writeFbCtrl s d) := by
  unfold writeFbCtrl; grind [Stands, train_stands]

theorem failTraining_stands (h : Stands v fz s) (d) : Stands v fz (failTraining s d) := by
  unfold failTraining; grind [Stands, linkFault_stands]

theorem markSpare_stands (h : Stands v fz s) (d g i) : Stands v fz (markSpare s d g i).1 := h

theorem markSpares_stands (h : Stands v fz s) (d l) : Stands v fz (markSpares s d l).1 := by
  induction l generalizing s with
  | nil => exact h
  | cons x l ih => exact ih (markSpare_stands h _ _ _)

theorem placeWires_stands (h : Stands v fz s) (d l) : Stands v fz (placeWires s d l).1 := by
  induction l generalizing s with
  | nil => exact h
  | cons x l ih =>
    unfold placeWires
    dsimp only
    split
    · exact ih h
    · split; exacts [ih (recordSpare_stands h _ _ _ _), h]

theorem takeAck_stands (h : Stands v fz s) (d ack) : Stands v fz (takeAck s d ack) := h

theorem takeSide_stands (h : Stands v fz s) (d w) : Stands v fz (takeSide s d w) := by
  unfold takeSide; grind [fbFault_stands, modDir_stands, startReplay_stands, takeAck_stands]

theorem retireWire_stands (h : Stands v fz s) (d g w) : Stands v fz (retireWire s d g w) := by
  unfold retireWire; grind [modDir_stands, sendLink_stands]

theorem countWire_stands (h : Stands v fz s) (d g w) : Stands v fz (countWire s d g w) := by
  unfold countWire; grind [modDir_stands, retireWire_stands]

theorem compareFlits_stands (h : Stands v fz s) (d bad good) : Stands v fz (compareFlits s d bad good) := by
  unfold compareFlits; grind [foldl_stands, countWire_stands]

theorem protocolFault_stands (h : Stands v fz s) (d q) : Stands v fz (protocolFault s d q) := by
  unfold protocolFault; grind [fbFault_stands, modDir_stands]

theorem gatherFlit_stands (h : Stands v fz s) (d f) : Stands v fz (gatherFlit s d f) := by
  unfold gatherFlit; grind [modDir_stands, protocolFault_stands]

theorem acceptFlit_stands (h : Stands v fz s) (d f) : Stands v fz (acceptFlit s d f) := by
  unfold acceptFlit; grind [compareFlits_stands, gatherFlit_stands, modDir_stands]

theorem countCrc_stands (h : Stands v fz s) (d) : Stands v fz (countCrc s d) := by
  unfold countCrc; grind [countM_stands, modDir_stands]

theorem badFlit_stands (h : Stands v fz s) (d sent got) : Stands v fz (badFlit s d sent got) := by
  unfold badFlit; grind [countCrc_stands, modDir_stands]

theorem linkPop_stands (h : Stands v fz s) (d) : Stands v fz (linkPop s d) := h

theorem takePiece_stands (h : Stands v fz s) (d p) : Stands v fz (takePiece s d p) := by
  unfold takePiece; grind [fbFault_stands, packetPiece_stands]

theorem arriveSignal_stands (h : Stands v fz s) (p) : Stands v fz (arriveSignal s p) := by
  unfold arriveSignal; grind [answerSignal_stands, modEp_stands]

theorem ackSignal_stands (h : Stands v fz s) (p) : Stands v fz (ackSignal s p) := by
  unfold ackSignal; grind [answerAll_stands]

theorem takeCounts_stands (h : Stands v fz s) (p) : Stands v fz (takeCounts s p) := h

theorem askDep_stands (h : Stands v fz s) (ctx sem n) : Stands v fz (askDep s ctx sem n) := by
  unfold askDep; grind [Stands, regWatch_stands, sendCtl_stands]

theorem ctlAct_stands (h : Stands v fz s) (m) : Stands v fz (ctlAct s m) := by
  unfold ctlAct; grind [Stands, abortStream_stands, askDep_stands, bellAct_stands, modStream_stands, pairTold_stands, rillArrive_stands,
    rillPair_stands, rillSem_stands, startCloses_stands, sweepReport_stands, wakeReq_stands]

theorem markSteps_stands (h : Stands v fz s) (d p) : Stands v fz (markSteps s d p) := by
  unfold markSteps; grind [foldl_stands, modEv_stands]

theorem deliverEntry_stands (h : Stands v fz s) (half due y) : Stands v fz (deliverEntry s half due y) := by
  unfold deliverEntry; grind [foldl_stands, modEv_stands, toEgress_stands]

/-! ### Machine/Lanes -/

theorem laneFlags_stands (h : Stands v fz s) (r b f) : Stands v fz (laneFlags s r b f) := by
  unfold laneFlags; grind [countB_stands, modRg_stands]

theorem popRow_stands (h : Stands v fz s) (r b) : Stands v fz (popRow s r b) := h

theorem retireRow_stands (h : Stands v fz s) (r b x) : Stands v fz (retireRow s r b x) := by
  unfold retireRow; grind [Stands, basinPut_stands, countB_stands, laneFlags_stands, markTag_stands, popRow_stands, settleTag_stands]

theorem replayRow_stands (h : Stands v fz s) (r b) : Stands v fz (replayRow s r b) := by
  unfold replayRow; grind [countB_stands, modBlk_stands, modRg_stands]

theorem haltBlock_stands (h : Stands v fz s) (r b) : Stands v fz (haltBlock s r b) := h

theorem rowChecked_stands (h : Stands v fz s) (r b x chk) : Stands v fz (rowChecked s r b x chk) := by
  unfold rowChecked; grind [Stands, blockFault_stands, haltBlock_stands, replayRow_stands, retireRow_stands]

/-! ### Machine/Lodge -/

theorem answerSender_stands (h : Stands v fz s) (x good) : Stands v fz (answerSender s x good) := by
  unfold answerSender; grind [ack_stands, answerSignal_stands, busErr_stands]

/-! ### Machine/Sweep -/

theorem modSweep_stands (h : Stands v fz s) (r b f) : Stands v fz (modSweep s r b f) := h

theorem storeFault_stands (h : Stands v fz s) (r b space word) : Stands v fz (storeFault s r b space word) := by
  unfold storeFault; grind [blockFault_stands, haltBlock_stands]

theorem chkFault_stands (h : Stands v fz s) (r b w i op x chk) {t : State} (e : chkFault s r b w i op x chk = some t) : Stands v fz t := by
  unfold chkFault at e; grind [Stands, blockFault_stands, haltBlock_stands, storeFault_stands]

theorem putSweep_stands (h : Stands v fz s) (r b w) : Stands v fz (putSweep s r b w) := h

theorem arithSat_stands (h : Stands v fz s) (r f) : Stands v fz (arithSat s r f) := h

theorem putRows_stands (h : Stands v fz s) (r b row bs) : Stands v fz (putRows s r b row bs) := by
  unfold putRows; grind [foldl_stands, putRow_stands]

/-! ### Machine/Control -/

theorem rcClear_stands (h : Stands v fz s) (x) : Stands v fz (rcClear s x) := by
  cases x <;> exact h

theorem touch_stands (h : Stands v fz s) (x) : Stands v fz (touch s x) := by
  unfold touch; grind [wakeReq_stands]

theorem whenPowered_stands (h : Stands v fz s) (r f) : Stands v fz (whenPowered s r f) := by
  unfold whenPowered; grind [modRg_stands]

theorem plainWrite_stands (h : Stands v fz s) (x d) : Stands v fz (plainWrite s x d) := by
  unfold plainWrite; grind [Stands, modDir_stands, modEv_stands, modRg_stands, modRp_stands, whenPowered_stands]

theorem shaped_stands (h : Stands v fz s) (port k) : Stands v fz (shaped s port k) := by
  unfold shaped; grind [modRport_stands]

theorem withRsps_stands (h : Stands v fz s) (port l) : Stands v fz (withRsps s port l) := by
  unfold withRsps; grind [modRport_stands]

theorem behind_stands (h : Stands v fz s) (port l) : Stands v fz (behind s port l) := by
  unfold behind; grind [modRport_stands]

theorem withQueue_stands (h : Stands v fz s) (port l) : Stands v fz (withQueue s port l) := by
  unfold withQueue; grind [modRport_stands]

/-! ### Machine/Wrapper -/

theorem modWrp_stands (h : Stands v fz s) (f) : Stands v fz (modWrp s f) := h

theorem loseArrays_stands (h : Stands v fz s) : Stands v fz (loseArrays s) := by
  unfold loseArrays; grind [foldl_stands, enterOff_stands, modPw_stands]

theorem abortRun_stands (h : Stands v fz s) : Stands v fz (abortRun s) := by
  unfold abortRun; grind [loseArrays_stands, modWrp_stands]

end Sys2Proof.Machine
end

section
/-! PROOF. The commands answer a next state, with the slots and freeze kept: arbiters, Bandstand, engine ports, power states
(R422, R441, R451, R461). -/

namespace Sys2Proof.Machine

variable {v : Vector (BitVec 384) 8} {fz : Prop} {s : State}

/-- The command answers a next state, and in it the measurement slots and freeze are as v and fz say. -/
def Answers (v : Vector (BitVec 384) 8) (fz : Prop) (o : Host.Outcome State Fault Refusal) : Prop := ∃ t, o = .next t ∧ Stands v fz t

theorem skip_answers (h : Stands v fz s) : Answers v fz (skip s) := ⟨s, rfl, h⟩

theorem finish_answers (h : Stands v fz s) : Answers v fz (finish s) := ⟨_, rfl, settle_stands (step1_stands h)⟩

theorem finishSync_answers (h : Stands v fz s) : Answers v fz (finishSync s) :=
  ⟨_, rfl, settle_stands (step1_stands (rillPoll_stands (drainPending_stands h)))⟩

theorem andThen_answers {o : Host.Outcome State Fault Refusal} {f : State → Host.Outcome State Fault Refusal} (h : Answers v fz o)
    (hf : ∀ u, Stands v fz u → Answers v fz (f u)) : Answers v fz (andThen o f) := by
  obtain ⟨u, rfl, hu⟩ := h
  exact hf u hu

/-! ### Machine/Arbiter -/

theorem execBlockGrant_answers (h : Stands v fz s) (r b m chk) : Answers v fz (execBlockGrant r b m chk s) := by
  unfold execBlockGrant; grind [blockCycle_stands, finish_answers, regionFault_stands, skip_answers]

theorem execTimetableSlot_answers (h : Stands v fz s) (r bad m chk) : Answers v fz (execTimetableSlot r bad m chk s) := by
  unfold execTimetableSlot; grind [finish_answers, modRg_stands, regionFault_stands, serveSlot_stands, skip_answers]

theorem execSlotSlipIssue_answers (h : Stands v fz s) (r b m chk) : Answers v fz (execSlotSlipIssue r b m chk s) := by
  unfold execSlotSlipIssue; grind [finish_answers, issueSched_stands, regionFault_stands, skip_answers]

theorem execQuotaWindowEnd_answers (h : Stands v fz s) (r) : Answers v fz (execQuotaWindowEnd r s) := by
  unfold execQuotaWindowEnd; grind [finish_answers, modRg_stands, skip_answers]

theorem execStarvationLimit_answers (h : Stands v fz s) (r src) : Answers v fz (execStarvationLimit r src s) := by
  unfold execStarvationLimit; grind [finish_answers, modRg_stands, skip_answers]

/-! ### Machine/Bandstand -/

theorem presentOp_answers (h : Stands v fz s) (src n w) : Answers v fz (presentOp src n w s) := by
  unfold presentOp; grind [ack_stands, bstDo_stands, busErr_stands, finish_answers, finishSync_answers, releaseSignal_stands,
    skip_answers, wideWrite_stands]

theorem execAdd_answers (h : Stands v fz s) (src n w) : Answers v fz (execAdd src n w s) := by
  unfold execAdd; grind [presentOp_answers, skip_answers]

theorem execSub_answers (h : Stands v fz s) (src n w) : Answers v fz (execSub src n w s) := by
  unfold execSub; grind [presentOp_answers, skip_answers]

theorem execWait_answers (h : Stands v fz s) (src n w) : Answers v fz (execWait src n w s) := by
  unfold execWait; grind [presentOp_answers, skip_answers]

theorem execSet_answers (h : Stands v fz s) (src n w) : Answers v fz (execSet src n w s) := by
  unfold execSet; grind [presentOp_answers, skip_answers]

theorem execPadd_answers (h : Stands v fz s) (src n w) : Answers v fz (execPadd src n w s) := by
  unfold execPadd; grind [presentOp_answers, skip_answers]

theorem execCadd_answers (h : Stands v fz s) (src n w) : Answers v fz (execCadd src n w s) := by
  unfold execCadd; grind [presentOp_answers, skip_answers]

theorem execPwaitFull_answers (h : Stands v fz s) (src n w) : Answers v fz (execPwaitFull src n w s) := by
  unfold execPwaitFull; grind [presentOp_answers, skip_answers]

theorem execPwaitSpace_answers (h : Stands v fz s) (src n w) : Answers v fz (execPwaitSpace src n w s) := by
  unfold execPwaitSpace; grind [presentOp_answers, skip_answers]

theorem execArrive_answers (h : Stands v fz s) (src n w) : Answers v fz (execArrive src n w s) := by
  unfold execArrive; grind [presentOp_answers, skip_answers]

theorem execSync_answers (h : Stands v fz s) (src n w) : Answers v fz (execSync src n w s) := by
  unfold execSync; grind [presentOp_answers, skip_answers]

theorem execBwait_answers (h : Stands v fz s) (src n w) : Answers v fz (execBwait src n w s) := by
  unfold execBwait; grind [presentOp_answers, skip_answers]

theorem execSwait_answers (h : Stands v fz s) (src n w) : Answers v fz (execSwait src n w s) := by
  unfold execSwait; grind [presentOp_answers, skip_answers]

theorem execBstReservedOp_answers (h : Stands v fz s) (src n w) : Answers v fz (execBstReservedOp src n w s) := by
  unfold execBstReservedOp; grind [presentOp_answers, skip_answers]

theorem execSignalHoldRelease_answers (h : Stands v fz s) (p) : Answers v fz (execSignalHoldRelease p s) := by
  unfold execSignalHoldRelease; grind [finishSync_answers, releaseSignal_stands, skip_answers]

theorem execWatchTimeout_answers (h : Stands v fz s) (w) : Answers v fz (execWatchTimeout w s) := by
  unfold execWatchTimeout; grind [Stands, answerSignal_stands, dropWatch_stands, finishSync_answers, queueMsg_stands, skip_answers]

theorem execWatchRegister_answers (h : Stands v fz s) (port data) : Answers v fz (execWatchRegister port data s) := by
  have wide := wideWrite_stands h port data
  have full : ∀ b, Stands v fz { wideWrite s port data with bst := b } := fun _ => wide.of_eq rfl rfl
  unfold execWatchRegister
  split
  · exact skip_answers h
  · split
    · exact finish_answers (busErr_stands wide _)
    · extract_lets u kind target n bst
      split
      · exact finish_answers (busErr_stands (full _) _)
      · have watched := regWatch_stands wide _ _ _ _ _ ‹_›
        clear_value u
        grind [finishSync_answers, ack_stands, meetWatch_stands]

theorem execWatchCancel_answers (h : Stands v fz s) (port cookie) : Answers v fz (execWatchCancel port cookie s) := by
  unfold execWatchCancel; grind [Stands, ack_stands, busErr_stands, finish_answers, finishSync_answers, skip_answers]

theorem execControlMessageTake_answers (h : Stands v fz s) (port) : Answers v fz (execControlMessageTake port s) := by
  have wide := wideRead_stands h port
  have taken : ∀ ms, Stands v fz { wideRead s port with bst := ms } := fun _ => wide.of_eq rfl rfl
  unfold execControlMessageTake
  grind [skip_answers, finish_answers, finishSync_answers, reply_stands]

theorem execBarrierConfigWrite_answers (h : Stands v fz s) (port b reg data) :
    Answers v fz (execBarrierConfigWrite port b reg data s) := by
  have wide := wideWrite_stands h port data
  unfold execBarrierConfigWrite
  cases reg <;> grind [skip_answers, finish_answers, finishSync_answers, ack_stands, busErr_stands, writeBar_stands]

theorem execPairWrite_answers (h : Stands v fz s) (port n data) : Answers v fz (execPairWrite port n data s) := by
  unfold execPairWrite; grind [ack_stands, busErr_stands, finish_answers, finishSync_answers, setPair_stands, skip_answers,
    wideWrite_stands]

theorem execRoleWrite_answers (h : Stands v fz s) (port data) : Answers v fz (execRoleWrite port data s) := by
  unfold execRoleWrite; grind [Stands, ack_stands, busErr_stands, finish_answers, skip_answers]

theorem execSyncMessageSend_answers (h : Stands v fz s) : Answers v fz (execSyncMessageSend s) := by
  unfold execSyncMessageSend; grind [Stands, drainSync_stands, finishSync_answers, skip_answers, syncSend_stands]

theorem receiveSync_answers (h : Stands v fz s) (w) : Answers v fz (receiveSync s w) := by
  unfold receiveSync; grind [Stands, drainSync_stands, finish_answers, finishSync_answers, skip_answers]

theorem execSyncArriveReceived_answers (h : Stands v fz s) (w) : Answers v fz (execSyncArriveReceived w s) := by
  unfold execSyncArriveReceived; grind [receiveSync_answers, skip_answers]

theorem execSyncReleaseReceived_answers (h : Stands v fz s) (w) : Answers v fz (execSyncReleaseReceived w s) := by
  unfold execSyncReleaseReceived; grind [receiveSync_answers, skip_answers]

/-! ### Machine/Access -/

theorem writeReg_answers (h : Stands v fz s) (port r) {f : State → State} (hf : ∀ u, Stands v fz u → Stands v fz (f u)) :
    Answers v fz (writeReg s port r f) := by
  unfold writeReg; grind [skip_answers, finish_answers, ack_stands, wakeReq_stands]

/-! ### Machine/Engine -/

theorem presentReq_answers (h : Stands v fz s) (p op q w) : Answers v fz (presentReq s p op q w) := by
  unfold presentReq; grind [finish_answers, skip_answers, takeReq_stands]

theorem execRead_answers (h : Stands v fz s) (p q) : Answers v fz (execRead p q s) := by
  unfold execRead; grind [presentReq_answers, skip_answers]

theorem execWrite_answers (h : Stands v fz s) (p q) : Answers v fz (execWrite p q s) := by
  unfold execWrite; grind [presentReq_answers, skip_answers]

theorem execWriteBitSet_answers (h : Stands v fz s) (p q) : Answers v fz (execWriteBitSet p q s) := by
  unfold execWriteBitSet; grind [presentReq_answers, skip_answers]

theorem execWriteBitClear_answers (h : Stands v fz s) (p q) : Answers v fz (execWriteBitClear p q s) := by
  unfold execWriteBitClear; grind [presentReq_answers, skip_answers]

theorem execAtomAddS8_answers (h : Stands v fz s) (p q w) : Answers v fz (execAtomAddS8 p q w s) := by
  unfold execAtomAddS8; grind [presentReq_answers]

theorem execAtomAddI32_answers (h : Stands v fz s) (p q w) : Answers v fz (execAtomAddI32 p q w s) := by
  unfold execAtomAddI32; grind [presentReq_answers]

theorem execAtomAddF32_answers (h : Stands v fz s) (p q w) : Answers v fz (execAtomAddF32 p q w s) := by
  unfold execAtomAddF32; grind [presentReq_answers]

theorem execAtomMinI32_answers (h : Stands v fz s) (p q w) : Answers v fz (execAtomMinI32 p q w s) := by
  unfold execAtomMinI32; grind [presentReq_answers]

theorem execAtomMaxI32_answers (h : Stands v fz s) (p q w) : Answers v fz (execAtomMaxI32 p q w s) := by
  unfold execAtomMaxI32; grind [presentReq_answers]

theorem execAtomSwap64_answers (h : Stands v fz s) (p q w) : Answers v fz (execAtomSwap64 p q w s) := by
  unfold execAtomSwap64; grind [presentReq_answers]

theorem execAtomCas64_answers (h : Stands v fz s) (p q w) : Answers v fz (execAtomCas64 p q w s) := by
  unfold execAtomCas64; grind [presentReq_answers]

theorem execAtomTrace_answers (h : Stands v fz s) (p q w) : Answers v fz (execAtomTrace p q w s) := by
  unfold execAtomTrace; grind [presentReq_answers]

theorem execSem_answers (h : Stands v fz s) (p q w) : Answers v fz (execSem p q w s) := by
  unfold execSem; grind [presentReq_answers]

theorem execStreamDoorbell_answers (h : Stands v fz s) (p q w) : Answers v fz (execStreamDoorbell p q w s) := by
  unfold execStreamDoorbell; grind [presentReq_answers, skip_answers]

theorem execMailboxDoorbell_answers (h : Stands v fz s) (p q w) : Answers v fz (execMailboxDoorbell p q w s) := by
  unfold execMailboxDoorbell; grind [presentReq_answers, skip_answers]

theorem execReservedOp_answers (h : Stands v fz s) (p code q) : Answers v fz (execReservedOp p code q s) := by
  unfold execReservedOp; grind [presentReq_answers]

theorem execMulticastRead_answers (h : Stands v fz s) (p q) : Answers v fz (execMulticastRead p q s) := by
  unfold execMulticastRead; grind [presentReq_answers, skip_answers]

theorem execWriteDataBeat_answers (h : Stands v fz s) (p w) : Answers v fz (execWriteDataBeat p w s) := by
  unfold execWriteDataBeat; grind [finish_answers, passCarried_stands, pumpPort_stands, skip_answers, takeBeat_stands]

theorem takeRegRsp_answers (h : Stands v fz s) (port) : Answers v fz (takeRegRsp port s) := by
  unfold takeRegRsp; grind [finish_answers, modRport_stands, skip_answers]

theorem takeResponse_answers (h : Stands v fz s) (p ch id) : Answers v fz (takeResponse p ch id s) := by
  unfold takeResponse
  split
  · exact skip_answers h
  · split
    · exact skip_answers h
    · split
      · exact skip_answers h
      · extract_lets last u
        have taken : Stands v fz u := by
          unfold u; split; exacts [modEp_stands (tagRequest_stands h _ _ _) _ _, modEp_stands (modReq_stands h _ _ _) _ _]
        clear_value u
        grind [finish_answers, closeGather_stands, detachSlow_stands]

theorem execResponseBeatTaken_answers (h : Stands v fz s) (p ch id) : Answers v fz (execResponseBeatTaken p ch id s) := by
  unfold execResponseBeatTaken; grind [takeRegRsp_answers, takeResponse_answers]

theorem execGatherTimeout_answers (h : Stands v fz s) (r g) : Answers v fz (execGatherTimeout r g s) := by
  unfold execGatherTimeout; grind [finish_answers, skip_answers, startGather_stands]

/-! ### Machine/Governor -/

theorem governed_answers (h : Stands v fz s) (r cost) {f : State → Host.Outcome State Fault Refusal}
    (hf : ∀ u, Stands v fz u → Answers v fz (f u)) : Answers v fz (governed s r cost f) := by
  unfold governed; grind [finish_answers, addAct_stands, limitAct_stands]

/-! ### Machine/Power -/

theorem execIdleTimeout_answers (h : Stands v fz s) (r) : Answers v fz (execIdleTimeout r s) := by
  unfold execIdleTimeout; grind [askDown_stands, finish_answers, skip_answers]

theorem execRetainTimeout_answers (h : Stands v fz s) (r) : Answers v fz (execRetainTimeout r s) := by
  unfold execRetainTimeout; grind [askDown_stands, finish_answers, skip_answers]

theorem execOffTimeout_answers (h : Stands v fz s) (r) : Answers v fz (execOffTimeout r s) := by
  unfold execOffTimeout; grind [askDown_stands, finish_answers, skip_answers]

theorem execStagedStepStart_answers (h : Stands v fz s) (r) : Answers v fz (execStagedStepStart r s) := by
  unfold execStagedStepStart; grind [finish_answers, modPw_stands, skip_answers]

theorem execStagedStepEnd_answers (h : Stands v fz s) (r) : Answers v fz (execStagedStepEnd r s) := by
  unfold execStagedStepEnd; grind [endStep_stands, finish_answers, retryRegion_stands, skip_answers]

theorem execStagerEdge_answers (h : Stands v fz s) : Answers v fz (execStagerEdge s) := by
  unfold execStagerEdge
  split
  · exact skip_answers h
  · extract_lets u aon u'
    have passed : Stands v fz u := by unfold u; split; exacts [foldl_stands _ h fun _ _ hs => passSteps_stands hs _ _, h]
    clear_value u
    have ticked : Stands v fz u' := passed.of_eq rfl rfl
    clear_value u'
    split
    · exact finish_answers ticked
    · exact finish_answers (foldl_stands _ (tickCounts_stands (countM_stands (edgeHalf_stands (edgeHalf_stands ticked _) _) _ _ _))
        fun _ _ hs => tickPolicy_stands hs _)

theorem execGovernorInterval_answers (h : Stands v fz s) (half) : Answers v fz (execGovernorInterval half s) := by
  unfold execGovernorInterval
  extract_lets g act rose u pwr u'
  have ended : Stands v fz u' := h.of_eq rfl rfl
  clear_value u'
  grind [skip_answers, finish_answers, countM_stands]

theorem mgmtWrite_answers (h : Stands v fz s) (port) {f : State → State} (hf : ∀ u, Stands v fz u → Stands v fz (f u)) :
    Answers v fz (mgmtWrite s port f) := by
  unfold mgmtWrite; grind [skip_answers, finish_answers, ack_stands, busErr_stands]

theorem execPwrWakeReq_answers (h : Stands v fz s) (port req hold) : Answers v fz (execPwrWakeReq port req hold s) := by
  unfold execPwrWakeReq; grind [mgmtWrite_answers, writeWake_stands]

theorem execPwrWakeHold_answers (h : Stands v fz s) (port hold req) : Answers v fz (execPwrWakeHold port hold req s) := by
  unfold execPwrWakeHold; grind [mgmtWrite_answers, writeWake_stands]

theorem execPwrFclkWrite_answers (h : Stands v fz s) (port half data) : Answers v fz (execPwrFclkWrite port half data s) := by
  unfold execPwrFclkWrite; grind [Stands, ack_stands, busErr_stands, finish_answers, skip_answers]

theorem execPolicyWrite_answers (h : Stands v fz s) (port r which data) : Answers v fz (execPolicyWrite port r which data s) := by
  unfold execPolicyWrite; grind [applyPolicy_stands, mgmtWrite_answers, modPw_stands]


end Sys2Proof.Machine
end

section
/-! PROOF. The commands answer a next state, with the slots and freeze kept: events, Plan, Gatehouse, Rill, faults, Footbridge, lanes, wrapper
and resets (R422, R441, R451, R461). -/

namespace Sys2Proof.Machine

variable {v : Vector (BitVec 384) 8} {fz : Prop} {s : State}

/-! ### Machine/Events -/

theorem execEventIngress_answers (h : Stands v fz s) (n w) : Answers v fz (execEventIngress n w s) := by
  have marked : ∀ u c, Stands v fz u → Stands v fz { u with cnt := c } := fun _ _ hu => hu.of_eq rfl rfl
  have joined : ∀ u x, Stands v fz u → Stands v fz { u with ingress := x } := fun _ _ hu => hu.of_eq rfl rfl
  unfold execEventIngress
  split
  · exact skip_answers h
  · extract_lets half m u
    have counted : Stands v fz u := countM_stands h _ _ _
    clear_value u
    have offered : Stands v fz (if isCandidate u true n.val then candidate u else (u, false)).1 := by
      split; exacts [candidate_stands counted, counted]
    split
    next u' tag e =>
      rw [e] at offered
      split
      · exact finish_answers (countM_stands offered _ _ _)
      · extract_lets due c u1 q
        have tagged : Stands v fz u1 := by unfold u1; split; exacts [marked _ _ offered, offered]
        exact finish_answers (joined _ _ tagged)

theorem execCopyPlaced_answers (h : Stands v fz s) (n dst bad) : Answers v fz (execCopyPlaced n dst bad s) := by
  have placed : ∀ u x, Stands v fz u → Stands v fz { u with ingress := x } := fun _ _ hu => hu.of_eq rfl rfl
  unfold execCopyPlaced
  grind [skip_answers, finish_answers, halfFault_stands, flushSteps_stands, modEv_stands, modRg_stands, sendPkt_stands]

theorem execCopyAtEntry_answers (h : Stands v fz s) (r) : Answers v fz (execCopyAtEntry r s) := by
  unfold execCopyAtEntry; grind [evCount_stands, finish_answers, markTag_stands, modEv_stands, settleTag_stands, skip_answers,
    wakeReq_stands]

theorem execEntryHold_answers (h : Stands v fz s) (port r u) : Answers v fz (execEntryHold port r u s) := by
  unfold execEntryHold; grind [modEv_stands, writeReg_answers]

theorem execExpandCopy_answers (h : Stands v fz s) (r chk) : Answers v fz (execExpandCopy r chk s) := by
  unfold execExpandCopy
  split
  · exact skip_answers h
  · split
    · exact skip_answers h
    next =>
      extract_lets u
      have taken : Stands v fz u := modEv_stands (markTag_stands h _ _) _ _
      clear_value u
      grind [finish_answers, evCount_stands, expandRun_stands, regionFault_stands, settleTag_stands]

theorem execGroupToQueue_answers (h : Stands v fz s) (r) : Answers v fz (execGroupToQueue r s) := by
  unfold execGroupToQueue; grind [entryServed_stands, evCount_stands, finish_answers, markRows_stands, modBlk_stands, modEv_stands,
    settleTag_stands, skip_answers]

theorem execRingRowsToQueue_answers (h : Stands v fz s) (r b) : Answers v fz (execRingRowsToQueue r b s) := by
  unfold execRingRowsToQueue; grind [finish_answers, markRows_stands, modBlk_stands, skip_answers]

theorem execStepEntryComplete_answers (h : Stands v fz s) (r) : Answers v fz (execStepEntryComplete r s) := by
  unfold execStepEntryComplete; grind [finish_answers, moveClose_stands, skip_answers]

theorem execStepDrained_answers (h : Stands v fz s) (r bad) : Answers v fz (execStepDrained r s bad) := by
  unfold execStepDrained; grind [finish_answers, firstFault_stands, moveClose_stands, skip_answers, startSweeps_stands]

theorem execStepSweepsDone_answers (h : Stands v fz s) (r) : Answers v fz (execStepSweepsDone r s) := by
  unfold execStepSweepsDone; grind [Stands, advanceEpoch_stands, countR_stands, finishSync_answers, reportSweep_stands,
    retryRegion_stands, skip_answers, sweepLength_stands]

theorem execEmitBufferPass_answers (h : Stands v fz s) (r b bad) : Answers v fz (execEmitBufferPass r b bad s) := by
  unfold execEmitBufferPass; grind [emitServed_stands, finish_answers, halfFault_stands, modBlk_stands, sendPkt_stands, skip_answers,
    toEgress_stands]

theorem execEgressEventTaken_answers (h : Stands v fz s) (n) : Answers v fz (execEgressEventTaken n s) := by
  unfold execEgressEventTaken; grind [Stands, countM_stands, finish_answers, skip_answers]

theorem execModelSwitch_answers (h : Stands v fz s) (port r data) : Answers v fz (execModelSwitch port r data s) := by
  unfold execModelSwitch; grind [ack_stands, busErr_stands, finish_answers, selectModel_stands, skip_answers]

theorem execModelSwitchComplete_answers (h : Stands v fz s) (r) : Answers v fz (execModelSwitchComplete r s) := by
  unfold execModelSwitchComplete; grind [finish_answers, modRg_stands, skip_answers]

theorem execTrellisDataWrite_answers (h : Stands v fz s) (port r data) : Answers v fz (execTrellisDataWrite port r data s) := by
  unfold execTrellisDataWrite; grind [finish_answers, skip_answers, trWrite_stands, wideWrite_stands]

theorem execTrellisDataRead_answers (h : Stands v fz s) (port r bad) : Answers v fz (execTrellisDataRead port r bad s) := by
  unfold execTrellisDataRead; grind [finish_answers, skip_answers, trRead_stands, wideRead_stands]

theorem execTrellisDelayWrite_answers (h : Stands v fz s) (port r data) : Answers v fz (execTrellisDelayWrite port r data s) := by
  unfold execTrellisDelayWrite; grind [finish_answers, skip_answers, trDelay_stands]

/-! ### Machine/Sluice -/

theorem execSluiceRelease_answers (h : Stands v fz s) (p urg) : Answers v fz (execSluiceRelease p urg s) := by
  unfold execSluiceRelease; grind [finish_answers, pumpPort_stands, skip_answers, sluiceTest_stands]

theorem execSluiceWindowBoundary_answers (h : Stands v fz s) (half) : Answers v fz (execSluiceWindowBoundary half s) := by
  unfold execSluiceWindowBoundary; grind [Stands, finish_answers, skip_answers]

theorem execSluiceConfigWrite_answers (h : Stands v fz s) (port reg data) : Answers v fz (execSluiceConfigWrite port reg data s) := by
  unfold execSluiceConfigWrite; grind [Stands, ack_stands, busErr_stands, finish_answers, skip_answers]

/-! ### Machine/Plan -/

theorem execPlanDataWord_answers (h : Stands v fz s) (port w) : Answers v fz (execPlanDataWord port w s) := by
  unfold execPlanDataWord; grind [busErr_stands, finish_answers, plnWord_stands, skip_answers]

theorem execPlanStart_answers (h : Stands v fz s) (port source abort) : Answers v fz (execPlanStart port source abort s) := by
  unfold execPlanStart; grind [busErr_stands, finish_answers, plnCtrl_stands, skip_answers]

theorem execPlanAbort_answers (h : Stands v fz s) (port source) : Answers v fz (execPlanAbort port source s) := by
  unfold execPlanAbort; grind [busErr_stands, finish_answers, plnCtrl_stands, skip_answers]

theorem execPlanHeader_answers (h : Stands v fz s) : Answers v fz (execPlanHeader s) := by
  unfold execPlanHeader; grind [Stands, finish_answers, measureTaken_stands, rejectLoad_stands, retryPln_stands, skip_answers,
    startLoad_stands]

theorem execPlanSection_answers (h : Stands v fz s) : Answers v fz (execPlanSection s) := by
  unfold execPlanSection; grind [applySection_stands, finish_answers, rejectLoad_stands, retryPln_stands, sectionDone_stands, skip_answers]

/-! ### Machine/Gatehouse -/

theorem execFuseReadStart_answers (h : Stands v fz s) : Answers v fz (execFuseReadStart s) := by
  unfold execFuseReadStart; grind [Stands, finish_answers, skip_answers]

theorem execFuseAck_answers (h : Stands v fz s) (data) : Answers v fz (execFuseAck data s) := by
  unfold execFuseAck; grind [Stands, finish_answers, fuseDone_stands, skip_answers]

theorem execFuseTimeout_answers (h : Stands v fz s) : Answers v fz (execFuseTimeout s) := by
  unfold execFuseTimeout
  extract_lets old u1 u2
  have cleared : Stands v fz u1 := h.of_eq rfl rfl
  have lost : Stands v fz u2 := loseChanged_stands cleared _
  clear_value u2
  grind [Stands, skip_answers, finish_answers]

theorem execMgmtPortReady_answers (h : Stands v fz s) : Answers v fz (execMgmtPortReady s) := by
  unfold execMgmtPortReady; grind [Stands, finish_answers, skip_answers]

theorem execFwStart_answers (h : Stands v fz s) (port cpOpen) : Answers v fz (execFwStart port cpOpen s) := by
  unfold execFwStart; grind [busErr_stands, finish_answers, ghCtrl_stands, skip_answers]

theorem execFwAbort_answers (h : Stands v fz s) (port cpOpen) : Answers v fz (execFwAbort port cpOpen s) := by
  unfold execFwAbort; grind [busErr_stands, finish_answers, ghCtrl_stands, skip_answers]

theorem execCpOpen_answers (h : Stands v fz s) (port u) : Answers v fz (execCpOpen port u s) := by
  unfold execCpOpen; grind [busErr_stands, finish_answers, ghCtrl_stands, skip_answers]

theorem execFwDataWord_answers (h : Stands v fz s) (port w) : Answers v fz (execFwDataWord port w s) := by
  unfold execFwDataWord; grind [busErr_stands, finish_answers, fwWord_stands, skip_answers]

theorem execFwImageEnd_answers (h : Stands v fz s) : Answers v fz (execFwImageEnd s) := by
  unfold execFwImageEnd
  extract_lets u gh
  have extended : Stands v fz u := queueExtend_stands h _ _
  grind [Stands, skip_answers, finish_answers, fwFail_stands]

theorem execGatehouseSleep_answers (h : Stands v fz s) (accs) : Answers v fz (execGatehouseSleep s accs) := by
  have slept : ∀ g, Stands v fz { coreRuns s accs with gh := g } := fun _ => (coreRuns_stands h accs).of_eq rfl rfl
  unfold execGatehouseSleep
  split; exacts [skip_answers h, finish_answers (slept _)]

theorem execGatehouseWake_answers (h : Stands v fz s) (accs) : Answers v fz (execGatehouseWake accs s) := by
  unfold execGatehouseWake; grind [Stands, coreRuns_stands, finish_answers, skip_answers]

theorem execTimerInterrupt_answers (h : Stands v fz s) : Answers v fz (execTimerInterrupt s) := by
  unfold execTimerInterrupt; grind [Stands, finish_answers, skip_answers]

theorem execMeasureExtend_answers (h : Stands v fz s) (port slot) : Answers v fz (execMeasureExtend port slot s) := by
  unfold execMeasureExtend; grind [Stands, ack_stands, busErr_stands, finish_answers, skip_answers]

theorem execMeasure_answers (h : Stands v fz s) : Answers v fz (execMeasure s) := by
  unfold execMeasure; grind [finish_answers, measureRequest_stands, skip_answers]

theorem execBootStatus_answers (h : Stands v fz s) : Answers v fz (execBootStatus s) := by
  unfold execBootStatus; grind [finish_answers, skip_answers, takeRequest_stands]

theorem execFuseReread_answers (h : Stands v fz s) : Answers v fz (execFuseReread s) := by
  have read : ∀ q f, Stands v fz { takeRequest s q with fuse := f } := fun q _ => (takeRequest_stands h q).of_eq rfl rfl
  unfold execFuseReread
  grind [skip_answers, finish_answers, takeRequest_stands]

theorem execSignedMeasure_answers (h : Stands v fz s) (skPresent) : Answers v fz (execSignedMeasure skPresent s) := by
  unfold execSignedMeasure; grind [finish_answers, measureRequest_stands, skip_answers]

theorem execUnknownRequest_answers (h : Stands v fz s) : Answers v fz (execUnknownRequest s) := by
  unfold execUnknownRequest; grind [finish_answers, skip_answers, takeRequest_stands]

theorem execGatehouseReply_answers (h : Stands v fz s) : Answers v fz (execGatehouseReply s) := by
  unfold execGatehouseReply; grind [Stands, finish_answers, sendBox_stands, skip_answers]

theorem execSigningResponse_answers (h : Stands v fz s) (words err) : Answers v fz (execSigningResponse words err s) := by
  unfold execSigningResponse; grind [Stands, finish_answers, skip_answers]

theorem execSigningTimeout_answers (h : Stands v fz s) : Answers v fz (execSigningTimeout s) := by
  unfold execSigningTimeout; grind [Stands, finish_answers, skip_answers]

/-! ### Machine/Rill -/

theorem execRingBell_answers (h : Stands v fz s) (port slot) : Answers v fz (execRingBell port slot s) := by
  unfold execRingBell; grind [ack_stands, busErr_stands, finish_answers, finishSync_answers, ringStream_stands, skip_answers]

theorem execStreamAbort_answers (h : Stands v fz s) (port slot) : Answers v fz (execStreamAbort port slot s) := by
  unfold execStreamAbort; grind [ack_stands, askAbort_stands, busErr_stands, finish_answers, finishSync_answers, skip_answers]

theorem execStreamSlotWrite_answers (h : Stands v fz s) (port slot word data) : Answers v fz (execStreamSlotWrite port slot word data s)
  := by
  unfold execStreamSlotWrite; grind [ack_stands, busErr_stands, finish_answers, finishSync_answers, skip_answers, writeSlot_stands]

theorem execAdmitDescriptor_answers (h : Stands v fz s) (k) : Answers v fz (execAdmitDescriptor k s) := by
  unfold execAdmitDescriptor; grind [admitTile_stands, finish_answers, finishSync_answers, halfFault_stands, modStream_stands,
    popAdmit_stands, skip_answers, wicketWait_stands]

theorem issueChecked_answers (h : Stands v fz s) (k t i tag chk) {f : State → State} (hf : ∀ u, Stands v fz u → Stands v fz (f u)) :
    Answers v fz (issueChecked s k t i tag chk f) := by
  unfold issueChecked; grind [finish_answers, halfFault_stands, issueBeat_stands]

theorem execRillIssue_answers (h : Stands v fz s) (k chk) : Answers v fz (execRillIssue k chk s) := by
  unfold execRillIssue; grind [fetchWait_stands, finish_answers, issueChecked_answers, issueFetch_stands, modRp_stands, skip_answers,
    wicketWon_stands]

theorem execRillReadResponse_answers (h : Stands v fz s) (k tag data resp) : Answers v fz (execRillReadResponse k tag data resp s) := by
  unfold execRillReadResponse; grind [dropOut_stands, dropWicket_stands, finish_answers, finishSync_answers, ghFetched_stands,
    halfFault_stands, mergedRead_stands, modRp_stands, placeBeats_stands, rillError_stands, settleAll_stands, skip_answers,
      xlateBeats_stands]

theorem execRillWriteResponse_answers (h : Stands v fz s) (k tag resp) : Answers v fz (execRillWriteResponse k tag resp s) := by
  unfold execRillWriteResponse; grind [dropOut_stands, finish_answers, finishSync_answers, halfFault_stands, placeBeats_stands,
    rillError_stands, settleAll_stands, skip_answers, xlateBeats_stands]

theorem execFillPieceWrite_answers (h : Stands v fz s) (k chk) : Answers v fz (execFillPieceWrite k chk s) := by
  unfold execFillPieceWrite; grind [finish_answers, halfFault_stands, modRp_stands, movePiece_stands, skip_answers]

theorem execDrainPieceRead_answers (h : Stands v fz s) (k chk) : Answers v fz (execDrainPieceRead k s chk) := by
  unfold execDrainPieceRead; grind [finish_answers, halfFault_stands, modRp_stands, movePiece_stands, skip_answers]

theorem execTileComplete_answers (h : Stands v fz s) (slot) : Answers v fz (execTileComplete slot s) := by
  unfold execTileComplete; grind [completeTile_stands, finishSync_answers, skip_answers]

theorem execEchoInvalidate_answers (h : Stands v fz s) (port p0 p1) : Answers v fz (execEchoInvalidate port p0 p1 s) := by
  unfold execEchoInvalidate; grind [ack_stands, busErr_stands, echInv_stands, finish_answers, skip_answers]

theorem execEchoInvalidateDone_answers (h : Stands v fz s) (k) : Answers v fz (execEchoInvalidateDone k s) := by
  unfold execEchoInvalidateDone; grind [finish_answers, modRp_stands, skip_answers]

theorem execEchoEnableWrite_answers (h : Stands v fz s) (port en0 en1) : Answers v fz (execEchoEnableWrite port en0 en1 s) := by
  unfold execEchoEnableWrite; grind [ack_stands, finish_answers, setEcho_stands, skip_answers]

/-! ### Machine/Counters -/

theorem execCounterSample_answers (h : Stands v fz s) : Answers v fz (execCounterSample s) := by
  unfold execCounterSample; grind [Stands, finish_answers, skip_answers, takeSample_stands]

theorem execDumpNow_answers (h : Stands v fz s) (port) : Answers v fz (execDumpNow port s) := by
  unfold execDumpNow; grind [Stands, mgmtWrite_answers]

theorem execDumpBodyWrite_answers (h : Stands v fz s) : Answers v fz (execDumpBodyWrite s) := by
  unfold execDumpBodyWrite; grind [dumpBeat_stands, dumpMove_stands, finish_answers, skip_answers, foldl_stands]

theorem execDumpHeaderClose_answers (h : Stands v fz s) : Answers v fz (execDumpHeaderClose s) := by
  unfold execDumpHeaderClose; grind [dumpBeat_stands, dumpMove_stands, finish_answers, skip_answers]

theorem execDumpComplete_answers (h : Stands v fz s) : Answers v fz (execDumpComplete s) := by
  unfold execDumpComplete; grind [Stands, finishSync_answers, rillSem_stands, skip_answers]

theorem execTaggingEnable_answers (h : Stands v fz s) (port en kind k) : Answers v fz (execTaggingEnable port en kind k s) := by
  unfold execTaggingEnable; grind [mgmtWrite_answers, writeTag_stands]

theorem execTagClear_answers (h : Stands v fz s) (port en kind k) : Answers v fz (execTagClear port en kind k s) := by
  unfold execTagClear; grind [mgmtWrite_answers, writeTag_stands]

theorem execCounterWrite_answers (h : Stands v fz s) (port c data) : Answers v fz (execCounterWrite port c data s) := by
  unfold execCounterWrite; grind [mgmtWrite_answers, modCnt_stands, skip_answers, wakeCnt_stands, wideWrite_stands]

/-! ### Machine/Faults -/

theorem execStop_answers (h : Stands v fz s) (port) : Answers v fz (execStop port s) := by
  unfold execStop; grind [Stands, freezeWatches_stands, frozenHeads_stands, mgmtWrite_answers]

theorem execFreeze_answers (h : Stands v fz s) (port stopToo) : Answers v fz (execFreeze port stopToo s) := by
  unfold execFreeze; grind [assertFreeze_stands, mgmtWrite_answers]

theorem execStopQuiescent_answers (h : Stands v fz s) : Answers v fz (execStopQuiescent s) := by
  unfold execStopQuiescent; grind [Stands, assertFreeze_stands, finish_answers, skip_answers]

theorem execEastFaultRaise_answers (h : Stands v fz s) : Answers v fz (execEastFaultRaise s) := by
  unfold execEastFaultRaise; grind [Stands, finish_answers, recordFault_stands, skip_answers]

theorem execInjected_answers (h : Stands v fz s) (port u) : Answers v fz (execInjected port u s) := by
  unfold execInjected; grind [mgmtWrite_answers, wholeFault_stands]

theorem execFreezeReachHalf_answers (h : Stands v fz s) (half) : Answers v fz (execFreezeReachHalf half s) := by
  unfold execFreezeReachHalf; grind [finish_answers, reachHalf_stands, skip_answers]

theorem execJobRestartGo_answers (h : Stands v fz s) (port keepData release) : Answers v fz (execJobRestartGo port keepData release s) := by
  unfold execJobRestartGo; grind [ack_stands, busErr_stands, finish_answers, restartGo_stands, skip_answers]

theorem execRestartClearsDone_answers (h : Stands v fz s) : Answers v fz (execRestartClearsDone s) := by
  unfold execRestartClearsDone; grind [Stands, finish_answers, skip_answers]

theorem fenceWrite_answers (h : Stands v fz s) (port r w) : Answers v fz (fenceWrite port r w s) := by
  unfold fenceWrite; grind [ack_stands, busErr_stands, finish_answers, skip_answers, writeFence_stands]

theorem execFenceSet_answers (h : Stands v fz s) (port r w) : Answers v fz (execFenceSet port r w s) := by
  unfold execFenceSet; grind [fenceWrite_answers]

theorem execFenceClear_answers (h : Stands v fz s) (port r w) : Answers v fz (execFenceClear port r w s) := by
  unfold execFenceClear; grind [fenceWrite_answers]

/-! ### Machine/Footbridge -/

theorem execLinkRetrain_answers (h : Stands v fz s) (port data) : Answers v fz (execLinkRetrain port data s) := by
  unfold execLinkRetrain; grind [ack_stands, busErr_stands, finish_answers, skip_answers, writeFbCtrl_stands]

theorem execTrainClockDone_answers (h : Stands v fz s) (d unlocked) : Answers v fz (execTrainClockDone d unlocked s) := by
  unfold execTrainClockDone; grind [failTraining_stands, finish_answers, modDir_stands, skip_answers]

theorem execTrainDeskewDone_answers (h : Stands v fz s) (d) : Answers v fz (execTrainDeskewDone d s) := by
  unfold execTrainDeskewDone; grind [finish_answers, modDir_stands, skip_answers]

theorem execTrainFrameDone_answers (h : Stands v fz s) (d fails) : Answers v fz (execTrainFrameDone d fails s) := by
  unfold execTrainFrameDone; grind [failTraining_stands, finish_answers, markSpares_stands, modDir_stands, placeWires_stands, skip_answers]

theorem execLinkUp_answers (h : Stands v fz s) (d) : Answers v fz (execLinkUp d s) := by
  unfold execLinkUp
  extract_lets u fb
  have replayed : Stands v fz u := startReplay_stands (modDir_stands h _ _) _
  clear_value u
  grind [Stands, skip_answers, finish_answers]

theorem execPacketStart_answers (h : Stands v fz s) (d c) : Answers v fz (execPacketStart d c s) := by
  unfold execPacketStart; grind [countM_stands, finish_answers, modDir_stands, skip_answers]

theorem execNakRepeatReplay_answers (h : Stands v fz s) (d) : Answers v fz (execNakRepeatReplay d s) := by
  unfold execNakRepeatReplay; grind [finish_answers, skip_answers, startReplay_stands]

theorem execAckStallReplay_answers (h : Stands v fz s) (d) : Answers v fz (execAckStallReplay d s) := by
  unfold execAckStallReplay; grind [finish_answers, skip_answers, startReplay_stands]

theorem execSideWordTimeout_answers (h : Stands v fz s) (d) : Answers v fz (execSideWordTimeout d s) := by
  unfold execSideWordTimeout; grind [finish_answers, linkFault_stands, skip_answers]

theorem execSideWordReceive_answers (h : Stands v fz s) (d c noise) : Answers v fz (execSideWordReceive d c noise s) := by
  unfold execSideWordReceive; grind [finish_answers, modDir_stands, skip_answers, takeSide_stands]

theorem execFlitReceive_answers (h : Stands v fz s) (d noise) : Answers v fz (execFlitReceive d noise s) := by
  unfold execFlitReceive; grind [acceptFlit_stands, badFlit_stands, countCrc_stands, finish_answers, modDir_stands, skip_answers]

theorem takeLink_answers (h : Stands v fz s) (l ty noise) {f : State → Fin 4 → Fin 144 → Fin 8 → State}
    (hf : ∀ u g w i, Stands v fz u → Stands v fz (f u g w i)) : Answers v fz (takeLink s l ty noise f) := by
  unfold takeLink; grind [skip_answers, finish_answers, countCrc_stands, linkPop_stands]

theorem execRetireReq_answers (h : Stands v fz s) (d noise) : Answers v fz (execRetireReq d s noise) := by
  unfold execRetireReq; grind [modDir_stands, sendLink_stands, takeLink_answers]

theorem execRetireDup_answers (h : Stands v fz s) (d noise) : Answers v fz (execRetireDup d s noise) := by
  unfold execRetireDup; grind [modDir_stands, recordSpare_stands, sendLink_stands, takeLink_answers]

theorem execRetireDone_answers (h : Stands v fz s) (d noise) : Answers v fz (execRetireDone d s noise) :=
  takeLink_answers h _ _ _ fun _ _ _ _ hu => hu.of_eq rfl rfl

theorem execRetireReqRepeat_answers (h : Stands v fz s) (d) : Answers v fz (execRetireReqRepeat d s) := by
  unfold execRetireReqRepeat; grind [finish_answers, sendLink_stands, skip_answers, foldl_stands]

theorem execSpareErrorWindow_answers (h : Stands v fz s) : Answers v fz (execSpareErrorWindow s) := by
  unfold execSpareErrorWindow
  split; exacts [skip_answers h, finish_answers (h.of_eq rfl rfl)]

theorem takePacket_answers (h : Stands v fz s) (d k) {f : State → Packet → State} (hf : ∀ u p, Stands v fz u → Stands v fz (f u p)) :
    Answers v fz (takePacket s d k f) := by
  unfold takePacket; grind [skip_answers, finishSync_answers, rxPop_stands]

theorem execFbPktRead_answers (h : Stands v fz s) (d) : Answers v fz (execFbPktRead d s) := by
  unfold execFbPktRead; grind [takePacket_answers, takePiece_stands]

theorem execFbPktWrite_answers (h : Stands v fz s) (d) : Answers v fz (execFbPktWrite d s) := by
  unfold execFbPktWrite; grind [takePacket_answers, takePiece_stands]

theorem execFbPktAtomic_answers (h : Stands v fz s) (d) : Answers v fz (execFbPktAtomic d s) := by
  unfold execFbPktAtomic; grind [packetPiece_stands, takePacket_answers]

theorem execFbPktReadData_answers (h : Stands v fz s) (d) : Answers v fz (execFbPktReadData d s) := by
  unfold execFbPktReadData; grind [packetBack_stands, takePacket_answers]

theorem execFbPktWriteAck_answers (h : Stands v fz s) (d) : Answers v fz (execFbPktWriteAck d s) := by
  unfold execFbPktWriteAck; grind [packetBack_stands, takePacket_answers]

theorem execFbPktAtomicData_answers (h : Stands v fz s) (d) : Answers v fz (execFbPktAtomicData d s) := by
  unfold execFbPktAtomicData; grind [packetBack_stands, takePacket_answers]

theorem execFbPktSignal_answers (h : Stands v fz s) (d) : Answers v fz (execFbPktSignal d s) := by
  unfold execFbPktSignal; grind [arriveSignal_stands, takePacket_answers]

theorem execFbPktSignalAck_answers (h : Stands v fz s) (d) : Answers v fz (execFbPktSignalAck d s) := by
  unfold execFbPktSignalAck; grind [ackSignal_stands, takePacket_answers]

theorem execFbPktRetire_answers (h : Stands v fz s) (d) : Answers v fz (execFbPktRetire d s) := by
  unfold execFbPktRetire; grind [takeCounts_stands, takePacket_answers]

theorem execFbPktControl_answers (h : Stands v fz s) (d) : Answers v fz (execFbPktControl d s) := by
  unfold execFbPktControl; grind [ctlAct_stands, takePacket_answers]

theorem execFbPktStep_answers (h : Stands v fz s) (d) : Answers v fz (execFbPktStep d s) := by
  unfold execFbPktStep; grind [markSteps_stands, takePacket_answers]

theorem execFbPktEvents_answers (h : Stands v fz s) (d) : Answers v fz (execFbPktEvents d s) := by
  unfold execFbPktEvents; grind [deliverEntry_stands, skip_answers, takePacket_answers, foldl_stands]

/-! ### Machine/Lanes -/

theorem execRowEventIssue_answers (h : Stands v fz s) (r b chk) : Answers v fz (execRowEventIssue r b chk s) := by
  unfold execRowEventIssue; grind [countB_stands, finish_answers, governed_answers, markTag_stands, modBlk_stands, rowChecked_stands,
    skip_answers]

theorem execBasinClear_answers (h : Stands v fz s) (port r data) : Answers v fz (execBasinClear port r data s) := by
  unfold execBasinClear; grind [basinClr_stands, finish_answers, skip_answers]

theorem execBasinDataWrite_answers (h : Stands v fz s) (port r data) : Answers v fz (execBasinDataWrite port r data s) := by
  unfold execBasinDataWrite; grind [basinWr_stands, finish_answers, skip_answers, wideWrite_stands]

theorem execBasinDataRead_answers (h : Stands v fz s) (port r bad) : Answers v fz (execBasinDataRead port r bad s) := by
  unfold execBasinDataRead; grind [basinRd_stands, finish_answers, skip_answers, wideRead_stands]

/-! ### Machine/Lodge -/

theorem execMailboxSend_answers (h : Stands v fz s) (port n data) : Answers v fz (execMailboxSend port n data s) := by
  unfold execMailboxSend; grind [ack_stands, busErr_stands, finish_answers, holdAcc_stands, sendBox_stands, skip_answers, wideWrite_stands]

theorem execDepositAnnounce_answers (h : Stands v fz s) (n) : Answers v fz (execDepositAnnounce n s) := by
  unfold execDepositAnnounce
  split
  · exact skip_answers h
  · split
    · exact skip_answers h
    next d ds _ =>
      have taken := modBox_stands h n (fun x => { x with deps := ds })
      grind [skip_answers, finishSync_answers, answerSender_stands, countM_stands, modBox_stands, pairAdd_stands, refuseOp_stands,
        rejectSend_stands]

theorem execMailboxTake_answers (h : Stands v fz s) (port n) : Answers v fz (execMailboxTake port n s) := by
  unfold execMailboxTake; grind [busErr_stands, finish_answers, modBox_stands, reply_stands, skip_answers, wideRead_stands]

theorem execMailboxConfigWrite_answers (h : Stands v fz s) (port n data) : Answers v fz (execMailboxConfigWrite port n data s) := by
  unfold execMailboxConfigWrite; grind [ack_stands, busErr_stands, finish_answers, modBox_stands, skip_answers, wideWrite_stands]

/-! ### Machine/Sweep -/

theorem instrRow_answers (h : Stands v fz s) (r b op chk) {f : Sweep → W32 → State} (hf : ∀ w x, Stands v fz (f w x)) :
    Answers v fz (instrRow s r b op chk f) := by
  unfold instrRow; grind [skip_answers, finish_answers, chkFault_stands]

theorem aluRow_answers (h : Stands v fz s) (r b op chk f) : Answers v fz (aluRow r b op chk s f) := by
  unfold aluRow; exact instrRow_answers h _ _ _ _ fun _ _ => arithSat_stands (putSweep_stands h _ _ _) _ _

theorem execRange_answers (h : Stands v fz s) (r b chk) : Answers v fz (execRange r b chk s) := by
  unfold execRange; grind [finish_answers, modSweep_stands, skip_answers, storeFault_stands]

theorem execSweepGroupStart_answers (h : Stands v fz s) (r b chk) : Answers v fz (execSweepGroupStart r b chk s) := by
  unfold execSweepGroupStart; grind [countB_stands, finish_answers, governed_answers, modSweep_stands, skip_answers, storeFault_stands]

theorem execEndProg_answers (h : Stands v fz s) (r b chk) : Answers v fz (execEndProg r b chk s) := by
  unfold execEndProg; grind [instrRow_answers, modSweep_stands]

theorem execInvalidInstruction_answers (h : Stands v fz s) (r b chk) : Answers v fz (execInvalidInstruction r b chk s) := by
  unfold execInvalidInstruction; grind [instrRow_answers, modRg_stands, modSweep_stands]

theorem execLds_answers (h : Stands v fz s) (r b chk) : Answers v fz (execLds r b chk s) := by
  unfold execLds; grind [countB_stands, instrRow_answers, putSweep_stands]

theorem execSts_answers (h : Stands v fz s) (r b chk) : Answers v fz (execSts r b chk s) := by
  unfold execSts; grind [countB_stands, instrRow_answers, putRows_stands, putSweep_stands]

theorem execLdb_answers (h : Stands v fz s) (r b chk) : Answers v fz (execLdb r b chk s) := by
  unfold execLdb; grind [arithSat_stands, basinZero_stands, countB_stands, instrRow_answers, putSweep_stands]

theorem execStb_answers (h : Stands v fz s) (r b chk) : Answers v fz (execStb r b chk s) := by
  unfold execStb; grind [arithSat_stands, basinPut_stands, countB_stands, instrRow_answers, putSweep_stands]

theorem execLdi_answers (h : Stands v fz s) (r b chk) : Answers v fz (execLdi r b chk s) := by
  unfold execLdi; grind [aluRow_answers]

theorem execSweepAdd_answers (h : Stands v fz s) (r b chk) : Answers v fz (execSweepAdd r b chk s) := by
  unfold execSweepAdd; grind [aluRow_answers]

theorem execSweepSub_answers (h : Stands v fz s) (r b chk) : Answers v fz (execSweepSub r b chk s) := by
  unfold execSweepSub; grind [aluRow_answers]

theorem execAddc_answers (h : Stands v fz s) (r b chk) : Answers v fz (execAddc r b chk s) := by
  unfold execAddc; grind [aluRow_answers]

theorem execMulc_answers (h : Stands v fz s) (r b chk) : Answers v fz (execMulc r b chk s) := by
  unfold execMulc; grind [aluRow_answers]

theorem execShri_answers (h : Stands v fz s) (r b chk) : Answers v fz (execShri r b chk s) := by
  unfold execShri; grind [aluRow_answers]

theorem execMax_answers (h : Stands v fz s) (r b chk) : Answers v fz (execMax r b chk s) := by
  unfold execMax; grind [aluRow_answers]

theorem execMin_answers (h : Stands v fz s) (r b chk) : Answers v fz (execMin r b chk s) := by
  unfold execMin; grind [aluRow_answers]

theorem execCmp_answers (h : Stands v fz s) (r b chk) : Answers v fz (execCmp r b chk s) := by
  unfold execCmp; grind [instrRow_answers, putSweep_stands]

theorem execSel_answers (h : Stands v fz s) (r b chk) : Answers v fz (execSel r b chk s) := by
  unfold execSel; grind [aluRow_answers]

theorem execRst_answers (h : Stands v fz s) (r b chk) : Answers v fz (execRst r b chk s) := by
  unfold execRst; grind [aluRow_answers]

theorem execEmit_answers (h : Stands v fz s) (r b chk) : Answers v fz (execEmit r b chk s) := by
  unfold execEmit; grind [countB_stands, instrRow_answers, modBlk_stands, modRg_stands, putSweep_stands]

theorem execTrc_answers (h : Stands v fz s) (r b chk) : Answers v fz (execTrc r b chk s) := by
  unfold execTrc; grind [instrRow_answers, modRg_stands, putSweep_stands]

theorem execSweepDataRead_answers (h : Stands v fz s) (port r bad) : Answers v fz (execSweepDataRead port r bad s) := by
  unfold execSweepDataRead; grind [finish_answers, skip_answers, sweepRdAcc_stands]

/-! ### Machine/Control -/

theorem getReg_answers (h : Stands v fz s) (port x) : Answers v fz (getReg port x s) := by
  unfold getReg; grind [basinClrRd_stands, execBasinDataRead_answers, execControlMessageTake_answers, execMailboxTake_answers,
    execSweepDataRead_answers, execTrellisDataRead_answers, finish_answers, rcClear_stands, reply_stands, touch_stands]

theorem putSlot_answers (h : Stands v fz s) (port n j d m) : Answers v fz (putSlot port n j d m s) := by
  unfold putSlot; grind [ack_stands, busErr_stands, finish_answers, finishSync_answers, writeSlot_stands]

theorem putPlnCtrl_answers (h : Stands v fz s) (port d) : Answers v fz (putPlnCtrl port d s) := by
  unfold putPlnCtrl; grind [finish_answers, plnCtrl_stands]

theorem putGhCtrl_answers (h : Stands v fz s) (port d) : Answers v fz (putGhCtrl port d s) := by
  unfold putGhCtrl; grind [finish_answers, ghCtrl_stands]

theorem putGhCmd_answers (h : Stands v fz s) (port d) : Answers v fz (putGhCmd port d s) := by
  unfold putGhCmd; grind [ack_stands, execFreeze_answers, execStop_answers, finish_answers]

theorem slotHalf_answers (h : Stands v fz s) (port n j hi wr) : Answers v fz (slotHalf port n j hi wr s) := by
  unfold slotHalf; grind [finish_answers, putSlot_answers, reply_stands]

/-! ### Machine/Wrapper -/

theorem execWrapperReset_answers (h : Stands v fz s) (asserted) : Answers v fz (execWrapperReset asserted s) := by
  unfold execWrapperReset; grind [abortRun_stands, finish_answers, modWrp_stands]

theorem execTestModeChange_answers (h : Stands v fz s) (u) : Answers v fz (execTestModeChange u s) := by
  unfold execTestModeChange; grind [Stands, finish_answers, skip_answers]

theorem selectInstr_answers (h : Stands v fz s) (plofa i f) : Answers v fz (selectInstr s plofa i f) := by
  unfold selectInstr; grind [skip_answers, finish_answers, modWrp_stands]

theorem execWsBypass_answers (h : Stands v fz s) (bit) : Answers v fz (execWsBypass bit s) := by
  unfold execWsBypass; grind [selectInstr_answers]

theorem execWsExtest_answers (h : Stands v fz s) (cells) : Answers v fz (execWsExtest cells s) := by
  unfold execWsExtest; grind [selectInstr_answers]

theorem execPlId_answers (h : Stands v fz s) : Answers v fz (execPlId s) := by
  unfold execPlId; grind [selectInstr_answers]

theorem execPlTctrl_answers (h : Stands v fz s) (w) : Answers v fz (execPlTctrl w s) := by
  unfold execPlTctrl; grind [selectInstr_answers]

theorem execPlTstat_answers (h : Stands v fz s) : Answers v fz (execPlTstat s) := by
  unfold execPlTstat; grind [selectInstr_answers]

theorem execPlTresult_answers (h : Stands v fz s) : Answers v fz (execPlTresult s) := by
  unfold execPlTresult; grind [selectInstr_answers]

theorem execPlRepair_answers (h : Stands v fz s) : Answers v fz (execPlRepair s) := by
  unfold execPlRepair; grind [selectInstr_answers]

theorem execSelfTestStart_answers (h : Stands v fz s) : Answers v fz (execSelfTestStart s) := by
  unfold execSelfTestStart; grind [finish_answers, modWrp_stands, skip_answers]

theorem execSelfTestDone_answers (h : Stands v fz s) (res) : Answers v fz (execSelfTestDone res s) := by
  unfold execSelfTestDone; grind [finish_answers, loseArrays_stands, modWrp_stands, skip_answers]

/-! ### Machine/Reset -/

theorem execMacroResetRelease_answers (h : Stands v fz s) (bootSrc) : Answers v fz (execMacroResetRelease bootSrc s) := by
  unfold execMacroResetRelease; grind [Stands, finish_answers, skip_answers, train_stands]

theorem execFclkOkRise_answers (h : Stands v fz s) (half) : Answers v fz (execFclkOkRise half s) := by
  unfold execFclkOkRise; grind [Stands, finish_answers, skip_answers, train_stands]

theorem execFclkOkFall_answers (h : Stands v fz s) (half) : Answers v fz (execFclkOkFall half s) := by
  unfold execFclkOkFall; grind [Stands, abortRun_stands, finish_answers, halfFault_stands, skip_answers, train_stands]

theorem execRailUndervolt_answers (h : Stands v fz s) (half rail) : Answers v fz (execRailUndervolt half rail s) := by
  unfold execRailUndervolt; grind [Stands, finish_answers, halfFault_stands, skip_answers]

end Sys2Proof.Machine
end

section
/-! PROOF. The commands answer a next state: register accesses, the whole table, and the statements about freeze and about every command
(R24, R441, R451, R461). -/

namespace Sys2Proof.Machine

section
variable {v : Vector (BitVec 384) 8} {fz : Prop} {s : State}

/-! ### Machine/Faults -/

theorem execJobRestartRelease_answers (h : Stands v fz s) (hf : ¬fz) (port keep) : Answers v fz (execJobRestartRelease port keep s) := by
  have released : ∀ u, Stands v fz u → Stands v fz (releaseFreeze u keep) := fun _ hu => ⟨hu.1, fun yes => absurd yes hf⟩
  unfold execJobRestartRelease; grind [skip_answers, finish_answers, finishSync_answers, ack_stands, busErr_stands]

/-! ### Machine/Gatehouse -/

/-- The extend changes its slot alone, and freeze stands. -/
theorem execSlotExtendComplete_answers (h : Stands v fz s) : ∃ w, Answers w fz (execSlotExtendComplete s) := by
  unfold execSlotExtendComplete
  split
  · exact ⟨v, skip_answers h⟩
  · split
    · exact ⟨v, skip_answers h⟩
    next e es _ =>
      extract_lets m u u1 u2
      have extended : Stands (extendSlot s.meas e).slots fz u := ⟨rfl, h.2⟩
      clear_value u
      have booted : Stands (extendSlot s.meas e).slots fz u1 := by
        unfold u1; split; exacts [extended, extended.of_eq rfl rfl]
      clear_value u1
      refine ⟨(extendSlot s.meas e).slots, finish_answers (retryWords_stands ?_)⟩
      unfold u2
      split
      · exact takeReport_stands booted _ _ _
      · exact booted

/-! ### Machine/Map: RS_CTRL lies at 0x0_3020 alone (R499) -/

theorem elems_ne {n : Nat} {f : Fin n → Reg} {x : Reg} (hf : ∀ i, f i ≠ x) (base stride o : Nat) : elems base stride f o ≠ some x := by
  simp [elems, hf]

theorem regId_ne_rsCtrl (o) : regId o ≠ some .rsCtrl := by unfold regId; split <;> simp

theorem regGh_ne_rsCtrl (o) : regGh o ≠ some .rsCtrl := by unfold regGh; split <;> simp [firstOf, elems]

theorem regPwr_ne_rsCtrl (o) : regPwr o ≠ some .rsCtrl := by unfold regPwr; split <;> simp [elems]

theorem regFn_ne_rsCtrl (o) : regFn o ≠ some .rsCtrl := by unfold regFn; split <;> simp [elems]

theorem regSlu_ne_rsCtrl (o) : regSlu o ≠ some .rsCtrl := by unfold regSlu; split <;> simp [firstOf, elems]

theorem regFb_ne_rsCtrl (o) : regFb o ≠ some .rsCtrl := by unfold regFb; split <;> simp [firstOf, elems]

theorem regRl_ne_rsCtrl (o) : regRl o ≠ some .rsCtrl := by unfold regRl; split <;> simp

theorem regCnt_ne_rsCtrl (o) : regCnt o ≠ some .rsCtrl := by unfold regCnt; split <;> simp [firstOf, elems]

theorem regBst_ne_rsCtrl (o) : regBst o ≠ some .rsCtrl := by unfold regBst; split <;> simp [firstOf, elems]

theorem regMb_ne_rsCtrl (o) : regMb o ≠ some .rsCtrl := by unfold regMb; split <;> simp [firstOf, elems]

theorem regRg_ne_rsCtrl (r o) : regRg r o ≠ some .rsCtrl := by unfold regRg; split <;> simp [firstOf, elems]

theorem regFlt_rsCtrl {o : Nat} (h : regFlt o = some .rsCtrl) : o = 0x3020 := by
  unfold regFlt at h
  split at h <;> simp [elems] at h ⊢

theorem ite_eq_imp {c p : Prop} [Decidable c] {a b x : Option Reg} (ha : a = x → p) (hb : b = x → p) : (if c then a else b) = x → p := by
  split; exacts [ha, hb]

theorem regAt_rsCtrl {o : Nat} : regAt o = some .rsCtrl → o = 0x3020 := by
  have sem : elems 0x10000 8 .bstSem o ≠ some .rsCtrl := elems_ne (by simp) _ _ _
  have slots : elems 0x30000 8 (fun (i : Fin 32768) => .slot ⟨i.val / 8, by omega⟩ ⟨i.val % 8, by omega⟩) o ≠ some .rsCtrl :=
    elems_ne (by simp) _ _ _
  refine ite_eq_imp (absurd · (regId_ne_rsCtrl _)) <| ite_eq_imp (absurd · (regGh_ne_rsCtrl _)) <|
    ite_eq_imp (absurd · (regPwr_ne_rsCtrl _)) <| ite_eq_imp regFlt_rsCtrl <| ite_eq_imp (absurd · (regFn_ne_rsCtrl _)) <|
    ite_eq_imp (absurd · (regSlu_ne_rsCtrl _)) <| ite_eq_imp (absurd · (regFb_ne_rsCtrl _)) <| ite_eq_imp (absurd · (regRl_ne_rsCtrl _)) <|
    ite_eq_imp (absurd · (regCnt_ne_rsCtrl _)) <| ite_eq_imp (absurd · sem) <| ite_eq_imp (absurd · (regBst_ne_rsCtrl _)) <|
    ite_eq_imp (absurd · (regMb_ne_rsCtrl _)) <| ite_eq_imp (absurd · slots) <| ite_eq_imp nofun ?_
  split; exacts [(absurd · (regRg_ne_rsCtrl _ _)), nofun]

theorem regHalf_rsCtrl {o : Nat} {up : Bool} (h : regHalf o = some (.rsCtrl, up)) : o = 0x3020 := by
  unfold regHalf at h
  split at h
  next x at_o =>
    obtain ⟨rfl, -⟩ : x = .rsCtrl ∧ _ := by simpa using h
    exact regAt_rsCtrl at_o
  · have narrow : Reg.rsCtrl.wide = false := rfl
    split at h
    · split at h
      next x _ =>
        by_cases wide : x.wide
        · obtain ⟨rfl, -⟩ : x = .rsCtrl ∧ _ := by simpa [wide] using h
          simp [narrow] at wide
        · simp [wide] at h
      · simp at h
    · simp at h

/-! ### Machine/Control: an access that is no write of RS_CTRL keeps freeze -/

theorem putRestart_answers (h : Stands v fz s) (hf : ¬fz) (port d) : Answers v fz (putRestart port d s) := by
  unfold putRestart
  split
  · exact execJobRestartGo_answers h _ _ _
  · split
    · exact execJobRestartRelease_answers h hf _ _
    · exact finish_answers (ack_stands (plainWrite_stands h _ _) _)

theorem putReg_answers (h : Stands v fz s) (port) {x : Reg} (hx : x = .rsCtrl → ¬fz) (d) : Answers v fz (putReg port x d s) := by
  have plain : Answers v fz (if fwLocked s x then finish (busErr s port) else finish (ack (plainWrite (touch s x) x d) port)) := by
    split
    · exact finish_answers (busErr_stands h _)
    · exact finish_answers (ack_stands (plainWrite_stands (touch_stands h _) _ _) _)
  unfold putReg
  cases x with
  | ghCtrl => exact putGhCtrl_answers h _ _
  | ghCmd => exact putGhCmd_answers h _ _
  | ghFwData => exact execFwDataWord_answers h _ _
  | ghExtCtrl => dsimp only; split; exacts [execMeasureExtend_answers h _ _, finish_answers (ack_stands h _)]
  | plnCtrl => exact putPlnCtrl_answers h _ _
  | plnData => exact execPlanDataWord_answers h _ _
  | pwrFclk => exact execPwrFclkWrite_answers h _ _ _
  | pwrWake => exact execPwrWakeReq_answers h _ _ _
  | pwrPolicy => exact execPolicyWrite_answers h _ _ _ _
  | fltInject => exact execInjected_answers h _ _
  | rsCtrl => exact putRestart_answers h (hx rfl) _ _
  | fnFence => exact execFenceSet_answers h _ _ _
  | slu => exact execSluiceConfigWrite_answers h _ _ _
  | fbCtrl => exact execLinkRetrain_answers h _ _
  | echCtrl => exact execEchoEnableWrite_answers h _ _ _
  | echInv => exact execEchoInvalidate_answers h _ _ _
  | cntCtrl => dsimp only; split; exacts [execDumpNow_answers h _, finish_answers (ack_stands h _)]
  | cntTagCtrl => exact finish_answers (writeTag_stands (ack_stands h _) _ _ _ _)
  | cntVal => exact execCounterWrite_answers h _ _ _
  | bstSem => exact presentOp_answers h _ _ _
  | bstRole => exact execRoleWrite_answers h _ _
  | bstWcancel => exact execWatchCancel_answers h _ _
  | bstWreg => exact execWatchRegister_answers h _ _
  | bstPair => exact execPairWrite_answers h _ _ _
  | barCfg => exact execBarrierConfigWrite_answers h _ _ _ _
  | barCnt => exact execBarrierConfigWrite_answers h _ _ _ _
  | mbData => exact execMailboxSend_answers h _ _ _
  | mbCfg => exact execMailboxConfigWrite_answers h _ _ _
  | slot => exact putSlot_answers h _ _ _ _ _
  | modelSel => exact execModelSwitch_answers h _ _ _
  | evCtrl => exact execEntryHold_answers h _ _ _
  | trData => exact execTrellisDataWrite_answers h _ _ _
  | trDelay => exact execTrellisDelayWrite_answers h _ _ _
  | basinClr => exact execBasinClear_answers h _ _ _
  | basinData => exact execBasinDataWrite_answers h _ _ _
  | rcntVal => exact execCounterWrite_answers h _ _ _
  | bcntVal => exact execCounterWrite_answers h _ _ _
  | ttStat => exact finish_answers (ack_stands (wakeReq_stands h _) _)
  | _ => exact plain

theorem access_answers (h : Stands v fz s) (port) {x : Reg} {wr : Option W64} (hx : x = .rsCtrl → wr.isSome = true → ¬fz) :
    Answers v fz (access port x wr s) := by
  cases wr with
  | none => exact getReg_answers h _ _
  | some d => exact putReg_answers h _ (fun e => hx e rfl) _

theorem narrow_answers (h : Stands v fz s) (port) {x : Reg} (hi) {wr : Option W64} (hx : x = .rsCtrl → wr.isSome = true → ¬fz) :
    Answers v fz (narrow port x hi wr s) := by
  unfold narrow
  split
  · exact slotHalf_answers h _ _ _ _ _
  · exact access_answers h _ (by simpa using hx)

theorem pairAccess_answers (h : Stands v fz s) (port) {x y : Reg} {wr : Option W64} (hx : x = .rsCtrl → wr.isSome = true → ¬fz)
    (hy : y = .rsCtrl → wr.isSome = true → ¬fz) : Answers v fz (pairAccess port x y wr s) := by
  unfold pairAccess
  dsimp only
  split
  · exact finish_answers (busErr_stands h _)
  · refine andThen_answers (access_answers (withRsps_stands h _ _) _ (by simpa using hx)) fun u hu => ?_
    refine andThen_answers (access_answers ?_ _ (by simpa using hy)) fun w hw => ⟨_, rfl, behind_stands hw _ _⟩
    split; exacts [withRsps_stands hu _ _, shaped_stands (withRsps_stands hu _ _) _ _]

theorem cpAccess_answers (h : Stands v fz s) {o : Nat} (size64) {wr : Option W64} (ho : o = 0x3020 → wr.isSome = true → ¬fz) :
    Answers v fz (cpAccess o size64 wr s) := by
  have bad : Answers v fz (finish (busErr s .cp)) := finish_answers (busErr_stands h _)
  unfold cpAccess
  dsimp only
  split
  · split
    · exact bad
    next aligned =>
      split
      next x up y top at_o at_hi =>
        have hx : x = .rsCtrl → wr.isSome = true → ¬fz := by rintro rfl; exact ho (regHalf_rsCtrl at_o)
        have hy : y ≠ .rsCtrl := by rintro rfl; have := regHalf_rsCtrl at_hi; omega
        split
        · exact bad
        · split; exacts [access_answers h _ hx, pairAccess_answers h _ hx fun e => absurd e hy]
      · exact bad
  · split
    · exact bad
    · split
      next x up at_o =>
        split
        · exact bad
        · exact narrow_answers h _ _ (by rintro rfl; exact ho (regHalf_rsCtrl at_o))
      · exact bad

theorem mgmtAccess_answers (h : Stands v fz s) (port) {o : Nat} {wr : Option W64} (ho : o = 0x3020 → wr.isSome = true → ¬fz) :
    Answers v fz (mgmtAccess port o wr s) := by
  have bad : Answers v fz (finish (busErr s port)) := finish_answers (busErr_stands h _)
  unfold mgmtAccess
  dsimp only
  split
  · exact bad
  · split
    · exact bad
    next x up at_o =>
      have hx : x = .rsCtrl → wr.isSome = true → ¬fz := by rintro rfl; exact ho (regHalf_rsCtrl at_o)
      split
      · exact bad
      · split
        · exact narrow_answers h _ _ hx
        · cases wr with
          | none => dsimp only; split; exacts [finish_answers (reply_stands h _ _), getReg_answers (shaped_stands h _ _) _ _]
          | some d =>
            dsimp only; split
            exacts [finish_answers (ack_stands (modRport_stands h _ _) _), putReg_answers h _ (fun e => hx e rfl) _]

theorem perform_answers (h : Stands v fz s) (port) {a : PortAcc} (ha : a.addr = 0x03020 → a.wr.isSome = true → ¬fz) :
    Answers v fz (perform port a s) := by
  have ho : a.addr.toNat = 0x3020 → a.wr.isSome = true → ¬fz := fun e => ha (BitVec.eq_of_toNat_eq e)
  unfold perform
  split
  · exact finish_answers (busErr_stands (wholeFault_stands h _ _) _)
  · cases port with
    | cp => exact cpAccess_answers h _ ho
    | mp => exact mgmtAccess_answers h _ ho
    | gh => exact mgmtAccess_answers h _ ho

theorem serveQueue_answers (n : Nat) (h : Stands v fz s) (port)
    (hq : ∀ a ∈ (rport s port).queue, a.addr = 0x03020 → a.wr.isSome = true → ¬fz) : Answers v fz (serveQueue n port s) := by
  induction n generalizing s with
  | zero => exact ⟨s, rfl, h⟩
  | succ n ih =>
    unfold serveQueue
    split
    next a rest _ queued =>
      have next := List.forall_mem_cons.1 (queued ▸ hq)
      refine andThen_answers (perform_answers (withQueue_stands h _ _) _ next.1) fun u hu => ih (withQueue_stands hu _ _) ?_
      rw [withQueue, rport_modRport_same]; exact next.2
    · exact ⟨s, rfl, h⟩

theorem accept_answers (h : Stands v fz s) (port) {a : PortAcc}
    (hq : ∀ b ∈ (rport s port).queue, b.addr = 0x03020 → b.wr.isSome = true → ¬fz) (ha : a.addr = 0x03020 → a.wr.isSome = true → ¬fz) :
    Answers v fz (accept port a s) := by
  refine andThen_answers (serveQueue_answers _ h _ hq) fun u hu => ?_
  dsimp only
  split; exacts [perform_answers hu _ ha, finish_answers (modRport_stands hu _ _)]

/-- The link does not reach the fault registers (R27). -/
theorem overLink_ne_rsCtrl {a : BitVec 20} (h : overLink a.toNat = true) : a ≠ 0x03020 := by
  rintro rfl
  exact absurd h (by decide)

theorem execRcRead_answers (h : Stands v fz s) (port addr size64)
    (hq : ∀ a ∈ (rport s port).queue, a.addr = 0x03020 → a.wr.isSome = true → ¬fz) : Answers v fz (execRcRead port addr size64 s) := by
  unfold execRcRead
  split; exacts [skip_answers h, accept_answers h _ hq fun _ write => absurd write (by simp)]

theorem execRegisterWrite_answers (h : Stands v fz s) (port) {addr} (size64 data) (ha : addr = 0x03020 → ¬fz)
    (hq : ∀ a ∈ (rport s port).queue, a.addr = 0x03020 → a.wr.isSome = true → ¬fz) :
    Answers v fz (execRegisterWrite port addr size64 data s) := by
  unfold execRegisterWrite
  split; exacts [skip_answers h, accept_answers h _ hq fun e _ => ha e]

theorem execMgmtLinkAccess_answers (h : Stands v fz s) (port acc bad)
    (hq : ∀ a ∈ (rport s port).queue, a.addr = 0x03020 → a.wr.isSome = true → ¬fz) : Answers v fz (execMgmtLinkAccess port acc bad s) := by
  unfold execMgmtLinkAccess
  split
  · exact skip_answers h
  next reached =>
    simp only [Bool.or_eq_true, Bool.not_eq_true', not_or, Bool.not_eq_false] at reached
    exact accept_answers h _ hq fun e _ => absurd e (overLink_ne_rsCtrl reached.2)

/-- The commands that end freeze by R441 and R461: a release, a write of RS_CTRL, and an access at a port where such a write waits. -/
def MayRelease (i : Instr) (s : State) : Prop :=
  (∃ p k, i = .jobRestartRelease p k) ∨ (∃ p w d, i = .registerWrite p 0x03020 w d) ∨
    ∃ p, ∃ a ∈ (rport s p).queue, a.addr = 0x03020 ∧ a.wr.isSome = true ∧
      ((∃ x z, i = .rcRead p x z) ∨ (∃ x z d, i = .registerWrite p x z d) ∨ ∃ x z, i = .mgmtLinkAccess p x z)

theorem execAonReset_answers (h : Stands v fz s) : Answers v fz (execAonReset false s) := by
  unfold execAonReset
  split
  · contradiction
  · split; exacts [skip_answers h, finish_answers (h.of_eq rfl rfl)]

/-- Outside the resets, the loss of a rail and an extend, a command keeps the slots, and it keeps freeze unless it may release it. -/
theorem exec_answers (h : Stands v fz s) {i : Instr} (notAon : i ≠ .aonReset true) (notMac : i ≠ .macroResetAssert)
    (notRail : ∀ half rail, i ≠ .railLoss half rail) (notExtend : i ≠ .slotExtendComplete) (release : MayRelease i s → ¬fz) :
    Answers v fz (exec i s) := by
  unfold exec
  cases i with
  | aonReset a =>
    cases a with
    | true => exact absurd rfl notAon
    | false => exact execAonReset_answers h
  | macroResetAssert => exact absurd rfl notMac
  | macroResetRelease => exact execMacroResetRelease_answers h _
  | wrapperReset => exact execWrapperReset_answers h _
  | testModeChange => exact execTestModeChange_answers h _
  | fclkOkRise => exact execFclkOkRise_answers h _
  | fclkOkFall => exact execFclkOkFall_answers h _
  | railLoss half rail => exact absurd rfl (notRail half rail)
  | railUndervolt => exact execRailUndervolt_answers h _ _
  | read => exact execRead_answers h _ _
  | write => exact execWrite_answers h _ _
  | writeBitSet => exact execWriteBitSet_answers h _ _
  | writeBitClear => exact execWriteBitClear_answers h _ _
  | atomAddS8 => exact execAtomAddS8_answers h _ _ _
  | atomAddI32 => exact execAtomAddI32_answers h _ _ _
  | atomAddF32 => exact execAtomAddF32_answers h _ _ _
  | atomMinI32 => exact execAtomMinI32_answers h _ _ _
  | atomMaxI32 => exact execAtomMaxI32_answers h _ _ _
  | atomSwap64 => exact execAtomSwap64_answers h _ _ _
  | atomCas64 => exact execAtomCas64_answers h _ _ _
  | atomTrace => exact execAtomTrace_answers h _ _ _
  | sem => exact execSem_answers h _ _ _
  | streamDoorbell => exact execStreamDoorbell_answers h _ _ _
  | mailboxDoorbell => exact execMailboxDoorbell_answers h _ _ _
  | reservedOp => exact execReservedOp_answers h _ _ _
  | writeDataBeat => exact execWriteDataBeat_answers h _ _
  | responseBeatTaken => exact execResponseBeatTaken_answers h _ _ _
  | multicastRead => exact execMulticastRead_answers h _ _
  | gatherTimeout => exact execGatherTimeout_answers h _ _
  | sluiceRelease => exact execSluiceRelease_answers h _ _
  | sluiceWindowBoundary => exact execSluiceWindowBoundary_answers h _
  | sluiceConfigWrite => exact execSluiceConfigWrite_answers h _ _ _
  | blockGrant => exact execBlockGrant_answers h _ _ _ _
  | timetableSlot => exact execTimetableSlot_answers h _ _ _ _
  | slotSlipIssue => exact execSlotSlipIssue_answers h _ _ _ _
  | quotaWindowEnd => exact execQuotaWindowEnd_answers h _
  | starvationLimit => exact execStarvationLimit_answers h _ _
  | eventIngress => exact execEventIngress_answers h _ _
  | copyPlaced => exact execCopyPlaced_answers h _ _ _
  | copyAtEntry => exact execCopyAtEntry_answers h _
  | entryHold => exact execEntryHold_answers h _ _ _
  | expandCopy => exact execExpandCopy_answers h _ _
  | groupToQueue => exact execGroupToQueue_answers h _
  | rowEventIssue => exact execRowEventIssue_answers h _ _ _
  | ringRowsToQueue => exact execRingRowsToQueue_answers h _ _
  | stepEntryComplete => exact execStepEntryComplete_answers h _
  | stepDrained => exact execStepDrained_answers h _ _
  | stepSweepsDone => exact execStepSweepsDone_answers h _
  | emitBufferPass => exact execEmitBufferPass_answers h _ _ _
  | egressEventTaken => exact execEgressEventTaken_answers h _
  | modelSwitch => exact execModelSwitch_answers h _ _ _
  | modelSwitchComplete => exact execModelSwitchComplete_answers h _
  | trellisDataWrite => exact execTrellisDataWrite_answers h _ _ _
  | trellisDataRead => exact execTrellisDataRead_answers h _ _ _
  | trellisDelayWrite => exact execTrellisDelayWrite_answers h _ _ _
  | basinClear => exact execBasinClear_answers h _ _ _
  | basinDataWrite => exact execBasinDataWrite_answers h _ _ _
  | basinDataRead => exact execBasinDataRead_answers h _ _ _
  | sweepGroupStart => exact execSweepGroupStart_answers h _ _ _
  | endProg => exact execEndProg_answers h _ _ _
  | range => exact execRange_answers h _ _ _
  | lds => exact execLds_answers h _ _ _
  | sts => exact execSts_answers h _ _ _
  | ldb => exact execLdb_answers h _ _ _
  | stb => exact execStb_answers h _ _ _
  | ldi => exact execLdi_answers h _ _ _
  | add => exact execAdd_answers h _ _ _
  | sweepAdd => exact execSweepAdd_answers h _ _ _
  | sweepSub => exact execSweepSub_answers h _ _ _
  | addc => exact execAddc_answers h _ _ _
  | mulc => exact execMulc_answers h _ _ _
  | shri => exact execShri_answers h _ _ _
  | max => exact execMax_answers h _ _ _
  | min => exact execMin_answers h _ _ _
  | cmp => exact execCmp_answers h _ _ _
  | sel => exact execSel_answers h _ _ _
  | rst => exact execRst_answers h _ _ _
  | emit => exact execEmit_answers h _ _ _
  | trc => exact execTrc_answers h _ _ _
  | invalidInstruction => exact execInvalidInstruction_answers h _ _ _
  | sweepDataRead => exact execSweepDataRead_answers h _ _ _
  | ringBell => exact execRingBell_answers h _ _
  | streamAbort => exact execStreamAbort_answers h _ _
  | streamSlotWrite => exact execStreamSlotWrite_answers h _ _ _ _
  | admitDescriptor => exact execAdmitDescriptor_answers h _
  | rillIssue => exact execRillIssue_answers h _ _
  | rillReadResponse => exact execRillReadResponse_answers h _ _ _ _
  | rillWriteResponse => exact execRillWriteResponse_answers h _ _ _
  | fillPieceWrite => exact execFillPieceWrite_answers h _ _
  | drainPieceRead => exact execDrainPieceRead_answers h _ _
  | tileComplete => exact execTileComplete_answers h _
  | echoInvalidate => exact execEchoInvalidate_answers h _ _ _
  | echoInvalidateDone => exact execEchoInvalidateDone_answers h _
  | echoEnableWrite => exact execEchoEnableWrite_answers h _ _ _
  | sub => exact execSub_answers h _ _ _
  | wait => exact execWait_answers h _ _ _
  | set => exact execSet_answers h _ _ _
  | padd => exact execPadd_answers h _ _ _
  | cadd => exact execCadd_answers h _ _ _
  | pwaitFull => exact execPwaitFull_answers h _ _ _
  | pwaitSpace => exact execPwaitSpace_answers h _ _ _
  | arrive => exact execArrive_answers h _ _ _
  | sync => exact execSync_answers h _ _ _
  | bwait => exact execBwait_answers h _ _ _
  | swait => exact execSwait_answers h _ _ _
  | bstReservedOp => exact execBstReservedOp_answers h _ _ _
  | signalHoldRelease => exact execSignalHoldRelease_answers h _
  | watchTimeout => exact execWatchTimeout_answers h _
  | watchRegister => exact execWatchRegister_answers h _ _
  | watchCancel => exact execWatchCancel_answers h _ _
  | controlMessageTake => exact execControlMessageTake_answers h _
  | barrierConfigWrite => exact execBarrierConfigWrite_answers h _ _ _ _
  | pairWrite => exact execPairWrite_answers h _ _ _
  | roleWrite => exact execRoleWrite_answers h _ _
  | syncMessageSend => exact execSyncMessageSend_answers h
  | syncArriveReceived => exact execSyncArriveReceived_answers h _
  | syncReleaseReceived => exact execSyncReleaseReceived_answers h _
  | mailboxSend => exact execMailboxSend_answers h _ _ _
  | depositAnnounce => exact execDepositAnnounce_answers h _
  | mailboxTake => exact execMailboxTake_answers h _ _
  | mailboxConfigWrite => exact execMailboxConfigWrite_answers h _ _ _
  | measure => exact execMeasure_answers h
  | bootStatus => exact execBootStatus_answers h
  | fuseReread => exact execFuseReread_answers h
  | signedMeasure => exact execSignedMeasure_answers h _
  | unknownRequest => exact execUnknownRequest_answers h
  | gatehouseReply => exact execGatehouseReply_answers h
  | signingResponse => exact execSigningResponse_answers h _ _
  | signingTimeout => exact execSigningTimeout_answers h
  | linkRetrain => exact execLinkRetrain_answers h _ _
  | trainClockDone => exact execTrainClockDone_answers h _ _
  | trainDeskewDone => exact execTrainDeskewDone_answers h _
  | trainFrameDone => exact execTrainFrameDone_answers h _ _
  | linkUp => exact execLinkUp_answers h _
  | packetStart => exact execPacketStart_answers h _ _
  | flitReceive => exact execFlitReceive_answers h _ _
  | sideWordReceive => exact execSideWordReceive_answers h _ _ _
  | nakRepeatReplay => exact execNakRepeatReplay_answers h _
  | ackStallReplay => exact execAckStallReplay_answers h _
  | sideWordTimeout => exact execSideWordTimeout_answers h _
  | retireReq => exact execRetireReq_answers h _ _
  | retireDup => exact execRetireDup_answers h _ _
  | retireDone => exact execRetireDone_answers h _ _
  | retireReqRepeat => exact execRetireReqRepeat_answers h _
  | spareErrorWindow => exact execSpareErrorWindow_answers h
  | fbPktRead => exact execFbPktRead_answers h _
  | fbPktWrite => exact execFbPktWrite_answers h _
  | fbPktAtomic => exact execFbPktAtomic_answers h _
  | fbPktReadData => exact execFbPktReadData_answers h _
  | fbPktWriteAck => exact execFbPktWriteAck_answers h _
  | fbPktAtomicData => exact execFbPktAtomicData_answers h _
  | fbPktSignal => exact execFbPktSignal_answers h _
  | fbPktSignalAck => exact execFbPktSignalAck_answers h _
  | fbPktRetire => exact execFbPktRetire_answers h _
  | fbPktControl => exact execFbPktControl_answers h _
  | fbPktStep => exact execFbPktStep_answers h _
  | fbPktEvents => exact execFbPktEvents_answers h _
  | idleTimeout => exact execIdleTimeout_answers h _
  | retainTimeout => exact execRetainTimeout_answers h _
  | offTimeout => exact execOffTimeout_answers h _
  | stagerEdge => exact execStagerEdge_answers h
  | stagedStepStart => exact execStagedStepStart_answers h _
  | stagedStepEnd => exact execStagedStepEnd_answers h _
  | governorInterval => exact execGovernorInterval_answers h _
  | pwrWakeReq => exact execPwrWakeReq_answers h _ _ _
  | pwrWakeHold => exact execPwrWakeHold_answers h _ _ _
  | pwrFclkWrite => exact execPwrFclkWrite_answers h _ _ _
  | policyWrite => exact execPolicyWrite_answers h _ _ _ _
  | fuseReadStart => exact execFuseReadStart_answers h
  | fuseAck => exact execFuseAck_answers h _
  | fuseTimeout => exact execFuseTimeout_answers h
  | mgmtPortReady => exact execMgmtPortReady_answers h
  | fwStart => exact execFwStart_answers h _ _
  | fwAbort => exact execFwAbort_answers h _ _
  | fwDataWord => exact execFwDataWord_answers h _ _
  | fwImageEnd => exact execFwImageEnd_answers h
  | cpOpen => exact execCpOpen_answers h _ _
  | gatehouseSleep => exact execGatehouseSleep_answers h _
  | gatehouseWake => exact execGatehouseWake_answers h _
  | timerInterrupt => exact execTimerInterrupt_answers h
  | measureExtend => exact execMeasureExtend_answers h _ _
  | mgmtLinkAccess port acc bad =>
    exact execMgmtLinkAccess_answers h _ _ _ fun a ha at_rs write =>
      release (.inr (.inr ⟨port, a, ha, at_rs, write, .inr (.inr ⟨acc, bad, rfl⟩)⟩))
  | planStart => exact execPlanStart_answers h _ _ _
  | planAbort => exact execPlanAbort_answers h _ _
  | planDataWord => exact execPlanDataWord_answers h _ _
  | planHeader => exact execPlanHeader_answers h
  | planSection => exact execPlanSection_answers h
  | stop => exact execStop_answers h _
  | freeze => exact execFreeze_answers h _ _
  | stopQuiescent => exact execStopQuiescent_answers h
  | eastFaultRaise => exact execEastFaultRaise_answers h
  | freezeReachHalf => exact execFreezeReachHalf_answers h _
  | injected => exact execInjected_answers h _ _
  | jobRestartGo => exact execJobRestartGo_answers h _ _ _
  | restartClearsDone => exact execRestartClearsDone_answers h
  | jobRestartRelease port keep => exact execJobRestartRelease_answers h (release (.inl ⟨port, keep, rfl⟩)) _ _
  | fenceSet => exact execFenceSet_answers h _ _ _
  | fenceClear => exact execFenceClear_answers h _ _ _
  | counterSample => exact execCounterSample_answers h
  | dumpNow => exact execDumpNow_answers h _
  | dumpBodyWrite => exact execDumpBodyWrite_answers h
  | dumpHeaderClose => exact execDumpHeaderClose_answers h
  | dumpComplete => exact execDumpComplete_answers h
  | taggingEnable => exact execTaggingEnable_answers h _ _ _ _
  | tagClear => exact execTagClear_answers h _ _ _ _
  | counterWrite => exact execCounterWrite_answers h _ _ _
  | wsBypass => exact execWsBypass_answers h _
  | wsExtest => exact execWsExtest_answers h _
  | plId => exact execPlId_answers h
  | plTctrl => exact execPlTctrl_answers h _
  | plTstat => exact execPlTstat_answers h
  | plTresult => exact execPlTresult_answers h
  | plRepair => exact execPlRepair_answers h
  | selfTestStart => exact execSelfTestStart_answers h
  | selfTestDone => exact execSelfTestDone_answers h _
  | rcRead port addr size64 =>
    exact execRcRead_answers h _ _ _ fun a ha at_rs write => release (.inr (.inr ⟨port, a, ha, at_rs, write, .inl ⟨addr, size64, rfl⟩⟩))
  | registerWrite port addr size64 data =>
    exact execRegisterWrite_answers h _ _ _ (by rintro rfl; exact release (.inr (.inl ⟨port, size64, data, rfl⟩)))
      fun a ha at_rs write => release (.inr (.inr ⟨port, a, ha, at_rs, write, .inr (.inl ⟨addr, size64, data, rfl⟩)⟩))
  | slotExtendComplete => exact absurd rfl notExtend

end

/-- Settles O5: every other command answers a state in which freeze stands. -/
theorem freezeEndsOnlyByReleaseOrReset : Obligations.FreezeEndsOnlyByReleaseOrReset := by
  unfold Obligations.FreezeEndsOnlyByReleaseOrReset
  intro i s t run frozen ended
  have thawed : ∀ w, ¬Answers w True (exec i s) := by
    rintro w ⟨u, hu, -, stands⟩
    obtain rfl : u = t := by simpa [run] using hu.symm
    simp [stands trivial] at ended
  have start : Stands s.meas.slots True s := ⟨rfl, fun _ => frozen⟩
  have notExtend : i ≠ .slotExtendComplete := by
    rintro rfl
    obtain ⟨w, hw⟩ := execSlotExtendComplete_answers start
    exact thawed w hw
  by_contra other
  simp only [not_or] at other
  obtain ⟨noRelease, noWrite, noAccess, notAon, notMac, notRail⟩ := other
  refine thawed _ (exec_answers start notAon notMac (fun half rail e => notRail ⟨half, rail, e⟩) notExtend ?_)
  rintro (h | h | h)
  exacts [absurd h noRelease, absurd h noWrite, absurd h noAccess]

/-- Settles O2: of the commands the sweep leaves out, each ends its step as any other. -/
theorem everyCommandAnswersANextState : Obligations.EveryCommandAnswersANextState := by
  unfold Obligations.EveryCommandAnswersANextState
  intro i s
  have start : Stands s.meas.slots False s := ⟨rfl, nofun⟩
  by_cases notAon : i = .aonReset true
  · exact notAon ▸ ⟨_, rfl⟩
  by_cases notMac : i = .macroResetAssert
  · exact notMac ▸ ⟨_, rfl⟩
  by_cases notRail : ∃ half rail, i = .railLoss half rail
  · obtain ⟨half, rail, rfl⟩ := notRail
    exact ⟨_, rfl⟩
  by_cases notExtend : i = .slotExtendComplete
  · obtain ⟨w, t, ht, -⟩ := execSlotExtendComplete_answers start
    exact notExtend ▸ ⟨t, ht⟩
  obtain ⟨t, ht, -⟩ := exec_answers start notAon notMac (fun half rail e => notRail ⟨half, rail, e⟩) notExtend fun _ => id
  exact ⟨t, ht⟩

end Sys2Proof.Machine
end

section
/-! PROOF. A packet is read back from its flits (R383 to R385). -/

namespace Sys2Proof.Machine

/-! ## The header and the EVENTS flit, field by field -/

/-- The fields of the header, each of its own width, so that the library's rules about a concatenation apply. -/
theorem header_extractLsb' (p : Packet) (k n : Nat) :
    (header p).extractLsb' k n = BitVec.extractLsb' (n := 32 + 32 + 64 + 40 + 24 + 3 + 2 + 1 + 3 + 29 + 4 + 12 + 6 + 4) k n
      (0#32 ++ p.stamp ++ p.word ++ 0#40 ++ p.bresp ++ 0#3 ++ p.scope ++ b1 p.strb ++ p.beats ++ p.addr ++ p.op ++ p.tag ++ p.src ++ p.kind) := rfl

theorem b1_eq_one (x : Bool) : (b1 x == 1#1) = x := by cases x <;> rfl

/-- What R383 puts at each place of a header. -/
theorem header_fields (p : Packet) :
    (header p).extractLsb' 0 4 = p.kind ∧ (header p).extractLsb' 4 6 = p.src ∧ (header p).extractLsb' 10 12 = p.tag ∧
      (header p).extractLsb' 22 4 = p.op ∧ (header p).extractLsb' 26 29 = p.addr ∧ (header p).extractLsb' 55 3 = p.beats ∧
      (header p).getLsbD 58 = p.strb ∧ (header p).extractLsb' 59 2 = p.scope ∧ (header p).extractLsb' 61 3 = 0 ∧
      (header p).extractLsb' 64 24 = p.bresp ∧ (header p).extractLsb' 88 40 = 0 ∧ (header p).extractLsb' 128 64 = p.word ∧
      (header p).extractLsb' 192 32 = p.stamp ∧ (header p).extractLsb' 224 32 = 0 := by
  rw [BitVec.getLsbD_eq_extractLsb']
  simp only [header_extractLsb']
  simp (disch := decide) [b1_eq_one, BitVec.extractLsb'_append_eq_of_add_le, BitVec.extractLsb'_append_eq_of_le, -Nat.reduceAdd]

theorem eventsFlit_extractLsb' (p : Packet) (k n : Nat) :
    (eventsFlit p).extractLsb' k n = BitVec.extractLsb' (n := 80 + 80 + 80 + 10 + 2 + 4) k n
      (p.events.getD 2 0 ++ p.events.getD 1 0 ++ p.events.getD 0 0 ++ 0#10 ++ BitVec.ofNat 2 p.events.length ++ p.kind) := rfl

/-- What R385 puts at each place of an EVENTS flit. -/
theorem eventsFlit_fields (p : Packet) :
    (eventsFlit p).extractLsb' 0 4 = p.kind ∧ (eventsFlit p).extractLsb' 4 2 = BitVec.ofNat 2 p.events.length ∧
      (eventsFlit p).extractLsb' 6 10 = 0 ∧ (eventsFlit p).extractLsb' 16 80 = p.events.getD 0 0 ∧
      (eventsFlit p).extractLsb' 96 80 = p.events.getD 1 0 ∧ (eventsFlit p).extractLsb' 176 80 = p.events.getD 2 0 := by
  simp only [eventsFlit_extractLsb']
  simp (disch := decide) [BitVec.extractLsb'_append_eq_of_add_le, BitVec.extractLsb'_append_eq_of_le, -Nat.reduceAdd]

/-! ## Strobe flits and data flits -/

theorem strobeFlit_extractLsb' (l : List (BitVec 64)) (k n : Nat) :
    (strobeFlit l).extractLsb' k n = BitVec.extractLsb' (n := 64 + 64 + 64 + 64) k n (l.getD 3 0 ++ l.getD 2 0 ++ l.getD 1 0 ++ l.getD 0 0) := rfl

/-- What R384 puts at each place of a strobe flit. -/
theorem strobeFlit_fields (l : List (BitVec 64)) :
    (strobeFlit l).extractLsb' 0 64 = l.getD 0 0 ∧ (strobeFlit l).extractLsb' 64 64 = l.getD 1 0 ∧
      (strobeFlit l).extractLsb' 128 64 = l.getD 2 0 ∧ (strobeFlit l).extractLsb' 192 64 = l.getD 3 0 := by
  simp only [strobeFlit_extractLsb']
  simp (disch := decide) [BitVec.extractLsb'_append_eq_of_add_le, BitVec.extractLsb'_append_eq_of_le, -Nat.reduceAdd]

@[simp] theorem length_strobeFlits (n : Nat) (l : List (BitVec 64)) : (strobeFlits n l).length = n := by
  induction n generalizing l with
  | zero => rfl
  | succ n ih => simp [strobeFlits, ih]

@[simp] theorem length_dataFlits (ds : List Beat) : (dataFlits ds).length = 2 * ds.length := by
  induction ds with
  | nil => rfl
  | cons d ds ih => simp [dataFlits, ih]; omega

theorem readStrobes_strobeFlits (fs : List (BitVec 256)) :
    ∀ l : List (BitVec 64), readStrobes l.length (strobeFlits ((l.length + 3) / 4) l ++ fs) = l
  | [] => rfl
  | [_] | [_, _] | [_, _, _] => by simp [readStrobes, strobeFlits, strobeFlit_fields]
  | a :: b :: c :: d :: l => by
    have groups : (l.length + 4 + 3) / 4 = (l.length + 3) / 4 + 1 := by omega
    simp [readStrobes, strobeFlits, strobeFlit_fields, groups, readStrobes_strobeFlits fs l]

theorem readBeats_dataFlits (ds : List Beat) : readBeats ds.length (dataFlits ds) = ds := by
  induction ds with
  | nil => rfl
  | cons d ds ih =>
    have halves : d.extractLsb' 256 256 ++ d.extractLsb' 0 256 = d := BitVec.extractLsb'_append_extractLsb' (w := 256)
    simp [dataFlits, readBeats, halves, ih]

/-! ## The statement -/

/-- A packet of one EVENTS flit is read back. -/
theorem readPacket_eventsFlit {p : Packet} (some_events : 1 ≤ p.events.length) (most : p.events.length ≤ 3) (sound : p.events.all entryOk = true)
    (plain : p = { packet0 0xB with events := p.events }) : readPacket [eventsFlit p] = some p := by
  obtain ⟨kind, count, gap, e0, e1, e2⟩ := eventsFlit_fields p
  have is_events : p.kind = 0xB := by rw [plain]; rfl
  have taken : [p.events.getD 0 0, p.events.getD 1 0, p.events.getD 2 0].take p.events.length = p.events := by
    match h : p.events with
    | [] | [_] | [_, _] | [_, _, _] => rfl
    | _ :: _ :: _ :: _ :: _ => rw [h] at most; simp only [List.length_cons] at most; omega
  have length_lt : p.events.length % 4 = p.events.length := by omega
  have nonempty : p.events.length ≠ 0 := by omega
  simp only [readPacket, kind, count, gap, e0, e1, e2, is_events, BitVec.toNat_ofNat, Nat.reducePow, length_lt, taken, nonempty, sound,
    if_true]
  simpa using plain.symm

/-- A packet with a header is read back. -/
theorem readPacket_header {p : Packet} (known : p.kind.toNat < 0xB) (no_events : p.events = [])
    (lengths : (p.strbs.length, p.data.length) = announced p.kind p.beats p.strb) (beside : p.ref = none ∧ p.first = 0 ∧ p.hp = false ∧
      p.ctl = none ∧ p.via = 10) :
    readPacket (header p :: (strobeFlits ((p.strbs.length + 3) / 4) p.strbs ++ dataFlits p.data)) = some p := by
  obtain ⟨kind, src, tag, op, addr, beats, strb, scope, gap1, bresp, gap2, word, stamp, gap3⟩ := header_fields p
  have not_events : p.kind ≠ 0xB := by intro h; simp [h] at known
  have not_above : ¬0xB < p.kind.toNat := by omega
  obtain ⟨ref, first, hp, ctl, via⟩ := beside
  have bare : { p with events := [], ref := none, first := 0, hp := false, ctl := none, via := 10 } = p := by
    rw [← no_events, ← ref, ← first, ← hp, ← ctl, ← via]
  simp only [readPacket, kind, src, tag, op, addr, beats, strb, scope, gap1, bresp, gap2, word, stamp, gap3, not_events, not_above, ← lengths,
    if_false]
  simpa [readStrobes_strobeFlits, readBeats_dataFlits, packet0] using bare

/-- Settles O57: an EVENTS packet by its one flit, every other by its header, strobes and beats. -/
theorem packetRoundTrip : Obligations.PacketRoundTrip := by
  unfold Obligations.PacketRoundTrip
  intro p ok
  simp only [packetOk, Bool.and_eq_true, beq_iff_eq, Bool.not_eq_true'] at ok
  obtain ⟨⟨⟨⟨⟨ref, first⟩, hp⟩, ctl⟩, via⟩, parts⟩ := ok
  unfold payloads
  by_cases events : p.kind = 0xB
  · simp only [events, if_true, Bool.and_eq_true, decide_eq_true_eq] at parts ⊢
    obtain ⟨⟨⟨some_events, most⟩, sound⟩, plain⟩ := parts
    exact readPacket_eventsFlit some_events most sound plain
  · simp only [events, if_false, Bool.and_eq_true, decide_eq_true_eq, List.isEmpty_iff] at parts ⊢
    obtain ⟨⟨known, no_events⟩, lengths⟩ := parts
    exact readPacket_header known no_events lengths ⟨ref, first, hp, ctl, via⟩

end Sys2Proof.Machine
end

section
/-! PROOF. A booked step keeps the ledgers within the half's limit (R403, R404); the front command of the queue. -/

namespace Sys2Proof.Machine

/-- Every ledger of a stager holds at most l. -/
def LedgersWithin (l : Nat) (st : Stager) : Prop := ∀ i, vget st.rise i ≤ l ∧ vget st.fall i ≤ l

theorem ledAdd_le {v : Vector Nat 16} {l i a : Nat} (h : ∀ j, vget v j ≤ l) (fits : ledAt v i + a ≤ l) (j) : vget (ledAdd v i a) j ≤ l := by
  unfold ledAdd
  split
  next inside =>
    rw [ledAt, dif_pos inside] at fits
    by_cases same : j = ⟨i, inside⟩
    · subst same; rwa [vget_vmod_same]
    · rw [vget_vmod_other _ _ (Ne.symm same)]; exact h j
  · exact h j

/-- No moment a step may start at comes before it falls due. -/
theorem startTimes_ge {now t dur x : Nat} {isClear : Bool} (h : x ∈ startTimes now t dur isClear) : t ≤ x := by
  obtain ⟨l, starts, later⟩ := startTimes_le now t dur isClear
  rw [starts] at h
  obtain rfl | inside := List.mem_cons.1 h
  exacts [le_rfl, later x inside]

/-- A booking keeps the ledgers within the limit it was tested against. -/
theorem bookAt_within {st st' : Stager} {now t amt dur x : Nat} {rises isClear : Bool} (h : LedgersWithin (ledgerL st) st)
    (booked : bookAt st now t amt dur rises isClear = some (x, st')) : st'.s = st.s ∧ LedgersWithin (ledgerL st) st' ∧ t ≤ x := by
  unfold bookAt at booked
  extract_lets l off ok at booked
  split at booked
  · simp at booked
  next y found =>
    obtain ⟨rfl, rfl⟩ : y = x ∧ _ = st' := by simpa using booked
    obtain ⟨start, fits⟩ := List.mem_filter.1 (least_mem _ _ found)
    refine ⟨by grind, fun i => ?_, startTimes_ge start⟩
    have rises_le := ledAdd_le (a := amt) (i := off y) (fun j => (h j).1)
    have falls_le := ledAdd_le (a := amt) (i := off y) (fun j => (h j).2)
    have ends_le := ledAdd_le (a := amt) (i := off (y + dur)) (fun j => (h j).2)
    have := h i
    simp only [ok] at fits
    grind

theorem bookSegs_within (n : Nat) {st st' : Stager} {now t amt dur e : Nat} {rises : Bool} (h : LedgersWithin (ledgerL st) st)
    (booked : bookSegs n st now t amt dur rises = some (e, st')) : st'.s = st.s ∧ LedgersWithin (ledgerL st) st' ∧ t ≤ e := by
  induction n generalizing st t with
  | zero =>
    obtain ⟨rfl, rfl⟩ : t = e ∧ st = st' := by simpa [bookSegs] using booked
    exact ⟨rfl, h, le_rfl⟩
  | succ n ih =>
    unfold bookSegs at booked
    split at booked
    · simp at booked
    next x u first =>
      obtain ⟨limit, within, later⟩ := bookAt_within h first
      have same : ledgerL u = ledgerL st := by rw [ledgerL, limit, ledgerL]
      obtain ⟨limit', within', later'⟩ := ih (same ▸ within) booked
      exact ⟨limit'.trans limit, same ▸ within', by omega⟩

/-- Settles O13: a step without a current change books nothing, a step above the limit its eight segments, any other one booking. -/
theorem bookingKeepsLedgersWithinLimit : Obligations.BookingKeepsLedgersWithinLimit := by
  unfold Obligations.BookingKeepsLedgersWithinLimit
  intro st st' now mhz t k dc b h booked
  unfold bookStep at booked
  extract_lets l amt dur at booked
  split at booked
  · obtain ⟨rfl, rfl⟩ : _ = b ∧ st = st' := by simpa using booked
    exact ⟨rfl, h, le_rfl, Nat.le_add_right _ _, rfl⟩
  · split at booked
    · split at booked
      · simp at booked
      next x u first =>
        obtain ⟨limit, within, later⟩ := bookAt_within h first
        have same : ledgerL u = ledgerL st := by rw [ledgerL, limit, ledgerL]
        split at booked
        · simp at booked
        next e w rest =>
          obtain ⟨limit', within', later'⟩ := bookSegs_within 7 (same ▸ within) rest
          obtain ⟨rfl, rfl⟩ : _ = b ∧ w = st' := by simpa using booked
          exact ⟨limit'.trans limit, same ▸ within', later, by dsimp only; omega, rfl⟩
    · split at booked
      · simp at booked
      next x u one =>
        obtain ⟨limit, within, later⟩ := bookAt_within h one
        obtain ⟨rfl, rfl⟩ : _ = b ∧ u = st' := by simpa using booked
        exact ⟨limit, within, later, Nat.le_add_right _ _, rfl⟩

/-- Settles O1. -/
theorem frontCommandRunsOnTheRest : Obligations.FrontCommandRunsOnTheRest := by
  unfold Obligations.FrontCommandRunsOnTheRest
  intro c rest s
  exact ⟨rfl, fun empty => by rw [step, empty]⟩

end Sys2Proof.Machine
end

section
/-! PROOF. Sluice windows and Sluice configuration (R348, R349, R354, R356, R357, R360, R361). -/

namespace Sys2Proof.Machine

/-! ## The end of a window -/

theorem port_of_sluIdx (p : EPort) (c : Fin 8) : (⟨(sluIdx p c).val / 8, by omega⟩ : EPort) = p := by
  apply Fin.ext
  simp only [sluIdx]
  omega

/-- A refill changes the credits of the half whose window ends, and there leaves a port without a budget no credit (R349). -/
theorem vget_refill (v : Vector Int 256) (t : SluTab) (h : Half) (p : EPort) (c : Fin 8) :
    vget (refill v t h) (sluIdx p c) = if portHalf p = h then
      (if hasCredit (vget t.budget (sluIdx p c)) then
        min (vget v (sluIdx p c) + (vget t.budget (sluIdx p c)).toNat) (vget t.budget (sluIdx p c)).toNat else 0)
      else vget v (sluIdx p c) := by
  rw [refill, vget_vmap, port_of_sluIdx]

theorem toNat_usedOf (n : Nat) : (usedOf n).toNat = min n 0xFFFF := by
  rw [usedOf, BitVec.toNat_ofNat]
  omega

/-- The Sluice registers after a window of half h. -/
def windowEnded (s : State) (h : Half) : State :=
  { s with slu := { s.slu with
      eff := vset s.slu.eff h s.slu.regs
      credit := refill s.slu.credit s.slu.regs h
      used := vmap (fun i u => if portHalf ⟨i.val / 8, by omega⟩ == h then usedOf (vget s.slu.acc i) else u) s.slu.used
      acc := vmap (fun i a => if portHalf ⟨i.val / 8, by omega⟩ == h then 0 else a) s.slu.acc } }

theorem execSluiceWindowBoundary_of_clocked {s : State} {h : Half} (hc : clocked s h = true) :
    execSluiceWindowBoundary h s = .next (after (windowEnded s h)) := by
  simp only [execSluiceWindowBoundary, hc]
  rfl

theorem after_slu (s : State) : (after s).slu = s.slu := by simp [after]

/-- Settles O22. -/
theorem windowBoundaryRefillsCredits : Obligations.WindowBoundaryRefillsCredits := by
  unfold Obligations.WindowBoundaryRefillsCredits
  intro s h hc
  refine ⟨_, execSluiceWindowBoundary_of_clocked hc, kept_after rfl, by simp [windowEnded], by simp [windowEnded, after], ?_⟩
  rw [after_slu]
  refine ⟨vget_vset_same _ _ _, vget_vset_other _ _ (other_ne h).symm, rfl, fun p c => ⟨fun mine => ?_, fun far => ?_⟩⟩
  · refine ⟨fun kept => ?_, fun none => ?_, ?_, ?_⟩
    · simp [windowEnded, vget_refill, mine, kept]
    · simp [windowEnded, vget_refill, mine, none]
    · simp [windowEnded, vget_vmap, port_of_sluIdx, mine, toNat_usedOf]
    · simp [windowEnded, vget_vmap, port_of_sluIdx, mine]
  · exact ⟨by simp [windowEnded, vget_refill, far], by simp [windowEnded, vget_vmap, port_of_sluIdx, far],
      by simp [windowEnded, vget_vmap, port_of_sluIdx, far]⟩

/-! ## Configuration writes -/

theorem exec_sluiceConfigWrite_refused {s : State} {port : RegPort} {reg : SluReg} {d : W32} (hp : portReady s port = true)
    (h : writeSlu s.slu.regs reg d = none) : exec (.sluiceConfigWrite port reg d) s = .next (after (busErr s port)) := by
  change execSluiceConfigWrite port reg d s = _
  simp only [execSluiceConfigWrite, hp, h]
  rfl

theorem exec_sluiceConfigWrite_done {s : State} {port : RegPort} {reg : SluReg} {d : W32} {t : SluTab} (hp : portReady s port = true)
    (h : writeSlu s.slu.regs reg d = some t) :
    exec (.sluiceConfigWrite port reg d) s = .next (after (ack { s with slu := { s.slu with regs := t } } port)) := by
  change execSluiceConfigWrite port reg d s = _
  simp only [execSluiceConfigWrite, hp, h]
  rfl

/-- A write of a budget register: the lower and the upper budget of its pair. -/
theorem writeSlu_budget (t : SluTab) (k : Fin 128) (d : W32) :
    ∃ u, writeSlu t (.budget k) d = some u ∧
      (∀ j : Fin 256, j.val = 2 * k.val → vget u.budget j = budgetAfter (vget t.budget j) (d.extractLsb' 0 16)) ∧
      (∀ j : Fin 256, j.val = 2 * k.val + 1 → vget u.budget j = budgetAfter (vget t.budget j) (d.extractLsb' 16 16)) := by
  have top : 2 * k.val + 1 < 256 := by omega
  have apart : (⟨2 * k.val + 1, top⟩ : Fin 256) ≠ ⟨2 * k.val, Nat.lt_of_succ_lt top⟩ := by simp
  refine ⟨_, rfl, fun j low => ?_, fun j high => ?_⟩
  · obtain rfl : j = ⟨2 * k.val, Nat.lt_of_succ_lt top⟩ := Fin.ext low
    rw [vget_vmod_other _ _ apart, vget_vmod_same]
  · obtain rfl : j = ⟨2 * k.val + 1, top⟩ := Fin.ext high
    rw [vget_vmod_same, vget_vmod_other _ _ apart.symm]

theorem ack_slu (s : State) (port : RegPort) : (ack s port).slu = s.slu := by simp [ack, reply]

/-- Settles O23: one case for each register, by what writeSlu makes of the written table. -/
theorem sluiceConfigurationWrites : Obligations.SluiceConfigurationWrites := by
  unfold Obligations.SluiceConfigurationWrites
  intro s port c k d hp x put
  obtain ⟨u, written, low, high⟩ := writeSlu_budget s.slu.regs k d
  refine ⟨fun on => ⟨?_, ?_⟩, fun off => ⟨?_, ?_⟩, fun set bad => ?_, fun good => ?_, exec_sluiceConfigWrite_done hp rfl,
    _, exec_sluiceConfigWrite_done hp written, kept_after (ack_store _ _), ?_⟩
  · exact exec_sluiceConfigWrite_refused hp (if_pos on)
  · exact exec_sluiceConfigWrite_refused hp (if_pos on)
  · exact exec_sluiceConfigWrite_done hp (by simp [writeSlu, x, off, vmod])
  · refine exec_sluiceConfigWrite_done hp ?_
    simp only [writeSlu, vmod]
    rw [if_neg (by simpa [x] using off)]
    split <;> rfl
  · exact exec_sluiceConfigWrite_refused hp (by simp [writeSlu, set, bad])
  · exact exec_sluiceConfigWrite_done hp (if_neg (by rcases good with good | good <;> rw [good] <;> simp))
  · rw [after_slu, ack_slu]
    exact ⟨rfl, low, high⟩

end Sys2Proof.Machine
end

section
/-! PROOF. The start and the end of a self-test (R507 to R510). -/

namespace Sys2Proof.Machine

theorem exec_selfTestStart (s) : exec .selfTestStart s = execSelfTestStart s := rfl
theorem exec_selfTestDone (res s) : exec (.selfTestDone res) s = execSelfTestDone res s := rfl

/-! ## The start (R508, R509) -/

/-- The ports are isolated while a self-test runs. -/
theorem live_of_busy {s : State} (h : s.wrp.busy = true) : live s = false := by simp [live, h]

theorem irq_of_busy {s : State} (h : s.wrp.busy = true) : irq s = 0 := by simp [irq, live_of_busy h]

/-- The wrapper once a test has begun. -/
def testBegun (w : Wrapper) : Wrapper :=
  { w with startReq := false, runMode := w.mode, runRegions := w.regions, runWhole := w.wholeMem, busy := true, done := false,
           pass := false, abort := false, regionFail := 0, wholeFail := false, imageFull := false }

theorem selfTestStart_begins {s : State} (asked : s.wrp.startReq = true) (mode : s.pins.testMode = true) (up : live s = true)
    (waits : s.gh.stage = .waitImage) (west : vget s.pins.fclkOk 0 = true) (east : vget s.pins.fclkOk 1 = true) :
    exec .selfTestStart s = .next (after (modWrp s testBegun)) := by
  simp only [live, Bool.and_eq_true, Bool.not_eq_true'] at up
  obtain ⟨⟨⟨rst, aon⟩, lost⟩, idle⟩ := up
  simp only [exec_selfTestStart, execSelfTestStart, asked, mode, rst, aon, lost, idle, waits, west, east]
  rfl

/-! ## The end (R509, R510) -/

/-- Entering Off changes no power controller by itself. -/
theorem enterOff_power_any (s : State) (r q : Region) : (rg (enterOff s r) q).power = (rg s q).power := by
  obtain rfl | other := eq_or_ne r q
  · exact enterOff_power s r
  · have kept : rg (enterOff s r) q = rg s q := by
      simp only [enterOff, clearRegion, rg, basinZeroRegion_regions, memZeroRegion_regions, modRg_regions, vget_vmod_other _ _ other]
    rw [kept]

/-- One region goes Off, its steps forgotten. -/
def loseRegion (s : State) (r : Region) : State :=
  enterOff (modPw s r (fun p => { p with st := .off, pend := false, waking := false, down := false, downWait := false, again := false,
                                         steps := [], late := false })) r

theorem loseArrays_eq (s : State) : loseArrays s = (idx 8).foldl loseRegion s := rfl

theorem loseRegion_st (s : State) (r q : Region) : (rg (loseRegion s r) q).power.st = if r = q then .off else (rg s q).power.st := by
  rw [loseRegion, enterOff_power_any, modPw, rg_modRg]
  split <;> rfl

theorem foldl_loseRegion_st (l : List Region) (s : State) (q : Region) (h : q ∈ l ∨ (rg s q).power.st = .off) :
    (rg (l.foldl loseRegion s) q).power.st = .off := by
  induction l generalizing s with
  | nil => simpa using h
  | cons r l ih =>
    refine ih _ ?_
    rw [loseRegion_st]
    grind

/-- Every region is Off after a self-test (R509). -/
theorem loseArrays_off (s : State) (r : Region) : (rg (loseArrays s) r).power.st = .off := by
  rw [loseArrays_eq]
  exact foldl_loseRegion_st _ _ _ (.inl (List.mem_finRange r))

theorem basinZeroRegion_wrp (s : State) (r : Region) : (basinZeroRegion s r).wrp = s.wrp := ite_keeps (g := State.wrp) rfl rfl
theorem memZeroRegion_wrp (s : State) (r : Region) : (memZeroRegion s r).wrp = s.wrp := ite_keeps (g := State.wrp) rfl rfl

theorem loseArrays_wrp (s : State) : (loseArrays s).wrp = s.wrp :=
  foldl_keeps State.wrp _ _ s fun _ r => (basinZeroRegion_wrp _ r).trans ((memZeroRegion_wrp _ r).trans rfl)

section
variable {res : SelfTestResult}

theorem failColumns_of_none (h : res.columns = []) (r p c) : failColumns res r p c = [] := by simp [failColumns, h]

theorem columnEntries_of_none (h : res.columns = []) (m : Byte) : columnEntries m res = [] := by
  simp [columnEntries, failColumns_of_none h]

theorem badBlocks_of_none (hc : res.columns = []) (hb : res.blocks = []) (r) : badBlocks res r = [] := by
  simp [badBlocks, unrepairable, failColumns_of_none hc, hb]

theorem regionFails_of_none (hc : res.columns = []) (hb : res.blocks = []) (m : Byte) : regionFails m res = 0 := by
  simp [regionFails, badBlocks_of_none hc hb]

theorem blockResults_of_none (hc : res.columns = []) (hb : res.blocks = []) (m : Byte) : blockResults m res = 0 := by
  simp [blockResults, hc, hb]

/-- Without a failing column, block or macro memory the test passes, in either mode (R507, R510). -/
theorem testResult_passes (hc : res.columns = []) (hb : res.blocks = []) (hw : res.wholeFail = false) (w : Wrapper) :
    (testResult res w).pass = true := by
  unfold testResult
  dsimp only
  split <;> simp [regionFails_of_none hc hb, blockResults_of_none hc hb, columnEntries_of_none hc, hw]

end

theorem testResult_ends (res : SelfTestResult) (w : Wrapper) : (testResult res w).busy = false ∧ (testResult res w).done = true := by
  unfold testResult
  dsimp only
  split <;> exact ⟨rfl, rfl⟩

theorem selfTestDone_ends {s : State} (res : SelfTestResult) (h : s.wrp.busy = true) :
    exec (.selfTestDone res) s = .next (after (loseArrays (modWrp s (testResult res)))) := by
  simp [exec_selfTestDone, execSelfTestDone, h, finish_eq_after]

theorem after_wrp (s : State) : (after s).wrp = s.wrp := by simp [after]

/-- Settles O10. -/
theorem selfTestRunsAndEnds : Obligations.SelfTestRunsAndEnds := by
  unfold Obligations.SelfTestRunsAndEnds
  refine fun s res => ⟨fun asked mode up waits west east => ⟨_, selfTestStart_begins asked mode up waits west east, ?_⟩,
    fun busy => ⟨_, selfTestDone_ends res busy, ?_⟩⟩
  · have busy : (after (modWrp s testBegun)).wrp.busy = true := by rw [after_wrp]; rfl
    exact ⟨busy, by rw [after_wrp]; rfl, live_of_busy busy, irq_of_busy busy, by simp [modWrp]⟩
  · obtain ⟨idle, done⟩ := testResult_ends res s.wrp
    rw [after_wrp, loseArrays_wrp]
    exact ⟨idle, done, fun r => by rw [rg_after]; exact loseArrays_off _ r, fun hc hb hw => testResult_passes hc hb hw _⟩

end Sys2Proof.Machine
end

section
/-! PROOF. Packets go out in their class's turn, flits arrive in order or are replayed (R364 to R375, R377, R382, R391, R396). -/

namespace Sys2Proof.Machine

theorem exec_packetStart (d c s) : exec (.packetStart d c) s = execPacketStart d c s := rfl
theorem exec_flitReceive (d noise s) : exec (.flitReceive d noise) s = execFlitReceive d noise s := rfl
theorem exec_nakRepeatReplay (d s) : exec (.nakRepeatReplay d) s = execNakRepeatReplay d s := rfl
theorem exec_ackStallReplay (d s) : exec (.ackStallReplay d) s = execAckStallReplay d s := rfl
theorem exec_sideWordTimeout (d s) : exec (.sideWordTimeout d) s = execSideWordTimeout d s := rfl
theorem exec_sideWordReceive (d c noise s) : exec (.sideWordReceive d c noise) s = execSideWordReceive d c noise s := rfl

theorem countM_fb (s : State) (e a n : Nat) : (countM s e a n).fb = s.fb := by
  unfold countM wrapFlag
  dsimp only
  split <;> rfl

theorem dir_countM (s : State) (e a n : Nat) (d : Half) : dir (countM s e a n) d = dir s d := by rw [dir, countM_fb, dir]

/-! ## The packet that a class takes next (R371, R374, R377, R387, R391) -/

theorem mem_of_mem_takeable {l : List Packet} {p : Packet} (h : p ∈ takeable l) : p ∈ l := by
  cases l with
  | nil => exact h
  | cons q l =>
    rw [takeable] at h
    split at h
    · exact List.mem_cons.2 (.inl (List.mem_singleton.1 h))
    · obtain rfl | inside := List.mem_cons.1 h
      exacts [List.mem_cons_self, List.mem_cons_of_mem _ ((List.takeWhile_sublist _).mem inside)]

theorem nextPacket_waits {s : State} {d : Half} {c : FbClass} {p : Packet} (h : nextPacket s d c = some p) :
    p ∈ vget (dir s d).txq c ∧ packetHeld s d c p = false := by
  obtain ⟨k, -, found⟩ := List.mem_filterMap.1 (List.mem_of_head? h)
  obtain ⟨taken, free⟩ := List.mem_filter.1 (List.mem_of_find?_eq_some found)
  exact ⟨mem_of_mem_takeable taken, by simpa using free⟩

theorem nextClass_hasRoom {s : State} {d : Half} {c : FbClass} {p : Packet} (hp : nextPacket s d c = some p) (hc : nextClass s d = some c) :
    flitCount p ≤ credit (dir s d) c ∧ (dir s d).replay.length + flitCount p ≤ 64 := by
  have may := List.find?_some hc
  simpa [canStart, hp] using may

/-- The transmitter once it has taken packet p of class c. -/
def packetTaken (p : Packet) (c : FbClass) (x : FbDir) : FbDir :=
  { x with txq := vmod x.txq c (List.erase · p), plast := vset x.plast c p.via, clast := c,
           sent := vmod x.sent c (· + BitVec.ofNat 8 (flitCount p)), nextSeq := x.nextSeq + BitVec.ofNat 7 (flitCount p),
           replay := x.replay ++ seqFlits p c x.nextSeq true (payloads p), wire := x.wire ++ seqFlits p c x.nextSeq true (payloads p) }

section Open

variable {s : State} {d : Half} (ho : linkOpen s d = true)
include ho

theorem packetStart_waits {c : FbClass} (h : nextPacket s d c = none ∨ nextClass s d ≠ some c) : execPacketStart d c s = .next s := by
  unfold execPacketStart
  rcases h with none | turn
  · simp [ho, none, skip]
  · split
    · rfl
    · split
      · rfl
      · simp [turn, skip]

theorem packetStart_takes {c : FbClass} {p : Packet} (hp : nextPacket s d c = some p) (hc : nextClass s d = some c) :
    execPacketStart d c s = .next (after (countM (modDir s d (packetTaken p c)) 0x68 (d.val + 2 * c.val) (flitCount p))) := by
  simp only [execPacketStart, ho, hp, hc, finish_eq_after, bne_self_eq_false, Bool.not_true, Bool.false_eq_true, if_false]
  rfl

/-! ## Flits that arrive (R364, R369, R373, R382, R396) -/

theorem flitReceive_idle {noise : BitVec 304} (hw : (dir s d).wire = []) :
    execFlitReceive d noise s = .next (after (if flitCrcOk (arrives s d 0 idleFlit noise) then s else countCrc s d)) := by
  simp only [execFlitReceive, ho, hw, finish_eq_after]
  rfl

theorem flitReceive_bad {noise : BitVec 304} {f : Flit} {fs : List Flit} (hw : (dir s d).wire = f :: fs)
    (hcrc : flitCrcOk (arrives s d (groupOf f.bits) f.bits noise) = false) : execFlitReceive d noise s =
      .next (after (badFlit (modDir s d (fun x => { x with wire := fs })) d f.bits (arrives s d (groupOf f.bits) f.bits noise))) := by
  simp only [execFlitReceive, ho, hw, hcrc, finish_eq_after]
  rfl

theorem flitReceive_dropped {noise : BitVec 304} {f : Flit} {fs : List Flit} (hw : (dir s d).wire = f :: fs)
    (hcrc : flitCrcOk (arrives s d (groupOf f.bits) f.bits noise) = true)
    (out : flitLink (arrives s d (groupOf f.bits) f.bits noise) = true ∨
      flitSeq (arrives s d (groupOf f.bits) f.bits noise) ≠ (dir s d).rxNext) :
    execFlitReceive d noise s = .next (after (modDir s d (fun x => { x with wire := fs }))) := by
  rcases out with out | out <;> simp [execFlitReceive, ho, hw, hcrc, out, finish_eq_after]

theorem flitReceive_accepted {noise : BitVec 304} {f : Flit} {fs : List Flit} (hw : (dir s d).wire = f :: fs)
    (hcrc : flitCrcOk (arrives s d (groupOf f.bits) f.bits noise) = true)
    (sequenced : flitLink (arrives s d (groupOf f.bits) f.bits noise) = false)
    (inOrder : flitSeq (arrives s d (groupOf f.bits) f.bits noise) = (dir s d).rxNext) : execFlitReceive d noise s =
      .next (after (acceptFlit (modDir s d (fun x => { x with wire := fs })) d ⟨arrives s d (groupOf f.bits) f.bits noise, f.side⟩)) := by
  simp [execFlitReceive, ho, hw, hcrc, sequenced, inOrder, finish_eq_after]

/-! ## Replays and the loss of the side words (R374, R375) -/

theorem nakRepeatReplay_replays (hn : (dir s d).nak = true) (hr : (dir s d).replayOf.isSome = true) :
    execNakRepeatReplay d s = .next (after (startReplay s d)) := by
  obtain ⟨q, hq⟩ := Option.isSome_iff_exists.1 hr
  simp [execNakRepeatReplay, ho, hn, hq, finish_eq_after]

theorem ackStallReplay_replays (hr : (dir s d).replay ≠ []) : execAckStallReplay d s = .next (after (startReplay s d)) := by
  simp [execAckStallReplay, ho, hr, finish_eq_after]

theorem sideWordTimeout_fails : ∃ t, execSideWordTimeout d s = .next t ∧ kept s t ∧ (dir t d).st = .fault := by
  refine ⟨after (linkFault s d (fv s 1 7) (fv s 2 2) 1), by simp [execSideWordTimeout, ho, finish_eq_after],
    kept_after (linkFault_store _ _ _ _ _), ?_⟩
  rw [dir_after, dir, linkFault_fb, vget_vmod_same]

end Open

theorem nakRepeatReplay_waits {s : State} {d : Half} (h : (dir s d).nak = false ∨ (dir s d).replayOf = none) :
    execNakRepeatReplay d s = .next s := by
  rcases h with h | h <;> simp [execNakRepeatReplay, h, skip]

theorem ackStallReplay_waits {s : State} {d : Half} (h : (dir s d).replay = []) : execAckStallReplay d s = .next s := by
  simp [execAckStallReplay, h, skip]

/-- A replay sends the whole buffer again while REPLAY_LIMIT allows it. -/
theorem startReplay_repeats {s : State} {d : Half} (hr : (dir s d).replay ≠ []) (ht : (dir s d).replayTimes < s.fb.replayLimit.toNat) :
    (dir (startReplay s d) d).wire = (dir s d).wire ++ (dir s d).replay ∧ (dir (startReplay s d) d).replay = (dir s d).replay ∧
      (dir (startReplay s d) d).replayTimes = (dir s d).replayTimes + 1 := by
  obtain ⟨f, fs, buffer⟩ := List.exists_cons_of_ne_nil hr
  simp [startReplay, buffer, Nat.not_le.2 ht, dir_countM]

theorem startReplay_fails {s : State} {d : Half} (hr : (dir s d).replay ≠ []) (ht : s.fb.replayLimit.toNat ≤ (dir s d).replayTimes) :
    (dir (startReplay s d) d).st = .fault := by
  obtain ⟨f, fs, buffer⟩ := List.exists_cons_of_ne_nil hr
  simp only [startReplay, buffer, ht, if_true]
  rw [dir, linkFault_fb, vget_vmod_same]

/-! ## A good flit in order (R373, R379) -/

/-- What a flit in order fixes at the receiver of direction d: the next SEQ, NAK, and the flits still on the wires. -/
def rxView (d : Half) (s : State) : BitVec 7 × Bool × List Flit := ((dir s d).rxNext, (dir s d).nak, (dir s d).wire)

theorem retireWire_rxView (s : State) (d : Half) (g : Fin 4) (w : Fin 144) : rxView d (retireWire s d g w) = rxView d s := by
  unfold retireWire
  dsimp only
  split
  · rfl
  · split
    · simp [rxView]
    · simp [rxView, sendLink, dir_modDir_other _ _ (other_ne d)]

theorem countWire_rxView (s : State) (d : Half) (g : Fin 4) (w : Fin 144) : rxView d (countWire s d g w) = rxView d s := by
  unfold countWire
  dsimp only
  split
  · rw [retireWire_rxView]; simp [rxView]
  · simp [rxView]

theorem compareFlits_rxView (s : State) (d : Half) (bad good : BitVec 288) : rxView d (compareFlits s d bad good) = rxView d s :=
  foldl_keeps (rxView d) _ _ s fun _ _ => countWire_rxView _ _ _ _

theorem protocolFault_rxView (s : State) (d : Half) (q : BitVec 7) : rxView d (protocolFault s d q) = rxView d s := by
  simp [rxView, dir, protocolFault, fbFault, halfFault_fb]

theorem gatherFlit_rxView (s : State) (d : Half) (f : Flit) : rxView d (gatherFlit s d f) = rxView d s := by
  unfold gatherFlit
  dsimp only
  split
  · exact protocolFault_rxView _ _ _
  · split
    · simp [rxView]
    · split
      · exact protocolFault_rxView _ _ _
      · simp [rxView]

theorem acceptFlit_rxView (s : State) (d : Half) (f : Flit) :
    rxView d (acceptFlit s d f) = ((dir s d).rxNext + 1, false, (dir s d).wire) := by
  unfold acceptFlit
  dsimp only
  rw [gatherFlit_rxView]
  split
  · split
    · rw [compareFlits_rxView]; simp [rxView]
    · simp [rxView]
  · simp [rxView]

/-! ## A flit that fails its CRC (R373, R396) -/

theorem badFlit_dir (s : State) (d : Half) (sent got : BitVec 288) :
    (dir (badFlit s d sent got) d).rxNext = (dir s d).rxNext ∧ (dir (badFlit s d sent got) d).asm = (dir s d).asm ∧
      (dir (badFlit s d sent got) d).crcErr = (dir s d).crcErr + 1 ∧
      (dir (badFlit s d sent got) d).nak = (decide (flitSeq sent = (dir s d).rxNext) || (dir s d).nak) := by
  unfold badFlit countCrc
  dsimp only
  split
  next place =>
    have place : flitSeq sent = (dir s d).rxNext := by simpa [dir_countM] using place
    simp [dir_countM, place]
  next place =>
    have place : flitSeq sent ≠ (dir s d).rxNext := by simpa [dir_countM] using place
    simp [dir_countM, place]

/-! ## Side words (R366, R372) -/

section Side

variable {s : State} {d : Half} {c : FbClass} {noise : W32}

theorem sideWordReceive_closed (h : (dir s d).st = .down ∨ (dir s d).st = .training 0) : execSideWordReceive d c noise s = .next s := by
  rcases h with h | h <;> simp [execSideWordReceive, sideOpen, h, skip]

theorem sideOpen_of_strobes (hl : live s = true) (hc : bothClocks s = true) (down : (dir s d).st ≠ .down)
    (first : (dir s d).st ≠ .training 0) : sideOpen s d = true := by
  simp [sideOpen, hl, hc, down, first]

theorem sideWordReceive_bad (ho : sideOpen s d = true)
    (bad : sideOk (sideWord (dir s (other d)) (shownState (dir s d).st) c ^^^ noise) = false) :
    execSideWordReceive d c noise s = .next (after s) := by
  simp [execSideWordReceive, ho, bad, finish_eq_after]

theorem sideWordReceive_good (ho : sideOpen s d = true)
    (good : sideOk (sideWord (dir s (other d)) (shownState (dir s d).st) c ^^^ noise) = true) :
    execSideWordReceive d c noise s = .next (after (takeSide (modDir s d (fun x => { x with
      sawUp := x.sawUp || (sideWord (dir s (other d)) (shownState (dir s d).st) c ^^^ noise).extractLsb' 18 2 == 2 })) d
        (sideWord (dir s (other d)) (shownState (dir s d).st) c ^^^ noise))) := by
  simp [execSideWordReceive, ho, good, finish_eq_after]

end Side

/-- Settles O55: one lemma for each event of a direction that is up, and one for each outcome of a side word. -/
theorem flitsAreCarriedInOrderOrReplayed : Obligations.FlitsAreCarriedInOrderOrReplayed := by
  unfold Obligations.FlitsAreCarriedInOrderOrReplayed
  intro s d c noise sn f fs
  simp only [exec_packetStart, exec_flitReceive, exec_nakRepeatReplay, exec_ackStallReplay, exec_sideWordTimeout, exec_sideWordReceive]
  refine ⟨fun ho => ⟨packetStart_waits ho, fun p hp => ?packet, fun hw => ⟨fun hcrc sequenced inOrder => ?accepted,
      flitReceive_dropped ho hw, fun hcrc => ?bad⟩, flitReceive_idle ho, nakRepeatReplay_replays ho, nakRepeatReplay_waits,
      ackStallReplay_waits, fun hr => ⟨ackStallReplay_replays ho hr, startReplay_repeats hr, startReplay_fails hr⟩,
      sideWordTimeout_fails ho⟩,
    fun hl hc => ⟨sideWordReceive_closed, fun down first => ?side⟩⟩
  case packet =>
    obtain ⟨waiting, free⟩ := nextPacket_waits hp
    refine ⟨waiting, free, fun hc => ?_⟩
    obtain ⟨credited, space⟩ := nextClass_hasRoom hp hc
    refine ⟨credited, space, _, packetStart_takes ho hp hc, kept_after ((countM_store _ _ _ _).trans (modDir_store _ _ _)), ?_⟩
    simp [dir_countM, packetTaken]
  case accepted =>
    have view := acceptFlit_rxView (modDir s d (fun x => { x with wire := fs })) d ⟨arrives s d (groupOf f.bits) f.bits noise, f.side⟩
    simp only [rxView, dir_modDir_same, Prod.mk.injEq] at view
    obtain ⟨next, nak, wire⟩ := view
    refine ⟨_, flitReceive_accepted ho hw hcrc sequenced inOrder, ?_⟩
    rw [dir_after]
    exact ⟨next, nak, wire, kept_after ((acceptFlit_store _ _ _).trans (modDir_store _ _ _))⟩
  case bad =>
    refine ⟨_, flitReceive_bad ho hw hcrc, kept_after ((badFlit_store _ _ _ _).trans (modDir_store _ _ _)), ?_⟩
    rw [dir_after]
    simpa using badFlit_dir (modDir s d (fun x => { x with wire := fs })) d f.bits (arrives s d (groupOf f.bits) f.bits noise)
  case side =>
    have ho := sideOpen_of_strobes hl hc down first
    exact ⟨sideWordReceive_bad ho, sideWordReceive_good ho⟩

end Sys2Proof.Machine
end

section
/-! PROOF. Extends of the measurement slots (R425, R427, R432, R448). -/

namespace Sys2Proof.Machine

theorem exec_slotExtendComplete (s) : exec .slotExtendComplete s = execSlotExtendComplete s := rfl

/-! ## What an extend leaves before waiting words go on -/

/-- The oldest extend is done, and the boot stage that waited for it. -/
def slotExtended (s : State) (e : Extend) (es : List Extend) : State :=
  { s with meas := { extendSlot s.meas e with queue := es }, gh := bootAfter s.gh s.fuse e.slot }

/-- ROM enters firmware where the stage has just become RUNNING (R427). -/
def romGoesOn (s u : State) : State := if u.gh.stage = s.gh.stage || u.gh.stage != .running then u else jumped u

/-- A report that waited is taken (R436). -/
def reportGoesOn (u : State) : State :=
  match u.gh.req with
  | some (.measure w sign present) => takeReport u w sign present
  | _ => u

theorem execSlotExtendComplete_extends {s : State} {e : Extend} {es : List Extend} (hl : live s = true) (hq : s.meas.queue = e :: es) :
    execSlotExtendComplete s = .next (after (retryWords (reportGoesOn (romGoesOn s (slotExtended s e es))))) := by
  simp only [execSlotExtendComplete, hl, hq]
  rfl

/-- The slots, their counts and their WRAP bits. -/
def slotFile (s : State) : Vector (BitVec 384) 8 × Vector (BitVec 16) 8 × Vector Bool 8 := (s.meas.slots, s.meas.cnt, s.meas.wrap)

theorem romGoesOn_slotFile (s u : State) : slotFile (romGoesOn s u) = slotFile u := ite_keeps (g := slotFile) rfl rfl

theorem romGoesOn_store (s u : State) : store (romGoesOn s u) = store u := by
  unfold romGoesOn
  split; exacts [rfl, jumped_store u]

theorem reportGoesOn_slotFile (u : State) : slotFile (reportGoesOn u) = slotFile u := by
  unfold reportGoesOn
  split; exacts [by rw [slotFile, takeReport_meas]; rfl, rfl]

theorem reportGoesOn_store (u : State) : store (reportGoesOn u) = store u := by
  unfold reportGoesOn
  split; exacts [takeReport_store _ _ _ _, rfl]

/-- A report changes of the Gatehouse the request alone. -/
theorem reportGoesOn_gh (u : State) : ∃ q, (reportGoesOn u).gh = { u.gh with req := q } := by
  unfold reportGoesOn
  split
  · exact ⟨_, rfl⟩
  · exact ⟨u.gh.req, rfl⟩

/-! ## Waiting words leave the slots -/

theorem modRport_slotFile (s : State) (port : RegPort) (f : RegPortSt → RegPortSt) : slotFile (modRport s port f) = slotFile s := by
  cases port <;> rfl

theorem ack_slotFile (s : State) (port : RegPort) : slotFile (ack s port) = slotFile s := modRport_slotFile _ _ _
theorem busErr_slotFile (s : State) (port : RegPort) : slotFile (busErr s port) = slotFile s := modRport_slotFile _ _ _
theorem holdAcc_slotFile (s : State) (port : RegPort) (a : HeldAcc) : slotFile (holdAcc s port a) = slotFile s := modRport_slotFile _ _ _

theorem fwFail_slotFile (s : State) (e : Byte) : slotFile (fwFail s e) = slotFile s := by
  unfold fwFail
  split <;> rfl

theorem fwTake_slotFile (s : State) (bs : List Byte) : slotFile (fwTake s bs) = slotFile s := by
  unfold fwTake
  dsimp only
  split
  · rw [fwFail_slotFile]; rfl
  · rfl

theorem fwWord_slotFile (s : State) (port : RegPort) (w : W32) : slotFile (fwWord s port w) = slotFile s := by
  unfold fwWord
  split_ifs
  · exact busErr_slotFile s port
  · exact holdAcc_slotFile s port _
  · rw [ack_slotFile, fwTake_slotFile]

theorem measureTaken_slotFile (s : State) : slotFile (measureTaken s) = slotFile s := by
  unfold measureTaken
  split_ifs <;> rfl

theorem plnWord_slotFile (s : State) (port : RegPort) (w : W32) : slotFile (plnWord s port w) = slotFile s := by
  unfold plnWord
  split_ifs
  · exact busErr_slotFile s port
  · exact holdAcc_slotFile s port _
  · rw [ack_slotFile, measureTaken_slotFile]; rfl

theorem retryFwAt_slotFile (s : State) (port : RegPort) : slotFile (retryFwAt s port) = slotFile s := by
  unfold retryFwAt
  split; exacts [fwWord_slotFile _ _ _, rfl]

theorem retryPlnAt_slotFile (s : State) (port : RegPort) : slotFile (retryPlnAt s port) = slotFile s := by
  unfold retryPlnAt
  split; exacts [plnWord_slotFile _ _ _, rfl]

theorem retryWords_slotFile (s : State) : slotFile (retryWords s) = slotFile s := by
  simp only [retryWords, retryPln, retryPlnAt_slotFile, retryFwAt_slotFile]

/-! ## An extend of a slot (R432, R448) and the boot stage after it (R425, R427) -/

theorem bootAfter_fuses {g : Gatehouse} {f : Fuse} {slot : Fin 8} (h1 : slot = 1) (hs : g.stage = .fuses) (hd : f.done = true) :
    bootAfter g f slot = { g with stage := .waitImage } := by
  simp [bootAfter, h1, hs, hd]

theorem bootAfter_image {g : Gatehouse} {f : Fuse} {slot : Fin 8} (h0 : slot = 0) (hs : g.stage = .loading) (he : g.fwEnded = true) :
    bootAfter g f slot = { g with stage := .running, fwEnded := false, asleep := false } := by
  simp [bootAfter, h0, hs, he]

section Extended

variable {s : State} {e : Extend} {es : List Extend}

/-- The state that an extend answers, before the end of its step. -/
def afterExtend (s : State) (e : Extend) (es : List Extend) : State := retryWords (reportGoesOn (romGoesOn s (slotExtended s e es)))

theorem afterExtend_slotFile : slotFile (afterExtend s e es) = slotFile (slotExtended s e es) := by
  rw [afterExtend, retryWords_slotFile, reportGoesOn_slotFile, romGoesOn_slotFile]

theorem afterExtend_kept : kept s (after (afterExtend s e es)) :=
  kept_after ((retryWords_store _).trans ((reportGoesOn_store _).trans (romGoesOn_store _ _)))

/-- Where no load is in progress, words that wait and a report leave the stage and the registers that ROM's step has set. -/
theorem afterExtend_gh (h : (romGoesOn s (slotExtended s e es)).gh.stage ≠ .loading) :
    ∃ q, (afterExtend s e es).gh = { (romGoesOn s (slotExtended s e es)).gh with req := q } := by
  obtain ⟨q, hq⟩ := reportGoesOn_gh (romGoesOn s (slotExtended s e es))
  exact ⟨q, by rw [afterExtend, retryWords_gh (by rw [hq]; exact h), hq]⟩

theorem afterExtend_fuses (h1 : e.slot = 1) (hs : s.gh.stage = .fuses) (hd : s.fuse.done = true) :
    (afterExtend s e es).gh.stage = .waitImage := by
  have entered : (romGoesOn s (slotExtended s e es)).gh.stage = .waitImage := by
    simp [romGoesOn, slotExtended, bootAfter_fuses h1 hs hd]
  obtain ⟨q, hq⟩ := afterExtend_gh (s := s) (e := e) (es := es) (by simp [entered])
  rw [hq]
  exact entered

theorem afterExtend_image (h0 : e.slot = 0) (hs : s.gh.stage = .loading) (he : s.gh.fwEnded = true) :
    (afterExtend s e es).gh.stage = .running ∧
      ∀ k, vget (afterExtend s e es).gh.regs k = if k = 10 then bootStat (after (afterExtend s e es)) else 0 := by
  have entered : romGoesOn s (slotExtended s e es) = jumped (slotExtended s e es) := by
    simp [romGoesOn, slotExtended, bootAfter_image h0 hs he, hs]
  have running : (slotExtended s e es).gh.stage = .running := by simp [slotExtended, bootAfter_image h0 hs he]
  obtain ⟨q, hq⟩ := afterExtend_gh (s := s) (e := e) (es := es) (by rw [entered]; simp [jumped, running])
  rw [entered] at hq
  obtain ⟨-, -, aon, -⟩ := afterExtend_kept (s := s) (e := e) (es := es)
  have shown : bootStat (after (afterExtend s e es)) = bootStat (slotExtended s e es) := by
    simp only [bootStat, after_gh, hq, aon]
    rfl
  refine ⟨by rw [hq]; exact running, fun k => ?_⟩
  rw [hq, shown]
  change vget (vset (Vector.replicate 32 0) 10 (bootStat (slotExtended s e es))) k = _
  rw [vget_vset, vget_replicate]
  simp only [eq_comm]

/-- An extend changes its slot, its count and its WRAP bit alone. -/
theorem slotExtended_file : vget (slotExtended s e es).meas.slots e.slot = sha384 (bytesOf (vget s.meas.slots e.slot) 48 ++ bytesOf e.digest 48) ∧
    vget (slotExtended s e es).meas.cnt e.slot = vget s.meas.cnt e.slot + 1 ∧
    (vget s.meas.cnt e.slot = 0xFFFF → vget (slotExtended s e es).meas.wrap e.slot = true) ∧
    (∀ k, k ≠ e.slot → vget (slotExtended s e es).meas.slots k = vget s.meas.slots k ∧
      vget (slotExtended s e es).meas.cnt k = vget s.meas.cnt k) := by
  refine ⟨vget_vmod_same _ _ _, vget_vset_same _ _ _, fun full => ?_, fun k other =>
    ⟨vget_vmod_other _ _ other.symm, vget_vset_other _ _ other.symm⟩⟩
  have wraps : vget s.meas.cnt e.slot + 1 = 0 := by rw [full]; rfl
  simp only [slotExtended, extendSlot, wraps, if_true, vget_vset_same]

end Extended

/-- SLOT_EXTEND_COMPLETE with an extend in progress. -/
theorem slotExtendComplete_extends {s : State} {e : Extend} {es : List Extend} (hl : live s = true) (hq : s.meas.queue = e :: es) :
    ∃ t, exec .slotExtendComplete s = .next t ∧ kept s t ∧
      vget t.meas.slots e.slot = sha384 (bytesOf (vget s.meas.slots e.slot) 48 ++ bytesOf e.digest 48) ∧
      vget t.meas.cnt e.slot = vget s.meas.cnt e.slot + 1 ∧ (vget s.meas.cnt e.slot = 0xFFFF → vget t.meas.wrap e.slot = true) ∧
      (∀ k, k ≠ e.slot → vget t.meas.slots k = vget s.meas.slots k ∧ vget t.meas.cnt k = vget s.meas.cnt k) ∧
      (e.slot = 1 → s.gh.stage = .fuses → s.fuse.done = true → t.gh.stage = .waitImage) ∧
      (e.slot = 0 → s.gh.stage = .loading → s.gh.fwEnded = true → t.gh.stage = .running ∧
        ∀ k, vget t.gh.regs k = if k = 10 then bootStat t else 0) := by
  have file := afterExtend_slotFile (s := s) (e := e) (es := es)
  simp only [slotFile, Prod.mk.injEq] at file
  obtain ⟨slots, cnt, wrap⟩ := file
  refine ⟨after (afterExtend s e es), (exec_slotExtendComplete s).trans (execSlotExtendComplete_extends hl hq), afterExtend_kept, ?_⟩
  rw [after_meas, after_gh, slots, cnt, wrap]
  obtain ⟨slot, count, full, others⟩ := slotExtended_file (s := s) (e := e) (es := es)
  exact ⟨slot, count, full, others, afterExtend_fuses, afterExtend_image⟩

/-- No other command but a reset or the loss of a rail changes a slot. -/
theorem slots_kept {i : Instr} {s t : State} (run : exec i s = .next t) (notExtend : i ≠ .slotExtendComplete) (notMac : i ≠ .macroResetAssert)
    (notAon : i ≠ .aonReset true) (notRail : ∀ h r, i ≠ .railLoss h r) : t.meas.slots = s.meas.slots := by
  have start : Stands s.meas.slots False s := ⟨rfl, nofun⟩
  obtain ⟨u, hu, slots, -⟩ := exec_answers start notAon notMac notRail notExtend fun _ => id
  obtain rfl : u = t := by simpa [run] using hu.symm
  exact slots

/-! ## Sleep and interrupts (R422 to R424) -/

theorem exec_gatehouseSleep (l s) : exec (.gatehouseSleep l) s = execGatehouseSleep s l := rfl
theorem exec_gatehouseWake (l s) : exec (.gatehouseWake l) s = execGatehouseWake l s := rfl
theorem exec_timerInterrupt (s) : exec .timerInterrupt s = execTimerInterrupt s := rfl

section Sleep

variable {s : State} {l : List CoreAcc}

theorem gatehouseSleep_sleeps (hl : live s = true) (hs : s.gh.stage = .running) (ha : s.gh.asleep = false) :
    execGatehouseSleep s l = .next (after { coreRuns s l with gh := { (coreRuns s l).gh with
      asleep := !((coreRuns s l).gh.extIrq || decide ((coreRuns s l).gh.mtimecmp.toNat ≤ (coreRuns s l).aon.sundial.toNat)) } }) := by
  simp [execGatehouseSleep, hl, hs, ha, finish_eq_after, timerIrq, Bool.not_or]

theorem gatehouseSleep_waits (h : s.gh.stage ≠ .running ∨ s.gh.asleep = true) : execGatehouseSleep s l = .next s := by
  rcases h with h | h <;> simp [execGatehouseSleep, h, skip]

theorem gatehouseWake_wakes (hl : live s = true) (hi : s.gh.extIrq = true) :
    execGatehouseWake l s = .next (after (coreRuns { s with gh := { s.gh with asleep := false, extIrq := false } } l)) := by
  simp [execGatehouseWake, hl, hi, finish_eq_after]

theorem gatehouseWake_waits (hi : s.gh.extIrq = false) : execGatehouseWake l s = .next s := by
  simp [execGatehouseWake, hi, skip]

theorem timerInterrupt_wakes (hl : live s = true) (ht : s.gh.mtimecmp.toNat ≤ s.aon.sundial.toNat) :
    execTimerInterrupt s = .next (after { s with gh := { s.gh with asleep := false } }) := by
  simp [execTimerInterrupt, hl, timerIrq, ht, finish_eq_after]

theorem timerInterrupt_waits (ht : s.aon.sundial.toNat < s.gh.mtimecmp.toNat) : execTimerInterrupt s = .next s := by
  simp [execTimerInterrupt, timerIrq, Nat.not_le.2 ht, skip]

end Sleep

/-! ## The core's accesses (R422, R423) -/

theorem coreRuns_read {s : State} {a : CoreAcc} (h : a.data = none) : coreRuns s [a] = coreRead s a := by simp [coreRuns, h]
theorem coreRuns_write {s : State} {a : CoreAcc} {d : W32} (h : a.data = some d) : coreRuns s [a] = coreWrite s a d := by simp [coreRuns, h]

theorem accIn_iff {a : CoreAcc} {base n : Nat} :
    accIn a base n = true ↔ base ≤ a.addr.toNat ∧ a.addr.toNat + 2 ^ a.size.val ≤ base + n := by simp [accIn]

/-- An access has one to four bytes. -/
theorem accSize_le (a : CoreAcc) : 1 ≤ 2 ^ a.size.val ∧ 2 ^ a.size.val ≤ 4 := by
  have sizes : ∀ k : Fin 3, 1 ≤ 2 ^ k.val ∧ 2 ^ k.val ≤ 4 := by decide
  exact sizes a.size

theorem accBytes_length (a : CoreAcc) (d : W32) : (accBytes a d).length = 2 ^ a.size.val := by
  simp [accBytes, bytesOf_length, (accSize_le a).2]

/-- A RAM holds the bytes that a write puts there. -/
theorem tget_accBytes (t : Table Byte) (a : CoreAcc) (d : W32) (k j : Nat) (hj : j < 2 ^ a.size.val) :
    tget 0 (tputs 0 t k (accBytes a d)) (k + j) = (bytesOf d 4).getD j 0 := by
  have small : j < 4 := hj.trans_le (accSize_le a).2
  rw [tget_tputs, dif_pos ⟨by omega, by rw [accBytes_length]; omega⟩]
  simp [accBytes, bytesOf_length, List.getD, small]

/-- Bytes of a word with four of them replaced from byte i. -/
theorem putCmp_bytes (w : W64) (d : W32) {i j : Nat} (hi : i + 4 ≤ 8) (hj : j < 8) : (putCmp w i (bytesOf d 4)).extractLsb' (8 * j) 8 =
    if i ≤ j ∧ j < i + 4 then d.extractLsb' (8 * (j - i)) 8 else w.extractLsb' (8 * j) 8 := by
  rw [putCmp, wordOf_byte _ j (by simp [bytesOf_length]; omega) (by omega)]
  grind [bytesOf_length, bytesOf_getElem]

/-- A write of four bytes to the lower half of mtimecmp. -/
theorem putCmp_low (w : W64) (d : W32) : putCmp w 0 (bytesOf d 4) = w.extractLsb' 32 32 ++ d := by
  refine eq_of_bytes (n := 8) rfl fun j hj => ?_
  rw [putCmp_bytes w d (by omega) hj]
  split
  · rw [BitVec.extractLsb'_append_eq_of_add_le (by omega), Nat.sub_zero]
  · have place : 8 * j - 32 = 8 * (j - 4) := by omega
    have back : 32 + 8 * (j - 4) = 8 * j := by omega
    rw [BitVec.extractLsb'_append_eq_of_le (by omega), place, byte_of_extract _ _ _ _ (by omega), back]

theorem putCmp_high (w : W64) (d : W32) : putCmp w 4 (bytesOf d 4) = d ++ w.extractLsb' 0 32 := by
  refine eq_of_bytes (n := 8) rfl fun j hj => ?_
  rw [putCmp_bytes w d (by omega) hj]
  split
  · rw [BitVec.extractLsb'_append_eq_of_le (by omega), Nat.mul_sub]
  · rw [BitVec.extractLsb'_append_eq_of_add_le (by omega), byte_of_extract _ _ _ _ (by omega), Nat.zero_add]

section Access

variable {s : State} {a : CoreAcc} {d : W32}

theorem coreWrite_code (h : accIn a 0x10000 0x20000 = true) :
    coreWrite s a d = { s with gh := { s.gh with code := tputs 0 s.gh.code (a.addr.toNat - 0x10000) (accBytes a d) } } := by
  simp only [coreWrite, h, if_true]

theorem coreWrite_data (h : accIn a 0x30000 0x10000 = true) :
    coreWrite s a d = { s with gh := { s.gh with data := tputs 0 s.gh.data (a.addr.toNat - 0x30000) (accBytes a d) } } := by
  obtain ⟨base, -⟩ := accIn_iff.1 h
  have code : accIn a 0x10000 0x20000 = false := Bool.eq_false_iff.2 fun h => by
    obtain ⟨-, top⟩ := accIn_iff.1 h
    have := accSize_le a
    omega
  simp [coreWrite, code, h]

/-- A write of a word in mtimecmp. -/
theorem coreWrite_cmp {i : Nat} (ha : a.addr.toNat = 0x40008 + i) (hi : i + 4 ≤ 8) (hs : a.size = 2) :
    (coreWrite s a d).gh.mtimecmp = putCmp s.gh.mtimecmp i (bytesOf d 4) := by
  have bytes : accBytes a d = bytesOf d 4 := List.take_of_length_le (by rw [hs, bytesOf_length]; decide)
  have code : accIn a 0x10000 0x20000 = false := by simp [accIn, ha, hs]; omega
  have data : accIn a 0x30000 0x10000 = false := by simp [accIn, ha, hs]; omega
  have cmp : accIn a 0x40008 8 = true := by simp [accIn, ha, hs]; omega
  simp [coreWrite, code, data, cmp, bytes, ha]

/-- A RAM word that fails parity is a fault, which asserts freeze (R451). -/
theorem coreRead_parity (bad : a.bad = true) (h : accIn a 0x10000 0x20000 = true ∨ accIn a 0x30000 0x10000 = true) :
    (coreRead s a).frz.asserted = true := by
  have ram : (accIn a 0x10000 0x20000 || accIn a 0x30000 0x10000) = true := by rcases h with h | h <;> simp [h]
  simp only [coreRead, ram, bad, if_true]
  cases frozen : s.frz.asserted <;> simp [wholeFault, recordFault, assertFreeze, frozen]

theorem coreRead_outside (rom : accIn a 0 0x10000 = false) (code : accIn a 0x10000 0x20000 = false) (data : accIn a 0x30000 0x10000 = false)
    (timer : accIn a 0x40000 16 = false) (space : accIn a 0x10000000 0x100000 = false) : coreRead s a = accFaults s a := by
  simp [coreRead, rom, code, data, timer, space]

theorem coreWrite_outside (code : accIn a 0x10000 0x20000 = false) (data : accIn a 0x30000 0x10000 = false)
    (timer : accIn a 0x40008 8 = false) (space : accIn a 0x10000000 0x100000 = false) : coreWrite s a d = accFaults s a := by
  simp [coreWrite, code, data, timer, space]

end Access

/-- Settles O52: extends by what they leave before and after waiting words go on, the other commands by the sweep over the table, the core
by its address map. -/
theorem slotsChangeOnlyByExtends : Obligations.SlotsChangeOnlyByExtends := by
  unfold Obligations.SlotsChangeOnlyByExtends
  refine ⟨fun s e es => slotExtendComplete_extends, fun i s t => slots_kept, fun s l hl => ?core, fun s a d l => ?access⟩
  case core =>
    simp only [exec_gatehouseSleep, exec_gatehouseWake, exec_timerInterrupt]
    exact ⟨gatehouseSleep_sleeps hl, gatehouseSleep_waits, gatehouseWake_wakes hl, gatehouseWake_waits, timerInterrupt_wakes hl,
      timerInterrupt_waits⟩
  case access =>
    have out : ∀ {base n : Nat}, ¬(base ≤ a.addr.toNat ∧ a.addr.toNat + 2 ^ a.size.val ≤ base + n) → accIn a base n = false :=
      fun h => Bool.eq_false_iff.2 (mt accIn_iff.1 h)
    refine ⟨rfl, rfl, fun hd inside j hj => ?_, fun hd inside j hj => ?_, fun hd ha hs => ?_, fun hd ha hs => ?_, fun hd bad inside => ?_,
      fun hd rom code data timer space => ?_, fun hd code data timer space => ?_⟩
    · rw [coreRuns_write hd, coreWrite_code (accIn_iff.2 inside)]
      exact tget_accBytes _ _ _ _ _ hj
    · rw [coreRuns_write hd, coreWrite_data (accIn_iff.2 inside)]
      exact tget_accBytes _ _ _ _ _ hj
    · rw [coreRuns_write hd, coreWrite_cmp (i := 0) (by rw [ha]; rfl) (by omega) hs, putCmp_low]
    · rw [coreRuns_write hd, coreWrite_cmp (i := 4) (by rw [ha]; rfl) (by omega) hs, putCmp_high]
    · rw [coreRuns_read hd]
      exact coreRead_parity bad (inside.imp accIn_iff.2 accIn_iff.2)
    · rw [coreRuns_read hd, coreRead_outside (out rom) (out code) (out data) (out timer) (out space)]; rfl
    · rw [coreRuns_write hd, coreWrite_outside (out code) (out data) (out timer) (out space)]; rfl

end Sys2Proof.Machine
end
